-- ==== Sys2Proof/Word.lean ====
section
/-! DEFINITION. The word types of the ETY40 and their plainest arithmetic. -/

namespace Sys2Proof

/-- One byte of a frame, of HOARD or of SRAM. -/
abbrev Byte := BitVec 8

/-- One register of the register file, or one word of an SRAM bank (R8, R487). -/
abbrev Word := BitVec 32

namespace Word

/-- The value of bits [lo + n − 1 : lo] of a natural number. -/
def bits (v lo n : Nat) : Nat := v / 2 ^ lo % 2 ^ n

/-- Bit k of a natural number. -/
def bit (v k : Nat) : Bool := v / 2 ^ k % 2 == 1

/-- 1 for true, 0 for false: a one-bit field. -/
def ofBool (b : Bool) : Nat := if b then 1 else 0

/-- The n-bit two's complement field of an integer. -/
def ofInt (n : Nat) (z : Int) : Nat := (z % (2 ^ n : Nat)).toNat

/-- The integer that an n-bit two's complement field holds. -/
def toInt (n v : Nat) : Int :=
  let w := v % 2 ^ n
  if 2 ^ (n - 1) ≤ w then (w : Int) - (2 ^ n : Nat) else w

/-- A count that stops at its highest value. -/
def sat (top v : Nat) : Nat := if v < top then v else top

/-- An integer limited to ±top. -/
def satInt (top : Nat) (z : Int) : Int := if z < -(top : Int) then -(top : Int) else if (top : Int) < z then top else z

end Word

end Sys2Proof
end

