-- ==== Sys2Proof/Syntax.lean ====
section
/-! DEFINITION. The commands of the ETY40: one constructor per row of the opcode table, with what the world
hands the module in that step (a voltage, a capture, a frame, an instant) as its operands. -/

namespace Sys2Proof

/-- The instant of a command, as the module's own counters time it: `cyc` is CLK_BUS cycles since the last tick edge
(R153), `sub` the SETT cycles modulo 32,768 of a count that nothing sets (the prescaler's phase against it is state, R339),
`ms` the raw SETT clock in milliseconds (R365). -/
structure Now where
  cyc : Nat
  sub : Nat
  ms  : Nat
  deriving DecidableEq, Repr

/-- What the module finds of its supplies at an instant: VBUS, the cell and the hold-up store, in millivolts (R46, R50), and
whether VIO_HOST is present (R33). -/
structure Supplies where
  vbus  : Nat
  vbat  : Nat
  store : Nat
  vio   : Bool
  deriving DecidableEq, Repr

/-- The rails of the panel as step 7 of R509 reads them, in millivolts (R508). -/
structure Rails where
  vsh  : Int
  vsl  : Int
  vgh  : Int
  vgl  : Int
  vcom : Int
  deriving DecidableEq, Repr

/-- The levels of the straps; open reads 1 (R36). -/
structure StrapLevels where
  role1    : Bool
  role0    : Bool
  hostmode : Bool
  haddr    : BitVec 3
  deriving DecidableEq, Repr

/-- How a card read ends (R105, R106): no card, a read that failed, or the bytes read. -/
inductive CardRead where
  | noCard
  | failed
  | image (bytes : List Byte)
  deriving DecidableEq, Repr

/-- The wake sources of R83. -/
inductive WakeSource where
  | schedule | hostMatch | uartActivity | uartPattern | mbusStart | tamper | vbusReturn | movor | vbatWarn
  deriving DecidableEq, Repr

/-- One shot as the front end delivers it (R154, R183, R193): the samples of its capture window, from the window's first
sample, and the peak drive current of its burst in microamperes. -/
structure Shot where
  samples : List Int
  driveUa : Nat
  deriving DecidableEq, Repr

/-- One conversion of an RTD converter (R222): the ratio N in units of 2^-30, whether the excitation source reached its
compliance limit, the resistance of the two lead pairs in milliohms, and the insulation (R227) in kilohms. -/
structure Conversion where
  ratio      : Int
  compliance : Bool
  leadPos    : Nat
  leadNeg    : Nat
  insulSup   : Nat
  insulRet   : Nat
  deriving DecidableEq, Repr

/-- A fault of one datapath at a step close: the 64-bit word of the body in which datapath B differs and by what, and
whether the increments differ (R256, R582). -/
structure Upset where
  word : Option (Nat × Nat)
  incr : Bool
  deriving DecidableEq, Repr

/-- What causes an offer to the transmit queue (R369 to R372): a grid instant, the catch-up after a forward step, a
snapshot, an alarm trigger, or the alarms of HOLD and UNCONFIGURED. -/
inductive OfferKind where
  | scheduled (entry nominal : Nat)
  | catchUp (entry count : Nat)
  | snapshot (entry ch key : Nat) (annual : Bool)
  | alarm (entry : Nat)
  | holdAlarm
  | unconfAlarm
  deriving DecidableEq, Repr

/-- A host request as R437 lays it out, with the CRC it carried. CMD is that of the row; `unknown` holds it where it is none of the
codes of R437. -/
structure HostFrame where
  hdr  : Byte
  unknown : Option Byte
  addr : Nat
  len  : Nat
  data : List Byte
  crc  : BitVec 16
  deriving DecidableEq, Repr

/-- A Movor frame without its TYPE and CRC (R540). -/
structure PeerFrame where
  flags   : Byte
  seq     : Nat
  ack     : Nat
  payload : List Byte
  deriving DecidableEq, Repr

/-- Who sent a session request (R403): a radio partner by its link-layer M-field and A-field, or the bus master. -/
inductive Partner where
  | radio (address : List Byte)
  | busMaster
  deriving DecidableEq, Repr

/-- The two tamper switches of R326. -/
inductive TamperInput where
  | cover | terminalCover
  deriving DecidableEq, Repr

/-- The levels that the module samples at a tick (R150, R562, R548). -/
structure TickPins where
  cardOut    : Bool
  coverOpen  : Bool
  tcoverOpen : Bool
  peerOkIn   : Bool
  harness    : Bool
  deriving DecidableEq, Repr

/-- The commands. Each docstring names the row of the opcode table and the rule that governs it. -/
inductive Instr where
  /-- VBUS_FAIL (R52). -/
  | vbusFail (now : Now) (sup : Supplies)
  /-- VBUS_OV (R43). -/
  | vbusOv (now : Now) (sup : Supplies)
  /-- PF_FINAL_COMMIT (R53). -/
  | pfFinalCommit (now : Now) (upsets : List (Nat × Upset))
  /-- PF_COMMIT_LANDED (R52). -/
  | pfCommitLanded (now : Now) (sup : Supplies)
  /-- VBUS_OK (R46). -/
  | vbusOk (now : Now) (sup : Supplies)
  /-- VBUS_RETURN (R58). -/
  | vbusReturn (now : Now) (sup : Supplies) (upsets : List (Nat × Upset))
  /-- HOLD_EXIT (R60): the exit time in 10 µs, the banks that fail, the card and CARD_DET_N, where it wakes the module. -/
  | holdExit (now : Now) (sup : Supplies) (exit10us : Nat) (failedBanks : List Nat) (card : CardRead) (cardOut : Bool)
  /-- STORE_FAULT (R51). -/
  | storeFault (now : Now) (sup : Supplies)
  /-- VBAT_WARN (R57). -/
  | vbatWarn (now : Now) (sup : Supplies) (upsets : List (Nat × Upset))
  /-- VBAT_NVW_INHIBIT (R48). -/
  | vbatNvwInhibit
  /-- VBAT_NVW_RELEASE (R48). -/
  | vbatNvwRelease
  /-- VBAT_SETT_LOSS (R46). -/
  | vbatSettLoss (now : Now)
  /-- CELL_LOAD_TEST (R67). -/
  | cellLoadTest (loadMv : Nat)
  /-- CELL_CHARGE_COMMIT (R69). -/
  | cellChargeCommit (now : Now) (sup : Supplies)
  /-- HOARD_RECORD_WRITE (R63). -/
  | hoardRecordWrite
  /-- HOARD_SCRUB (R568). -/
  | hoardScrub
  /-- SETT_TRIM_WINDOW (R75): the ROOT cycles counted over the window. -/
  | settTrimWindow (rootCycles : Nat)
  /-- ROOT_FAIL (R77): `atStart` when ROOT did not start, else it stopped; the levels that a repeated COLD start samples. -/
  | rootFail (now : Now) (atStart : Bool) (straps : StrapLevels) (sup : Supplies)
  /-- ROOT_START_RETRY (R77): whether ROOT starts this time, and the levels that a repeated COLD start samples. -/
  | rootStartRetry (started : Bool) (straps : StrapLevels) (sup : Supplies)
  /-- WATCHDOG_EXPIRY (R96). -/
  | watchdogExpiry (now : Now)
  /-- SLEEP_ENTRY (R81). -/
  | sleepEntry (now : Now)
  /-- DEEP_SLEEP_ENTRY (R91). -/
  | deepSleepEntry (now : Now)
  /-- SLEEP_WAKE (R83): the sources that fired, and the exit time in 10 µs. -/
  | sleepWake (now : Now) (sources : List WakeSource) (exit10us : Nat) (cardOut : Bool) (sup : Supplies)
  /-- DEEP_SLEEP_WAKE (R92): the sources that fired, the exit time in 10 µs, the banks that fail, the card as a re-read finds it, and
  the level of CARD_DET_N (R328). -/
  | deepSleepWake (now : Now) (sources : List WakeSource) (exit10us : Nat) (failedBanks : List Nat) (card : CardRead)
      (cardOut : Bool) (sup : Supplies)
  /-- HOST_ADDRESS_MATCH (R85): the first byte of the frame, and whether VIO_HOST is present (R33). -/
  | hostAddressMatch (hdr : Byte) (vio : Bool)
  /-- UART_WAKE (R86): for how many microseconds HOST_SDI was low, the microseconds after its return high of each falling edge
  that followed, and whether VIO_HOST is present (R33). -/
  | uartWake (lowUs : Nat) (edges : List Nat) (vio : Bool)
  /-- MBUS_START_BIT_WAKE (R87). -/
  | mbusStartBitWake
  /-- HOLD_HOST_IDLE (R88). -/
  | holdHostIdle (now : Now)
  /-- HOLD_DUE_DATE_WAKE (R88). -/
  | holdDueDateWake (now : Now)
  /-- WAKE_PIN_EDGE (R24): milliseconds low before the edge, milliseconds for which the detector has had power at the edge, and
  milliseconds high after it. -/
  | wakePinEdge (lowMs poweredMs highMs : Nat) (straps : StrapLevels) (sup : Supplies)
  /-- OFF_ENTRY (R82): the levels that a COLD start after a held WAKE edge samples (R25). -/
  | offEntry (straps : StrapLevels) (sup : Supplies)
  /-- POWER_ON (R107). -/
  | powerOn (straps : StrapLevels) (sup : Supplies)
  /-- CARD_READ_RETRY (R105): the failing byte. -/
  | cardReadRetry (byteIndex : Nat)
  /-- IMAGE_DECISION (R134). -/
  | imageDecision (now : Now) (card : CardRead) (sup : Supplies)
  /-- RESET_PIN_ASSERT (R35): microseconds low so far. -/
  | resetPinAssert (now : Now) (lowUs : Nat)
  /-- WARM_RESTART (R97). -/
  | warmRestart (now : Now) (straps : StrapLevels) (card : CardRead) (sup : Supplies)
  /-- TICK (R153). -/
  | tick (sup : Supplies) (pins : TickPins) (internalTemp : Int)
  /-- SETT_TICK_EDGE (R161). -/
  | settTickEdge (sup : Supplies) (pins : TickPins) (internalTemp : Int)
  /-- DEGRADED_TICK_WAKE (R160): the exit time in 10 µs where it wakes the module. -/
  | degradedTickWake (now : Now) (sup : Supplies) (pins : TickPins) (internalTemp : Int) (exit10us : Nat)
  /-- TOF_SLOT (R154): the channel, the ToF slot of the shot and the shot. -/
  | tofSlot (ch slot : Nat) (shot : Shot)
  /-- TD_SHORT_STOP_END (R193). -/
  | tdShortStopEnd (ch : Nat)
  /-- LOW_Q_RECOVERY (R164). -/
  | lowQRecovery (ch : Nat)
  /-- RTD_SLOT (R222): the converter, the RTD slot and the conversion. -/
  | rtdSlot (tc slot : Nat) (conv : Conversion)
  /-- STEP_CLOSE (R255). -/
  | stepClose (ch : Nat) (upset : Upset)
  /-- DMR_MISMATCH_REACTION (R257). -/
  | dmrMismatchReaction (now : Now)
  /-- STEP_OVERRUN (R168). -/
  | stepOverrun (ch : Nat)
  /-- ZERO_TRACK_WINDOW (R199). -/
  | zeroTrackWindow (ch : Nat)
  /-- CAL_TRACK_COMMIT (R200). -/
  | calTrackCommit (ch : Nat)
  /-- PULSE_START (R270). -/
  | pulseStart (po : Nat) (now : Now)
  /-- PULSE_END (R268). -/
  | pulseEnd (po : Nat) (now : Now)
  /-- VALVE_MOVE_START (R278). -/
  | valveMoveStart (now : Now)
  /-- VALVE_FEEDBACK_SAMPLE (R275): the channel, and whether each contact is closed. -/
  | valveFeedbackSample (now : Now) (ch : Nat) (fbOpen fbClosed : Bool)
  /-- VALVE_TIMEOUT (R279). -/
  | valveTimeout (now : Now)
  /-- VALVE_OVERCURRENT (R279). -/
  | valveOvercurrent (now : Now)
  /-- VALVE_OPEN_COIL (R279). -/
  | valveOpenCoil (now : Now)
  /-- ALLOCATOR_FREEZE (R432). -/
  | allocatorFreeze
  /-- TAMPER_EDGE (R326): the switch and whether its contact opened. -/
  | tamperEdge (input : TamperInput) (opened : Bool)
  /-- MOVOR_CABLE_LOSS (R32): milliseconds for which LINK_DET has read high. -/
  | movorCableLoss (highMs : Nat)
  /-- RTC_SECOND (R333). -/
  | rtcSecond
  /-- OSCILLATOR_STOP (R346). -/
  | oscillatorStop
  /-- HALT (R338). -/
  | halt (now : Now)
  /-- HALT_RELEASE (R341). -/
  | haltRelease (now : Now)
  /-- HALT_AUTO_RELEASE (R342). -/
  | haltAutoRelease (now : Now)
  /-- RTC_DATE_WRITE (R340). -/
  | rtcDateWrite (value : Word)
  /-- RTC_TIME_WRITE (R340). -/
  | rtcTimeWrite (value : Word)
  /-- RTC_SLEW_WRITE (R343). -/
  | rtcSlewWrite (value : Word)
  /-- RTC_TIME_READ (R349). -/
  | rtcTimeRead (now : Now)
  /-- RTC_SECONDS_LO_READ (R349). -/
  | rtcSecondsLoRead (now : Now)
  /-- RTC_DATE_READ (R349). -/
  | rtcDateRead (now : Now)
  /-- RTC_SECONDS_HI_READ (R349). -/
  | rtcSecondsHiRead (now : Now)
  /-- TELEGRAM_OFFER (R373). -/
  | telegramOffer (now : Now) (offer : OfferKind)
  /-- FRAME_TRANSMIT (R375). -/
  | frameTransmit (now : Now)
  /-- RESPONSE_WINDOW (R362). -/
  | responseWindow (now : Now)
  /-- RADIO_FRAME_RECEIVED (R363): the SETT ms at which its reception began, whether its block CRCs are right, and its bytes without
  them. -/
  | radioFrameReceived (now : Now) (since : Nat) (crcOk : Bool) (frame : List Byte)
  /-- DUTY_BIN_ADVANCE (R365). -/
  | dutyBinAdvance (now : Now)
  /-- SESSION_REQUEST (R404): the partner, and the frame from its AFL on. -/
  | sessionRequest (now : Now) (partner : Partner) (frame : List Byte)
  /-- COMMAND_EXECUTION_END (R404): the context. -/
  | commandExecutionEnd (now : Now) (ctx : Nat)
  /-- SESSION_READY_TIMEOUT (R404). -/
  | sessionReadyTimeout (now : Now) (ctx : Nat)
  /-- SESSION_IDLE_TIMEOUT (R404). -/
  | sessionIdleTimeout (now : Now) (ctx : Nat)
  /-- STATUS (R408). -/
  | cmdStatus (ctx : Nat)
  /-- READ_HOARD (R408). -/
  | cmdReadHoard (ctx : Nat)
  /-- VALVE (R276). -/
  | cmdValve (now : Now) (ctx : Nat)
  /-- TOPUP (R318). -/
  | cmdTopup (now : Now) (ctx : Nat)
  /-- TOPUP_ANSWER (R320). -/
  | topupAnswer (now : Now) (ctx : Nat)
  /-- SET_TIME (R408). -/
  | cmdSetTime (now : Now) (ctx : Nat)
  /-- ADJUST_TIME (R408). -/
  | cmdAdjustTime (now : Now) (ctx : Nat)
  /-- ALLOCATOR_PARSE (R428). -/
  | allocatorParse
  /-- SND_NKE (R420): the link address. -/
  | sndNke (now : Now) (address : Byte) (baud : Nat)
  /-- SECONDARY_SELECT (R419): the data after CI 0x52. -/
  | secondarySelect (now : Now) (data : List Byte) (baud : Nat)
  /-- REQ_UD1 (R421). -/
  | reqUd1 (now : Now) (baud : Nat)
  /-- REQ_UD2 (R422). -/
  | reqUd2 (now : Now) (fcv fcb : Bool) (baud : Nat)
  /-- SND_UD_REQUEST (R421): the frame from its AFL on. -/
  | sndUdRequest (now : Now) (frame : List Byte) (baud : Nat)
  /-- SND_UD_OTHER (R421). -/
  | sndUdOther (now : Now) (baud : Nat)
  /-- BAUD_SWITCH (R415). -/
  | baudSwitch (now : Now) (ci : Byte) (baud : Nat)
  /-- MBUS_FRAME_ERROR (R416). -/
  | mbusFrameError (now : Now)
  /-- REG_READ (R439). -/
  | regRead (now : Now) (frame : HostFrame)
  /-- REG_WRITE (R449). -/
  | regWrite (now : Now) (frame : HostFrame)
  /-- MEM_READ (R447). -/
  | memRead (now : Now) (frame : HostFrame)
  /-- MEM_WRITE (R448). -/
  | memWrite (now : Now) (frame : HostFrame)
  /-- PROTOCOL_RESET (R445): the header byte and how many 0xFF bytes followed CMD. -/
  | protocolReset (now : Now) (hdr : Byte) (ffBytes : Nat)
  /-- HOST_FRAME_ABORT (R443): a frame to the module whose HOST_CS_N rose too early. -/
  | hostFrameAbort
  /-- WRITE_BUFFER_EXECUTE (R449). -/
  | writeBufferExecute (now : Now)
  /-- UART_BREAK (R464): milliseconds of break. -/
  | uartBreak (now : Now) (lenMs : Nat)
  /-- UART_GAP_ABORT (R463): the microseconds of the gap inside a request. -/
  | uartGapAbort (gapUs : Nat)
  /-- REGISTER_WRITE (R8). -/
  | registerWrite (now : Now) (address : Nat) (value : Word)
  /-- CHSEL_WRITE (R175). -/
  | chselWrite (value : Word)
  /-- CHW_EVENTS_WRITE (R212). -/
  | chwEventsWrite (value : Word)
  /-- CHW_CAPTURE_CTRL_WRITE (R216). -/
  | chwCaptureCtrlWrite (value : Word)
  /-- HL_DOORBELL (R451). -/
  | hlDoorbell (value : Word)
  /-- CREDIT_RETURN (R461). -/
  | creditReturn (value : Word)
  /-- CHAL (R454). -/
  | chal (now : Now)
  /-- UNLOCK (R454). -/
  | unlock (now : Now)
  /-- LOCK (R455). -/
  | lock
  /-- SERVICE_IDLE_RELOCK (R455). -/
  | serviceIdleRelock (now : Now)
  /-- LOCKOUT_END (R454). -/
  | lockoutEnd (now : Now)
  /-- DMA_STOP (R504). -/
  | dmaStop (value : Word)
  /-- DMA_ARM (R497): the host channel and the CTRL value written. -/
  | dmaArm (ch : Nat) (value : Word)
  /-- MEAS_OVERRUN_READ (R173). -/
  | measOverrunRead
  /-- RAD_TXQ_READ (R381). -/
  | radTxqRead
  /-- RAD_RX_STATS_READ (R382). -/
  | radRxStatsRead
  /-- SES_ACTIVE_READ (R413). -/
  | sesActiveRead
  /-- SES_BUSY_REJECTS_READ (R414). -/
  | sesBusyRejectsRead
  /-- ALC_STATUS_READ (R434). -/
  | alcStatusRead
  /-- MBUS_STATUS_READ (R435). -/
  | mbusStatusRead
  /-- HL_CRC_ERRORS_READ (R472). -/
  | hlCrcErrorsRead
  /-- HL_STREAM_STATUS_READ (R474). -/
  | hlStreamStatusRead
  /-- MIR_CRC_ERRORS_READ (R564). -/
  | mirCrcErrorsRead
  /-- FLT_HOARD_CORR_READ (R580). -/
  | fltHoardCorrRead
  /-- FLT_HOARD_UNCORR_READ (R580). -/
  | fltHoardUncorrRead
  /-- FLT_SRAM_PAR_READ (R581). -/
  | fltSramParRead
  /-- FLT_DMR_MISMATCH_READ (R582). -/
  | fltDmrMismatchRead
  /-- COMMISSION (R148): its tag. -/
  | commission (now : Now) (tag arg : Nat)
  /-- COMMISSION_COMPLETE (R148). -/
  | commissionComplete (now : Now)
  /-- ENTER_SHIPPING (R80). -/
  | enterShipping (now : Now) (tag arg : Nat)
  /-- WARM_RESET (R458). -/
  | warmReset (now : Now) (tag arg : Nat)
  /-- LINK_RESET (R98). -/
  | linkReset (now : Now) (tag arg : Nat)
  /-- START_ZERO_CAL (R145). -/
  | startZeroCal (now : Now) (tag arg : Nat)
  /-- ZERO_CAL_PHASE (R195). -/
  | zeroCalPhase
  /-- ZERO_CAL_END (R195). -/
  | zeroCalEnd (now : Now)
  /-- ENTER_TEST (R459). -/
  | enterTest (now : Now) (tag arg : Nat)
  /-- EXIT_TEST (R458). -/
  | exitTest (now : Now) (tag arg : Nat)
  /-- TEST_TIMEOUT (R459). -/
  | testTimeout
  /-- DISPLAY_FULL_REFRESH (R527). -/
  | displayFullRefresh (now : Now) (tag arg : Nat)
  /-- PLANNED_SWITCHOVER (R557). -/
  | plannedSwitchover (now : Now) (tag arg : Nat)
  /-- MOVE (R479). -/
  | dmaMove (ch : Nat)
  /-- LOOP (R481). -/
  | dmaLoop (ch : Nat)
  /-- WAIT (R482). -/
  | dmaWait (ch : Nat)
  /-- SIGNAL (R483), and whether a port acknowledges the last word written within 1 ms (R489). -/
  | dmaSignal (ch : Nat) (ack : Bool)
  /-- END (R484), and whether a port acknowledges the last word written within 1 ms (R489). -/
  | dmaEnd (ch : Nat) (ack : Bool)
  /-- DMA_BURST (R490). -/
  | dmaBurst
  /-- DMA_WAIT_COMPLETE (R482). -/
  | dmaWaitComplete (ch : Nat)
  /-- DMA_WAIT_TIMEOUT (R482). -/
  | dmaWaitTimeout (ch : Nat)
  /-- DMA_IMAGE_RESTART (R494): the microseconds since the error. -/
  | dmaImageRestart (ch sinceUs : Nat)
  /-- DMA_DOMAIN_HOLD_TIMEOUT (R499): the microseconds for which the domain has been held. -/
  | dmaDomainHoldTimeout (ch heldUs : Nat)
  /-- DISPLAY_EVALUATION (R521). -/
  | displayEvaluation (now : Now)
  /-- KEY_PRESS (R522): milliseconds for which KEY_N has been low (R23). -/
  | keyPress (now : Now) (lowMs : Nat)
  /-- SCREEN_TIMEOUT (R522). -/
  | screenTimeout (now : Now)
  /-- DISPLAY_FRAME_BOUNDARY (R523): the rows of the last frame whose data had not arrived. -/
  | displayFrameBoundary (now : Now) (missedRows : List Nat)
  /-- RAIL_CHECK (R511): what the rails read. -/
  | railCheck (now : Now) (rails : Rails)
  /-- RAIL_LOCKOUT_END (R511). -/
  | railLockoutEnd (now : Now)
  /-- PANEL_TEMP_MEASURE (R514): the NTC reading and the internal temperature, in 0.1 °C. -/
  | panelTempMeasure (ntc internal : Int)
  /-- HEARTBEAT_TIMER (R543). -/
  | heartbeatTimer (now : Now)
  /-- HELLO (R544). -/
  | hello (now : Now) (frame : PeerFrame)
  /-- HEARTBEAT (R543). -/
  | heartbeat (now : Now) (frame : PeerFrame)
  /-- RECORD (R546). -/
  | record (now : Now) (frame : PeerFrame)
  /-- RING (R546). -/
  | ring (now : Now) (frame : PeerFrame)
  /-- ACK (R542). -/
  | ack (now : Now) (frame : PeerFrame)
  /-- RESEND (R542). -/
  | resend (now : Now) (frame : PeerFrame)
  /-- MOVOR_FRAME_ERROR (R542): the SEQ that the next good frame showed, if one was seen. -/
  | movorFrameError (now : Now) (seenSeq : Option Nat)
  /-- POWER_FAIL (R554). -/
  | powerFail (now : Now) (frame : PeerFrame)
  /-- PF_HANDOVER_TIMEOUT (R554). -/
  | pfHandoverTimeout (now : Now)
  /-- FAILED (R549). -/
  | failed (now : Now) (frame : PeerFrame)
  /-- SWITCH (R558). -/
  | switchFrame (now : Now) (frame : PeerFrame)
  /-- SWITCH_DONE (R558). -/
  | switchDone (now : Now) (frame : PeerFrame)
  /-- PEER_EVENT (R547). -/
  | peerEvent (now : Now) (frame : PeerFrame)
  /-- SYNC_END (R545). -/
  | syncEnd (now : Now) (frame : PeerFrame)
  /-- MOVOR_LINK_FAULT (R542): its cause, 1 to 4 (R561), and the milliseconds since the RESEND, the oldest unacknowledged frame or the
  start of the wait. -/
  | movorLinkFault (cause ageMs : Nat)
  /-- PEER_LOST (R549): the milliseconds PEER_OK_IN has been deasserted and the harness has been quiet. -/
  | peerLost (now : Now) (peerOkLowMs quietMs : Nat)
  /-- UNMIRRORED_ACTIVATION (R551): the same, and the milliseconds since the first tick after the reset (R550). -/
  | unmirroredActivation (now : Now) (peerOkLowMs quietMs runMs : Nat)
  /-- SWITCHOVER_HANDOVER (R558). -/
  | switchoverHandover (now : Now) (upsets : List (Nat × Upset))
  /-- SWITCHOVER_ABANDONED (R558). -/
  | switchoverAbandoned (now : Now)
  /-- MOVOR_CABLE_RESTORED (R328). -/
  | movorCableRestored
  /-- FRAMES_STOPPED (R549). -/
  | framesStopped (now : Now)
  /-- STORE_SPENT (R45): how many words of the record being written had landed. -/
  | storeSpent (landed : Nat)
  deriving DecidableEq, Repr

end Sys2Proof
end

