-- ==== Sys2Proof/Machine/Bytes.lean ====
section
/-! DEFINITION. Byte strings: the little-endian fields of R5, the memory that HOARD and SRAM are, and the CRCs of R109,
R438 and R63. -/

namespace Sys2Proof.Machine

/-- n bytes that hold v, least significant byte first (R5). -/
def le (n v : Nat) : List Byte :=
  match n with
  | 0 => []
  | k + 1 => BitVec.ofNat 8 v :: le k (v / 256)

/-- n bytes that hold v, most significant byte first. -/
def be (n v : Nat) : List Byte := (le n v).reverse

/-- n bytes that hold the two's complement of z, least significant byte first. -/
def leInt (n : Nat) (z : Int) : List Byte := le n (Word.ofInt (8 * n) z)

/-- The number that bytes hold, least significant first (R5). -/
def leNat (bs : List Byte) : Nat :=
  match bs with
  | [] => 0
  | b :: t => b.toNat + 256 * leNat t

/-- The number that bytes hold, most significant first. -/
def beNat (bs : List Byte) : Nat := bs.foldl (fun a b => a * 256 + b.toNat) 0

/-- n bytes from offset off. -/
def slice (bs : List Byte) (off n : Nat) : List Byte := (bs.drop off).take n

/-- The n-byte field at offset off (R5). -/
def fieldAt (bs : List Byte) (off n : Nat) : Nat := leNat (slice bs off n)

/-- The signed n-byte field at offset off. -/
def fieldInt (bs : List Byte) (off n : Nat) : Int := Word.toInt (8 * n) (fieldAt bs off n)

/-- n zero bytes. -/
def zeros (n : Nat) : List Byte := List.replicate n 0#8

/-- The bytes, cut or filled with zeros to exactly n. -/
def padTo (n : Nat) (bs : List Byte) : List Byte := (bs ++ zeros (n - bs.length)).take n

/-- ASCII text as bytes. -/
def ascii (cs : List Char) : List Byte := cs.map fun c => BitVec.ofNat 8 c.toNat

/-! ### Memory: a list of cells in canonical form, an unlisted address reading 0 (R595: HOARD leaves the factory with
every sequence word 0). -/

/-- HOARD or SRAM: (address, byte) pairs, addresses strictly rising, no byte 0. -/
abbrev Memory := List (Nat × Byte)

/-- What an unlisted address reads as. DESIGN CHOICE, log entry 10. -/
def Memory.blank : Byte := 0#8

/-- The byte at an address. DESIGN CHOICE, log entry 10. -/
def Memory.read (m : Memory) (a : Nat) : Byte :=
  match m with
  | [] => Memory.blank
  | (k, b) :: t => if k = a then b else if a < k then Memory.blank else Memory.read t a

/-- Write one byte and keep the canonical form. -/
def Memory.write (m : Memory) (a : Nat) (b : Byte) : Memory :=
  match m with
  | [] => if b = Memory.blank then [] else [(a, b)]
  | (k, v) :: t =>
    if a < k then (if b = Memory.blank then (k, v) :: t else (a, b) :: (k, v) :: t)
    else if a = k then (if b = Memory.blank then t else (a, b) :: t)
    else (k, v) :: Memory.write t a b

/-- Write bytes at rising addresses. -/
def Memory.writeBytes (m : Memory) (a : Nat) (bs : List Byte) : Memory :=
  match bs with
  | [] => m
  | b :: t => Memory.writeBytes (Memory.write m a b) (a + 1) t

/-- Read n bytes from an address. -/
def Memory.readBytes (m : Memory) (a n : Nat) : List Byte := (List.range n).map fun i => Memory.read m (a + i)

/-- The n-byte little-endian value at an address. -/
def Memory.readLE (m : Memory) (a n : Nat) : Nat := leNat (Memory.readBytes m a n)

/-- Write 0 over a range: every listed cell of it goes. -/
def Memory.clear (m : Memory) (a n : Nat) : Memory := m.filter fun c => c.1 < a || a + n ≤ c.1

/-- Every address of the list is at least lo, addresses rise strictly, and no byte is the blank one. -/
def Memory.wfFrom (lo : Nat) (m : Memory) : Bool :=
  match m with
  | [] => true
  | (k, b) :: t => decide (lo ≤ k) && decide (b ≠ Memory.blank) && Memory.wfFrom (k + 1) t

/-- The canonical form holds. -/
def Memory.wf (m : Memory) : Bool := Memory.wfFrom 0 m

/-! ### CRCs -/

/-- One bit of the reflected CRC-32 of R109. -/
def crc32Bit (c : BitVec 32) : BitVec 32 := if c.getLsbD 0 then (c >>> 1) ^^^ 0xEDB88320#32 else c >>> 1

/-- One byte of the reflected CRC-32. -/
def crc32Byte (c : BitVec 32) (b : Byte) : BitVec 32 :=
  crc32Bit (crc32Bit (crc32Bit (crc32Bit (crc32Bit (crc32Bit (crc32Bit (crc32Bit (c ^^^ b.setWidth 32))))))))

/-- CRC-32 (IEEE 802.3), as R109 states it. -/
def crc32 (bs : List Byte) : BitVec 32 := bs.foldl crc32Byte 0xFFFFFFFF#32 ^^^ 0xFFFFFFFF#32

/-- One bit of a CRC-16 with the polynomial p, most significant bit first. -/
def crc16Bit (p c : BitVec 16) : BitVec 16 := if c.getLsbD 15 then (c <<< 1) ^^^ p else c <<< 1

/-- One byte of a CRC-16. -/
def crc16Byte (p c : BitVec 16) (b : Byte) : BitVec 16 :=
  let x := c ^^^ (b.setWidth 16 <<< 8)
  crc16Bit p (crc16Bit p (crc16Bit p (crc16Bit p (crc16Bit p (crc16Bit p (crc16Bit p (crc16Bit p x)))))))

/-- CRC-16 over bytes with polynomial p and initial value i. -/
def crc16 (p i : BitVec 16) (bs : List Byte) : BitVec 16 := bs.foldl (crc16Byte p) i

/-! ### Small list helpers -/

/-- The first element that satisfies a test, with its index. -/
def findIdx {α : Type} (p : α → Bool) (l : List α) : Option Nat :=
  match l with
  | [] => none
  | x :: t => if p x then some 0 else (findIdx p t).map (· + 1)

/-- Apply f to the element at index i. -/
def updAt {α : Type} (l : List α) (i : Nat) (f : α → α) : List α :=
  match l, i with
  | [], _ => []
  | x :: t, 0 => f x :: t
  | x :: t, k + 1 => x :: updAt t k f

/-- The element at index i, else d. -/
def nth {α : Type} (l : List α) (i : Nat) (d : α) : α :=
  match l, i with
  | [], _ => d
  | x :: _, 0 => x
  | _ :: t, k + 1 => nth t k d

/-- The sum of integers. -/
def sumInt (l : List Int) : Int := l.foldl (· + ·) 0

/-- The integer square root, by bisection over the bits of the result. -/
def isqrtStep (v r : Nat) (k : Nat) : Nat := if (r + 2 ^ k) * (r + 2 ^ k) ≤ v then r + 2 ^ k else r

/-- ⌊√v⌋ for v below 2^256. -/
def isqrt (v : Nat) : Nat := (List.range 128).foldl (fun r i => isqrtStep v r (127 - i)) 0

/-- a / b rounded to nearest, halves away from zero, for b above 0. -/
def divNear (a : Int) (b : Nat) : Int :=
  if 0 ≤ a then (2 * a + b) / (2 * b : Nat) else -((2 * (-a) + b) / (2 * b : Nat))

/-- a / b truncated toward zero (R7). -/
def divTrunc (a : Int) (b : Nat) : Int := if 0 ≤ a then a / b else -((-a) / b)

end Sys2Proof.Machine
end

