-- ==== Sys2Proof/Machine/Crypto.lean ====
section
/-! DEFINITION. The cryptography that the spec cites: AES-128 and CBC, AES-CMAC (RFC 4493), the RFC 3394 key wrap and
SHA-256 (FIPS 180-4), as R109, R124 and R388 name them. -/

namespace Sys2Proof.Machine

/-! ### AES-128 -/

/-- x·b in the field of AES. -/
def xtime (b : Byte) : Byte := if b.getLsbD 7 then (b <<< 1) ^^^ 0x1B#8 else b <<< 1

/-- a·b in the field of AES, by the bits of b. -/
def gmulBits (n : Nat) (a b : Byte) : Byte :=
  match n with
  | 0 => 0#8
  | k + 1 => (if b.getLsbD 0 then a else 0#8) ^^^ gmulBits k (xtime a) (b >>> 1)

/-- a·b in the field of AES. -/
def gmul (a b : Byte) : Byte := gmulBits 8 a b

/-- The S-box of AES: byte i of this number is S(i). -/
def aesSbox : Nat :=
  0x16bb54b00f2d99416842e6bf0d89a18cdf2855cee9871e9b948ed9691198f8e19e1dc186b95735610ef6034866b53e708a8bbd4b1f74dde8c6b4a61c2e2578ba08ae7a65eaf4566ca94ed58d6d37c8e779e4959162acd3c25c2406490a3a32e0db0b5ede14b8ee4688902a22dc4f816073195d643d7ea7c41744975fec130ccdd2f3ff1021dab6bcf5389d928f40a351a89f3c507f02f94585334d43fbaaefd0cf584c4a39becb6a5bb1fc20ed00d153842fe329b3d63b52a05a6e1b1a2c830975b227ebe28012079a059618c323c7041531d871f1e5a534ccf73f362693fdb7c072a49cafa2d4adf04759fa7dc982ca76abd7fe2b670130c56f6bf27b777c63

/-- The inverse S-box of AES. -/
def aesInvSbox : Nat :=
  0x7d0c2155631469e126d677ba7e042b17619953833cbbebc8b0f52aae4d3be0a0ef9cc9939f7ae52d0d4ab519a97f51605fec8027591012b131c7078833a8dd1ff45acd78fec0db9a2079d2c64b3e56fc1bbe18aa0e62b76f89c5291d711af1476edf751ce837f9e28535ade72274ac9673e6b4f0cecff297eadc674f4111913a6b8a130103bdafc1020f3fca8f1e2cd00645b3b80558e4f70ad3bc8c00abd890849d8da75746155edab9edfd5048706c92b6655dcc5ca4d41698688664f6f87225d18b6d49a25b76b224d92866a12e084ec3fa420b954cee3d23c2a632947b54cbe9dec444438e3487ff2f9b8239e37cfbd7f3819ea340bf38a53630d56a0952

/-- SubBytes of one byte. -/
def subByte (b : Byte) : Byte := BitVec.ofNat 8 (aesSbox / 256 ^ b.toNat % 256)

/-- InvSubBytes of one byte. -/
def invSubByte (b : Byte) : Byte := BitVec.ofNat 8 (aesInvSbox / 256 ^ b.toNat % 256)

/-- XOR of two byte strings, as long as the shorter. -/
def xorBytes (a b : List Byte) : List Byte := List.zipWith (· ^^^ ·) a b

/-- Four words of the next round key from the four of the last one. -/
def nextRoundKey (rcon : Byte) (k : List Byte) : List Byte :=
  let t := slice k 12 4
  let r := (t.drop 1 ++ t.take 1).map subByte
  let g := xorBytes r [rcon, 0#8, 0#8, 0#8]
  let w0 := xorBytes (slice k 0 4) g
  let w1 := xorBytes (slice k 4 4) w0
  let w2 := xorBytes (slice k 8 4) w1
  let w3 := xorBytes (slice k 12 4) w2
  w0 ++ w1 ++ w2 ++ w3

/-- n further round keys. -/
def roundKeys (n : Nat) (rcon : Byte) (k : List Byte) : List (List Byte) :=
  match n with
  | 0 => [k]
  | m + 1 => k :: roundKeys m (xtime rcon) (nextRoundKey rcon k)

/-- ShiftRows: byte 4c + r comes from column c + r. -/
def shiftRows (s : List Byte) : List Byte :=
  [0, 5, 10, 15, 4, 9, 14, 3, 8, 13, 2, 7, 12, 1, 6, 11].map fun i => nth s i 0#8

/-- InvShiftRows. -/
def invShiftRows (s : List Byte) : List Byte :=
  [0, 13, 10, 7, 4, 1, 14, 11, 8, 5, 2, 15, 12, 9, 6, 3].map fun i => nth s i 0#8

/-- One column times a row of coefficients. -/
def mixCol (c : List Byte) (m : List Byte) : Byte := (List.zipWith gmul c m).foldl (· ^^^ ·) 0#8

/-- MixColumns with the matrix whose first row is given; each next row is the last one rotated right. -/
def mixWith (a b c d : Byte) (s : List Byte) : List Byte :=
  (List.range 4).flatMap fun i =>
    let col := slice s (4 * i) 4
    [mixCol col [a, b, c, d], mixCol col [d, a, b, c], mixCol col [c, d, a, b], mixCol col [b, c, d, a]]

/-- MixColumns. -/
def mixColumns : List Byte → List Byte := mixWith 2#8 3#8 1#8 1#8

/-- InvMixColumns. -/
def invMixColumns : List Byte → List Byte := mixWith 14#8 11#8 13#8 9#8

/-- The rounds of AES-128 over the remaining round keys. -/
def aesRounds (ks : List (List Byte)) (s : List Byte) : List Byte :=
  match ks with
  | [] => s
  | [k] => xorBytes (shiftRows (s.map subByte)) k
  | k :: t => aesRounds t (xorBytes (mixColumns (shiftRows (s.map subByte))) k)

/-- AES-128 encryption of one block. DESIGN CHOICE, log entry 145. -/
def aesEncrypt (key block : List Byte) : List Byte :=
  match roundKeys 10 1#8 (padTo 16 key) with
  | [] => []
  | k :: t => aesRounds t (xorBytes (padTo 16 block) k)

/-- The rounds of AES-128 decryption, the round keys from the last to the first. -/
def aesInvRounds (ks : List (List Byte)) (s : List Byte) : List Byte :=
  match ks with
  | [] => s
  | [k] => xorBytes ((invShiftRows s).map invSubByte) k
  | k :: t => aesInvRounds t (invMixColumns (xorBytes ((invShiftRows s).map invSubByte) k))

/-- AES-128 decryption of one block. -/
def aesDecrypt (key block : List Byte) : List Byte :=
  match (roundKeys 10 1#8 (padTo 16 key)).reverse with
  | [] => []
  | k :: t => aesInvRounds t (xorBytes (padTo 16 block) k)

/-- CBC encryption of n blocks. -/
def cbcEncrypt (n : Nat) (key iv data : List Byte) : List Byte :=
  match n with
  | 0 => []
  | k + 1 =>
    let c := aesEncrypt key (xorBytes iv (padTo 16 (data.take 16)))
    c ++ cbcEncrypt k key c (data.drop 16)

/-- CBC decryption of n blocks. -/
def cbcDecrypt (n : Nat) (key iv data : List Byte) : List Byte :=
  match n with
  | 0 => []
  | k + 1 =>
    let c := padTo 16 (data.take 16)
    xorBytes iv (aesDecrypt key c) ++ cbcDecrypt k key c (data.drop 16)

/-! ### AES-CMAC (RFC 4493) -/

/-- Doubling in GF(2^128), on a block. -/
def cmacDouble (b : List Byte) : List Byte :=
  let v := beNat b
  let w := v * 2 % 2 ^ 128
  be 16 (if 2 ^ 127 ≤ v then w ^^^ 0x87 else w)

/-- The chain of the full blocks before the last. -/
def cmacChain (n : Nat) (key x data : List Byte) : List Byte :=
  match n with
  | 0 => x
  | k + 1 => cmacChain k key (aesEncrypt key (xorBytes x (data.take 16))) (data.drop 16)

/-- AES-CMAC of a message (R109). DESIGN CHOICE, log entry 145. -/
def cmac (key msg : List Byte) : List Byte :=
  let k1 := cmacDouble (aesEncrypt key (zeros 16))
  let k2 := cmacDouble k1
  let full := msg.length != 0 && msg.length % 16 == 0
  let n := if msg.length == 0 then 0 else (msg.length - 1) / 16
  let last := msg.drop (16 * n)
  let m := if full then xorBytes last k1 else xorBytes (padTo 16 (last ++ [0x80#8])) k2
  aesEncrypt key (xorBytes (cmacChain n key (zeros 16) msg) m)

/-! ### RFC 3394 key wrap of a 16-byte key -/

/-- One step of the unwrap, t from 12 down to 1: (A, R1, R2). -/
def unwrapStep (kek : List Byte) (st : List Byte × List Byte × List Byte) (t : Nat) :
    List Byte × List Byte × List Byte :=
  let ax := xorBytes st.1 (be 8 t)
  let r := if t % 2 == 0 then st.2.2 else st.2.1
  let b := aesDecrypt kek (ax ++ r)
  if t % 2 == 0 then (b.take 8, st.2.1, b.drop 8) else (b.take 8, b.drop 8, st.2.2)

/-- RFC 3394 unwrap of 24 bytes; none when the integrity check fails (R124). DESIGN CHOICE, log entry 145. -/
def keyUnwrap (kek wrapped : List Byte) : Option (List Byte) :=
  let st := ((List.range 12).map fun i => 12 - i).foldl (unwrapStep kek)
    (slice wrapped 0 8, slice wrapped 8 8, slice wrapped 16 8)
  if st.1 == List.replicate 8 0xA6#8 then some (st.2.1 ++ st.2.2) else none

/-! ### SHA-256 (FIPS 180-4) -/

/-- The sixty-four round constants of SHA-256. -/
def shaK : List (BitVec 32) :=
  [0x428a2f98#32, 0x71374491#32, 0xb5c0fbcf#32, 0xe9b5dba5#32, 0x3956c25b#32, 0x59f111f1#32, 0x923f82a4#32, 0xab1c5ed5#32] ++
  [0xd807aa98#32, 0x12835b01#32, 0x243185be#32, 0x550c7dc3#32, 0x72be5d74#32, 0x80deb1fe#32, 0x9bdc06a7#32, 0xc19bf174#32] ++
  [0xe49b69c1#32, 0xefbe4786#32, 0x0fc19dc6#32, 0x240ca1cc#32, 0x2de92c6f#32, 0x4a7484aa#32, 0x5cb0a9dc#32, 0x76f988da#32] ++
  [0x983e5152#32, 0xa831c66d#32, 0xb00327c8#32, 0xbf597fc7#32, 0xc6e00bf3#32, 0xd5a79147#32, 0x06ca6351#32, 0x14292967#32] ++
  [0x27b70a85#32, 0x2e1b2138#32, 0x4d2c6dfc#32, 0x53380d13#32, 0x650a7354#32, 0x766a0abb#32, 0x81c2c92e#32, 0x92722c85#32] ++
  [0xa2bfe8a1#32, 0xa81a664b#32, 0xc24b8b70#32, 0xc76c51a3#32, 0xd192e819#32, 0xd6990624#32, 0xf40e3585#32, 0x106aa070#32] ++
  [0x19a4c116#32, 0x1e376c08#32, 0x2748774c#32, 0x34b0bcb5#32, 0x391c0cb3#32, 0x4ed8aa4a#32, 0x5b9cca4f#32, 0x682e6ff3#32] ++
  [0x748f82ee#32, 0x78a5636f#32, 0x84c87814#32, 0x8cc70208#32, 0x90befffa#32, 0xa4506ceb#32, 0xbef9a3f7#32, 0xc67178f2#32]

/-- The initial hash value of SHA-256. -/
def shaH0 : List (BitVec 32) :=
  [0x6a09e667#32, 0xbb67ae85#32, 0x3c6ef372#32, 0xa54ff53a#32, 0x510e527f#32, 0x9b05688c#32, 0x1f83d9ab#32, 0x5be0cd19#32]

/-- Rotate right. -/
def rotr (n : Nat) (x : BitVec 32) : BitVec 32 := x >>> n ||| x <<< (32 - n)

/-- The next word of the message schedule, from the last sixteen, newest first. -/
def shaSched (w : List (BitVec 32)) : BitVec 32 :=
  let a := nth w 1 0#32
  let b := nth w 14 0#32
  let s1 := rotr 17 a ^^^ rotr 19 a ^^^ a >>> 10
  let s0 := rotr 7 b ^^^ rotr 18 b ^^^ b >>> 3
  s1 + nth w 6 0#32 + s0 + nth w 15 0#32

/-- The message schedule: n more words, newest first. -/
def shaExpand (n : Nat) (w : List (BitVec 32)) : List (BitVec 32) :=
  match n with
  | 0 => w
  | k + 1 => shaExpand k (shaSched w :: w)

/-- One round on the eight working words. -/
def shaRound (h : List (BitVec 32)) (kw : BitVec 32) : List (BitVec 32) :=
  match h with
  | [a, b, c, d, e, f, g, x] =>
    let t1 := x + (rotr 6 e ^^^ rotr 11 e ^^^ rotr 25 e) + ((e &&& f) ^^^ (~~~e &&& g)) + kw
    let t2 := (rotr 2 a ^^^ rotr 13 a ^^^ rotr 22 a) + ((a &&& b) ^^^ (a &&& c) ^^^ (b &&& c))
    [t1 + t2, a, b, c, d + t1, e, f, g]
  | _ => h

/-- The sixteen words of a block. -/
def shaWords (n : Nat) (bs : List Byte) : List (BitVec 32) :=
  match n with
  | 0 => []
  | k + 1 => BitVec.ofNat 32 (beNat (bs.take 4)) :: shaWords k (bs.drop 4)

/-- The compression of one block. -/
def shaBlock (h : List (BitVec 32)) (block : List Byte) : List (BitVec 32) :=
  let w := (shaExpand 48 (shaWords 16 block).reverse).reverse
  let r := (List.zipWith (· + ·) shaK w).foldl shaRound h
  List.zipWith (· + ·) h r

/-- The compression of n blocks. -/
def shaBlocks (n : Nat) (h : List (BitVec 32)) (bs : List Byte) : List (BitVec 32) :=
  match n with
  | 0 => h
  | k + 1 => shaBlocks k (shaBlock h (bs.take 64)) (bs.drop 64)

/-- SHA-256 of a byte string (R109). DESIGN CHOICE, log entry 145. -/
def sha256 (msg : List Byte) : List Byte :=
  let len := msg.length
  let n := (len + 9 + 63) / 64
  let padded := padTo (64 * n - 8) (msg ++ [0x80#8]) ++ be 8 (8 * len)
  (shaBlocks n shaH0 padded).flatMap fun w => be 4 w.toNat

end Sys2Proof.Machine
end

