-- ==== Sys2Proof/Config.lean ====
section
/-! DEFINITION. What one implementation fixes and the spec leaves open: factory contents of OTP, and the free values. A
constant here has no body: nothing can evaluate it, and a claim is true whatever it is. -/

namespace Sys2Proof.Config

/-- Whether the module is an ETY40-A169; else it is an ETY40-A868 (R2). -/
opaque a169 : Bool

/-- The customer image key that Belsemas programs into OTP (R132), 16 bytes. -/
opaque customerKey : List Byte

/-- The module unique key in OTP (R124), 16 bytes. -/
opaque uniqueKey : List Byte

/-- The module serial in OTP, 64 bits (R124, R465). -/
opaque serial : Nat

/-- The factory words of converter k, 0 to 7, in OTP (R223, R226, R227): R_REF of the 100 Ω and of the 1 kΩ reference
in µΩ, G_FACT of each reference in 2^-30, and the factory ratio of the cross-check in 2^-30. -/
opaque converter : Nat → Nat × Nat × Nat × Nat × Nat

/-- R_REF of a reference corrected for the module's internal temperature by its factory coefficient (R223): converter,
reference (0: 100 Ω, 1: 1 kΩ), factory value in µΩ, internal temperature in 0.1 °C. The spec gives no formula. -/
opaque refCorrected : Nat → Nat → Nat → Int → Nat

/-- The electronic delay that the loopback of a zero calibration measures, 2^-8 ns: the n-th free value (R195). -/
opaque loopbackDelay : Nat → BitVec 32

/-- A byte of SRAM whose place the spec does not lay out: the n-th free value at an address (R446). -/
opaque sramByte : Nat → Nat → BitVec 8

/-- The data rate in bit/s that EN 13757-4 assigns to the N mode channel with a code of R359; 0 for a code that names no
channel. -/
opaque nChannelRate : Nat → Nat

/-- The response delay that EN 13757-4 specifies for a MODE code, in 0.1 ms (R362). -/
opaque responseDelay : Nat → Nat

/-- The length of the response window that EN 13757-4 specifies for a MODE code, in 0.1 ms (R362). -/
opaque responseWindow : Nat → Nat

/-- The duty limit of band N, in 0.01 %, for the UNCONFIGURED alarm: R359 gives no default (R398). -/
opaque dutyNDefault : Nat

/-- Whether the glyph of a font shows ink at a place: font, character, column, row (R518). -/
opaque glyph : Nat → Nat → Nat → Nat → Bool

/-- Whether an icon shows ink at a place: icon code, column, row (R518). -/
opaque icon : Nat → Nat → Nat → Bool

/-- The level of a pixel of a ROM screen: screen, what it shows, column, row (R522). -/
opaque romPixel : Nat → List Byte → Nat → Nat → Nat

/-- What a 32-bit field holds of a result that does not fit it, where the spec states none (R213, R264, R290, R308). -/
opaque outside32 : Int → BitVec 32

/-- The 48 bits that a flow sample holds of a value outside its format (R187). -/
opaque outsideFlow : Int → BitVec 48

/-- A byte of the mask ROM (R446). -/
opaque romByte : Nat → BitVec 8

end Sys2Proof.Config
end

