-- ==== Sys2Proof/Machine/State.lean ====
section
/-! DEFINITION. The state of the ETY40: every register, record, queue, counter, mode and pin the spec gives the module,
as plain data, with the queue of the commands that wait; and the state after reset. -/

namespace Sys2Proof.Machine

/-- The reasons a step can fault. The ETY40 has none: no command traps, and everything the spec calls an error is an
answer, an event bit or a log entry (R12, R442, R458). -/
inductive Fault where
  deriving DecidableEq, Repr

/-- The reasons a step can be refused. -/
inductive Refusal where
  /-- Raised by an arm of exec whose command has no meaning yet. Safe: the model stops where the module goes on. -/
  | notModelled (mnemonic : String)
  /-- Raised by a meaning whose operands name no part of the module (channel 0 or 41, converter 9): such a command
  cannot occur. Safe: the model stops on a command that the module never sees. -/
  | illFormed
  deriving DecidableEq, Repr

/-! ### Records and memories -/

/-- How the HOARD controller writes a queued record. -/
inductive RecKind where
  /-- A record of two slots at the addresses given, in the four-part order of R63. -/
  | slots (a b : Nat)
  /-- A ring entry of one slot, in the order of R63, with the sequence number it gets (R298, R300). -/
  | single (a seq : Nat)
  /-- A ring entry without a sequence word of its own, in ascending order (R140, R306). -/
  | entry (a : Nat)
  /-- A load-profile entry, in the three word writes of R303. -/
  | profile (a : Nat)
  /-- A snapshot entry that DC7 moves, sequence and CRC words included (R488). -/
  | raw (a : Nat)
  /-- The sequence words of every slot of SNAP_MONTHLY, SNAP_ANNUAL, PROFILE and ALLOCATORS, set to 0 (R148). -/
  | clear
  deriving DecidableEq, Repr

/-- One record in the HOARD write queue: its kind and its bytes, for slots and single without the sequence and CRC
words. -/
structure HoardRec where
  kind : RecKind
  body : List Byte
  deriving DecidableEq, Repr

/-- The duplicated working memories and their error marks (R567, R569). -/
structure Mem where
  /-- HOARD, 0x10_0000 to 0x2F_FFFF (R446). -/
  hoard    : Memory
  /-- The HOARD write queue, oldest first (R48, R168). -/
  queue    : List HoardRec
  /-- Word addresses of HOARD that hold a correctable error (R567). -/
  soft     : List Nat
  /-- Word addresses of HOARD that hold an uncorrectable error (R567). -/
  bad      : List Nat
  /-- SRAM B0 to B7 as far as the spec gives its layout (R446). -/
  sram     : Memory
  /-- Byte addresses of SRAM with a parity error (R569). -/
  parity   : List Nat
  deriving DecidableEq, Repr

/-- The fault registers (R578 to R583). -/
structure Flt where
  moduleLost   : Bool
  totalsLost   : List Nat
  securityLost : Bool
  otherLost    : Bool
  scrubbing    : Bool
  scrubAge     : Nat
  events       : Word
  corr         : Nat
  corrScrub    : Nat
  uncorr       : Nat
  parCount     : Nat
  parBanks     : Nat
  dmrCount     : Nat
  dmrCh        : Nat
  dmrWord      : Nat
  lastAddr     : Nat
  lastKind     : Nat
  lastReader   : Nat
  /-- A mismatch has been found and its reaction (R257) is due. -/
  dmrPending   : Bool
  deriving DecidableEq, Repr

/-- The event log and the audit trail (R140, R306, R307). -/
structure EvLog where
  next      : Nat
  hour      : Nat
  /-- Onsets of the hour: code, channel, how many. -/
  counts    : List (Nat × Nat × Nat)
  /-- Conditions whose onset was not logged, so that their end is not either: code, channel, part. -/
  muted     : List (Nat × Nat × Nat)
  auditNext : Nat
  /-- Kind and digest prefixes of the newest audit entry (R136). -/
  auditLast : Option (Nat × List Byte × List Byte)
  deriving DecidableEq, Repr

/-! ### Supply, clocks and start -/

/-- The operation modes of R4. -/
inductive OpMode where
  | normal | backup | hold | shipping | unconfigured
  deriving DecidableEq, Repr

/-- The power states of R78 and R79, and a module without any power. The state keeps Run where the module is in Run or in Idle:
`State.powerState` tells the two apart. -/
inductive PowerState where
  | unpowered | off | run | idle | sleep | deepSleep
  deriving DecidableEq, Repr

/-- How far a start has come (R97, R107). -/
inductive Phase where
  /-- Held in reset: RESET_N low, or a WARM cause taken and not yet served. -/
  | inReset
  /-- ROOT has failed to start three times in a row (R77). -/
  | rootDead
  /-- The card read runs (steps 2 and 3 of R107). -/
  | reading
  /-- The image is decided and the first tick is awaited (step 6 of R107). -/
  | waiting
  /-- Ticks run. -/
  | running
  deriving DecidableEq, Repr

/-- The supply side (R43 to R73) and the power states (R78 to R103). -/
structure Pwr where
  mode       : OpMode
  state      : PowerState
  phase      : Phase
  vbusOk     : Bool
  vbusOv     : Bool
  storeRdy   : Bool
  /-- STORE_RDY was still 0 two seconds after VBUS_OK, and NORMAL is entered anyway (R51). -/
  storeWaived : Bool
  onCell     : Bool
  cellPresent : Bool
  belowWarn  : Bool
  nvInhibit  : Bool
  /-- VIO_HOST is present (R33). -/
  vioHost    : Bool
  pfActive   : Bool
  pfStep     : Nat
  /-- t0 of the power-fail sequence on the tick grid, in CLK_BUS cycles (R53). -/
  pfAt       : Nat
  /-- The store counted as faulted at t0 (R51). -/
  pfStoreBad : Bool
  /-- The final commit of step 4 has been queued (R52). -/
  pfCommit   : Bool
  storeV     : Nat
  vbusMv     : Nat
  vbatMv     : Nat
  loadMv     : Nat
  events     : Word
  chargeUah  : Nat
  remNc      : Nat
  replaced   : Nat
  chgFlags   : Nat
  /-- Raw SETT milliseconds up to which the charge is counted (R66). -/
  chargeMs   : Nat
  /-- Ticks in a row at whose edge the cell read below VBAT_SETT on VBUS; 5 of them span a second (R68). -/
  cellGone   : Nat
  /-- A replacement is to be confirmed by the load test at the first NORMAL tick (R68). -/
  cellCheck  : Bool
  /-- VBUS returned in HOLD and no NORMAL tick has started (R90). -/
  holdReturn : Bool
  /-- HOLD, or the Deep Sleep of R62, was entered and its event 0x0012 has not ended. -/
  holdLogged : Bool
  lastState  : Nat
  lastWake   : Nat
  lastExit   : Nat
  retSel     : Nat
  retFail    : Nat
  rebuilt    : Nat
  cardReread : Bool
  /-- Retention signatures: bank, CRC-32 (R91). -/
  sigs       : List (Nat × BitVec 32)
  /-- Wakes raised and not yet served (R85, R86, R87). -/
  wakes      : List WakeSource
  rootOk     : Bool
  settRun    : Bool
  trimValid  : Bool
  trimLimit  : Bool
  trim       : Int
  measAge    : Nat
  /-- ROOT stopped at some point of the running 64 s window (R76). -/
  rootStopped : Bool
  rootFails  : Nat
  cause      : Nat
  warmCount  : Nat
  /-- The WARM cause that waits for its restart: a bit of RESET_CAUSE (R103). -/
  warmCause  : Option Nat
  /-- `MEAS_TICK` when the WARM cause took effect. -/
  warmTick   : Nat
  /-- The WARM reset met an active SOLO or PRIMARY module in NORMAL or BACKUP: its gap is to be substituted (R258). -/
  warmGap    : Bool
  /-- ENTER_SHIPPING was accepted and Off is being entered (R82). -/
  shipping   : Bool
  /-- A qualified WAKE edge came during the entry to Off (R25). -/
  wakeHeld   : Bool
  /-- A COLD start found SETT without power, and no tick has begun since (R68, R103, R327). -/
  settNew    : Bool
  straps     : StrapLevels
  strapRole  : Nat
  peerOkOut  : Bool
  lastHostMs : Nat
  lastBusMs  : Nat
  /-- The module is fail-silent (R556), with its cause. -/
  failSilent : Bool
  failCause  : Nat
  deriving DecidableEq, Repr

/-! ### The accepted image (R108 to R131) -/

/-- The types of a channel (R115). -/
inductive ChType where
  | off | heat | cool | heatcool | water | gas
  deriving DecidableEq, Repr

/-- The CHANNEL section of a channel (R115); a channel without one is OFF. -/
structure ChanCfg where
  type      : ChType
  trunk     : Bool
  options   : Nat
  rtd       : Nat
  burstN    : Nat
  burstCyc  : Nat
  gasIdx    : Nat
  /-- Bytes 8 to 15: the identity as virtual meter. -/
  ident     : List Byte
  pathL     : Nat
  cosPhi    : Nat
  area      : Nat
  window    : Nat
  tofInit   : Nat
  qCut      : Nat
  qHyst     : Nat
  dthetaMin : Nat
  dthetaOn  : Int
  thetaCool : Int
  sigqMin   : Nat
  qMax      : Nat
  valveMv   : Nat
  valveTmax : Nat
  deriving DecidableEq, Repr

/-- The FLOWCAL section (R116): 96 breakpoints (Q, K), by direction, band and point. -/
structure FlowCal where
  bandT1 : Int
  bandT2 : Int
  points : List (Nat × Nat)
  deriving DecidableEq, Repr

/-- One sensor of a TEMPCAL section (R117). -/
structure SensorCal where
  r0 : Nat
  a  : Int
  b  : Int
  deriving DecidableEq, Repr

/-- The TEMPCAL section (R117). -/
structure TempCal where
  sup        : SensorCal
  ret        : SensorCal
  pairOffset : Int
  deriving DecidableEq, Repr

/-- A GASDEF section (R118). -/
structure GasDef where
  index     : Nat
  tBase     : Int
  pFactor   : Nat
  hs        : Nat
  cSlope    : Int
  anomLimit : Nat
  cRef      : List Nat
  deriving DecidableEq, Repr

/-- A season of the TARIFF section (R119). -/
structure Season where
  month : Nat
  day   : Nat
  week  : List Nat
  deriving DecidableEq, Repr

/-- A special day of the TARIFF section (R119). -/
structure SpecialDay where
  year    : Nat
  month   : Nat
  day     : Nat
  profile : Nat
  deriving DecidableEq, Repr

/-- The TARIFF section (R119): seasons, the used switching times (minute, tariff) of each profile, and special days. -/
structure Tariff where
  seasons  : List Season
  profiles : List (List (Nat × Nat))
  special  : List SpecialDay
  deriving DecidableEq, Repr

/-- A condition of the BILLING section (R120). -/
structure CondDef where
  qty   : Nat
  cmp   : Nat
  limit : Int
  deriving DecidableEq, Repr

/-- The BILLING section (R120). -/
structure Billing where
  annualMonth : Nat
  annualDay   : Nat
  monthlyDay  : Nat
  sliding     : Bool
  demandMin   : Nat
  demandSub   : Nat
  profileOn   : Bool
  cond1       : CondDef
  cond2       : CondDef
  deriving DecidableEq, Repr

/-- A protected period of the PREPAY section (R121): the weekday mask, start and end in minutes. -/
structure Prot where
  mask  : Nat
  start : Nat
  stop  : Nat
  deriving DecidableEq, Repr

/-- An entry of the PREPAY section (R121). -/
structure PrepayEntry where
  ch       : Nat
  unit     : Nat
  tokenKey : Nat
  price    : Nat
  initial  : Int
  grace    : Int
  deriving DecidableEq, Repr

/-- The PREPAY section (R121). -/
structure Prepay where
  entries : List PrepayEntry
  prot    : List Prot
  deriving DecidableEq, Repr

/-- The RADIO section (R122). -/
structure RadioCfg where
  mode   : Nat
  nChan  : Nat
  txDbm  : Int
  jitter : Nat
  dutyA  : Nat
  dutyB  : Nat
  dutyN  : Nat
  rxEn   : Nat
  /-- Bytes 0 to 2, which the MODULE record keeps as RADIO_LAST (R144). -/
  last   : List Byte
  deriving DecidableEq, Repr

/-- An entry of the TELEGRAM section (R123). -/
structure TelegramEntry where
  kind       : Nat
  ch         : Nat
  secMode    : Nat
  key        : Nat
  interval   : Nat
  bkInterval : Nat
  records    : Nat
  deriving DecidableEq, Repr

/-- A key of the module's set, unwrapped (R124). -/
structure KeyEntry where
  index : Nat
  use   : Nat
  key   : List Byte
  deriving DecidableEq, Repr

/-- An allocator of the ALLOCATORS section (R125): its bytes 0 to 7 and its unwrapped key. -/
structure Allocator where
  ident : List Byte
  key   : Option (List Byte)
  deriving DecidableEq, Repr

/-- A region of the DISPLAY section (R126). -/
structure Region where
  x       : Nat
  y       : Nat
  w       : Nat
  h       : Nat
  minimum : Nat
  deriving DecidableEq, Repr

/-- A field of the DISPLAY section (R126). -/
structure FieldDef where
  region  : Nat
  kind    : Nat
  x       : Nat
  y       : Nat
  font    : Nat
  format  : Nat
  unit    : Nat
  channel : Nat
  source  : Nat
  text    : List Byte
  deriving DecidableEq, Repr

/-- The DISPLAY section (R126). -/
structure DisplayCfg where
  cols    : Nat
  rows    : Nat
  grey    : Nat
  vcom    : Nat
  regions : List Region
  /-- First field and field count of each screen. -/
  screens : List (Nat × Nat)
  fields  : List FieldDef
  deriving DecidableEq, Repr

/-- A temperature range of the EPDWAVE section with its table: the frame words of a content and of a clean update (R127,
R512). -/
structure WaveRange where
  low   : Int
  high  : Int
  upd   : List Nat
  clean : List Nat
  deriving DecidableEq, Repr

/-- A channel entry of the DMAPROG section (R128). -/
structure DmaStart where
  start : Nat
  prio  : Nat
  en    : Bool
  deriving DecidableEq, Repr

/-- The HOST section (R130). -/
structure HostCfg where
  svcKey  : Nat
  flags   : Nat
  svcIdle : Nat
  deriving DecidableEq, Repr

/-- The accepted image, as the module holds it in B0 and B1. -/
structure Image where
  seq       : Nat
  digest    : List Byte
  /-- The class digests of R133. -/
  lDigest   : List Byte
  bDigest   : List Byte
  oDigest   : List Byte
  /-- IDENTITY bytes 0 to 7 (R113, R144). -/
  identity  : List Byte
  retBanks  : Nat
  dst       : Bool
  /-- Channel, quantity, width and value of PO1 to PO8 (R114). -/
  pulses    : List (Nat × Nat × Nat × Nat)
  chans     : Vector ChanCfg 40
  flowCals  : List (Nat × FlowCal)
  tempCals  : List (Nat × TempCal)
  gasDefs   : List GasDef
  tariff    : Option Tariff
  billing   : Billing
  prepay    : Option Prepay
  radio     : RadioCfg
  telegrams : List TelegramEntry
  keys      : List KeyEntry
  allocs    : Option (List Allocator)
  display   : Option DisplayCfg
  waves     : List WaveRange
  dma       : List DmaStart
  dmaProg   : List Byte
  /-- MEMBER_A and MEMBER_B of the MIRROR section (R129). -/
  members   : Option (Nat × Nat)
  host      : Option HostCfg
  /-- The REVERIFY body (R131), if present. -/
  reverify  : Option (List Byte)
  deriving DecidableEq, Repr

/-- The MODULE record (R144), as the module works with it. -/
structure ModuleRec where
  commissioned   : Bool
  commissionTime : Nat
  pcc            : Nat
  acceptedSeq    : Nat
  digest         : List Byte
  lDigest        : List Byte
  bDigest        : List Byte
  oDigest        : List Byte
  refused        : List Byte
  lastLTime      : Nat
  moduleIdent    : List Byte
  chIdent        : List Byte
  radioLast      : List Byte
  deriving DecidableEq, Repr

/-- The card and the image decision (R105, R134, R150). -/
structure Img where
  image       : Option Image
  cardPresent : Bool
  accepted    : Bool
  result      : Nat
  section_    : Nat
  chgL        : Bool
  chgB        : Bool
  chgO        : Bool
  module_     : ModuleRec
  /-- Restarts made within the running card read, and whether it has ended as unreadable (R105). -/
  restarts    : Nat
  unreadable  : Bool
  /-- The byte at which the card read restarted last. -/
  failByte    : Nat
  /-- COMMISSION has been accepted and its step 4 has not landed (R148). -/
  commissioning : Bool
  /-- Event 0x0004 is logged and has not ended. -/
  unconfLogged : Bool
  deriving DecidableEq, Repr

/-- What OTP and the factory give the module: order code, keys, serial and converter constants (R2, R124, R132, R223,
R226, R227, R465). -/
structure Otp where
  a169        : Bool
  customerKey : Option (List Byte)
  uniqueKey   : List Byte
  serial      : Nat
  /-- The factory words of TC1 to TC8: R_REF of the 100 Ω and of the 1 kΩ reference in µΩ, G_FACT of each in 2^-30, the
  factory ratio of the cross-check in 2^-30. -/
  converters  : List (Nat × Nat × Nat × Nat × Nat)
  deriving DecidableEq, Repr

/-! ### Channels: flow (R178 to R217), temperature (R218 to R238), totals (R239 to R266), billing (R283 to R310),
credit (R311 to R330) and valve (R274 to R282) -/

/-- What one shot gave (R184, R190, R193). Times are exact, in nanoseconds. -/
structure ShotRes where
  driven  : Bool
  good    : Bool
  clipped : Bool
  /-- j* is −32 or +32. -/
  edge    : Bool
  /-- The peak drive current of the burst lay within the limits of R193. -/
  driveOk : Bool
  /-- The peak absolute sample lies above 64 (R192, R193). -/
  echo    : Bool
  tof     : Rat
  /-- ρ in 2^-16. -/
  rho     : Nat
  /-- ⌊4·(CPR − 1)⌋, at most 15. -/
  cpr     : Nat
  snr     : Nat
  peak    : Nat
  /-- The shot counts toward AIR (R193). -/
  weak    : Bool
  /-- The sample at which the echo starts, in samples from time zero (R192). -/
  start   : Int
  /-- The 128 samples that the template overlays at j*, or from the echo start while a template is learned. -/
  taps    : List Int
  deriving DecidableEq, Repr

/-- The calibration record of a channel (R201). -/
structure Cal where
  imgSeq      : Nat
  learnTime   : Nat
  flags       : Nat
  burstN      : Nat
  burstCyc    : Nat
  drive       : Nat
  tapStep     : Nat
  gainRef     : Nat
  tElec       : Nat
  zeroLearned : Int
  zeroTracked : Int
  tofRef      : Nat
  cLearn      : Nat
  thetaLearn  : Int
  ampRef      : Nat
  trackTime   : Nat
  learned     : List Int
  tracked     : List Int
  deriving DecidableEq, Repr

/-- The status of a flow sample (R191). -/
inductive SampleStatus where
  | valid | held | fault
  deriving DecidableEq, Repr

/-- A flow sample as integration takes it (R239, R240): the instant its interval starts, in CLK_BUS cycles of the tick
grid, its value in 2^-16 mL/h after the cut-off as datapath A and as datapath B formed it (R187, R256), and its status. -/
structure Sample where
  at_    : Nat
  q      : Int
  qB     : Int
  status : SampleStatus
  deriving DecidableEq, Repr

/-- Consecutive-shot counters of one transducer (R193). -/
structure Drive where
  openRun  : Nat
  shortRun : Nat
  shortOk  : Nat
  deriving DecidableEq, Repr

/-- A burst (R178): the transducer that sends it (0 TA, 1 TB), the ROOT periods of a cycle and those of its high part, the cycles,
and the peak amplitude in mV. Time is counted from its first rising edge. -/
structure Burst where
  who    : Nat
  period : Nat
  high   : Nat
  cycles : Nat
  mV     : Nat
  deriving DecidableEq, Repr

/-- The flow path of a channel. -/
structure Flow where
  /-- Predicted echo start from the last VALID pair or from acquisition (R181, R192). -/
  pred     : Option Int
  gain     : Nat
  /-- The first shot of the pair in progress. -/
  first    : Option ShotRes
  /-- The burst of the channel's last driven shot (R178). -/
  burst    : Option Burst
  /-- The last VALID value after the cut-off, 2^-16 mL/h (R240), as datapath A and as datapath B formed it (R256). -/
  lastQ    : Int
  lastQB   : Int
  failRun  : Nat
  missRun  : Nat
  acquire  : Bool
  quietRun : Nat
  validRun : Nat
  driveA   : Drive
  driveB   : Drive
  /-- Consecutive driven shots of the channel within the limits (R193, TD_OPEN). -/
  openOk   : Nat
  /-- The 1 s drive stop of TD_SHORT holds, and MEAS_TICK where it began. -/
  stop     : Bool
  stopTick : Nat
  airHist  : List Bool
  /-- VALID samples before the cut, newest first (R203). -/
  ring     : List Int
  flowFault : Bool
  cut      : Bool
  reverse  : Bool
  lowQ     : Bool
  air      : Bool
  empty    : Bool
  tdOpen   : Bool
  tdShort  : Bool
  /-- The transducer of the TD_OPEN and of the TD_SHORT onset: 0 TA, 1 TB. -/
  openWho  : Nat
  shortWho : Nat
  noEcho   : Bool
  clipped  : Bool
  qImpl    : Bool
  zeroDrift : Bool
  templateDrift : Bool
  calMissing : Bool
  calMismatch : Bool
  gasAnom  : Bool
  gasRange : Bool
  calResult : Nat
  /-- Quality has been at or above SIGQ_MIN since this MEAS_TICK (R164). -/
  goodSince : Option Nat
  cal      : Option Cal
  /-- Tracked values differ from those of the last commit (R200). -/
  calDirty : Bool
  /-- The tracked template at the resolution at which it is moved, 2^-16 of a tap (R198). -/
  fine     : List Int
  /-- The last 64 values of dc, newest first (R207). -/
  dcRing   : List Int
  rseq     : Nat
  capCtrl  : Nat
  /-- `CHW_CAPTURE_CTRL` as the pair in progress uses it (R216). -/
  capUse   : Nat
  capWritten : Nat
  capDropped : Nat
  events   : Word
  deriving DecidableEq, Repr

/-- What a step gathers from its pairs (R198, R211 to R214). -/
structure StepAcc where
  samples : List Sample
  valid   : Nat
  sumT    : Rat
  sumDt   : Rat
  sumC    : Rat
  good    : Nat
  sumRho  : Nat
  shots   : Nat
  sumSnr  : Nat
  sumPeak : Nat
  minCpr  : Nat
  missed  : Nat
  clipped : Bool
  held    : Bool
  /-- Sum of the good captures, aligned (R198), and how many. -/
  capSum  : List Int
  capN    : Nat
  deriving DecidableEq, Repr

/-- The zero-tracking window (R199): each half's count and sum of Δt_raw, the span of θV, and whether all held so far. -/
structure ZeroTrack where
  ok    : Bool
  n1    : Nat
  sum1  : Rat
  n2    : Nat
  sum2  : Rat
  vmin  : Option Int
  vmax  : Option Int
  deriving DecidableEq, Repr

/-- What a zero calibration gathers for a channel (R195, R196). -/
structure ZeroCal where
  running : Bool
  tElec   : Nat
  capSum  : List Int
  capN    : Nat
  template : List Int
  /-- Count and sum of Δt_raw over the VALID pairs of each half of step 3. -/
  n1      : Nat
  sum1    : Rat
  n2      : Nat
  sum2    : Rat
  sumT    : Rat
  sumRaw  : Rat
  sumPeak : Nat
  sumRho  : Nat
  sumSnr  : Nat
  shots   : Nat
  vmin    : Option Int
  vmax    : Option Int
  sumV    : Int
  nV      : Nat
  deriving DecidableEq, Repr

/-- One temperature sensor of a channel (R229, R230). -/
structure Sensor where
  faulted : Bool
  kind    : Nat
  failRun : Nat
  goodRun : Nat
  deriving DecidableEq, Repr

/-- The temperature path of a channel. -/
structure Temp where
  sup      : Sensor
  ret      : Sensor
  /-- The supply conversion of the pair in progress: tick and temperature in µK (none if it failed). -/
  supConv  : Option (Nat × Option Int)
  /-- The temperatures in force (R225): θs and θr, 0.0001 °C. -/
  thetaS   : Option Int
  thetaR   : Option Int
  /-- The temperatures that were in force at the end of the step that is due, where a later pair has replaced them since (R225). -/
  atEdge   : Option (Option Int × Option Int)
  range    : Bool
  /-- The sensor whose temperature the RANGE onset reported: 0 supply, 1 return. -/
  rangeWho : Nat
  leak     : Bool
  leakWho  : Nat
  leakFail : Nat
  leakPass : Nat
  deriving DecidableEq, Repr

/-- BILLING_STATE (R293). -/
structure BillState where
  tariffNext : Nat
  dflags     : Nat
  subIdx     : Nat
  pflags     : Nat
  subStart   : Nat
  profHour   : Nat
  subE       : Nat
  subV       : Nat
  maxP       : Nat
  maxQ       : Nat
  maxPTime   : Nat
  maxQTime   : Nat
  profTicks  : Nat
  periodStart : Nat
  profTicksT : Nat
  profE0     : Nat
  profC0     : Nat
  profV0     : Nat
  profQmax   : Int
  sumS       : Int
  sumR       : Int
  deriving DecidableEq, Repr

/-- CREDIT_STATE (R316). -/
structure CreditState where
  credit     : Int
  rem        : Nat
  cflags     : Nat
  cstate     : Nat
  faultHours : Nat
  tokenHigh  : Nat
  tokenWindow : Nat
  topups     : Nat
  deriving DecidableEq, Repr

/-- VALVE_STATE (R281). -/
structure ValveState where
  position : Nat
  fault    : Nat
  pending  : Nat
  source   : Nat
  ticket   : Nat
  elapsed  : Nat
  flags    : Nat
  lastMove : Nat
  deriving DecidableEq, Repr

/-- The body of a TOTALS record (R262): what one datapath keeps of a channel (R256). -/
structure Work where
  stepTick : Nat
  stepTime : Nat
  flags    : Nat
  hcMode   : Nat
  tariff   : Nat
  stepLen  : Nat
  qLast    : Int
  thetaS   : Option Int
  thetaR   : Option Int
  thetaV   : Option Int
  eHeat    : Nat
  eCool    : Nat
  eHeatT   : List Nat
  eCoolT   : List Nat
  vFwd     : Nat
  vRev     : Nat
  eCond1   : Nat
  eCond2   : Nat
  eSubst   : Nat
  vSubst   : Nat
  vBase    : Nat
  eGas     : Nat
  remVFwd  : Nat
  remVRev  : Nat
  remEHeat : Nat
  remECool : Nat
  remVBase : Nat
  remEGas  : Nat
  remESub  : Nat
  remVSub  : Nat
  tFlowFault : Nat
  tTempFault : Nat
  tLowDt   : Nat
  tNegDt   : Nat
  bill     : BillState
  credit   : CreditState
  valve    : ValveState
  deriving DecidableEq, Repr

/-- What changes at a step close and the window shows (R211 to R215, R236, R264, R309). -/
structure Shown where
  status   : Nat
  flow     : Int
  tofMean  : Nat
  tofDiff  : Int
  c        : Nat
  signal   : Nat
  gas      : Nat
  zero     : Int
  tempS    : Option Int
  tempR    : Option Int
  power    : Int
  tariff   : Nat
  totals   : List Nat
  maxima   : List Nat
  credit   : Nat
  deriving DecidableEq, Repr

/-- The valve of a channel beyond VALVE_STATE (R275, R279, R282). -/
structure Valve where
  /-- The last two contact readings, newest first: (FB_OPEN closed, FB_CLOSED closed). -/
  hist      : List (Bool × Bool)
  /-- The end that the last completed move reached: 0 none, 1 OPEN, 2 CLOSED. -/
  lastEnd   : Nat
  /-- Consecutive idle samples that differ from the last completed end. -/
  movedRun  : Nat
  /-- Since when, in SETT ms, the contact opposite to the target reads closed. -/
  opposite  : Option Nat
  lastMoveS : Nat
  deriving DecidableEq, Repr

/-- What the channel's ring areas hold (R296, R300, R303): the highest monthly and annual keys, the SEQ of the newest
snapshot of each kind, and the highest profile ENTRY_SEQ. -/
structure Snap where
  keyM    : Option Nat
  keyA    : Option Nat
  seqM    : Nat
  seqA    : Nat
  profSeq : Nat
  deriving DecidableEq, Repr

/-- A channel: its flow and temperature paths, the two datapaths' copies of its working state, and its billing
working state outside the record. -/
structure Chan where
  flow    : Flow
  acc     : StepAcc
  /-- Pairs of the next step that were taken before the close of the step that is due. -/
  late    : StepAcc
  track   : ZeroTrack
  zcal    : ZeroCal
  temp    : Temp
  /-- Datapaths A and B (R256). -/
  a       : Work
  b       : Work
  /-- The step in progress: where it starts on the grid, and the sample that covers its beginning (R239). -/
  stepStart : Nat
  carry   : Option Sample
  /-- The gap to substitute at the next step close, in CLK_BUS cycles (R258). -/
  gap     : Option Nat
  /-- The TOTALS record has been lost: the channel is out of service (R570). -/
  lost    : Bool
  /-- A step close is held or merged and its commit has not landed (R168). -/
  heldTick : Option Nat
  merged  : Bool
  /-- The commit is held and not yet handed to the queue, and the ring entries that wait behind it (R168, R298). -/
  owed    : Bool
  behind  : List HoardRec
  /-- The current demand sub-interval has had no step end of its own (R293). -/
  subFresh : Bool
  /-- The sliding-demand ring in B2: ΣE and ΣV of the last sub-intervals, newest first (R289). -/
  ring    : List (Nat × Nat)
  /-- The RTC was stepped since the last step close (R291, R304). -/
  stepped : Bool
  /-- Every step close of the profile hour so far was temperature-faulted (R321). -/
  faultHour : Bool
  /-- Heat and cooling that the profile hour has booked so far (R304, MIXED). -/
  hourHeat  : Bool
  hourCool  : Bool
  /-- Season, day profile, special day and default of the last tariff evaluation (R309). -/
  tarEval : Nat × Nat × Bool × Bool
  snap    : Snap
  valve   : Valve
  shown   : Shown
  /-- The token that waits for its commit and mirror: serial, amount and t0 in SETT ms (R320). -/
  token   : Option (Nat × Int × Nat)
  deriving DecidableEq, Repr

/-- One check kind of a converter: consecutive failing and passing checks (R228). -/
structure Check where
  failRun : Nat
  passRun : Nat
  holds   : Bool
  deriving DecidableEq, Repr

/-- One RTD converter (R223, R226 to R228). -/
structure Conv where
  /-- R_REF of the 100 Ω and the 1 kΩ reference as corrected for the internal temperature, µΩ. -/
  ref100  : Nat
  ref1k   : Nat
  /-- The last 16 gain samples of each reference, newest first. -/
  gain100 : List Int
  gain1k  : List Int
  drift   : Check
  cross   : Check
  zero    : Check
  gain    : Check
  deriving DecidableEq, Repr

/-- The measurement sequencer (R153 to R177) and the zero calibration run (R195). -/
structure Meas where
  tick      : Nat
  /-- The first tick since the start has begun. -/
  started   : Bool
  overrun   : Nat
  /-- Steps ended at the last tick edge and EV37 has not been raised for them (R486). -/
  commitsDue : Bool
  lastCh    : Nat
  /-- The last DEGRADED measurement tick that was served (R160). -/
  degAt     : Option Nat
  /-- CHSEL and the latched window words (R175). -/
  chsel     : Nat
  window    : List Nat
  /-- A zero calibration: its channels, phase 0 (waiting), 1, 2 or 3, duration in seconds and first tick (R195). -/
  calChans  : List Nat
  calPhase  : Nat
  calDur    : Nat
  calTick   : Option Nat
  /-- Channels whose run a WARM or COLD reset ended: `CAL_RESULT` reads 7 after it (R195). -/
  calCut    : List Nat
  /-- TEST holds (R459); its 4 h have run out during a zero calibration. -/
  test      : Bool
  /-- `MEAS_TICK` at the entry to TEST (R459). -/
  testTick  : Nat
  testOver  : Bool
  deriving DecidableEq, Repr

/-- One pulse output (R268 to R273): whether it is closed, the start times of the waiting pulses on the tick grid in
CLK_BUS cycles, the start of the last pulse, and whether a backlog has been logged. -/
structure PulseOut where
  closed  : Bool
  waiting : List Nat
  last    : Option Nat
  backlog : Bool
  deriving DecidableEq, Repr

/-- A valve command that moves or waits (R276). -/
structure ValveCmd where
  ch     : Nat
  dir    : Nat
  source : Nat
  ticket : Nat
  deriving DecidableEq, Repr

/-- The valve bridge (R274 to R280): the moving command and its first drive edge in SETT ms, the queue, and the next
ticket. -/
structure Bridge where
  moving : Option ValveCmd
  since  : Nat
  queue  : List ValveCmd
  next   : Nat
  deriving DecidableEq, Repr

/-- Tamper recording (R89, R326 to R332). -/
structure Tamper where
  coverOpen  : Bool
  tcoverOpen : Bool
  cardOut    : Bool
  /-- Channels with a sensor disconnection, and the sensor. -/
  disc       : List (Nat × Nat)
  linkLost   : Bool
  /-- The SETT latch, oldest first: switch, opened, time, overflow mark. -/
  latch      : List (TamperInput × Bool × Nat × Bool)
  cardSeen   : Nat
  events     : Word
  deriving DecidableEq, Repr

/-- The real-time clock (R333 to R355). -/
structure Rtc where
  count     : Nat
  /-- Where the prescaler's second began, in cycles of the raw SETT count modulo 32,768 (R339, R343). -/
  subBase   : Nat
  /-- SETT cycles towards the next cycle that a slew adds or deletes, 0 to 9,999 (R343). -/
  slewPhase : Nat
  osf       : Bool
  osfCause  : Nat
  /-- The settings of OSF whose log entries are due, oldest first: cause and TIME (R346). -/
  osfPend   : List (Nat × Nat)
  halt      : Bool
  /-- The count and the prescaler that the registers hold under HALT (R338). -/
  heldCount : Nat
  heldSub   : Nat
  /-- SETT ms of the HALT write (R342). -/
  haltMs    : Nat
  pendDate  : Option Nat
  pendTime  : Option Nat
  /-- The four latched registers and whether a latch has been made (R349). -/
  latched   : Bool
  latch     : List Nat
  slew      : Int
  slewUsed  : Nat
  slewDay   : Nat
  badWrite  : Bool
  slewRefused : Bool
  autoRelease : Bool
  stepped   : Bool
  adjLog    : List Nat
  loadDay   : Nat
  settLost  : Bool
  deriving DecidableEq, Repr

/-! ### The pair (R537 to R564) -/

/-- A Movor frame that this member has sent and the peer has not acknowledged, or that waits for space (R542). -/
structure MovorFrame where
  seq     : Nat
  type    : Nat
  payload : List Byte
  deriving DecidableEq, Repr

/-- The PAIR record (R538). -/
structure PairRec where
  epoch     : Nat
  serial    : Nat
  takeovers : Nat
  flags     : Nat
  deriving DecidableEq, Repr

/-- The redundant pair. -/
structure Pair where
  /-- The run-time role (R537). -/
  active     : Bool
  /-- STATE of R562: 0 SOLO, 1 unpaired, 2 synchronising, 3 paired. -/
  phase      : Nat
  peerActive : Bool
  ready      : Bool
  linkFault  : Bool
  /-- LINK_DET has read high for 10 ms, and the loss has been reported (R32). -/
  cableOpen  : Bool
  cableLost  : Bool
  peerOkIn   : Bool
  harness    : Bool
  peerOnCell : Bool
  peerVbus   : Bool
  switching  : Bool
  refuse     : Nat
  /-- A pairing was refused: no unmirrored activation until the next reset (R544). -/
  barred     : Bool
  /-- Valid frames of a peer arrive. -/
  heard      : Bool
  /-- SETT ms of the last valid frame, or of the start (R559). -/
  heardMs    : Nat
  /-- A FAILED frame has been the last word of the peer (R549). -/
  failedHeard : Bool
  peerSerial : Nat
  peerEpoch  : Nat
  record     : PairRec
  txSeq      : Nat
  rxSeq      : Nat
  /-- `ACK_SEQ`: the highest SEQ received in order with its content committed (R540, R546). -/
  ackSeq     : Nat
  /-- SEQs that a RESEND has asked for (R542). -/
  missing    : List Nat
  /-- Frames received beyond a missing one, whose content waits for it. -/
  ahead      : List MovorFrame
  /-- The store of unacknowledged frames, oldest first, and the frames that wait for it (R542). -/
  store      : List MovorFrame
  waiting    : List MovorFrame
  /-- Bytes last put on the link outside the store: a FAILED frame, the RESENDs of a gap, or a stored frame sent again (R540, R542,
  R556). -/
  line       : List Byte
  /-- What synchronisation has still to copy (R545): address of the next record, stride and records left of each area. -/
  syncTodo   : List (Nat × Nat × Nat)
  syncTotal  : Nat
  /-- SEQ of the SYNC_END sent. -/
  syncEnd    : Option Nat
  /-- SETT ms at which pairing completed. -/
  pairedAt   : Nat
  /-- An activation declared and not yet in effect, which begins at the next tick edge: 0 after a start, 1 mirrored,
  2 unmirrored, 3 power-fail handover, 4 switchover (R539, R551, R552, R554, R558). -/
  rising     : Option Nat
  /-- Tick H of an accepted switchover, once announced, and of one announced by the peer (R558). -/
  handTick   : Option Nat
  peerHand   : Option Nat
  /-- SETT ms at which a switchover was accepted. -/
  switchAt   : Nat
  /-- POWER_FAIL has been received and the handover waits; the SETT ms of the frame, and the channels whose record of the final commit
  has not come (R554). -/
  pfWait     : Bool
  pfSince    : Nat
  pfLeft     : List Nat
  /-- Waiting pulses that the peer handed over (R558). -/
  pulsesIn   : List Nat
  /-- Entries logged while unpaired, for the next pairing (R547). -/
  peerEvents : List (List Byte)
  gapMs      : Nat
  crcErrors  : Nat
  resends    : Nat
  resendFail : Nat
  events     : Word
  deriving DecidableEq, Repr


/-! ### Radio (R356 to R382), security (R399 to R402), sessions (R403 to R414), M-Bus and allocators (R415 to R435) -/

/-- A telegram that waits in the transmit queue (R373): its entry (32 and above: none, the UNCONFIGURED alarm), its planned
start in SETT ms, its airtime in 0.1 µs and the frame as sent, block CRCs included. -/
structure Telegram where
  entry : Nat
  start : Nat
  air   : Nat
  /-- The airtime that the plan of R373 holds for it: that of the entry's longest frame. -/
  plan  : Nat
  frame : List Byte
  deriving DecidableEq, Repr

/-- What a KIND 5 entry keeps (R371, R397): the onsets since its previous alarm telegram, the RTC ms of its last alarm offer, and
that of the offer that a trigger has made due. -/
structure AlarmState where
  entry : Nat
  since : Nat
  last  : Option Nat
  due   : Option Nat
  deriving DecidableEq, Repr

/-- An answer that the session engine owes: the context whose response it is, if any, the identity, key, access number and
command it answers, and the result without a context (R404, R407). -/
structure Answer where
  ctx      : Option Nat
  identity : Nat
  key      : Nat
  acc      : Nat
  cmd      : Nat
  result   : Nat
  deriving DecidableEq, Repr

/-- The radio link (R356 to R382). -/
structure Radio where
  /-- Telegrams in order of acceptance (R373). -/
  queue    : List Telegram
  /-- Airtime bins, newest first: the bin's index (SETT ms / 60,000) and its airtime in 0.1 µs (R365). -/
  bins     : List (Nat × Nat)
  /-- SETT ms at which the last frame started and ends. -/
  txStart  : Nat
  txEnd    : Nat
  /-- Power of the last frame started, dBm (R358). -/
  txDbm    : Int
  /-- SETT ms at which the open response window closes. -/
  window   : Option Nat
  /-- A frame that opens a response window has been sent, and the window has not opened (R362). -/
  winDue   : Bool
  /-- The last frame sent. -/
  lastFrame : List Byte
  /-- The receive buffer of bank B3, oldest first: frames that wait for the session engine or the parser (R363). -/
  rx       : List (List Byte)
  /-- The answer due in the response slot (R407). -/
  answer   : Option Answer
  /-- Phases of grids that a backward step has re-anchored: entry, grid, phase (R370). -/
  phases   : List (Nat × Nat × Nat)
  /-- Catch-up offers that wait: entry, grid, count of the step, and the RTC ms at which the offer is due (R370). -/
  catchUps : List (Nat × Nat × Nat × Nat)
  /-- KIND 3 offers that wait: entry, channel, key, annual, and the RTC ms at which the offer is due (R371). -/
  snaps    : List (Nat × Nat × Nat × Bool × Nat)
  alarms   : List AlarmState
  /-- RTC ms at which the alarm of HOLD or of UNCONFIGURED is due next (R372). -/
  alarmAt  : Option Nat
  /-- SETT ms and rank of the last offer (R373). -/
  offered  : Option (Nat × Nat)
  rejected : Nat
  discarded : Nat
  lastCause : Nat
  frames   : Nat
  crcErr   : Nat
  dropped  : Nat
  /-- The window use has reached 0.9 × B and has not fallen below it since (R366). -/
  high     : Bool
  events   : Word
  deriving DecidableEq, Repr

/-- Message counters and receive floors (R399 to R402): 41 identities, 32 keys. -/
structure Sec where
  /-- The next counter value of each identity. -/
  next   : List Nat
  /-- TX_LIMIT of each identity as handed to the HOARD queue. -/
  limit  : List Nat
  /-- TX_LIMIT of each identity as the peer has acknowledged it (R400). -/
  peer   : List Nat
  /-- Access number of each identity. -/
  acc    : List Nat
  /-- RX_FLOOR of each key as handed to the HOARD queue. -/
  floor  : List Nat
  deriving DecidableEq, Repr

/-- The states of a context (R404). -/
inductive CtxState where
  | free | running | ready | idle
  deriving DecidableEq, Repr

/-- A session context (R403). -/
structure Ctx where
  st       : CtxState
  partner  : Partner
  identity : Nat
  key      : Nat
  mcr      : Nat
  acc      : Nat
  cmd      : Nat
  args     : List Byte
  /-- The command has executed, with its result and response data. -/
  done     : Option (Nat × List Byte)
  /-- The cached response without CRCs. -/
  frame    : List Byte
  /-- SETT ms at which its present state began (R404). -/
  since    : Nat
  /-- Its place in the order of requests, for R406. -/
  order    : Nat
  deriving DecidableEq, Repr

/-- The session engine. -/
structure Sess where
  /-- Frames of the bus master that were passed to the engine, from their AFL on, oldest first (R421); those of radio partners wait in
  the receive buffer (R363). -/
  inbox     : List (List Byte)
  ctxs      : Vector Ctx 24
  order     : Nat
  evictions : Nat
  dups      : Nat
  busy      : Nat
  authFail  : Nat
  replays   : Nat
  deriving DecidableEq, Repr

/-- The wired M-Bus slave (R415 to R423). -/
structure MBus where
  baud     : Nat
  selected : Option Nat
  /-- FCB and answer of the last REQ_UD2 answered under this selection (R422). -/
  last     : Option (Bool × List Byte)
  /-- A session answer that waits for the selected identity's REQ_UD2 and is no READY context's response. -/
  direct   : Option Answer
  /-- The last bytes answered, and whether the last answer was the collision marker (R419). -/
  out      : List Byte
  collision : Bool
  frameErr : Nat
  answered : Nat
  deriving DecidableEq, Repr

/-- A freeze whose slots are not all committed (R433): its number and the fields of its record, and the slots that are
left with the value each holds at the freeze instant. -/
structure FreezeRun where
  seq   : Nat
  key   : Nat
  flags : Nat
  time  : Nat
  left  : List (Nat × Nat)
  deriving DecidableEq, Repr

/-- An entry of the stranger table (R430): identity bytes as M-field and A-field, count, time of the last frame. -/
structure Stranger where
  ident : List Byte
  count : Nat
  last  : Nat
  deriving DecidableEq, Repr

/-- The allocator collector (R424 to R434). -/
structure Alc where
  run       : Option FreezeRun
  /-- Consecutive implausible telegrams of a slot (R429). -/
  refusals  : List (Nat × Nat)
  strangers : List Stranger
  /-- The slot at which the next collector telegram starts (R396). -/
  cursor    : Nat
  refused   : Nat
  deriving DecidableEq, Repr

/-! ### The host link (R436 to R475) -/

/-- A posted write (R449): its address in the internal map and its bytes. -/
structure PostedWrite where
  addr : Nat
  data : List Byte
  deriving DecidableEq, Repr

/-- The host link. -/
structure HostLink where
  /-- The write buffer, oldest first (R449). -/
  wbuf      : List PostedWrite
  service   : Bool
  /-- The pending challenge and the SETT ms of its request (R454). -/
  challenge : Option (List Byte × Nat)
  /-- Challenges counted in SETT. -/
  chalCount : Nat
  fails     : Nat
  lockedOut : Bool
  /-- SETT ms at which the lockout ends (R454). -/
  lockUntil : Nat
  /-- SETT ms of the last frame with the module's address and a good CRC (R455). -/
  goodMs    : Nat
  /-- W1C bits [20:16] of `HL_STATUS` (R471). -/
  status    : Word
  crcErr    : Nat
  aborted   : Nat
  malformed : Nat
  /-- The waveform stream: credits, NEXT, COUNT, DROPPED (R461, R474). -/
  credit    : Nat
  next      : Nat
  count     : Nat
  /-- Records that have been given a ring index and are not yet readable, in the ring's order: the route of each, and whether its last
  word has been confirmed (R209, R210, R461). -/
  fly       : List (Nat × Bool)
  dropped   : Nat
  /-- W1C bits [19:16] of `MOD_EVENTS` (R468). -/
  events    : Word
  eventEn   : Word
  arg       : Nat
  /-- The last command taken: code and tag (R456). -/
  taken     : Option (Nat × Nat)
  result    : Nat
  running   : Bool
  discarded : Bool
  duplicate : Bool
  /-- The bits of `RESET_CAUSE` of a LINK reset that waits for its posted writes; 0 for none (R98). -/
  linkDue   : Nat
  /-- What the module last sent: nothing, or the bytes of its response from the start byte to the CRC, or WAKING. -/
  out       : List Byte
  deriving DecidableEq, Repr

/-! ### The DMA engine (R476 to R505) -/

/-- What a route's service has loaded (R495): P0 to P3, and the words that its source port still gives. -/
structure Service where
  p0   : Nat
  p1   : Nat
  p2   : Nat
  p3   : Nat
  src  : List Byte
  /-- Bytes of it that have been taken. -/
  pos  : Nat
  /-- Channel of the waveform record that the route carries; 0 none (R210). -/
  ch   : Nat
  /-- The transfer's last word has been confirmed (R489). -/
  landed : Bool
  deriving DecidableEq, Repr

/-- A MOVE in progress (R479): next source and destination, words left, and the fields of its word 0. -/
structure MoveRun where
  src    : Nat
  dst    : Nat
  left   : Nat
  srcFix : Bool
  dstFix : Bool
  crc    : Nat
  paced  : Option Nat
  burst  : Nat
  /-- The bytes gathered for a snapshot entry (R488). -/
  buf    : List Byte
  deriving DecidableEq, Repr

/-- One DMA channel. -/
structure DmaCh where
  run     : Bool
  pc      : Nat
  prio    : Nat
  ctr0    : Option Nat
  ctr1    : Option Nat
  /-- The running CRC: kind (1 CRC-32, 2 CRC-16) and register (R480). -/
  crc     : Option (Nat × Nat)
  /-- Event latches, bit e for EVe (R486). -/
  latches : Nat
  service : Option Service
  move    : Option MoveRun
  /-- In a WAIT since this MEAS_TICK: kind (true an event), number, timeout (R482). -/
  wait    : Option (Nat × Bool × Nat × Nat)
  /-- The last word written since the previous confirmation: address and value (R489). -/
  wrote   : Option (Nat × Nat)
  stagePc   : Nat
  stagePrio : Nat
  /-- The armed set: PROG and PRIO (R497). -/
  armed   : Option (Nat × Nat)
  stop    : Bool
  /-- The stop raises no STOPPED (R498). -/
  quiet   : Bool
  err     : Nat
  /-- Stopped on an error and to be restarted 1 ms later (R494). -/
  restart : Bool
  /-- The domain that the channel uses was switched off (R499). -/
  down    : Bool
  deriving DecidableEq, Repr

/-- The engine. -/
structure Dma where
  chs     : Vector DmaCh 16
  /-- Pending requests of PRQ0 to PRQ11 (R485). -/
  prq     : List Nat
  /-- The channel granted last at each priority (R491). -/
  granted : List Nat
  events  : Word
  eventEn : Word
  errBits : Word
  errCh   : Nat
  errCode : Nat
  errInsn : Nat
  deriving DecidableEq, Repr

/-! ### The display (R506 to R536) -/

/-- What an update drives: a region, or the whole panel with a ROM screen or a full refresh (R522, R523, R527). -/
inductive Target where
  | region (r : Nat)
  | rom
  | refresh (cause : Nat)
  deriving DecidableEq, Repr

/-- Why a request was made (R525, R527). -/
inductive Why where
  | content | screen
  deriving DecidableEq, Repr

/-- A request or an accepted update (R523 to R526). -/
structure Update where
  target  : Target
  why     : Why
  /-- The panel state of the area is unknown (R526). -/
  unknown : Bool
  clean   : Bool
  /-- Frames driven, 0 until its first frame; and its count and range once it has started. -/
  frame   : Nat
  frames  : Nat
  /-- Its admitted end, SETT ms (R524). -/
  stop    : Nat
  /-- Waveform range in force at its first frame (R514). -/
  range   : Nat
  /-- Its area has been rendered (R523), and it drives its area. -/
  rendered : Bool
  started : Bool
  deriving DecidableEq, Repr

/-- What the gates and sources of the panel do, with the SETT ms at which it began (R507, R509, R510, R529). -/
inductive PanelPhase where
  /-- Nothing is driven. -/
  | off
  /-- The rails come up from t0 (R509). -/
  | up (t0 : Nat)
  /-- A frame, from its boundary. -/
  | frame (start : Nat)
  /-- The frame in progress at t0 of a power failure, from its boundary, with the updates that it drives; a neutral frame and the
  discharge follow it (R529). -/
  | last (start : Nat) (driven : List Update)
  /-- The neutral frame from t1, and the discharge (R510). -/
  | down (t1 : Nat)
  /-- The discharge at once (R511, R529). -/
  | cut (start : Nat)
  deriving DecidableEq, Repr

/-- The display. -/
structure Disp where
  /-- What drives the panel. -/
  panel    : PanelPhase
  railsOn  : Bool
  /-- The rails come up and are to be checked at step 7 (R509). -/
  ramping  : Bool
  railFault : Bool
  /-- The lockout of R511 runs, and the SETT ms of its rail fault. -/
  lockout  : Bool
  lockMs   : Nat
  ptempFault : Bool
  tempOut  : Bool
  temp     : Int
  internalSrc : Bool
  range    : Nat
  screen   : Nat
  /-- ROM screen shown: 1 audit, 2 UNCONFIGURED, 3 STANDBY, 0 none. -/
  rom      : Nat
  /-- The audit screen stays until KEY_N is pressed (R139). -/
  auditHold : Bool
  /-- SETT ms of the last key press, and of the last STANDBY screen (R522, R528). -/
  keyMs    : Nat
  standbyMs : Nat
  /-- Accepted updates in acceptance order, and held requests in order (R523, R525). -/
  updates  : List Update
  held     : List Update
  /-- SETT ms at which the region's last update started, and the text each region shows or is to show (R521, R525). -/
  lastStart : List (Nat × Nat)
  texts    : List (Nat × List Byte)
  dirty    : Nat
  dirtyFlags : Nat
  /-- A start, a rebuild or a dirty return asks for a full refresh at the next evaluation: its cause (R527). -/
  want     : Option Nat
  /-- Full refreshes completed, last cause, SETT ms of the last one. -/
  count    : Nat
  lastCause : Nat
  lastMs   : Option Nat
  events   : Word
  deriving DecidableEq, Repr
/-! ### The module -/

/-- The state of the ETY40. -/
structure State where
  /-- The commands that wait, first in, first out. -/
  pending : List Instr
  /-- OTP and the factory data. -/
  otp : Otp
  /-- HOARD, its write queue, and SRAM. -/
  mem : Mem
  /-- Fault registers (R578 to R583). -/
  flt : Flt
  /-- Event log and audit trail. -/
  log : EvLog
  /-- Supply, clocks, power states and resets. -/
  pwr : Pwr
  /-- Card, image and MODULE record. -/
  img : Img
  /-- Sequencer, channel window and zero calibration. -/
  meas : Meas
  /-- CH1 to CH40. -/
  chans : Vector Chan 40
  /-- TC1 to TC8. -/
  tcs : Vector Conv 8
  /-- PO1 to PO8. -/
  outs : Vector PulseOut 8
  /-- The valve bridge. -/
  bridge : Bridge
  /-- Tamper recording. -/
  tamper : Tamper
  /-- The real-time clock in SETT. -/
  rtc : Rtc
  /-- The redundant pair. -/
  pair : Pair
  /-- The radio link. -/
  radio : Radio
  /-- Message counters and receive floors. -/
  sec : Sec
  /-- The session contexts. -/
  sess : Sess
  /-- The wired M-Bus slave. -/
  mbus : MBus
  /-- The allocator collector. -/
  alc : Alc
  /-- The host link. -/
  hl : HostLink
  /-- The DMA engine. -/
  dma : Dma
  /-- The display. -/
  disp : Disp
  /-- How many free values the run has drawn: the model's own field, no part of the module. -/
  free : Nat
  deriving DecidableEq, Repr

/-! ### Values at reset -/

/-- An OFF channel. -/
def ChanCfg.off : ChanCfg :=
  { type := .off, trunk := false, options := 0, rtd := 0, burstN := 0, burstCyc := 0, gasIdx := 0, ident := zeros 8,
    pathL := 0, cosPhi := 0, area := 0, window := 0, tofInit := 0, qCut := 0, qHyst := 0, dthetaMin := 0,
    dthetaOn := 0, thetaCool := 0, sigqMin := 0, qMax := 0, valveMv := 0, valveTmax := 0 }

/-- A counter set with nothing counted. -/
def Drive.reset : Drive := { openRun := 0, shortRun := 0, shortOk := 0 }

/-- The flow path after any start, without a calibration record: gain 24 dB, cut active (R182, R203). -/
def Flow.reset : Flow :=
  { pred := none, gain := 4, first := none, burst := none, lastQ := 0, lastQB := 0, failRun := 0, missRun := 0, acquire := false, quietRun := 0,
    validRun := 0, driveA := .reset, driveB := .reset, openOk := 0, stop := false, stopTick := 0, airHist := [], ring := [], flowFault := false,
    cut := true, reverse := false, lowQ := false, air := false, empty := false, tdOpen := false, tdShort := false,
    openWho := 0, shortWho := 0, noEcho := false, clipped := false, qImpl := false, zeroDrift := false,
    templateDrift := false, calMissing := false, calMismatch := false, gasAnom := false, gasRange := false,
    calResult := 0, goodSince := none, cal := none, calDirty := false, fine := [], dcRing := [], rseq := 0, capCtrl := 0, capUse := 0,
    capWritten := 0, capDropped := 0, events := 0#32 }

/-- A step that has gathered nothing. -/
def StepAcc.reset : StepAcc :=
  { samples := [], valid := 0, sumT := 0, sumDt := 0, sumC := 0, good := 0, sumRho := 0, shots := 0, sumSnr := 0,
    sumPeak := 0, minCpr := 15, missed := 0, clipped := false, held := false, capSum := [], capN := 0 }

/-- A zero-tracking window that has gathered nothing. -/
def ZeroTrack.reset : ZeroTrack :=
  { ok := true, n1 := 0, sum1 := 0, n2 := 0, sum2 := 0, vmin := none, vmax := none }

/-- No zero calibration. -/
def ZeroCal.reset : ZeroCal :=
  { running := false, tElec := 0, capSum := [], capN := 0, template := [], n1 := 0, sum1 := 0, n2 := 0, sum2 := 0, sumT := 0, sumRaw := 0,
    sumPeak := 0, sumRho := 0, sumSnr := 0, shots := 0, vmin := none, vmax := none, sumV := 0, nV := 0 }

/-- A good sensor. -/
def Sensor.reset : Sensor := { faulted := false, kind := 0, failRun := 0, goodRun := 0 }

/-- No temperature in force. -/
def Temp.reset : Temp :=
  { sup := .reset, ret := .reset, supConv := none, thetaS := none, thetaR := none, atEdge := none, range := false, rangeWho := 0,
    leak := false, leakWho := 0, leakFail := 0, leakPass := 0 }

/-- Zero BILLING_STATE (R595). -/
def BillState.zero : BillState :=
  { tariffNext := 0, dflags := 0, subIdx := 0, pflags := 0, subStart := 0, profHour := 0, subE := 0, subV := 0,
    maxP := 0, maxQ := 0, maxPTime := 0, maxQTime := 0, profTicks := 0, periodStart := 0, profTicksT := 0,
    profE0 := 0, profC0 := 0, profV0 := 0, profQmax := 0, sumS := 0, sumR := 0 }

/-- Zero CREDIT_STATE (R595). -/
def CreditState.zero : CreditState :=
  { credit := 0, rem := 0, cflags := 0, cstate := 0, faultHours := 0, tokenHigh := 0, tokenWindow := 0, topups := 0 }

/-- Zero VALVE_STATE (R595). -/
def ValveState.zero : ValveState :=
  { position := 0, fault := 0, pending := 0, source := 0, ticket := 0, elapsed := 0, flags := 0, lastMove := 0 }

/-- An absent TOTALS record (R595): zero totals, no temperature, TARIFF 1. -/
def Work.absent : Work :=
  { stepTick := 0, stepTime := 0, flags := 0, hcMode := 0, tariff := 1, stepLen := 0, qLast := 0, thetaS := none,
    thetaR := none, thetaV := none, eHeat := 0, eCool := 0, eHeatT := [0, 0, 0, 0], eCoolT := [0, 0, 0, 0], vFwd := 0,
    vRev := 0, eCond1 := 0, eCond2 := 0, eSubst := 0, vSubst := 0, vBase := 0, eGas := 0, remVFwd := 0, remVRev := 0,
    remEHeat := 0, remECool := 0, remVBase := 0, remEGas := 0, remESub := 0, remVSub := 0, tFlowFault := 0,
    tTempFault := 0, tLowDt := 0, tNegDt := 0, bill := .zero, credit := .zero, valve := .zero }

/-- The window values before a step has closed: every field 0, the totals of an absent record. -/
def Shown.reset : Shown :=
  { status := 0, flow := 0, tofMean := 0, tofDiff := 0, c := 0, signal := 0, gas := 0, zero := 0, tempS := none,
    tempR := none, power := 0, tariff := 0, totals := [0, 0, 0, 0, 0], maxima := [0, 0, 0, 0], credit := 0 }

/-- A valve with no history. -/
def Valve.reset : Valve := { hist := [], lastEnd := 0, movedRun := 0, opposite := none, lastMoveS := 0 }

/-- Ring areas that hold nothing. -/
def Snap.reset : Snap := { keyM := none, keyA := none, seqM := 0, seqA := 0, profSeq := 0 }

/-- A channel before any start. DESIGN CHOICE, log entry 2. -/
def Chan.reset : Chan :=
  { flow := .reset, acc := .reset, late := .reset, track := .reset, zcal := .reset, temp := .reset, a := .absent, b := .absent,
    stepStart := 0, carry := none, gap := none, lost := false, heldTick := none, merged := false, owed := false, behind := [],
    subFresh := false, ring := [],
    stepped := false, hourHeat := false, hourCool := false, faultHour := true, tarEval := (0, 0, false, false), snap := .reset, valve := .reset, shown := .reset,
    token := none }

/-- A check that has seen nothing. -/
def Check.reset : Check := { failRun := 0, passRun := 0, holds := false }

/-- Converter k before any gain sample; R_REF is the factory value. DESIGN CHOICE, log entries 5 and 16. -/
def Conv.reset (k : Nat) : Conv :=
  { ref100 := (Config.converter k).1, ref1k := (Config.converter k).2.1, gain100 := [], gain1k := [], drift := .reset,
    cross := .reset, zero := .reset, gain := .reset }

/-- A pulse output that is open with nothing waiting. -/
def PulseOut.reset : PulseOut := { closed := false, waiting := [], last := none, backlog := false }

/-- An idle bridge. -/
def Bridge.reset : Bridge := { moving := none, since := 0, queue := [], next := 1 }

/-- The absent MODULE record (R595). -/
def ModuleRec.absent : ModuleRec :=
  { commissioned := false, commissionTime := 0, pcc := 0, acceptedSeq := 0, digest := zeros 32, lDigest := zeros 32,
    bDigest := zeros 32, oDigest := zeros 32, refused := zeros 32, lastLTime := 0, moduleIdent := zeros 8,
    chIdent := zeros 320, radioLast := zeros 3 }

/-- No card read and no decision. -/
def Img.reset : Img :=
  { image := none, cardPresent := false, accepted := false, result := 0, section_ := 0, chgL := false, chgB := false,
    chgO := false, module_ := .absent, restarts := 0, unreadable := false, failByte := 0, commissioning := false,
    unconfLogged := false }

/-- The sequencer before the first tick; CHSEL resets to 1 and the window to 0 (R175). -/
def Meas.reset : Meas :=
  { tick := 0, started := false, overrun := 0, commitsDue := false, lastCh := 0, degAt := none, chsel := 1, window := List.replicate 32 0,
    calChans := [], calPhase := 0, calDur := 0, calTick := none, calCut := [], test := false, testTick := 0, testOver := false }

/-- Nothing tampered with. -/
def Tamper.reset : Tamper :=
  { coverOpen := false, tcoverOpen := false, cardOut := false, disc := [], linkLost := false, latch := [],
    cardSeen := 0, events := 0#32 }

/-- SETT without power: the RTC at 0 (R346). DESIGN CHOICE, log entry 2. DEDUCED, log entry 3. -/
def Rtc.reset : Rtc :=
  { count := 0, subBase := 0, slewPhase := 0, osf := false, osfCause := 0, osfPend := [], halt := false, heldCount := 0, heldSub := 0, haltMs := 0,
    pendDate := none, pendTime := none, latched := false, latch := [0, 0, 0, 0], slew := 0, slewUsed := 0,
    slewDay := 0, badWrite := false, slewRefused := false, autoRelease := false, stepped := false, adjLog := [],
    loadDay := 0, settLost := true }

/-- Factory memories: HOARD with every sequence word 0 (R595). -/
def Mem.reset : Mem := { hoard := [], queue := [], soft := [], bad := [], sram := [], parity := [] }

/-- The fault registers at reset: SCRUB_AGE 255, all else 0 (R578). DESIGN CHOICE, log entry 2. -/
def Flt.reset : Flt :=
  { moduleLost := false, totalsLost := [], securityLost := false, otherLost := false, scrubbing := false,
    scrubAge := 255, events := 0#32, corr := 0, corrScrub := 0, uncorr := 0, parCount := 0, parBanks := 0,
    dmrCount := 0, dmrCh := 0, dmrWord := 0, lastAddr := 0, lastKind := 0, lastReader := 0, dmrPending := false }

/-- An event log and an audit trail with no entry. -/
def EvLog.reset : EvLog := { next := 1, hour := 0, counts := [], muted := [], auditNext := 1, auditLast := none }

/-- The straps as they read when all are open (R36). DESIGN CHOICE, log entry 4. -/
def strapsOpen : StrapLevels := { role1 := true, role0 := true, hostmode := true, haddr := 7#3 }

/-- The supply and the clocks of a module as it leaves the factory: SHIPPING, in Off (R4).
DESIGN CHOICE, log entries 2 and 4. -/
def Pwr.reset : Pwr :=
  { mode := .shipping, state := .off, phase := .inReset, vbusOk := false, vbusOv := false, storeRdy := false,
    storeWaived := false, onCell := false, cellPresent := false, belowWarn := false, nvInhibit := false,
    vioHost := false, pfActive := false, pfStep := 0, pfAt := 0, pfStoreBad := false, pfCommit := false, storeV := 0, vbusMv := 0, vbatMv := 0,
    loadMv := 0, events := 0#32, chargeUah := 0, remNc := 0, replaced := 0, chgFlags := 0, chargeMs := 0,
    cellGone := 0, cellCheck := false, holdReturn := false, holdLogged := false, lastState := 0, lastWake := 0,
    lastExit := 0, retSel := 0, retFail := 0, rebuilt := 0, cardReread := false, sigs := [], wakes := [],
    rootOk := false, settRun := false, trimValid := false, trimLimit := false, trim := 0, measAge := 255,
    rootStopped := true, rootFails := 0, cause := 0, warmCount := 0, warmCause := none, warmTick := 0, warmGap := false,
    shipping := false, wakeHeld := false, settNew := false, straps := strapsOpen, strapRole := 0, peerOkOut := false, lastHostMs := 0,
    lastBusMs := 0, failSilent := false, failCause := 0 }

/-- No pair: SOLO, nothing sent or received. DESIGN CHOICE, log entry 2. -/
def Pair.reset : Pair :=
  { active := false, phase := 0, peerActive := false, ready := false, linkFault := false, cableOpen := false, cableLost := false,
    peerOkIn := false, harness := false, peerOnCell := false, peerVbus := false, switching := false, refuse := 0,
    barred := false, heard := false, heardMs := 0, failedHeard := false, peerSerial := 0, peerEpoch := 0, ackSeq := 0,
    record := { epoch := 0, serial := 0, takeovers := 0, flags := 0 }, txSeq := 0, rxSeq := 0, missing := [],
    ahead := [], store := [], waiting := [], line := [], syncTodo := [], syncTotal := 0, syncEnd := none, pairedAt := 0, rising := none,
    handTick := none, peerHand := none, switchAt := 0, pfWait := false, pfSince := 0, pfLeft := [], pulsesIn := [], peerEvents := [], gapMs := 0,
    crcErrors := 0, resends := 0, resendFail := 0, events := 0#32 }

/-- A silent radio with nothing queued. DESIGN CHOICE, log entry 2. -/
def Radio.reset : Radio :=
  { queue := [], bins := [], txStart := 0, txEnd := 0, txDbm := 0, window := none, winDue := false, lastFrame := [], rx := [],
    answer := none, phases := [], catchUps := [], snaps := [], alarms := [], alarmAt := none, offered := none, rejected := 0, discarded := 0,
    lastCause := 0, frames := 0, crcErr := 0, dropped := 0, high := false, events := 0#32 }

/-- The factory SECURITY record: every TX_LIMIT 1, every RX_FLOOR 0 (R402). -/
def Sec.reset : Sec :=
  { next := List.replicate 41 1, limit := List.replicate 41 1, peer := List.replicate 41 1, acc := List.replicate 41 1,
    floor := List.replicate 32 0 }

/-- A FREE context. -/
def Ctx.reset : Ctx :=
  { st := .free, partner := .busMaster, identity := 0, key := 0, mcr := 0, acc := 0, cmd := 0, args := [], done := none,
    frame := [], since := 0, order := 0 }

/-- Every context FREE (R403). -/
def Sess.reset : Sess :=
  { inbox := [], ctxs := Vector.replicate 24 Ctx.reset, order := 0, evictions := 0, dups := 0, busy := 0, authFail := 0, replays := 0 }

/-- No frame heard on the bus. -/
def MBus.reset : MBus :=
  { baud := 0, selected := none, last := none, direct := none, out := [], collision := false, frameErr := 0, answered := 0 }

/-- Nothing collected. -/
def Alc.reset : Alc := { run := none, refusals := [], strangers := [], cursor := 0, refused := 0 }

/-- The host link at OBSERVE; `MOD_EVENT_EN` bit 18 resets to 1 (R453, R468). -/
def HostLink.reset : HostLink :=
  { wbuf := [], service := false, challenge := none, chalCount := 0, fails := 0, lockedOut := false, lockUntil := 0, goodMs := 0, status := 0#32,
    crcErr := 0, aborted := 0, malformed := 0, credit := 0, next := 0, count := 0, fly := [], dropped := 0, events := 0#32,
    eventEn := 0x40000#32, arg := 0, taken := none, result := 0, running := false, discarded := false,
    duplicate := false, linkDue := 0, out := [] }

/-- A stopped channel. DESIGN CHOICE, log entry 2. -/
def DmaCh.reset : DmaCh :=
  { run := false, pc := 0, prio := 0, ctr0 := none, ctr1 := none, crc := none, latches := 0, service := none,
    move := none, wait := none, wrote := none, stagePc := 0, stagePrio := 0, armed := none, stop := false, quiet := false, err := 0,
    restart := false, down := false }

/-- The engine with every channel stopped; the round robin starts at DC0 (R491). -/
def Dma.reset : Dma :=
  { chs := Vector.replicate 16 DmaCh.reset, prq := List.replicate 12 0, granted := [15, 15, 15, 15], events := 0#32,
    eventEn := 0#32, errBits := 0#32, errCh := 0, errCode := 0, errInsn := 0 }

/-- A dark panel. -/
def Disp.reset : Disp :=
  { panel := .off, railsOn := false, ramping := false, railFault := false, lockout := false, lockMs := 0, ptempFault := false, tempOut := false,
    temp := 0, internalSrc := false, range := 0, screen := 0, rom := 0, auditHold := false, keyMs := 0, standbyMs := 0,
    updates := [], held := [], lastStart := [], texts := [], dirty := 0, dirtyFlags := 0, want := none, count := 0,
    lastCause := 0, lastMs := none, events := 0#32 }

/-- What OTP holds: the constants of Config. DESIGN CHOICE, log entry 5. -/
def Otp.factory : Otp :=
  { a169 := Config.a169, customerKey := some Config.customerKey, uniqueKey := Config.uniqueKey,
    serial := Config.serial % 2 ^ 64,
    converters := (List.range 8).map Config.converter }

/-- The module as it leaves the factory (R4, R595). -/
def State.reset : State :=
  { pending := [],
    otp := Otp.factory,
    mem := Mem.reset,
    flt := Flt.reset,
    log := EvLog.reset,
    pwr := Pwr.reset,
    img := Img.reset,
    meas := Meas.reset,
    chans := Vector.replicate 40 Chan.reset,
    tcs := #v[Conv.reset 0, Conv.reset 1, Conv.reset 2, Conv.reset 3, Conv.reset 4, Conv.reset 5, Conv.reset 6, Conv.reset 7],
    outs := Vector.replicate 8 PulseOut.reset,
    bridge := Bridge.reset,
    tamper := Tamper.reset,
    rtc := Rtc.reset,
    pair := Pair.reset,
    radio := Radio.reset,
    sec := Sec.reset,
    sess := Sess.reset,
    mbus := MBus.reset,
    alc := Alc.reset,
    hl := HostLink.reset,
    dma := Dma.reset,
    disp := Disp.reset,
    free := 0 }

end Sys2Proof.Machine
end

