-- ==== Sys2Proof/Machine/Ops.lean ====
section
/-! DEFINITION. The named operations over the state: channels, HOARD records and their queue (R63 to R65, R566), the event
log (R306, R307), the audit trail (R140) and the fault registers (R567, R578). -/

namespace Sys2Proof.Machine

/-- The outcome of a step of this machine. -/
abbrev Out := Host.Outcome State Fault Refusal

/-! ### Access to the parts of the state -/

/-- Element i of a vector, else d. -/
def vget {α : Type} {n : Nat} (v : Vector α n) (i : Nat) (d : α) : α := (v.toArray[i]?).getD d

/-- Channel n, 1 to 40. -/
def State.ch (s : State) (n : Nat) : Chan := vget s.chans (n - 1) Chan.reset

/-- Put channel n. -/
def State.setCh (s : State) (n : Nat) (c : Chan) : State := { s with chans := s.chans.setIfInBounds (n - 1) c }

/-- Apply f to channel n. -/
def State.onCh (s : State) (n : Nat) (f : Chan → Chan) : State := s.setCh n (f (s.ch n))

/-- Channels 1 to 40, in order. -/
def allCh : List Nat := (List.range 40).map (· + 1)

/-- Apply f to the state for each channel of a list, in order. -/
def State.forCh (s : State) (l : List Nat) (f : Nat → State → State) : State := l.foldl (fun t n => f n t) s

/-- Converter k, 1 to 8. -/
def State.tc (s : State) (k : Nat) : Conv := vget s.tcs (k - 1) (Conv.reset (k - 1))

/-- Put converter k. -/
def State.setTc (s : State) (k : Nat) (c : Conv) : State := { s with tcs := s.tcs.setIfInBounds (k - 1) c }

/-- Pulse output k, 1 to 8. -/
def State.out (s : State) (k : Nat) : PulseOut := vget s.outs (k - 1) PulseOut.reset

/-- Put pulse output k. -/
def State.setOut (s : State) (k : Nat) (p : PulseOut) : State := { s with outs := s.outs.setIfInBounds (k - 1) p }

/-- The CHANNEL section of channel n; OFF without an accepted image. -/
def State.cfg (s : State) (n : Nat) : ChanCfg :=
  match s.img.image with
  | none => ChanCfg.off
  | some im => if 1 ≤ n ∧ n ≤ 40 then vget im.chans (n - 1) ChanCfg.off else ChanCfg.off

/-- The channels that are not OFF. -/
def State.activeCh (s : State) : List Nat := allCh.filter fun n => decide ((s.cfg n).type ≠ .off)

/-- The key of an index in the image's key set (R124). -/
def Image.keyOf (im : Image) (index use : Nat) : Option (List Byte) :=
  (im.keys.find? fun k => k.index == index && k.use == use).map (·.key)

/-- Draw a free value: its number, and the state that has drawn it. DESIGN CHOICE, log entry 11. -/
def State.draw (s : State) : Nat × State := (s.free, { s with free := s.free + 1 })

/-- Apply f to the supply group. -/
def State.onPwr (s : State) (f : Pwr → Pwr) : State := { s with pwr := f s.pwr }

/-- Apply f to the fault registers. -/
def State.onFlt (s : State) (f : Flt → Flt) : State := { s with flt := f s.flt }

/-- Apply f to the memories. -/
def State.onMem (s : State) (f : Mem → Mem) : State := { s with mem := f s.mem }

/-- Apply f to the log. -/
def State.onLog (s : State) (f : EvLog → EvLog) : State := { s with log := f s.log }

/-- Apply f to the image group. -/
def State.onImg (s : State) (f : Img → Img) : State := { s with img := f s.img }

/-- Apply f to the sequencer. -/
def State.onMeas (s : State) (f : Meas → Meas) : State := { s with meas := f s.meas }

/-- Apply f to tamper recording. -/
def State.onTamper (s : State) (f : Tamper → Tamper) : State := { s with tamper := f s.tamper }

/-- Apply f to the RTC. -/
def State.onRtc (s : State) (f : Rtc → Rtc) : State := { s with rtc := f s.rtc }

/-- Apply f to the bridge. -/
def State.onBridge (s : State) (f : Bridge → Bridge) : State := { s with bridge := f s.bridge }

/-- A result in a signed 32-bit field. DESIGN CHOICE, log entry 21. -/
def fitInt (x : Int) : Int := if -(2 ^ 31) ≤ x ∧ x < 2 ^ 31 then x else (Config.outside32 x).toInt

/-- A result in an unsigned field of 32 bits, or of 31 where the field is read as signed (`top` is its first value that does not fit).
DESIGN CHOICE, log entry 21. -/
def fitNat (top x : Nat) : Nat := if x < top then x else (Config.outside32 x).toNat

/-- Set bits of an event word (R9). -/
def setBits (w : Word) (mask : Nat) : Word := w ||| BitVec.ofNat 32 mask

/-- Clear the bits that a write of 1 clears (R8, W1C). -/
def clearBits (w v : Word) : Word := w &&& ~~~v

/-- Cycles of CLK_BUS in a tick (R153). -/
def tickCycles : Nat := 2400000

/-- An instant on the tick grid, in CLK_BUS cycles: cyc cycles after the edge of the tick the state stands in. -/
def State.grid (s : State) (cyc : Nat) : Nat := s.meas.tick * tickCycles + cyc

/-- The grid instant of the last tick edge. -/
def State.edge (s : State) : Nat := s.meas.tick * tickCycles

/-! ### Records in HOARD -/

/-- The bytes of a two-slot record's slot with sequence number q: sequence word, body, CRC word (R63). -/
def slotBytes (q : Nat) (body : List Byte) : List Byte :=
  let b := le 8 q ++ body
  b ++ le 8 (crc32 b).toNat

/-- Whether a word of HOARD from address a, n bytes long, is marked uncorrectable (R567). -/
def Mem.badIn (m : Mem) (a n : Nat) : Bool := m.bad.any fun w => decide (a ≤ w ∧ w < a + n)

/-- The sequence number of a slot. -/
def Mem.slotSeq (m : Mem) (a : Nat) : Nat := m.hoard.readLE a 4

/-- Whether the slot of n bytes at a is valid (R63). -/
def Mem.slotValid (m : Mem) (a n : Nat) : Bool :=
  let q := m.slotSeq a
  q != 0 && !m.badIn a n &&
    (let bs := m.hoard.readBytes a (n - 8)
     m.hoard.readLE (a + n - 8) 4 == (crc32 bs).toNat)

/-- What a start finds of a record (R63, R595). -/
inductive Found where
  | absent
  | lost
  | body (bytes : List Byte)
  deriving DecidableEq, Repr

/-- Read a two-slot record whose slots are n bytes (R63, R65, R595): the body without sequence and CRC words. -/
def Mem.readSlots (m : Mem) (a b n : Nat) : Found :=
  let va := m.slotValid a n
  let vb := m.slotValid b n
  let body (x : Nat) : Found := .body (m.hoard.readBytes (x + 8) (n - 16))
  if va && vb then (if m.slotSeq b < m.slotSeq a then body a else body b)
  else if va then body a
  else if vb then body b
  else if m.slotSeq a != 0 || m.slotSeq b != 0 then .lost else .absent

/-- The sequence number that counts for the choice of slot: 0 for a slot that is not valid (R566). -/
def Mem.seqOrZero (m : Mem) (a n : Nat) : Nat := if m.slotValid a n then m.slotSeq a else 0

/-- Slots of SNAP_MONTHLY, SNAP_ANNUAL, PROFILE and ALLOCATORS (R143): the addresses of their sequence words. -/
def billingSlots : List Nat :=
  let row (base n size : Nat) : List Nat := (List.range n).map fun i => base + size * i
  row 0x120000 960 256 ++ row 0x160000 640 256 ++ row 0x190000 29760 16 ++ row 0x240000 962 64

/-- The word writes that carry out a queued record, in order: address and eight bytes (R63, R303). A slot that is not valid counts as
number 0, so with no valid slot the numbering starts at 1 again. DESIGN CHOICE, log entry 154. -/
def Mem.recWrites (m : Mem) (r : HoardRec) : List (Nat × List Byte) :=
  let words (a : Nat) (bs : List Byte) : List (Nat × List Byte) :=
    (List.range (bs.length / 8)).map fun i => (a + 8 * i, slice bs (8 * i) 8)
  let fourPart (a q : Nat) : List (Nat × List Byte) :=
    let full := slotBytes q r.body
    (a, zeros 8) :: words (a + 8) (full.drop 8) ++ [(a, le 8 q)]
  match r.kind with
  | .slots a b =>
    let n := r.body.length + 16
    let qa := m.seqOrZero a n
    let qb := m.seqOrZero b n
    if qa ≤ qb then fourPart a (qb + 1) else fourPart b (qa + 1)
  | .single a q => fourPart a q
  | .entry a => words a r.body
  | .raw a => (a, zeros 8) :: words (a + 8) (r.body.drop 8) ++ [(a, r.body.take 8)]
  | .profile a => [(a, zeros 3 ++ slice r.body 3 5), (a + 8, slice r.body 8 8), (a, slice r.body 0 8)]
  | .clear => (billingSlots.filter fun a => m.hoard.readLE a 8 != 0 || m.soft.contains a || m.bad.contains a).map fun a => (a, zeros 8)

/-- Write one word; its error marks go (R49). -/
def Mem.writeWord (m : Mem) (w : Nat × List Byte) : Mem :=
  { m with hoard := m.hoard.writeBytes w.1 w.2, soft := m.soft.filter (· != w.1), bad := m.bad.filter (· != w.1) }

/-- Write out the head of the queue (R63). -/
def Mem.writeHead (m : Mem) : Mem :=
  match m.queue with
  | [] => m
  | r :: t => (m.recWrites r).foldl Mem.writeWord { m with queue := t }

/-- Write out n records of the queue. -/
def Mem.drainN (n : Nat) (m : Mem) : Mem :=
  match n with
  | 0 => m
  | k + 1 => Mem.drainN k m.writeHead

/-- Write out the whole queue. -/
def Mem.drain (m : Mem) : Mem := Mem.drainN m.queue.length m

/-- Whether writes to HOARD can land: the VBAT_NVW inhibit does not hold (R48). -/
def State.canLand (s : State) : Bool := !s.pwr.nvInhibit || s.mem.queue.isEmpty

/-- Let the queue drain. -/
def State.drain (s : State) : State := s.onMem Mem.drain

/-! ### The Movor store and mirroring (R542, R546) -/

/-- Apply f to the pair group. -/
def State.onPair (s : State) (f : Pair → Pair) : State := { s with pair := f s.pair }

/-- Whether the module is the active member: a SOLO module always is (R37, R537); a fail-silent one never (R556). -/
def State.active (s : State) : Bool := !s.pwr.failSilent && (s.pwr.strapRole == 0 || s.pair.active)

/-- The bytes that a frame takes on the link (R540). -/
def MovorFrame.size (f : MovorFrame) : Nat := 12 + (f.payload.length + 3) / 4 * 4 + 4

/-- The bytes of the store in use (R542). DEDUCED, log entry 68. -/
def Pair.stored (p : Pair) : Nat := (p.store.map MovorFrame.size).foldl (· + ·) 0

/-- Put a frame into the store and on the line, if it fits; else it waits (R542). DEDUCED, log entries 68 and 112. -/
def Pair.send (type : Nat) (payload : List Byte) (p : Pair) : Pair :=
  let f : MovorFrame := { seq := p.txSeq + 1, type := type, payload := payload }
  if p.waiting.isEmpty && decide (p.stored + f.size ≤ 24576) then { p with txSeq := p.txSeq + 1, store := p.store ++ [f] }
  else { p with waiting := p.waiting ++ [{ f with seq := 0 }] }

/-- Put a frame behind those that wait, whatever the store holds: mirrored records follow POWER_FAIL (R554). -/
def Pair.defer (type : Nat) (payload : List Byte) (p : Pair) : Pair :=
  { p with waiting := p.waiting ++ [{ seq := 0, type := type, payload := payload }] }

/-- Put the frames that wait into the store as space allows, in order (R542). -/
def Pair.flushN (n : Nat) (p : Pair) : Pair :=
  match n with
  | 0 => p
  | k + 1 =>
    match p.waiting with
    | [] => p
    | f :: t =>
      if p.stored + f.size ≤ 24576 then
        Pair.flushN k { p with txSeq := p.txSeq + 1, store := p.store ++ [{ f with seq := p.txSeq + 1 }], waiting := t }
      else p

/-- Put the frames that wait into the store as space allows. -/
def Pair.flush (p : Pair) : Pair := p.flushN p.waiting.length

/-- The address that names a record. -/
def HoardRec.addr (r : HoardRec) : Nat :=
  match r.kind with
  | .slots a _ => a
  | .single a _ => a
  | .entry a => a
  | .profile a => a
  | .raw a => a
  | .clear => 0x120000

/-- Whether the active member mirrors a record: every one but the cell charge and the DISPLAY area (R546). -/
def mirrored (a : Nat) : Bool := !(decide (0x100800 ≤ a ∧ a < 0x100880)) && decide (a < 0x260000)

/-- The payload of a RING frame: the channel and its sub-intervals, newest first (R541). -/
def ringPayload (n : Nat) (ring : List (Nat × Nat)) : List Byte :=
  le 1 n ++ zeros 3 ++ ring.flatMap fun e => le 8 e.1 ++ le 8 e.2

/-- The slot body of a record between its SEQ and CRC words (R541). -/
def HoardRec.mirrorBody (r : HoardRec) : List Byte :=
  match r.kind with
  | .raw _ => slice r.body 8 (r.body.length - 16)
  | .slots _ _ | .single _ _ | .entry _ | .profile _ | .clear => r.body

/-- The frames that mirror a record: RECORD, and RING with a TOTALS record (R546). Those of the final commit wait for
POWER_FAIL (R554). -/
def State.mirror (r : HoardRec) (s : State) : State :=
  let a := r.addr
  let post := if s.pwr.pfActive then Pair.defer else Pair.send
  if s.pair.phase < 2 ∨ !s.active ∨ !mirrored a then s
  else
    let s1 := s.onPair (post 3 (le 3 a ++ zeros 1 ++ r.mirrorBody))
    if 0x110000 ≤ a ∧ a < 0x11A000 then
      let n := (a - 0x110000) / 1024 + 1
      s1.onPair (post 4 (ringPayload n (s.ch n).ring))
    else s1

/-- Hand a record to the HOARD write queue, and to the peer where it is mirrored (R546). -/
def State.enqueue (r : HoardRec) (s : State) : State :=
  (s.onMem fun m => { m with queue := m.queue ++ [r] }).mirror r

/-- The queue's bound (R168). -/
def queueBound : Nat := 64

/-! ### The fault registers -/

/-- An uncorrectable HOARD word has been read (R567): counters, address, kind and reader (R583). -/
def State.hoardUncorr (addr reader : Nat) (s : State) : State :=
  s.onFlt fun f => { f with
    uncorr := Word.sat 65535 (f.uncorr + 1), lastAddr := addr, lastKind := 1, lastReader := reader,
    events := setBits f.events 2 }

/-- A HOARD word has been corrected (R567). -/
def State.hoardCorr (scrub : Bool) (s : State) : State :=
  s.onFlt fun f => { f with
    corr := Word.sat 65535 (f.corr + 1), corrScrub := Word.sat 65535 (f.corrScrub + Word.ofBool scrub),
    events := setBits f.events 1 }

/-- Account for the error marks that a read of n bytes at a meets (R567). DESIGN CHOICE, log entry 17. -/
def State.hoardRead (a n reader : Nat) (s : State) : State :=
  let hit (w : Nat) : Bool := decide (a < w + 8 ∧ w < a + n)
  let s1 := (s.mem.soft.filter hit).foldl (fun t _ => t.hoardCorr false) s
  (s.mem.bad.filter hit).foldl (fun t w => t.hoardUncorr w reader) s1

/-- A read of n bytes of SRAM at a meets a parity error (R569). -/
def Mem.parityIn (m : Mem) (a n : Nat) : Bool := m.parity.any fun x => decide (a ≤ x ∧ x < a + n)

/-- Account for the parity errors that a read of n bytes of SRAM at a meets (R569). DESIGN CHOICE, log entry 17. -/
def State.sramRead (a n reader : Nat) (s : State) : State :=
  let hit (x : Nat) : Bool := decide (a ≤ x ∧ x < a + n)
  (s.mem.parity.filter hit).foldl (fun t x => t.onFlt fun f => { f with
    parCount := Word.sat 65535 (f.parCount + 1), parBanks := f.parBanks ||| 2 ^ (x / 65536), lastAddr := x,
    lastKind := 2, lastReader := reader, events := setBits f.events 4 }) s

/-- A frame is read from the buffers of B3, below the stranger table of R430, by a reader (R569). DESIGN CHOICE, log entry
166. -/
def State.frameRead (reader : Nat) (s : State) : State := s.sramRead 0x30000 0xF000 reader

/-- The buffers of B3 hold a parity error: the session engine and the parser discard the frame (R569). -/
def State.frameSpoilt (s : State) : Bool := s.mem.parityIn 0x30000 0xF000

/-- The session engine or the parser discards a frame; its buffer is free, and its errors go with it (R569). DESIGN CHOICE, log
entry 166. -/
def State.frameDiscard (s : State) : State :=
  (s.frameRead 8).onMem fun m => { m with parity := m.parity.filter fun x => decide (x < 0x30000 ∨ 0x3F000 ≤ x) }

/-! ### The event log -/

/-- An entry of n bytes and its CRC-32. -/
def withCrc (n : Nat) (body : List Byte) : List Byte :=
  let b := padTo n body
  b ++ le 4 (crc32 b).toNat

/-- The 32 bytes of an event entry (R306). -/
def eventBytes (seq time flags code ch : Nat) (data : List Byte) : List Byte :=
  withCrc 28 (le 4 seq ++ le 5 time ++ le 1 flags ++ le 2 code ++ le 1 ch ++ zeros 3 ++ padTo 12 data)

/-- Where the event entry with a sequence number lies (R306). -/
def eventAddr (seq : Nat) : Nat := 0x210000 + 32 * ((seq - 1) % 4096)

/-- FLAGS bit 0: the time is untrusted (R286, R306). -/
def State.untrusted (s : State) : Nat := Word.ofBool s.rtc.osf

/-- Write an event entry with the given time and further flags. A paired passive member sends the occurrence to its peer
instead; an unpaired member of a pair keeps a copy for its next pairing (R547). -/
def State.writeEvent (time flags code ch : Nat) (data : List Byte) (s : State) : State :=
  let e := eventBytes s.log.next time (flags + s.untrusted) code ch data
  if 2 ≤ s.pair.phase ∧ !s.pair.active then s.onPair (Pair.send 11 e)
  else
    let s1 := if s.pair.phase = 1 then s.onPair fun p => { p with peerEvents := p.peerEvents ++ [e] } else s
    (s1.onLog fun l => { l with next := l.next + 1 }).enqueue { kind := .entry (eventAddr s.log.next), body := e }

/-- How many onsets of a code and channel the hour has had. -/
def onsets (code ch : Nat) (l : List (Nat × Nat × Nat)) : Nat :=
  match l.find? fun e => e.1 == code && e.2.1 == ch with
  | none => 0
  | some e => e.2.2

/-- Count one more onset. -/
def addOnset (code ch : Nat) (l : List (Nat × Nat × Nat)) : List (Nat × Nat × Nat) :=
  (code, ch, onsets code ch l + 1) :: l.filter fun e => !(e.1 == code && e.2.1 == ch)

/-- The hour number of the RTC (R302). -/
def State.hour (s : State) : Nat := s.rtc.count / 3600

/-- At the first occurrence of another hour number, log what was suppressed and start fresh counts (R307). -/
def State.rollHour (s : State) : State :=
  if s.log.hour = s.hour then s
  else
    let excess := s.log.counts.filter fun e => decide (8 < e.2.2)
    let s1 := excess.foldl (fun t e => t.writeEvent t.rtc.count 0 0xF0 e.2.1 (le 2 e.1 ++ le 2 (e.2.2 - 8))) s
    s1.onLog fun l => { l with hour := s.hour, counts := [] }

/-! ### Alarm conditions (R397) -/

/-- The alarm condition whose onset an event is: whether it is a channel's, its number k, and whether it is a trigger. -/
def alarmOf (code : Nat) (data : List Byte) : Option (Bool × Nat × Bool) :=
  match code with
  | 0x40 => some (true, 0, true)
  | 0x50 => some (true, 1, true)
  | 0x83 => some (true, 2, true)
  | 0x72 => some (true, 3, true)
  | 0x90 => if fieldAt data 0 1 = 3 then some (true, 4, true) else none
  | 0x97 => some (true, 4, true)
  | 0x4C => some (true, 5, true)
  | 0x49 => some (true, 6, false)
  | 0x4A | 0x4B => some (true, 7, false)
  | 0x80 => some (false, 0, true)
  | 0x81 => some (false, 1, true)
  | 0x82 => some (false, 2, true)
  | 0x84 => some (false, 3, true)
  | 0x13 => some (false, 4, true)
  | 0x23 => some (false, 6, true)
  | 0x04 => some (false, 7, true)
  | 0xA0 => some (false, 8, true)
  | 0x62 | 0x63 => some (false, 9, true)
  | _ => none

/-- The draw of R369 from the unique key: a tag, entry, grid and further bytes. -/
def gridDraw (key : List Byte) (tag : List Nat) (t g : Nat) (more : List Byte) : Nat :=
  fieldAt (aesEncrypt key (padTo 16 (tag.map (BitVec.ofNat 8) ++ le 1 t ++ le 1 g ++ more))) 0 4

/-- The numerator u · 2^32 of the jitter draw for a count (R369). DEDUCED, log entry 37. -/
def State.jitterDraw (t g count : Nat) (s : State) : Nat := gridDraw s.otp.uniqueKey [0x45, 0x54, 0x59, 0x4A] t g (le 5 count)

/-- The RTC ms at which an offer of entry t is due whose cause falls in the present second: the delay is u × `span` ms (R370, R371).
DEDUCED, log entry 37. -/
def State.drawnDelay (t g span : Nat) (s : State) : Nat :=
  1000 * s.rtc.count + s.jitterDraw t g s.rtc.count * span / 2 ^ 32

/-- Change what a KIND 5 entry keeps. -/
def onAlarm (t : Nat) (f : AlarmState → AlarmState) (l : List AlarmState) : List AlarmState :=
  let old : AlarmState := (l.find? fun a => a.entry == t).getD { entry := t, since := 0, last := none, due := none }
  f old :: l.filter fun a => a.entry != t

/-- The KIND 5 entries of a channel number, 0 for the module. -/
def Image.alarmEntries (im : Image) (n : Nat) : List Nat :=
  (List.range im.telegrams.length).filter fun t => match im.telegrams[t]? with
    | none => false
    | some e => e.kind == 5 && e.ch == n

/-- A trigger of entry t (R371): within 600 s of the previous alarm offer it is merged into one offer 600 s after it; else the offer
comes after the drawn delay. A trigger that finds an offer still to come is merged with it. DEDUCED, log entry 37. -/
def State.alarmDue (t : Nat) (a : AlarmState) (s : State) : Nat :=
  let now := 1000 * s.rtc.count
  let fresh := match a.last with
    | none => s.drawnDelay t 0 10000
    | some l => if now < l + 600000 then l + 600000 else s.drawnDelay t 0 10000
  match a.due with
  | none => fresh
  | some d => if now < d + 2000 then d else fresh

/-- An onset of condition k of channel n, 0 for the module (R371, R397). -/
def State.alarmMark (n k : Nat) (trigger : Bool) (s : State) : State :=
  match s.img.image with
  | none => s
  | some im => { s with radio := { s.radio with
      alarms := (im.alarmEntries n).foldl (fun l t => onAlarm t (fun a =>
        { a with since := a.since ||| 2 ^ k, due := if trigger then some (s.alarmDue t a) else a.due }) l) s.radio.alarms } }

/-- Count the onset of an event as an alarm condition. -/
def State.alarmOnset (code ch : Nat) (data : List Byte) (s : State) : State :=
  match alarmOf code data with
  | none => s
  | some (chan, k, trigger) => s.alarmMark (if chan then ch else 0) k trigger

/-- The sub-second prescaler, in SETT cycles, when the raw SETT count stands at `raw` (R339). -/
def Rtc.sub (r : Rtc) (raw : Nat) : Nat := (raw % 32768 + 32768 - r.subBase % 32768) % 32768

/-- Apply f to the radio group. -/
def State.onRadio (s : State) (f : Radio → Radio) : State := { s with radio := f s.radio }

/-- Apply f to the counters. -/
def State.onSec (s : State) (f : Sec → Sec) : State := { s with sec := f s.sec }

/-- Apply f to the session engine. -/
def State.onSess (s : State) (f : Sess → Sess) : State := { s with sess := f s.sess }

/-- Apply f to the M-Bus slave. -/
def State.onMBus (s : State) (f : MBus → MBus) : State := { s with mbus := f s.mbus }

/-- Apply f to the collector. -/
def State.onAlc (s : State) (f : Alc → Alc) : State := { s with alc := f s.alc }

/-- Apply f to the host link. -/
def State.onHl (s : State) (f : HostLink → HostLink) : State := { s with hl := f s.hl }

/-- Apply f to the DMA engine. -/
def State.onDma (s : State) (f : Dma → Dma) : State := { s with dma := f s.dma }

/-- Apply f to the display. -/
def State.onDisp (s : State) (f : Disp → Disp) : State := { s with disp := f s.disp }

/-- Log an onset at a time of its own, under the limit of 8 (R307); `part` tells conditions of one code apart. -/
def State.onsetAt (time flags code ch part : Nat) (hasEnd : Bool) (data : List Byte) (s : State) : State :=
  let s1 := (s.alarmOnset code ch data).rollHour
  let n := onsets code ch s1.log.counts
  let s2 := s1.onLog fun l => { l with counts := addOnset code ch l.counts }
  if n < 8 then s2.writeEvent time flags code ch data
  else if hasEnd then s2.onLog fun l => { l with muted := (code, ch, part) :: l.muted }
  else s2

/-- Log the end of a condition at a time of its own, unless its onset was not logged (R307). -/
def State.endAt (time flags code ch part : Nat) (data : List Byte) (s : State) : State :=
  let s1 := s.rollHour
  if s1.log.muted.contains (code, ch, part) then
    s1.onLog fun l => { l with muted := l.muted.filter (· != (code, ch, part)) }
  else s1.writeEvent time (2 + flags) code ch data

/-- Log a single event. -/
def State.event (code ch : Nat) (data : List Byte) (s : State) : State :=
  s.onsetAt s.rtc.count 0 code ch 0 false data

/-- Log the onset of a condition. -/
def State.onset (code ch part : Nat) (data : List Byte) (s : State) : State :=
  s.onsetAt s.rtc.count 0 code ch part true data

/-- Log the end of a condition. -/
def State.ending (code ch part : Nat) (data : List Byte) (s : State) : State :=
  s.endAt s.rtc.count 0 code ch part data

/-- Log the change of a condition from `was` to `is`. -/
def State.change (was is : Bool) (code ch part : Nat) (data : List Byte) (s : State) : State :=
  if is && !was then s.onset code ch part data else if was && !is then s.ending code ch part data else s

/-! ### The audit trail -/

/-- Where the audit entry with a sequence number lies (R140). -/
def auditAddr (seq : Nat) : Nat := 0x230000 + 64 * ((seq - 1) % 1024)

/-- Write an audit entry (R140). -/
def State.writeAudit (kind classes oldSeq newSeq : Nat) (oldDigest newDigest : List Byte) (pcc : Nat)
    (detail : List Byte) (s : State) : State :=
  let old := padTo 16 oldDigest
  let new := padTo 16 newDigest
  (s.onLog fun l => { l with auditNext := l.auditNext + 1, auditLast := some (kind, old, new) }).enqueue
    { kind := .entry (auditAddr s.log.auditNext),
      body := withCrc 60 (le 4 s.log.auditNext ++ le 5 s.rtc.count ++ le 1 s.untrusted ++ le 1 kind ++ le 1 classes ++
        le 4 oldSeq ++ le 4 newSeq ++ old ++ new ++ le 4 pcc ++ padTo 4 detail) }

/-- Write an audit entry unless the newest one already records it (R136). -/
def State.auditOnce (kind classes oldSeq newSeq : Nat) (oldDigest newDigest : List Byte) (pcc : Nat)
    (detail : List Byte) (s : State) : State :=
  if s.log.auditLast = some (kind, padTo 16 oldDigest, padTo 16 newDigest) then s
  else s.writeAudit kind classes oldSeq newSeq oldDigest newDigest pcc detail

/-- The newest valid entry of a ring of n-byte entries with the CRC in the last 4 bytes: its sequence number, 0 if the
ring has none. -/
def Mem.newestEntry (m : Mem) (base size count : Nat) : Nat :=
  (List.range count).foldl (fun best i =>
    let a := base + size * i
    let q := m.hoard.readLE a 4
    if q ≤ best then best
    else if m.hoard.readLE (a + size - 4) 4 == (crc32 (m.hoard.readBytes a (size - 4))).toNat && !m.badIn a size
      then q else best) 0

/-- A snapshot of channel n has been taken: each KIND 3 entry of n, or of the module, has an offer to make after a drawn delay
(R371). DEDUCED, log entry 37. -/
def State.snapOffer (n key : Nat) (annual : Bool) (s : State) : State :=
  match s.img.image with
  | none => s
  | some im =>
    let due := (im.telegrams.zipIdx.filter fun e => e.1.kind == 3 && (e.1.ch == n || e.1.ch == 0)).map fun e =>
      let due := s.drawnDelay e.2 0 60000
      if e.1.ch = 0 then (e.2, 0, 0, false, due) else (e.2, n, key, annual, due)
    s.onRadio fun r => { r with snaps := r.snaps ++ due.filter fun d => !r.snaps.contains d }

/-! ### Charge drawn from the cell (R66, R69, R587) -/

/-- Add a charge in nC. DEDUCED, log entry 96. -/
def Pwr.addCharge (nc : Nat) (p : Pwr) : Pwr :=
  let t := p.remNc + nc
  { p with chargeUah := (p.chargeUah + t / 3600000) % 2 ^ 32, remNc := t % 3600000 }

/-- Rated current of a power state on the cell, in 0.1 µA (R587): `banks` retained in Deep Sleep. -/
def ratedCurrent (st : PowerState) (banks : Nat) : Nat :=
  match st with
  | .sleep => 210
  | .deepSleep => 25 + 5 * banks
  | .off => 3
  | .run | .idle | .unpowered => 0

/-- The number of banks in an 8-bit selection. -/
def bankCount (sel : Nat) : Nat := ((List.range 8).filter (Word.bit sel)).length

/-- Count the charge of the power state that ends at a SETT instant in ms. -/
def Pwr.chargeTo (ms : Nat) (p : Pwr) : Pwr :=
  let q := if p.onCell then p.addCharge ((ms - p.chargeMs) * ratedCurrent p.state (bankCount p.retSel) / 10) else p
  { q with chargeMs := ms }

/-- Raise a wake. -/
def State.raiseWake (w : WakeSource) (s : State) : State :=
  s.onPwr fun p => { p with wakes := if p.wakes.contains w then p.wakes else p.wakes ++ [w] }

/-- The module has power and is not in Off. -/
def State.powered (s : State) : Bool := decide (s.pwr.state ≠ .off ∧ s.pwr.state ≠ .unpowered)

/-- The module sleeps in either state. -/
def State.asleep (s : State) : Bool := decide (s.pwr.state = .sleep ∨ s.pwr.state = .deepSleep)

/-- What the module does only in Run: PD_AFE, PD_RADIO and PD_NV are off or stopped in Sleep and in Deep Sleep, so the module first
wakes for it (R78, R83). -/
def State.inRun (f : State → State) (s : State) : State :=
  if s.pwr.state = .run then f s else if s.asleep then s.raiseWake .schedule else s

/-! ### Retention signatures (R91) -/

/-- The retention signature of an SRAM bank: the CRC-32 over its 64 KiB (R91). DESIGN CHOICE, log entry 99. -/
def Mem.bankSig (m : Mem) (k : Nat) : BitVec 32 := crc32 (m.sram.readBytes (65536 * k) 65536)

/-- Form the signatures of the selected banks (R91). -/
def State.formSigs (sel : Nat) (s : State) : State := s.onPwr fun p => { p with
  sigs := ((List.range 8).filter (Word.bit sel)).map fun k => (k, s.mem.bankSig k) }

/-! ### Roles -/

/-- Whether the module is in a pair role (R37): role 1 PRIMARY, 2 STANDBY, 0 SOLO. -/
def State.paired (s : State) : Bool := s.pwr.strapRole != 0

/-- The role that the straps give (R37). -/
def roleOf (l : StrapLevels) : Nat := if l.role1 && l.role0 then 0 else if l.role1 then 1 else 2

end Sys2Proof.Machine
end

