-- ==== Sys2Proof/Machine/Calendar.lean ====
section
/-! DEFINITION. The calendar of R334 and R336, the tariff calendar of R284, protected periods of R323, and the due instants
and keys of R294 and R295. -/

namespace Sys2Proof.Machine

/-- Whether a year is a leap year (R334). -/
def leap (y : Nat) : Bool := (y % 4 == 0 && y % 100 != 0) || y % 400 == 0

/-- Days from 2000-01-01 to January 1 of year y (R334). -/
def daysBeforeYear (y : Nat) : Nat :=
  let yy := y - 2000
  365 * yy + (yy + 3) / 4 - (yy + 99) / 100 + (yy + 399) / 400

/-- The length of a month. -/
def monthLen (y m : Nat) : Nat :=
  if m = 2 then (if leap y then 29 else 28) else if m = 4 ∨ m = 6 ∨ m = 9 ∨ m = 11 then 30 else 31

/-- Days from 2000-01-01 to a date (R334). -/
def daysOf (y m d : Nat) : Nat :=
  daysBeforeYear y + nth [0, 31, 59, 90, 120, 151, 181, 212, 243, 273, 304, 334] (m - 1) 0 + d - 1 +
    Word.ofBool (leap y && decide (2 < m))

/-- The count of a date and time (R334). -/
def countOf (y m d hh mm ss : Nat) : Nat := 86400 * daysOf y m d + 3600 * hh + 60 * mm + ss

/-- The weekday of a day number, 1 Monday to 7 Sunday (R334). -/
def weekday (n : Nat) : Nat := (n + 5) % 7 + 1

/-- The highest count of R333. -/
def countMax : Nat := 12622780799

/-- A date. -/
structure Date where
  y : Nat
  m : Nat
  d : Nat
  deriving DecidableEq, Repr

/-- The date of a day number. -/
def dateOf (n : Nat) : Date :=
  let y := 2000 + ((List.range 400).foldl (fun b i => if daysBeforeYear (2000 + i) ≤ n then i else b) 0)
  let m := 1 + ((List.range 12).foldl (fun b i => if daysOf y (i + 1) 1 ≤ n then i else b) 0)
  { y := y, m := m, d := n - daysOf y m 1 + 1 }

/-- The last Sunday of a month of 31 days (R336). -/
def lastSunday (y m : Nat) : Nat := 31 - weekday (daysOf y m 31) % 7

/-- Start and end of summer time in a year (R336). -/
def summer (y : Nat) : Nat × Nat := (countOf y 3 (lastSunday y 3) 2 0 0, countOf y 10 (lastSunday y 10) 2 0 0)

/-- Whether summer time holds at a count (R336). -/
def dstAt (rule : Bool) (s : Nat) : Bool :=
  rule && (let b := summer (dateOf (s / 86400)).y
           decide (b.1 ≤ s ∧ s < b.2))

/-- Local time as a count (R336). -/
def localTime (rule : Bool) (s : Nat) : Nat := if dstAt rule s then s + 3600 else s

/-- The count that a local time on or after a date's midnight has, standard time being assumed unless summer time holds
then (R294, R336). -/
def stdOfLocal (rule : Bool) (l : Nat) : Nat := if dstAt rule (l - 3600) then l - 3600 else l

/-- Whether a count lies in the second pass of the repeated hour, and then the last count of the first pass (R284). -/
def repeatedHour (rule : Bool) (s : Nat) : Option Nat :=
  if rule then
    let e := (summer (dateOf (s / 86400)).y).2
    if e ≤ s ∧ s < e + 3600 then some (e - 1) else none
  else none

/-- The count at which the calendar evaluates an instant: the first pass's end for the second pass (R284). -/
def calendarInstant (rule : Bool) (s : Nat) : Nat :=
  match repeatedHour rule s with
  | none => s
  | some t => t

/-! ### Tariff (R284) -/

/-- The season of a date: the highest one that has started, else the last (R284). -/
def Tariff.seasonOf (t : Tariff) (m d : Nat) : Nat :=
  match ((List.range t.seasons.length).filter fun j =>
      match nth (t.seasons.map some) j none with
      | none => false
      | some x => decide (x.month < m ∨ (x.month = m ∧ x.day ≤ d))).getLast? with
  | none => t.seasons.length - 1
  | some j => j

/-- The profile of a special day (R284). -/
def Tariff.specialOf (t : Tariff) (dt : Date) : Option Nat :=
  match t.special.find? fun s => s.year == dt.y && s.month == dt.m && s.day == dt.d with
  | some s => some s.profile
  | none => (t.special.find? fun s => s.year == 0 && s.month == dt.m && s.day == dt.d).map (·.profile)

/-- The tariff of a profile at a minute of the day (R284). -/
def switchTariff (p : List (Nat × Nat)) (minute : Nat) : Nat :=
  match (p.filter fun x => decide (x.1 ≤ minute)).getLast? with
  | some x => x.2
  | none => (p.getLast?.map (·.2)).getD 1

/-- The tariff at a count with what `CHW_TARIFF` shows of the evaluation: tariff, season, profile, special, default. -/
def tariffAt (t : Option Tariff) (dst osf : Bool) (s : Nat) : Nat × Nat × Nat × Bool × Bool :=
  match osf, t with
  | true, _ => (1, 0, 0, false, true)
  | _, none => (1, 0, 0, false, true)
  | false, some t =>
    let l := localTime dst (calendarInstant dst s)
    let dt := dateOf (l / 86400)
    let season := t.seasonOf dt.m dt.d
    let sp := t.specialOf dt
    let p := match sp with
      | some p => p
      | none => nth ((nth (t.seasons.map (·.week)) season [])) (weekday (l / 86400) - 1) 0
    (switchTariff (nth t.profiles p []) (l % 86400 / 60), season, p, sp.isSome, false)

/-! ### Protected periods (R323) -/

/-- Whether a local minute of a week (day 0 Monday) falls into a period. -/
def Prot.covers (p : Prot) (day minute : Nat) : Bool :=
  if p.start < p.stop then Word.bit p.mask day && decide (p.start ≤ minute ∧ minute < p.stop)
  else (Word.bit p.mask day && decide (p.start ≤ minute)) || (Word.bit p.mask ((day + 6) % 7) && decide (minute < p.stop))

/-- The first protected period that holds at a count; 0 while OSF is set (R323). -/
def protectedAt (ps : List Prot) (dst osf : Bool) (s : Nat) : Option Nat :=
  if osf then some 0
  else
    let l := localTime dst (calendarInstant dst s)
    findIdx (fun p => p.covers (weekday (l / 86400) - 1) (l % 86400 / 60)) ps

/-! ### Due dates (R294, R295) -/

/-- The due day of a month: a day beyond its length means its last day (R294). -/
def dueDay (y m d : Nat) : Nat := min d (monthLen y m)

/-- The due instant of a key for a due day d: 24:00 local time at its end, in standard-time seconds (R294). -/
def dueInstant (dst : Bool) (d key : Nat) : Nat :=
  let y := 2000 + key / 12
  let m := key % 12 + 1
  stdOfLocal dst (86400 * (daysOf y m (dueDay y m d) + 1))

/-- The keys of a kind, given whether every month is due (R295). -/
def isKey (annualMonth : Option Nat) (key : Nat) : Bool :=
  match annualMonth with
  | none => true
  | some m => key % 12 + 1 == m

/-- The key of the latest due instant at or before a count, if any (R296). -/
def latestKey (dst : Bool) (annualMonth : Option Nat) (d s : Nat) : Option Nat :=
  let dt := dateOf (s / 86400)
  let k := 12 * (dt.y - 2000) + (dt.m - 1)
  ((List.range 25).map fun i => k + 1 - i).find? fun k' =>
    isKey annualMonth k' && decide (dueInstant dst d k' ≤ s) && decide (k' ≤ k)

end Sys2Proof.Machine
end

