-- ==== Sys2Proof/Machine/Records.lean ====
section
/-! DEFINITION. The HOARD records that carry working state, as bytes: TOTALS (R262), BILLING_STATE (R293), CREDIT_STATE
(R316), VALVE_STATE (R281), MODULE (R144), calibration (R201) and cell charge (R69). -/

namespace Sys2Proof.Machine

/-- What a temperature field holds when no such temperature is in force (R262). -/
def noTheta : Nat := 0x80000000

/-- A temperature field. -/
def thetaWord (t : Option Int) : Nat :=
  match t with
  | none => noTheta
  | some v => Word.ofInt 32 v

/-- The temperature that a field holds. -/
def thetaOf (v : Nat) : Option Int := if v = noTheta then none else some (Word.toInt 32 v)

/-- A 12-byte total (R262). -/
def totalBytes (v : Nat) : List Byte := le 10 v ++ zeros 2

/-- BILLING_STATE (R293). -/
def BillState.bytes (b : BillState) : List Byte :=
  le 1 b.tariffNext ++ le 1 b.dflags ++ le 1 b.subIdx ++ le 1 b.pflags ++ le 5 b.subStart ++ le 3 b.profHour ++
  le 8 b.subE ++ le 8 b.subV ++ le 4 b.maxP ++ le 4 b.maxQ ++ le 5 b.maxPTime ++ le 5 b.maxQTime ++
  le 2 b.profTicks ++ le 5 b.periodStart ++ le 2 b.profTicksT ++ zeros 1 ++ le 4 b.profE0 ++ le 4 b.profC0 ++
  le 4 b.profV0 ++ leInt 4 b.profQmax ++ leInt 8 b.sumS ++ leInt 8 b.sumR ++ zeros 8

/-- Read BILLING_STATE. -/
def BillState.ofBytes (d : List Byte) : BillState :=
  { tariffNext := fieldAt d 0 1, dflags := fieldAt d 1 1, subIdx := fieldAt d 2 1, pflags := fieldAt d 3 1,
    subStart := fieldAt d 4 5, profHour := fieldAt d 9 3, subE := fieldAt d 0xC 8, subV := fieldAt d 0x14 8,
    maxP := fieldAt d 0x1C 4, maxQ := fieldAt d 0x20 4, maxPTime := fieldAt d 0x24 5, maxQTime := fieldAt d 0x29 5,
    profTicks := fieldAt d 0x2E 2, periodStart := fieldAt d 0x30 5, profTicksT := fieldAt d 0x35 2,
    profE0 := fieldAt d 0x38 4, profC0 := fieldAt d 0x3C 4, profV0 := fieldAt d 0x40 4,
    profQmax := fieldInt d 0x44 4, sumS := fieldInt d 0x48 8, sumR := fieldInt d 0x50 8 }

/-- CREDIT_STATE (R316). -/
def CreditState.bytes (c : CreditState) : List Byte :=
  leInt 8 c.credit ++ le 5 c.rem ++ le 1 c.cflags ++ le 1 c.cstate ++ le 1 c.faultHours ++ le 4 c.tokenHigh ++
  le 8 c.tokenWindow ++ le 4 c.topups

/-- Read CREDIT_STATE. -/
def CreditState.ofBytes (d : List Byte) : CreditState :=
  { credit := fieldInt d 0 8, rem := fieldAt d 8 5, cflags := fieldAt d 0xD 1, cstate := fieldAt d 0xE 1,
    faultHours := fieldAt d 0xF 1, tokenHigh := fieldAt d 0x10 4, tokenWindow := fieldAt d 0x14 8,
    topups := fieldAt d 0x1C 4 }

/-- VALVE_STATE (R281). -/
def ValveState.bytes (v : ValveState) : List Byte :=
  le 1 v.position ++ le 1 v.fault ++ le 1 v.pending ++ le 1 v.source ++ le 4 v.ticket ++ le 2 v.elapsed ++
  le 1 v.flags ++ le 5 v.lastMove

/-- Read VALVE_STATE. -/
def ValveState.ofBytes (d : List Byte) : ValveState :=
  { position := fieldAt d 0 1, fault := fieldAt d 1 1, pending := fieldAt d 2 1, source := fieldAt d 3 1,
    ticket := fieldAt d 4 4, elapsed := fieldAt d 8 2, flags := fieldAt d 10 1, lastMove := fieldAt d 11 5 }

/-- The body of a TOTALS record, bytes 0x008 to 0x1F7 (R262): what the datapaths compare (R256). -/
def Work.bytes (w : Work) : List Byte :=
  le 4 w.stepTick ++ le 5 w.stepTime ++ le 1 w.flags ++ le 1 w.hcMode ++ le 1 w.tariff ++ le 4 w.stepLen ++
  leInt 4 w.qLast ++ le 4 (thetaWord w.thetaS) ++ le 4 (thetaWord w.thetaR) ++ le 4 (thetaWord w.thetaV) ++ zeros 8 ++
  totalBytes w.eHeat ++ totalBytes w.eCool ++ (w.eHeatT.flatMap totalBytes) ++ (w.eCoolT.flatMap totalBytes) ++
  totalBytes w.vFwd ++ totalBytes w.vRev ++ totalBytes w.eCond1 ++ totalBytes w.eCond2 ++ totalBytes w.eSubst ++
  totalBytes w.vSubst ++ totalBytes w.vBase ++ totalBytes w.eGas ++
  le 8 w.remVFwd ++ le 8 w.remVRev ++ le 8 w.remEHeat ++ le 8 w.remECool ++ le 8 w.remVBase ++ le 8 w.remEGas ++
  le 8 w.remESub ++ le 8 w.remVSub ++ le 8 w.tFlowFault ++ le 8 w.tTempFault ++ le 8 w.tLowDt ++ le 8 w.tNegDt ++
  w.bill.bytes ++ w.credit.bytes ++ w.valve.bytes

/-- Read a TOTALS body; d starts at record offset 8. -/
def Work.ofBytes (d : List Byte) : Work :=
  let at_ (o n : Nat) : Nat := fieldAt d (o - 8) n
  let tot (o : Nat) : Nat := at_ o 10
  { stepTick := at_ 0x8 4, stepTime := at_ 0xC 5, flags := at_ 0x11 1, hcMode := at_ 0x12 1, tariff := at_ 0x13 1,
    stepLen := at_ 0x14 4, qLast := Word.toInt 32 (at_ 0x18 4), thetaS := thetaOf (at_ 0x1C 4),
    thetaR := thetaOf (at_ 0x20 4), thetaV := thetaOf (at_ 0x24 4), eHeat := tot 0x30, eCool := tot 0x3C,
    eHeatT := [tot 0x48, tot 0x54, tot 0x60, tot 0x6C], eCoolT := [tot 0x78, tot 0x84, tot 0x90, tot 0x9C],
    vFwd := tot 0xA8, vRev := tot 0xB4, eCond1 := tot 0xC0, eCond2 := tot 0xCC, eSubst := tot 0xD8, vSubst := tot 0xE4,
    vBase := tot 0xF0, eGas := tot 0xFC, remVFwd := at_ 0x108 8, remVRev := at_ 0x110 8, remEHeat := at_ 0x118 8,
    remECool := at_ 0x120 8, remVBase := at_ 0x128 8, remEGas := at_ 0x130 8, remESub := at_ 0x138 8,
    remVSub := at_ 0x140 8, tFlowFault := at_ 0x148 8, tTempFault := at_ 0x150 8, tLowDt := at_ 0x158 8,
    tNegDt := at_ 0x160 8, bill := .ofBytes (slice d 0x160 96), credit := .ofBytes (slice d 0x1C0 32),
    valve := .ofBytes (slice d 0x1E0 16) }

/-- Slot A of channel n's TOTALS record (R261). -/
def totalsAddr (n : Nat) : Nat := 0x110000 + 1024 * (n - 1)

/-- The TOTALS record of channel n as the HOARD queue takes it. -/
def totalsRec (n : Nat) (w : Work) : HoardRec :=
  { kind := .slots (totalsAddr n) (totalsAddr n + 512), body := w.bytes }

/-- What a start finds of channel n's TOTALS record. -/
def Mem.totals (m : Mem) (n : Nat) : Found := m.readSlots (totalsAddr n) (totalsAddr n + 512) 512

/-- The body of the MODULE record (R144). -/
def ModuleRec.bytes (r : ModuleRec) : List Byte :=
  le 4 (Word.ofBool r.commissioned) ++ le 5 r.commissionTime ++ zeros 3 ++ le 4 r.pcc ++ le 4 r.acceptedSeq ++
  padTo 32 r.digest ++ padTo 32 r.lDigest ++ padTo 32 r.bDigest ++ padTo 32 r.oDigest ++ padTo 32 r.refused ++
  le 5 r.lastLTime ++ zeros 3 ++ padTo 8 r.moduleIdent ++ padTo 320 r.chIdent ++ padTo 3 r.radioLast ++ zeros 1 ++
  zeros 488

/-- Read a MODULE body; d starts at record offset 8. -/
def ModuleRec.ofBytes (d : List Byte) : ModuleRec :=
  { commissioned := fieldAt d 0 4 % 2 == 1, commissionTime := fieldAt d 4 5, pcc := fieldAt d 0xC 4,
    acceptedSeq := fieldAt d 0x10 4, digest := slice d 0x14 32, lDigest := slice d 0x34 32, bDigest := slice d 0x54 32,
    oDigest := slice d 0x74 32, refused := slice d 0x94 32, lastLTime := fieldAt d 0xB4 5,
    moduleIdent := slice d 0xBC 8, chIdent := slice d 0xC4 320, radioLast := slice d 0x204 3 }

/-- The MODULE record as the HOARD queue takes it (R143). -/
def moduleRec (r : ModuleRec) : HoardRec := { kind := .slots 0x100000 0x100400, body := r.bytes }

/-- Commit the MODULE record. -/
def State.commitModule (s : State) : State := s.enqueue (moduleRec s.img.module_)

/-- The body of a calibration record (R201). -/
def Cal.bytes (c : Cal) : List Byte :=
  le 4 c.imgSeq ++ le 5 c.learnTime ++ le 1 c.flags ++ le 1 c.burstN ++ le 1 c.burstCyc ++ le 1 c.drive ++
  le 1 c.tapStep ++ le 1 c.gainRef ++ zeros 1 ++ le 4 c.tElec ++ leInt 4 c.zeroLearned ++ leInt 4 c.zeroTracked ++
  le 4 c.tofRef ++ le 4 c.cLearn ++ leInt 4 c.thetaLearn ++ le 2 c.ampRef ++ zeros 2 ++ le 5 c.trackTime ++ zeros 7 ++
  padTo 256 (c.learned.flatMap (leInt 2)) ++ padTo 256 (c.tracked.flatMap (leInt 2)) ++ zeros 184

/-- The 128 taps at an offset. -/
def tapsAt (d : List Byte) (o : Nat) : List Int := (List.range 128).map fun i => fieldInt d (o + 2 * i) 2

/-- Read a calibration body; d starts at record offset 8. -/
def Cal.ofBytes (d : List Byte) : Cal :=
  { imgSeq := fieldAt d 0 4, learnTime := fieldAt d 4 5, flags := fieldAt d 9 1, burstN := fieldAt d 10 1,
    burstCyc := fieldAt d 11 1, drive := fieldAt d 12 1, tapStep := fieldAt d 13 1, gainRef := fieldAt d 14 1,
    tElec := fieldAt d 0x10 4, zeroLearned := fieldInt d 0x14 4, zeroTracked := fieldInt d 0x18 4,
    tofRef := fieldAt d 0x1C 4, cLearn := fieldAt d 0x20 4, thetaLearn := fieldInt d 0x24 4, ampRef := fieldAt d 0x28 2,
    trackTime := fieldAt d 0x2C 5, learned := tapsAt d 0x38, tracked := tapsAt d 0x138 }

/-- Slot A of channel n's calibration record (R143). -/
def calAddr (n : Nat) : Nat := 0x101000 + 1536 * (n - 1)

/-- The calibration record of channel n as the HOARD queue takes it. -/
def calRec (n : Nat) (c : Cal) : HoardRec := { kind := .slots (calAddr n) (calAddr n + 768), body := c.bytes }

/-- The cell-charge record as the HOARD queue takes it (R69). -/
def chargeRec (p : Pwr) : HoardRec :=
  { kind := .slots 0x100800 0x100820,
    body := le 4 p.chargeUah ++ le 4 p.remNc ++ le 5 p.replaced ++ le 1 p.chgFlags ++ zeros 2 }

end Sys2Proof.Machine
end

