-- ==== Sys2Proof/Machine/Flow.lean ====
section
/-! DEFINITION. The ultrasonic flow path: one shot's correlation (R181 to R184), the pair and its flow sample (R185 to
R193), the low-flow cut-off (R203, R204) and what a step and a zero calibration gather from the pairs. -/

namespace Sys2Proof.Machine

/-! ### Exact rationals to fields -/

/-- A rational truncated toward zero. -/
def ratTrunc (r : Rat) : Int := divTrunc r.num r.den

/-- A rational rounded to nearest. DEDUCED, log entry 31. -/
def ratNear (r : Rat) : Int := divNear r.num r.den

/-- A rational rounded down. -/
def ratFloor (r : Rat) : Int := r.num / (r.den : Int)

/-- The sample period Ts, 104.1667 ns, exactly (CLK_DIG is 9.6 MHz). -/
def samplePeriod : Rat := 625 / 6

/-! ### One shot -/

/-- Every S-th element, n of them at most. -/
def stride (n S : Nat) (l : List Int) : List Int :=
  match n, l with
  | 0, _ => []
  | _, [] => []
  | k + 1, x :: t => x :: stride k S (t.drop (S - 1))

/-- Σ aᵢ·bᵢ. -/
def dot (a b : List Int) : Int :=
  match a, b with
  | x :: s, y :: t => x * y + dot s t
  | _, _ => 0

/-- Σ aᵢ². -/
def energy (a : List Int) : Nat := (dot a a).toNat

/-- The largest |x|. -/
def peakOf (xs : List Int) : Nat := xs.foldl (fun m x => max m x.natAbs) 0

/-- S of R183: 1 when BURST_N is below 96, else 4. -/
def tapStep (burstN : Nat) : Nat := if burstN < 96 then 1 else 4

/-- The 128 samples that the template overlays when tap 0 lies at sample p of a capture whose first sample is w0; samples
outside the window count as 0 (R183). -/
def overlay (S : Nat) (w0 p : Int) (xs : List Int) : List Int :=
  stride 128 S ((List.replicate (w0 - p).toNat 0 ++ xs).drop (p - w0).toNat)

/-- The 65 correlation sums y(−32) to y(+32) (R183). -/
def correlation (tmpl : List Int) (S : Nat) (w0 p : Int) (xs : List Int) : List Int :=
  (List.range 65).map fun (j : Nat) => dot tmpl (overlay S w0 (p + (j : Int) - 32) xs)

/-- The index of the largest value; the lowest index among equals. -/
def argMax (ys : List Int) : Nat :=
  ((List.range ys.length).foldl (fun b i => if nth ys b 0 < nth ys i 0 then i else b) 0)

/-- Whole decibels of peak against the rms of n samples with energy e: the largest k up to 63 with
(peak²·n / e)^10 ≥ 10^k (R214). DEDUCED, log entry 32. -/
def snrDb (peak n e : Nat) : Nat :=
  if e = 0 then 63
  else (List.range 64).foldl (fun b k => if 10 ^ k * e ^ 10 ≤ (peak * peak * n) ^ 10 then k else b) 0

/-- The amplitude lies more than 12 dB below AMP_REF, gain taken into account, 6 dB a step (R193). -/
def weakAmp (peak gain ampRef gainRef : Nat) : Bool :=
  -- peak·10^(0.3·(gainRef − gain)) < ampRef·10^(−0.6), raised to the tenth power
  decide (peak ^ 10 * 10 ^ (3 * gainRef + 6) < ampRef ^ 10 * 10 ^ (3 * gain))

/-- The first sample whose magnitude reaches half the window's peak (R192). -/
def echoStart (w0 : Int) (xs : List Int) : Int :=
  let pk := peakOf xs
  match findIdx (fun x => decide (pk ≤ 2 * x.natAbs)) xs with
  | none => w0
  | some i => w0 + i

/-- Analyse one capture (R183, R184, R190, R193). DEDUCED, log entries 32 and 61. -/
def analyse (cfg : ChanCfg) (tmpl : List Int) (ref : Option (Nat × Nat)) (gain : Nat) (w0 p : Int) (driven driveOk : Bool)
    (xs : List Int) : ShotRes :=
  let S := tapStep cfg.burstN
  let ys := correlation tmpl S w0 p xs
  let jb := argMax ys
  let y0 := nth ys jb 0
  let edge := jb == 0 || jb == 64
  let seg := overlay S w0 (p + (jb : Int) - 32) xs
  let t2 := energy tmpl
  let x2 := energy seg
  let other := (List.range 65).foldl
    (fun m j => if j + 4 ≤ jb ∨ jb + 4 ≤ j then max m (nth ys j 0).natAbs else m) 0
  let peak := peakOf xs
  let clipped := xs.any fun x => decide (x ≤ -2048 ∨ 2047 ≤ x)
  let ym := nth ys (jb - 1) 0
  let yp := nth ys (jb + 1) 0
  let delta : Rat := ((ym - yp : Int) : Rat) / ((2 * (ym - 2 * y0 + yp) : Int) : Rat)
  let tof : Rat := (((p + (jb : Int) - 32 : Int) : Rat) + delta) * samplePeriod
  let rho := if y0 ≤ 0 ∨ t2 * x2 = 0 then 0 else isqrt (y0.natAbs ^ 2 * 2 ^ 32 / (t2 * x2))
  let good := driven && driveOk && !clipped && !edge && decide (0 < y0) && decide ((5 * other : Int) ≤ 4 * y0) &&
    decide (49 * (t2 * x2) ≤ 100 * y0.natAbs ^ 2) && decide (64 ≤ peak)
  let low := decide (y0 ≤ 0) || decide (100 * y0.natAbs ^ 2 < 64 * (t2 * x2))
  let weak := low || (match ref with
    | none => false
    | some r => weakAmp peak gain r.1 r.2)
  let start := echoStart w0 xs
  { driven := driven, good := good, clipped := clipped, edge := edge, driveOk := driveOk, echo := driven && decide (64 < peak),
    tof := if edge then 0 else tof, rho := rho,
    cpr := if other = 0 then 15 else min 15 (4 * y0.toNat / other - 4),
    snr := snrDb peak (min 32 xs.length) (energy (xs.take 32)), peak := peak, weak := weak, start := start,
    taps := if tmpl.isEmpty then overlay S w0 start xs else seg }

/-- A shot that TD_SHORT's stop does not drive (R193). -/
def undriven : ShotRes :=
  { driven := false, good := false, clipped := false, edge := true, driveOk := false, echo := false, tof := 0, rho := 0, cpr := 0,
    snr := 0, peak := 0, weak := true, start := 0, taps := [] }

/-! ### The window (R155, R181, R192) -/

/-- A time in 2^-8 ns as samples, rounded to nearest. -/
def tofSamples (t : Nat) : Int := divNear (t * 3) 80000

/-- Where the echo is expected without a VALID pair: TOF_REF, else TOF_INIT (R181). -/
def refStart (cfg : ChanCfg) (cal : Option Cal) (calibrating : Bool) : Int :=
  match cal with
  | none => tofSamples cfg.tofInit
  | some c => if calibrating then tofSamples cfg.tofInit else tofSamples c.tofRef

/-- First sample and length of the capture window, cut at 800 µs after the slot begins (R155, R181, R192). -/
def captureWindow (cfg : ChanCfg) (degraded acquire : Bool) (p pref : Int) : Int × Nat :=
  let w0 : Int := if acquire then pref - cfg.window / 2 else if degraded then p - 32 else (4 * p - cfg.window) / 4
  let w0 := if w0 < 0 then 0 else w0
  let n := if degraded && !acquire then cfg.window / 2 else cfg.window
  (w0, min n (7488 - w0).toNat)

/-! ### The flow sample (R186, R188) -/

/-- Linear interpolation in a FLOWCAL table of 16 points (R188), K in 2^-30. -/
def kTable (pts : List (Nat × Nat)) (m : Rat) : Rat :=
  let q (i : Nat) : Rat := ((nth pts i (0, 0)).1 : Nat)
  let k (i : Nat) : Rat := ((nth pts i (0, 0)).2 : Nat)
  if m ≤ q 0 then k 0
  else if q 15 ≤ m then k 15
  else
    let i := (List.range 15).foldl (fun b i => if q i ≤ m then i else b) 0
    k i + (m - q i) / (q (i + 1) - q i) * (k (i + 1) - k i)

/-- The points of direction d and band b. -/
def FlowCal.table (f : FlowCal) (d b : Nat) : List (Nat × Nat) := slice' (48 * d + 16 * b) f.points
  where slice' (o : Nat) (l : List (Nat × Nat)) : List (Nat × Nat) := (l.drop o).take 16

/-- The correction factor (R188), in 2^-30; without a temperature, band 0 (R186). -/
def correction (f : FlowCal) (qRaw : Rat) (thetaV : Option Int) : Rat :=
  let d := if qRaw < 0 then 1 else 0
  let m := if qRaw < 0 then -qRaw else qRaw
  match thetaV with
  | none => kTable (f.table d 0) m
  | some v =>
    let blend (lim : Int) (lo hi : Nat) : Rat :=
      let g : Rat := ((v - (lim - 10000) : Int) : Rat) / 20000
      (1 - g) * kTable (f.table d lo) m + g * kTable (f.table d hi) m
    if v < f.bandT1 - 10000 then kTable (f.table d 0) m
    else if v ≤ f.bandT1 + 10000 then blend f.bandT1 0 1
    else if v < f.bandT2 - 10000 then kTable (f.table d 1) m
    else if v ≤ f.bandT2 + 10000 then blend f.bandT2 1 2
    else kTable (f.table d 2) m

/-- q_raw of R186 in mL/h, from times in nanoseconds. -/
def rawFlow (cfg : ChanCfg) (tMean dt : Rat) : Rat :=
  let tt := (tMean + dt / 2) * (tMean - dt / 2)
  (cfg.area : Nat) * ((cfg.pathL : Nat) * (2 ^ 30 : Nat) / (cfg.cosPhi : Nat) * dt * 1000 / tt) * 18 / 5

/-- θV of the channel: θr for a spool in the return pipe, else θs (R186). -/
def ChanCfg.vOf (cfg : ChanCfg) (s r : Option Int) : Option Int := if Word.bit cfg.options 0 then r else s

/-- θV for band selection: in force, or the last good one while faulted (R186, R232). -/
def Chan.bandTheta (c : Chan) (cfg : ChanCfg) (faulted : Bool) : Option Int :=
  if cfg.rtd = 0 then none
  else if faulted then c.a.thetaV
  else cfg.vOf c.temp.thetaS c.temp.thetaR

/-- A value in the format of a flow sample, signed with 32 integer and 16 fraction bits (R187). DESIGN CHOICE, log entry 158. -/
def fitFlow (q : Int) : Int := if -(2 ^ 47) ≤ q ∧ q < 2 ^ 47 then q else (Config.outsideFlow q).toInt

/-- The flow sample in 2^-16 mL/h, truncated toward zero (R186, R187): what a datapath forms from the correlator's results. -/
def flowSample (f : FlowCal) (qRaw : Rat) (thetaV : Option Int) : Int :=
  fitFlow (ratTrunc (qRaw * correction f qRaw thetaV * 65536 / (2 ^ 30 : Nat)))

/-! ### Drive supervision (R193) -/

/-- The drive limits of one shot: below the open limit, above the short limit. -/
def driveFault (cfg : ChanCfg) (ua : Nat) : Bool × Bool :=
  (decide (ua < if Word.bit cfg.options 4 then 6000 else 2000), decide (150000 < ua))

/-- The burst of a shot from the transducer who (R178). -/
def ChanCfg.burst (cfg : ChanCfg) (who : Nat) : Burst :=
  { who := who, period := cfg.burstN, high := cfg.burstN / 2, cycles := cfg.burstCyc,
    mV := if Word.bit cfg.options 4 then 12000 else 3300 }

/-- Whether the burst is high, t ROOT periods after its first rising edge; none after its end (R178). -/
def Burst.level (b : Burst) (t : Nat) : Option Bool :=
  if t < b.period * b.cycles then some (decide (t % b.period < b.high)) else none

/-- Count a driven shot of one transducer. -/
def Drive.count (d : Drive) (open_ short : Bool) : Drive :=
  { openRun := if open_ then d.openRun + 1 else 0,
    shortRun := if short then d.shortRun + 1 else 0, shortOk := if open_ || short then 0 else d.shortOk + 1 }

/-- Supervise the transducer who (0 TA, 1 TB) over one driven shot: TD_OPEN, TD_SHORT and its 1 s stop. -/
def Flow.drive (f : Flow) (who : Nat) (open_ short : Bool) : Flow :=
  let d := (if who = 0 then f.driveA else f.driveB).count open_ short
  let f := if who = 0 then { f with driveA := d } else { f with driveB := d }
  let f := { f with openOk := if open_ || short then 0 else f.openOk + 1 }
  let f := if 4 ≤ d.openRun ∧ f.tdOpen = false then { f with tdOpen := true, openWho := who }
    else if f.tdOpen ∧ 4 ≤ f.openOk then { f with tdOpen := false } else f
  if 4 ≤ d.shortRun then
    let f := if f.tdShort then f else { f with tdShort := true, shortWho := who }
    { f with stop := true, driveA := { f.driveA with shortRun := 0, shortOk := 0 },
             driveB := { f.driveB with shortRun := 0, shortOk := 0 } }
  else if f.tdShort ∧ f.shortWho = who ∧ 4 ≤ d.shortOk then { f with tdShort := false }
  else f

/-! ### The pair (R180 to R204) -/

/-- The hold limit of R191 at a rate: 0 FULL, 1 TRUNK, 2 DEGRADED. -/
def holdLimit (rate : Nat) : Nat := if rate = 0 then 4 else if rate = 1 then 128 else 1

/-- How many VALID samples the cut-off mean spans (R203). -/
def cutSpan (rate : Nat) : Nat := if rate = 0 then 16 else if rate = 1 then 512 else 1

/-- The next gain (R182). -/
def nextGain (gain : Nat) (x y : ShotRes) : Nat :=
  let down := gain - 1
  if x.clipped || y.clipped then down
  else if 1700 < max x.peak y.peak then down
  else if min x.peak y.peak < 600 then min 7 (gain + 1)
  else gain

/-- The cut-off after one more VALID sample (R203): the ring, whether the cut is active, and mc's sum and count. -/
def Flow.cutOff (f : Flow) (cfg : ChanCfg) (rate : Nat) (q : Int) : Flow :=
  let ring := (q :: f.ring).take (cutSpan rate)
  let sum := sumInt ring
  let n := ring.length
  let cut := if sum.natAbs < cfg.qCut * 65536 * n then true
    else if (cfg.qCut + cfg.qHyst) * 65536 * n ≤ sum.natAbs then false
    else f.cut
  { f with ring := ring, cut := cut, reverse := decide (sum < 0) && !cut }

/-- mc in mL/h, truncated toward zero (R308, code 0x0049). -/
def Flow.mc (f : Flow) : Int := divTrunc (sumInt f.ring) (65536 * max 1 f.ring.length)

/-- What a pair gives: its times in nanoseconds (shot ToF mean, Δt_raw, Δt), and whether it is VALID. -/
structure PairRes where
  valid : Bool
  rawMean : Rat
  tMean : Rat
  dtRaw : Rat
  dt    : Rat
  deriving DecidableEq, Repr

/-- The results of R185. -/
def pairTimes (x y : ShotRes) (tElec : Nat) (zero : Int) : PairRes :=
  let raw := (x.tof + y.tof) / 2
  let d := y.tof - x.tof
  { valid := x.good && y.good, rawMean := raw, tMean := raw - (tElec : Nat) / 256, dtRaw := d,
    dt := d - (zero : Rat) / 65536 }

/-- The gain, the predicted echo start and acquisition after a pair (R180 to R182, R192): four consecutive pairs in which a shot has
its peak lag at an edge or no echo lead to acquisition, a VALID pair ends it, and in acquisition the first driven shot's echo start is
the next prediction. DEDUCED, log entry 61. -/
def Flow.aim (f : Flow) (x y : ShotRes) (r : PairRes) : Flow :=
  let missed := x.edge || y.edge || !x.echo || !y.echo
  let missRun := if missed then f.missRun + 1 else 0
  { f with
    gain := nextGain f.gain x y, missRun := missRun,
    acquire := if r.valid then false else f.acquire || decide (4 ≤ missRun),
    pred := if r.valid then some (divNear (r.rawMean.num * 6) (r.rawMean.den * 625))
      else if f.acquire && x.driven then some x.start
      else if f.acquire && y.driven then some y.start
      else f.pred }

/-- What a pair hands to integration: the value that each datapath has formed, and the status (R187, R191, R256). -/
structure PairOut where
  q      : Int
  qB     : Int
  status : SampleStatus
  deriving DecidableEq, Repr

/-- The flow state after a pair outside calibration, the sample it hands to integration, and q_raw (R182, R187, R190 to R193,
R202 to R204). A flow fault ends with the first VALID sample. -/
def Flow.pair (f : Flow) (cfg : ChanCfg) (fcal : Option FlowCal) (thetaV : Option Int) (rate : Nat) (x y : ShotRes)
    (r : PairRes) : Flow × PairOut × Rat :=
  let qRaw := if r.valid then rawFlow cfg r.tMean r.dt else 0
  let mag : Rat := if qRaw < 0 then -qRaw else qRaw
  let impl := r.valid && decide ((cfg.qMax : Rat) < mag)
  let ok := r.valid && !impl
  let failRun := if ok then 0 else f.failRun + 1
  let quiet := !x.echo && !y.echo && f.gain == 7
  let quietRun := if quiet then f.quietRun + 1 else 0
  let validRun := if r.valid then f.validRun + 1 else 0
  let empty := if f.empty then decide (validRun < 4) else decide (8 ≤ quietRun)
  let airHist := ((x.weak || y.weak) :: f.airHist).take 16
  let weakN := (airHist.filter id).length
  let air := if cfg.type = .gas then false else if f.air then decide (2 ≤ weakN) else decide (10 ≤ weakN)
  let sample : Int := match fcal with
    | none => 0
    | some fc => if ok then flowSample fc qRaw thetaV else 0
  let q := sample
  let qB := sample
  let f1 := { f.aim x y r with
    failRun := failRun, quietRun := quietRun, validRun := validRun, empty := empty, airHist := airHist, air := air,
    clipped := f.clipped || x.clipped || y.clipped,
    qImpl := if ok then false else f.qImpl || impl }
  let f2 := if ok then f1.cutOff cfg rate q else f1
  let cutTo0 (v : Int) : Int := if f2.cut then 0 else v
  let f3 := if ok then { f2 with lastQ := cutTo0 q, lastQB := cutTo0 qB } else f2
  let fault := f3.empty || f3.calMissing || f3.calMismatch || decide (holdLimit rate ≤ failRun)
  let out : PairOut := if fault then { q := 0, qB := 0, status := .fault }
    else { q := f3.lastQ, qB := f3.lastQB, status := if ok then .valid else .held }
  let f4 := { f3 with flowFault := fault || (f.flowFault && !ok) }
  let noEcho := f4.flowFault && !(f4.empty || f4.tdOpen || f4.tdShort || f4.calMissing || f4.calMismatch)
  ({ f4 with noEcho := noEcho }, out, qRaw)

/-! ### CHW_STATUS (R211, R237) -/

/-- Bits [18:0] of `CHW_STATUS` from the live conditions, but for HELD, which the step gathers (R211). -/
def Flow.bits (f : Flow) : Nat :=
  let b (x : Bool) (k : Nat) : Nat := Word.ofBool x * 2 ^ k
  b f.flowFault 0 + b f.cut 2 + b f.reverse 3 + b f.lowQ 4 + b f.air 5 + b f.empty 6 + b f.tdOpen 7 + b f.tdShort 8 +
  b f.noEcho 9 + b f.clipped 10 + b f.acquire 11 + b f.qImpl 12 + b f.zeroDrift 13 + b f.templateDrift 14 +
  b f.calMissing 15 + b f.calMismatch 16 + b f.gasAnom 17 + b f.gasRange 18

/-! ### Events of a channel's flow path (R193, R212, R308, R328) -/

/-- A sensor disconnection begins or ends (R328): sensor 0 to 3, kind. -/
def State.sensorDisc (n sensor kind : Nat) (was is : Bool) (s : State) : State :=
  let data := le 1 sensor ++ le 1 kind
  if is && !was then
    (s.onset 0x83 n sensor data).onTamper fun t => { t with
      disc := (n, sensor) :: t.disc.filter (· != (n, sensor)), events := setBits t.events 8 }
  else if was && !is then
    (s.ending 0x83 n sensor data).onTamper fun t => { t with disc := t.disc.filter (· != (n, sensor)) }
  else s

/-- Raise bits of `CHW_EVENTS` for what began between two flow states. -/
def Flow.raise (f g : Flow) : Flow :=
  let b (was is : Bool) (k : Nat) : Nat := if is && !was then 2 ^ k else 0
  let bits := b f.flowFault g.flowFault 0 ||| b g.flowFault f.flowFault 1 ||| b f.air g.air 2 ||| b f.empty g.empty 3 |||
    b f.tdOpen g.tdOpen 4 ||| b f.tdShort g.tdShort 4 ||| b f.lowQ g.lowQ 5 ||| b f.reverse g.reverse 6 |||
    b f.qImpl g.qImpl 7 ||| b f.zeroDrift g.zeroDrift 8 ||| b f.templateDrift g.templateDrift 9 |||
    b f.gasAnom g.gasAnom 10
  { g with events := setBits g.events bits }

/-- Log what began and ended between two flow states of channel n (R308). DEDUCED, log entry 159. -/
def State.logFlow (n : Nat) (f g : Flow) (qRaw : Rat) (s : State) : State :=
  let c := s.ch n
  let sig := le 4 c.shown.signal
  let s := s.change f.empty g.empty 0x42 n 0 sig
  let s := s.change f.tdOpen g.tdOpen 0x43 n 0 (le 1 g.openWho)
  let s := s.sensorDisc n (2 + g.openWho) 7 f.tdOpen g.tdOpen
  let s := s.change f.tdShort g.tdShort 0x44 n 0 (le 1 g.shortWho)
  let s := s.change f.flowFault g.flowFault 0x40 n 0 (le 2 (g.bits % 8192 + 2 * Word.ofBool (c.acc.held || c.late.held)))
  let s := s.change f.noEcho g.noEcho 0x45 n 0 []
  let s := s.change f.air g.air 0x41 n 0 sig
  let s := s.change f.lowQ g.lowQ 0x46 n 0 sig
  let s := s.change f.qImpl g.qImpl 0x47 n 0 (leInt 4 (fitInt (ratTrunc qRaw)))
  let s := s.change f.clipped g.clipped 0x48 n 0 (le 1 f.gain)
  let s := s.change f.reverse g.reverse 0x49 n 0 (leInt 4 g.mc)
  let s := s.change f.zeroDrift g.zeroDrift 0x4A n 0
    (leInt 4 (match g.cal with
      | none => 0
      | some k => k.zeroTracked))
  s

/-- Put a channel's flow state, raising and logging what changed. -/
def State.putFlow (n : Nat) (g : Flow) (qRaw : Rat) (s : State) : State :=
  let f := (s.ch n).flow
  let s1 := s.onCh n fun c => { c with flow := f.raise g }
  s1.logFlow n f g qRaw

/-! ### What the step gathers (R198, R211 to R214) -/

/-- Scale taps so that the largest magnitude becomes `top` (R195). DEDUCED, log entry 30. -/
def scaleTaps (top : Nat) (l : List Int) : List Int :=
  let m := peakOf l
  if m = 0 then l else l.map fun x => divNear (x * top) m

/-- 128 taps: samples outside the window count as 0 (R183). -/
def padTaps (l : List Int) : List Int := (l ++ List.replicate (128 - l.length) 0).take 128

/-- The normalised correlation of two templates lies below 0.90 (R198). -/
def templateDrifts (a b : List Int) : Bool :=
  let y := dot a b
  decide (y ≤ 0) || decide (100 * (y.natAbs * y.natAbs) < 81 * (energy a * energy b))

/-- ZERO_TRACKED sits at its limit of 1.0 ps around ZERO_LEARNED (R199), in 2^-16 ns. DEDUCED, log entry 54. -/
def Cal.zeroDrifts (k : Cal) : Bool := decide (65 ≤ (k.zeroTracked - k.zeroLearned).natAbs)

/-- Add lists elementwise; the longer one's tail stays. -/
def addLists (a b : List Int) : List Int :=
  match a, b with
  | [], l => l
  | l, [] => l
  | x :: s, y :: t => (x + y) :: addLists s t

/-- Count one shot. -/
def StepAcc.shot (a : StepAcc) (r : ShotRes) : StepAcc :=
  { a with
    shots := a.shots + 1, sumSnr := a.sumSnr + r.snr, sumPeak := a.sumPeak + r.peak,
    missed := a.missed + Word.ofBool (!r.good), clipped := a.clipped || r.clipped,
    good := a.good + Word.ofBool r.good, sumRho := a.sumRho + (if r.good then r.rho else 0),
    minCpr := if r.good then min a.minCpr r.cpr else a.minCpr,
    capSum := if r.good then addLists a.capSum r.taps else a.capSum, capN := a.capN + Word.ofBool r.good }

/-- Count one pair and its sample. -/
def StepAcc.pair (a : StepAcc) (cfg : ChanCfg) (x y : ShotRes) (r : PairRes) (sm : Sample) : StepAcc :=
  let a := (a.shot x).shot y
  let a := { a with samples := sm :: a.samples, held := a.held || decide (sm.status = .held) }
  if r.valid then
    { a with valid := a.valid + 1, sumT := a.sumT + r.tMean, sumDt := a.sumDt + r.dt,
             sumC := a.sumC + (cfg.pathL : Rat) * 100000 / r.tMean }
  else a

/-- Widen a span by a value. -/
def spanMin (m : Option Int) (v : Int) : Option Int := some (match m with | none => v | some x => min x v)

/-- Widen a span by a value. -/
def spanMax (m : Option Int) (v : Int) : Option Int := some (match m with | none => v | some x => max x v)

/-- The width of a span. -/
def spanWidth (lo hi : Option Int) : Int :=
  match lo, hi with
  | some a, some b => b - a
  | _, _ => 0

/-- Gather a pair for zero tracking (R199): `half` tells the window's second half. -/
def ZeroTrack.pair (z : ZeroTrack) (r : PairRes) (ok half : Bool) (thetaV : Option Int) : ZeroTrack :=
  let z := { z with ok := z.ok && ok && r.valid }
  let z := match thetaV with
    | none => z
    | some v => { z with vmin := spanMin z.vmin v, vmax := spanMax z.vmax v }
  if half then { z with n2 := z.n2 + 1, sum2 := z.sum2 + r.dtRaw } else { z with n1 := z.n1 + 1, sum1 := z.sum1 + r.dtRaw }

/-- Gather a pair for a running zero calibration (R195): phase 2 averages captures, phase 3 averages VALID pairs. -/
def ZeroCal.pair (z : ZeroCal) (phase : Nat) (half : Bool) (x y : ShotRes) (r : PairRes) (thetaV : Option Int) : ZeroCal :=
  if phase = 2 then
    let add (z : ZeroCal) (q : ShotRes) : ZeroCal :=
      if q.driven && q.driveOk && q.echo && !q.clipped then { z with capSum := addLists z.capSum q.taps, capN := z.capN + 1 } else z
    add (add z x) y
  else if phase = 3 && r.valid then
    let z := if half then { z with n2 := z.n2 + 1, sum2 := z.sum2 + r.dtRaw }
      else { z with n1 := z.n1 + 1, sum1 := z.sum1 + r.dtRaw }
    let z := { z with
      sumT := z.sumT + r.tMean, sumRaw := z.sumRaw + r.rawMean,
      sumPeak := z.sumPeak + x.peak + y.peak, sumRho := z.sumRho + x.rho + y.rho, sumSnr := z.sumSnr + x.snr + y.snr,
      shots := z.shots + 2 }
    match thetaV with
    | none => z
    | some v => { z with vmin := spanMin z.vmin v, vmax := spanMax z.vmax v, sumV := z.sumV + v, nV := z.nV + 1 }
  else z

end Sys2Proof.Machine
end

