-- ==== Sys2Proof/Machine/TempConv.lean ====
section
/-! DEFINITION. Temperatures: the ratio of a conversion turned into a temperature (R222 to R224), the sensor faults
(R229, R230), the pair in force (R225) and the converter checks (R226 to R228). -/

namespace Sys2Proof.Machine

/-- The reference of a channel's sensors: true for the 100 Ω reference (R218). -/
def usesRef100 (rtd : Nat) : Bool := rtd == 1

/-- Path gain G of a reference: the mean of the gain samples, else G_FACT (R226), in 2^-30. -/
def gainOf (samples : List Int) (gFact : Nat) : Rat :=
  if samples.isEmpty then (gFact : Rat) else (sumInt samples : Rat) / samples.length

/-- r of R223 in µΩ, exactly: R_REF · N / G. -/
def sensorOhms (ratio : Int) (g : Rat) (rRef : Nat) : Rat := (rRef : Rat) * ratio / g

/-- The temperature of R223 in µK of the Celsius scale, to the nearest µK; none when the root does not exist. A is in
2^-38, B in 2^-51, r in µΩ, R0 in mΩ. -/
def sensorTemp (c : SensorCal) (r : Rat) : Option Int :=
  if c.r0 = 0 ∨ c.b = 0 then none
  else
    let x := r / ((c.r0 * 1000 : Nat) : Rat)
    -- discriminant in 2^-76
    let d : Rat := ((c.a * c.a : Int) : Rat) - ((c.b * 2 ^ 27 : Int) : Rat) * (1 - x)
    if d < 0 then none
    else
      let root : Int := isqrt (ratFloor (d * (2 ^ 64 : Nat))).toNat
      let num := (root - c.a * 2 ^ 32) * 4096000000
      some (if 0 < c.b then divNear num (c.b.toNat * 2 ^ 32) else divNear (-num) ((-c.b).toNat * 2 ^ 32))

/-- θ rounded down to 0.0001 °C from µK, an offset in µK added (R224). -/
def thetaFloor (uk off : Int) : Int := (uk + off) / 100

/-- The sensor calibration of one side (R117). -/
def TempCal.side (t : TempCal) (ret : Bool) : SensorCal := if ret then t.ret else t.sup

/-- Whether a channel has a supply sensor (R165). -/
def ChanCfg.hasSup (c : ChanCfg) : Bool := c.rtd != 0

/-- Whether a channel has a return sensor (R165). -/
def ChanCfg.hasRet (c : ChanCfg) : Bool :=
  c.rtd != 0 && (match c.type with
    | .heat | .cool | .heatcool => true
    | _ => false)

/-- The kind of a conversion's failure, 0 for a good one (R229), with its temperature in µK. -/
def convKind (c : SensorCal) (r : Rat) (cv : Conversion) : Nat × Option Int :=
  let t := sensorTemp c r
  if cv.compliance then (1, none)
  else if 40000 < cv.leadPos ∨ 40000 < cv.leadNeg then (3, none)
  else if r < ((c.r0 * 1000 : Nat) : Rat) / 4 then (2, none)
  else match t with
    | none => (4, none)
    | some u => if u < -40000000 ∨ 200000000 < u then (4, none) else (0, some u)

/-- One more conversion of a sensor (R230). DEDUCED, log entry 28. -/
def Sensor.convert (x : Sensor) (kind : Nat) : Sensor :=
  if kind = 0 then
    let x := { x with failRun := 0, goodRun := x.goodRun + 1 }
    if x.faulted ∧ 2 ≤ x.goodRun then { x with faulted := false, kind := 0 } else x
  else
    let x := { x with failRun := x.failRun + 1, goodRun := 0 }
    if x.faulted ∨ 2 ≤ x.failRun then { x with faulted := true, kind := kind } else x

/-- The rated range of a channel type, 0.0001 °C (R221). -/
def ratedRange (t : ChType) : Int × Int :=
  match t with
  | .heat => (0, 1800000)
  | .cool => (20000, 500000)
  | .heatcool => (20000, 1800000)
  | .water => (0, 1000000)
  | .gas => (-250000, 550000)
  | .off => (0, 0)

/-- A temperature lies outside the rated range of a channel type (R221, R233). -/
def outside (type : ChType) (t : Option Int) : Bool :=
  match t with
  | none => false
  | some v => decide (v < (ratedRange type).1 ∨ (ratedRange type).2 < v)

/-- A temperature in force lies outside the rated range (R233). -/
def outOfRange (cfg : ChanCfg) (thetaS thetaR : Option Int) : Bool :=
  (cfg.hasSup && outside cfg.type thetaS) || (cfg.hasRet && outside cfg.type thetaR)

/-- One more check of a kind: it sets after two consecutive failing ones and clears after two passing ones (R228). -/
def Check.step (c : Check) (fail : Bool) : Check :=
  if fail then
    { failRun := c.failRun + 1, passRun := 0, holds := c.holds || decide (2 ≤ c.failRun + 1) }
  else { failRun := 0, passRun := c.passRun + 1, holds := c.holds && decide (c.passRun + 1 < 2) }

/-- |a − b| exceeds b by more than n parts per million. -/
def offBy (a b : Int) (ppm : Nat) : Bool := decide (b.natAbs * ppm < (a - b).natAbs * 1000000)

/-- CONVERTER holds (R228). -/
def Conv.converter (c : Conv) : Bool := c.cross.holds || c.zero.holds || c.gain.holds

/-- The factory words of converter k (R223). -/
def State.tcFactory (s : State) (k : Nat) : Nat × Nat × Nat × Nat × Nat := nth s.otp.converters (k - 1) (0, 0, 0, 0, 0)

/-- A channel's kinds as `TEMP_STATUS` shows them (R237): 5 while CONVERTER holds. -/
def sensorKind (x : Sensor) (converter has : Bool) : Nat :=
  if !has then 0 else if converter then 5 else if x.faulted then x.kind else 0

/-- The converter of channel n (R157): 2g − 1 for positions 1 to 5, 2g for 6 to 10. -/
def tcOf (n : Nat) : Nat := (n - 1) / 5 + 1

/-- The connector of channel n (R15). -/
def connOf (n : Nat) : Nat := (n - 1) / 10 + 1

/-- The position of channel n on its connector (R15). -/
def posOf (n : Nat) : Nat := (n - 1) % 10 + 1

/-- The five channels of converter k. -/
def chansOf (k : Nat) : List Nat := (List.range 5).map fun i => 5 * k - 4 + i

/-- A channel is temperature-faulted: a sensor is, or CONVERTER holds on its converter (R228, R230). -/
def State.tempFaulted (s : State) (n : Nat) : Bool :=
  let cfg := s.cfg n
  let conv := (s.tc (tcOf n)).converter
  let t := (s.ch n).temp
  (cfg.hasSup && (conv || t.sup.faulted)) || (cfg.hasRet && (conv || t.ret.faulted))

/-- The CH_FAULT bit of a channel (R174, R570). -/
def State.chFault (s : State) (n : Nat) : Bool :=
  (s.ch n).flow.flowFault || s.tempFaulted n || (s.ch n).lost

/-- `TEMP_STATUS`, shifted to bit 24 (R237). -/
def State.tempStatus (s : State) (n : Nat) : Nat :=
  let cfg := s.cfg n
  let tc := s.tc (tcOf n)
  let t := (s.ch n).temp
  (sensorKind t.sup tc.converter cfg.hasSup + 8 * sensorKind t.ret tc.converter cfg.hasRet +
    64 * Word.ofBool t.range + 128 * Word.ofBool tc.drift.holds) * 2 ^ 24

/-- Raise bits of a channel's event latch. -/
def State.chEvent (n mask : Nat) (s : State) : State :=
  s.onCh n fun c => { c with flow := { c.flow with events := setBits c.flow.events mask } }

/-- Log and raise the change of a sensor's fault (R230, R238, R308, R328); side 0 supply, 1 return. -/
def State.sensorChange (n side : Nat) (x y : Sensor) (s : State) : State :=
  let data := le 1 side ++ le 1 y.kind
  let s1 := s.change x.faulted y.faulted 0x50 n side data
  let s2 := if y.faulted && !x.faulted then s1.chEvent n (2 ^ (24 + side)) else s1
  let s3 := if x.faulted && !y.faulted && !s2.tempFaulted n then s2.chEvent n (2 ^ 26) else s2
  let disc := y.faulted && !x.faulted && (y.kind == 1 || y.kind == 2)
  let was := s3.tamper.disc.contains (n, side)
  if disc then s3.sensorDisc n side y.kind false true
  else if was && !y.faulted then s3.sensorDisc n side x.kind true false
  else s3

/-- The temperatures in force have changed: evaluate RANGE (R233); `quiet` for temperatures restored at a start. The event reports θ of
the sensor whose temperature began it, the supply's where both did (R308). DEDUCED, log entry 159. -/
def State.evalRange (n : Nat) (quiet : Bool) (s : State) : State :=
  let c := s.ch n
  let cfg := s.cfg n
  let now := outOfRange cfg c.temp.thetaS c.temp.thetaR
  let who := if c.temp.range then c.temp.rangeWho
    else if cfg.hasSup && outside cfg.type c.temp.thetaS then 0 else if now then 1 else 0
  let s1 := s.onCh n fun c => { c with temp := { c.temp with range := now, rangeWho := who } }
  let theta := match if who = 0 then c.temp.thetaS else c.temp.thetaR with
    | none => noTheta
    | some v => Word.ofInt 32 v
  if quiet then s1
  else
    let s2 := s1.change c.temp.range now 0x51 n 0 (le 4 theta)
    if now && !c.temp.range then s2.chEvent n (2 ^ 27) else s2

end Sys2Proof.Machine
end

