-- ==== Sys2Proof/Machine/Water.lean ====
section
/-! DEFINITION. The water property tables of the mask ROM (R243): IAPWS-IF97 region 1 at 1.6 MPa, in exact arithmetic, and
the cubic of R244. The coefficients are those of the published formulation that R243 names. -/

namespace Sys2Proof.Machine

/-- A coefficient of region 1: exponents I and J, and n as a decimal mantissa and the digits after its point. -/
structure Coef where
  i : Nat
  j : Int
  n : Int
  e : Nat

/-- The 34 coefficients of region 1. DEDUCED, log entry 33. -/
def waterCoefs : List Coef :=
  [⟨0, -2, 14632971213167, 14⟩, ⟨0, -1, -84548187169114, 14⟩, ⟨0, 0, -37563603672040, 13⟩, ⟨0, 1, 33855169168385, 13⟩] ++
  [⟨0, 2, -95791963387872, 14⟩, ⟨0, 3, 15772038513228, 14⟩, ⟨0, 4, -16616417199501, 15⟩, ⟨0, 5, 81214629983568, 17⟩] ++
  [⟨1, -9, 28319080123804, 17⟩, ⟨1, -7, -60706301565874, 17⟩, ⟨1, -1, -18990068218419, 15⟩, ⟨1, 0, -32529748770505, 15⟩] ++
  [⟨1, 1, -21841717175414, 15⟩, ⟨1, 3, -52838357969930, 18⟩, ⟨2, -3, -47184321073267, 17⟩, ⟨2, 0, -30001780793026, 17⟩] ++
  [⟨2, 1, 47661393906987, 18⟩, ⟨2, 3, -44141845330846, 19⟩, ⟨2, 17, -72694996297594, 29⟩, ⟨3, -4, -31679644845054, 18⟩] ++
  [⟨3, 0, -28270797985312, 19⟩, ⟨3, 6, -85205128120103, 23⟩, ⟨4, -5, -22425281908000, 19⟩, ⟨4, -2, -65171222895601, 20⟩] ++
  [⟨4, 10, -14341729937924, 26⟩, ⟨5, -8, -40516996860117, 20⟩, ⟨8, -11, -12734301741641, 22⟩, ⟨8, -6, -17424871230634, 23⟩] ++
  [⟨21, -29, -68762131295531, 32⟩, ⟨23, -31, 14478307828521, 33⟩, ⟨29, -38, 26335781662795, 36⟩, ⟨30, -39, -11947622640071, 36⟩] ++
  [⟨31, -40, 18228094581404, 37⟩, ⟨32, -41, -93537087292458, 39⟩]

/-- The value of a coefficient. -/
def Coef.val (c : Coef) : Rat := (c.n : Rat) / ((10 ^ c.e : Nat) : Rat)

/-- An integer power of a rational. -/
def ratPow (b : Rat) (k : Int) : Rat := if 0 ≤ k then b ^ k.toNat else 1 / b ^ (-k).toNat

/-- π − 7.1 with the sign of the formulation, at 1.6 MPa: 7.1 − 1.6 / 16.53. -/
def piTerm : Rat := 71 / 10 - 160 / 1653

/-- τ − 1.222 at entry k: τ = 1,386 K / T with T = 273.15 K + 0.25 K · k. -/
def tauTerm (k : Nat) : Rat := 1386 * 100 / ((27315 + 25 * k : Nat) : Rat) - 611 / 500

/-- ∂γ/∂π at entry k. -/
def gammaPi (k : Nat) : Rat :=
  waterCoefs.foldl (fun a c =>
    if c.i = 0 then a else a - c.val * c.i * piTerm ^ (c.i - 1) * ratPow (tauTerm k) c.j) 0

/-- ∂γ/∂τ at entry k. -/
def gammaTau (k : Nat) : Rat :=
  waterCoefs.foldl (fun a c =>
    if c.j = 0 then a else a + c.val * piTerm ^ c.i * c.j * ratPow (tauTerm k) (c.j - 1)) 0

/-- A rational rounded to the nearest integer, halves away from zero (R243). -/
def roundRat (r : Rat) : Int := divNear r.num r.den

/-- Word k of the density table, 2^-20 kg/m³ (R243): ρ = p / (π γπ R T), R = 0.461526 kJ/(kg K). DEDUCED, log entry 33. -/
def rhoWord (k : Nat) : Nat :=
  let t : Rat := ((27315 + 25 * k : Nat) : Rat) / 100
  (roundRat (1048576 * 16530 / (gammaPi k * (461526 / 1000000) * t))).toNat

/-- Word k of the enthalpy table, 2^-8 J/kg (R243): h = R · 1,386 K · γτ. DEDUCED, log entry 33. -/
def hWord (k : Nat) : Nat := (roundRat (256 * 1000 * (461526 / 1000000) * 1386 * gammaTau k)).toNat

/-- The cubic of R244 through four table words, truncated to the table unit. -/
def waterProp (table : Nat → Nat) (theta : Int) : Int :=
  let th : Int := min (max theta 0) 2000000
  let i : Nat := min (max (th / 2500).toNat 1) 798
  let u : Int := th - 2500 * i
  let t (k : Nat) : Int := table k
  let num : Int :=
    t (i - 1) * (-u * (u - 2500) * (u - 5000)) + t i * (3 * ((u + 2500) * (u - 2500) * (u - 5000))) +
    t (i + 1) * (-3 * ((u + 2500) * u * (u - 5000))) + t (i + 2) * ((u + 2500) * u * (u - 2500))
  divTrunc num (6 * 2500 * 2500 * 2500)

/-- ρ at a temperature (R244). -/
def rhoAt (theta : Int) : Int := waterProp rhoWord theta

/-- h at a temperature (R244). -/
def hAt (theta : Int) : Int := waterProp hWord theta

end Sys2Proof.Machine
end

