-- ==== Sys2Proof/Machine/Integrate.lean ====
section
/-! DEFINITION. One integration step of one datapath (R239 to R263): volume, energy, base volume, conditions, time counters
and substitution, on the body of the TOTALS record. -/

namespace Sys2Proof.Machine

/-- D_VOL (R241). -/
def dVol : Nat := 34560000000

/-- D_EN (R246). -/
def dEn : Nat := 3600000000 * 2 ^ 28

/-- A total modulo 2^80 (R242). -/
def wrap80 (v : Nat) : Nat := v % 2 ^ 80

/-- What the step close of a channel is given: the same for both datapaths. -/
structure StepIn where
  cfg      : ChanCfg
  gas      : Option GasDef
  /-- Temperatures in force, none where the sensor is absent or faulted (R225, R236). -/
  thetaS   : Option Int
  thetaR   : Option Int
  faulted  : Bool
  start    : Nat
  stop     : Nat
  /-- The samples of the step, oldest first, and the sample that covers its beginning (R239). -/
  samples  : List Sample
  carry    : Option Sample
  tick     : Nat
  time     : Nat
  osf      : Bool
  /-- The image has a TARIFF section (R286). -/
  tariffed : Bool
  pf       : Bool
  degraded : Bool
  merged   : Bool
  /-- The gap to substitute, in CLK_BUS cycles (R258). -/
  gap      : Option Nat
  cond1    : CondDef
  cond2    : CondDef
  deriving DecidableEq, Repr

/-- The increments that a step hands on (R254), with its mean flow and power (R213, R264). -/
structure Inc where
  dv     : Nat
  dvr    : Nat
  heat   : Nat
  cool   : Nat
  dvb    : Nat
  gas    : Nat
  flow   : Int
  power  : Int
  fault  : Bool
  /-- Substituted energy and volume, 2^-32, if a substitution was made. -/
  subst  : Option (Nat × Nat)
  deriving DecidableEq, Repr

/-- The intervals that tile a step: cycles, value and status (R239). -/
def intervals (stop : Nat) (last : Option Sample) (cur : Nat) (l : List Sample) : List (Nat × Int × SampleStatus) :=
  match l with
  | [] => match last with
    | none => []
    | some x => [(stop - cur, x.q, x.status)]
  | y :: t =>
    let rest := intervals stop (some y) (max cur y.at_) t
    match last with
    | none => rest
    | some x => (y.at_ - cur, x.q, x.status) :: rest

/-- The forward and reverse numerators and the FAULT cycles of a step (R240, R241). -/
def numerators (l : List (Nat × Int × SampleStatus)) : Nat × Nat × Nat :=
  l.foldl (fun (f, r, t) (w, q, st) =>
    let n := q.natAbs * 65536 * w
    (if 0 < q then f + n else f, if q < 0 then r + n else r, if st = .fault then t + w else t)) (0, 0, 0)

/-- Σ q·w of a step, signed, for its mean flow (R213). -/
def flowIntegral (l : List (Nat × Int × SampleStatus)) : Int := l.foldl (fun a (w, q, _) => a + q * w) 0

/-- The energy mode: 0 NONE, 1 HEAT, 2 COOL (R245). -/
def energyMode (cfg : ChanCfg) (s r : Option Int) : Nat :=
  match s, r with
  | some s, some r =>
    let d := s - r
    match cfg.type with
    | .heat => if 0 < d then 1 else 0
    | .cool => if d < 0 then 2 else 0
    | .heatcool => if cfg.dthetaOn < d then 1 else if d < -cfg.dthetaOn ∧ s < cfg.thetaCool then 2 else 0
    | .water | .gas | .off => 0
  | _, _ => 0

/-- The energy of a volume in one direction (R246): quotient and remainder. -/
def energyOf (dv rem : Nat) (thetaV hot cold : Int) : Nat × Nat :=
  let e : Int := (dv : Int) * rhoAt thetaV * (hAt hot - hAt cold) + rem
  ((e / dEn).toNat, (e % dEn).toNat)

/-- F_FIX (R249). -/
def fFix (g : GasDef) (theta : Int) : Nat :=
  ((2 ^ 32 : Int) * (g.tBase + 2731500) * g.pFactor / (theta + 2731500)).toNat

/-- A condition holds at the step close (R253). -/
def CondDef.holds (c : CondDef) (s r : Option Int) (flow : Int) : Bool :=
  let cmp (v : Int) : Bool := if c.cmp = 0 then decide (c.limit < v) else decide (v < c.limit)
  if c.qty = 1 then (match r with
    | none => false
    | some v => cmp v)
  else if c.qty = 2 then (match s, r with
    | some a, some b => cmp (a - b)
    | _, _ => false)
  else if c.qty = 3 then cmp flow
  else false

/-- The condition quantity's increment (R253). -/
def condInc (t : ChType) (i : Inc) : Nat :=
  match t with
  | .heat | .heatcool => i.heat
  | .cool => i.cool
  | .gas => i.gas
  | .water => i.dv
  | .off => 0

/-- Add to one tariff register of four. -/
def addTariff (l : List Nat) (tariff d : Nat) : List Nat := updAt l (tariff - 1) fun v => wrap80 (v + d)

/-- The last step has a flow to substitute (R259). -/
def Work.mayFill (w : Work) : Bool := decide (0 < w.qLast) && !Word.bit w.flags 5

/-- The substitution of R259 from the restored record: substituted volume, energy and the new remainders of V_SUBST and
E_SUBST. DEDUCED, log entry 34. -/
def substitute (i : StepIn) (w : Work) (gap : Nat) : Nat × Nat × Nat × Nat :=
  if w.mayFill then
    let num := w.qLast.toNat * 65536 * 65536 * gap
    match i.gas with
    | some g =>
      let v := num / dVol
      let theta := w.thetaV.getD g.tBase
      let b := v * fFix g theta + w.remVSub
      let dvb := b / 2 ^ 62
      let e := dvb * g.hs + w.remESub
      if Word.bit w.flags 6 then (dvb, 0, b % 2 ^ 62, w.remESub) else (dvb, e / 1000000, b % 2 ^ 62, e % 1000000)
    | none =>
      let v := num + w.remVSub
      let dv := v / dVol
      match w.hcMode, Word.bit w.flags 6, w.thetaS, w.thetaR with
      | 1, false, some s, some r =>
        let e := energyOf dv w.remESub ((i.cfg.vOf (some s) (some r)).getD s) s r
        (dv, e.1, v % dVol, e.2)
      | 2, false, some s, some r =>
        let e := energyOf dv w.remESub ((i.cfg.vOf (some s) (some r)).getD s) r s
        (dv, e.1, v % dVol, e.2)
      | _, _, _, _ => (dv, 0, v % dVol, w.remESub)
  else (0, 0, w.remVSub, w.remESub)

/-- The FLAGS byte of the step's record (R263). -/
def stepFlags (i : StepIn) (subst fault : Bool) : Nat :=
  Word.ofBool i.osf + 2 * Word.ofBool i.merged + 4 * Word.ofBool i.pf + 8 * Word.ofBool i.degraded +
  16 * Word.ofBool subst + 32 * Word.ofBool fault + 64 * Word.ofBool i.faulted

/-- The tariff in force for a step: that of the last evaluation, T1 while OSF is set and without a TARIFF section (R285, R286).
DEDUCED, log entry 34. -/
def tariffInForce (i : StepIn) (w : Work) : Nat :=
  if i.osf ∨ !i.tariffed ∨ w.bill.tariffNext < 1 ∨ 4 < w.bill.tariffNext then 1 else w.bill.tariffNext

/-- The increments of a step (R241, R246, R249, R250) and the working state with volumes, energies and remainders
advanced. DEDUCED, log entry 34. -/
def integrate (i : StepIn) (w : Work) : Work × Inc :=
  let iv := intervals i.stop i.carry i.start i.samples
  let n := numerators iv
  let len := i.stop - i.start
  let fw := w.remVFwd + n.1
  let rv := w.remVRev + n.2.1
  let dv := fw / dVol
  let dvr := rv / dVol
  let flow := if len = 0 then 0 else fitInt (divTrunc (flowIntegral iv) (65536 * len))
  let mode := energyMode i.cfg i.thetaS i.thetaR
  let s := i.thetaS.getD 0
  let r := i.thetaR.getD 0
  let v := (i.cfg.vOf i.thetaS i.thetaR).getD 0
  let heat := if mode = 1 then energyOf dv w.remEHeat v s r else (0, w.remEHeat)
  let cool := if mode = 2 then energyOf dv w.remECool v r s else (0, w.remECool)
  let gas : Nat × Nat × Nat × Nat := match i.cfg.type, i.gas with
    | .gas, some g =>
      let theta := if i.faulted then w.thetaV.getD g.tBase else i.thetaS.getD (w.thetaV.getD g.tBase)
      let b := w.remVBase + dv * fFix g theta
      let dvb := b / 2 ^ 62
      let e := dvb * g.hs + w.remEGas
      if i.faulted then (dvb, b % 2 ^ 62, 0, w.remEGas) else (dvb, b % 2 ^ 62, e / 1000000, e % 1000000)
    | _, _ => (0, w.remVBase, 0, w.remEGas)
  let energy : Int := if mode = 2 then -(cool.1 : Int) else if mode = 1 then heat.1 else gas.2.2.1
  let lastFault := match iv.getLast? with
    | none => false
    | some x => decide (x.2.2 = .fault)
  let inc : Inc :=
    { dv := dv, dvr := dvr, heat := heat.1, cool := cool.1, dvb := gas.1, gas := gas.2.2.1, flow := flow,
      power := if len = 0 then 0 else fitInt (divTrunc (energy * 345600000000) (2 ^ 32 * len)), fault := lastFault,
      subst := none }
  let tariff := tariffInForce i w
  ({ w with
      stepTick := i.tick, stepTime := i.time, hcMode := mode, tariff := tariff, stepLen := len, qLast := flow,
      thetaS := i.thetaS, thetaR := i.thetaR,
      thetaV := match i.cfg.vOf i.thetaS i.thetaR with
        | none => w.thetaV
        | some x => some x,
      vFwd := wrap80 (w.vFwd + dv), vRev := wrap80 (w.vRev + dvr), remVFwd := fw % dVol, remVRev := rv % dVol,
      eHeat := wrap80 (w.eHeat + heat.1), eHeatT := addTariff w.eHeatT tariff heat.1, remEHeat := heat.2,
      eCool := wrap80 (w.eCool + cool.1), eCoolT := addTariff w.eCoolT tariff cool.1, remECool := cool.2,
      vBase := wrap80 (w.vBase + gas.1), remVBase := gas.2.1, eGas := wrap80 (w.eGas + gas.2.2.1),
      remEGas := gas.2.2.2, tFlowFault := w.tFlowFault + n.2.2 }, inc)

/-- The condition registers (R253). -/
def applyConditions (i : StepIn) (inc : Inc) (w : Work) : Work :=
  let d := condInc i.cfg.type inc
  let w := if i.cond1.holds i.thetaS i.thetaR inc.flow then { w with eCond1 := wrap80 (w.eCond1 + d) } else w
  if i.cond2.holds i.thetaS i.thetaR inc.flow then { w with eCond2 := wrap80 (w.eCond2 + d) } else w

/-- The time counters (R247, R262). -/
def countTime (i : StepIn) (inc : Inc) (w : Work) : Work :=
  let len := i.stop - i.start
  let energyType := match i.cfg.type with
    | .heat | .cool | .heatcool => true
    | _ => false
  let both := i.thetaS.isSome && i.thetaR.isSome && !i.faulted
  let dt := (i.thetaS.getD 0 - i.thetaR.getD 0).natAbs
  let low := decide (0 < inc.dv) && decide (w.hcMode ≠ 0) && decide (dt < i.cfg.dthetaMin)
  let neg := decide (0 < inc.dv) && energyType && both && decide (w.hcMode = 0)
  { w with
    tLowDt := w.tLowDt + (if low then len else 0), tNegDt := w.tNegDt + (if neg then len else 0),
    tTempFault := w.tTempFault + (if i.faulted then len else 0) }

/-- A whole step of one datapath up to the record's FLAGS (R255). A gap over which nothing is substituted sets no FLAGS bit 4 and is not
logged (R259, R263). DEDUCED, log entry 34. -/
def stepWork (i : StepIn) (w : Work) : Work × Inc :=
  let r := integrate i w
  let w1 := countTime i r.2 (applyConditions i r.2 r.1)
  match if w.mayFill then i.gap else none with
  | none => ({ w1 with flags := stepFlags i false r.2.fault }, r.2)
  | some gap =>
    let x := substitute i w gap
    ({ w1 with
        vSubst := wrap80 (w1.vSubst + x.1), eSubst := wrap80 (w1.eSubst + x.2.1), remVSub := x.2.2.1,
        remESub := x.2.2.2, flags := stepFlags i true r.2.fault }, { r.2 with subst := some (x.2.1, x.1) })

end Sys2Proof.Machine
end

