-- ==== Sys2Proof/Machine/Billing.lean ====
section
/-! DEFINITION. Billing on the increments of a step (R283 to R310): demand, due-date snapshots, the load profile and the
tariff for the next step. -/

namespace Sys2Proof.Machine

/-- No setting that bills anything: what holds without an accepted image. -/
def Billing.none : Billing :=
  { annualMonth := 1, annualDay := 1, monthlyDay := 0, sliding := false, demandMin := 60, demandSub := 1,
    profileOn := false, cond1 := { qty := 0, cmp := 0, limit := 0 }, cond2 := { qty := 0, cmp := 0, limit := 0 } }

/-- The BILLING section in force. -/
def State.billing (s : State) : Billing :=
  match s.img.image with
  | .none => Billing.none
  | .some im => im.billing

/-- DST_RULE in force (R336). -/
def State.dst (s : State) : Bool :=
  match s.img.image with
  | .none => false
  | .some im => im.dst

/-! ### Demand (R288 to R291) -/

/-- The power quantity of a step (R288). -/
def powerQty (t : ChType) (i : Inc) : Nat :=
  match t with
  | .heat => i.heat
  | .cool => i.cool
  | .heatcool => i.heat + i.cool
  | .gas => i.gas
  | .water | .off => 0

/-- Replace a maximum, its time and its DFLAGS bit if the value is strictly greater (R290). -/
def maxDemand (v old oldTime time bit : Nat) (untrusted : Bool) (dflags : Nat) : Nat × Nat × Nat :=
  if old < v then
    let d := dflags - (if Word.bit dflags bit then 2 ^ bit else 0)
    (v, time, if untrusted then d + 2 ^ bit else d)
  else (old, oldTime, dflags)

/-- Set bit k of a byte. -/
def setBit (v k : Nat) : Nat := v ||| 2 ^ k

/-- Clear bit k of a byte. -/
def clearBit (v k : Nat) : Nat := if Word.bit v k then v - 2 ^ k else v

/-- One step end of the demand logic: the state, the sliding ring (newest first), and whether the sub-interval that now
runs has had no step end of its own (R289 to R291, R293). DEDUCED, log entry 23. -/
def BillState.demand (bl : Billing) (e v time : Nat) (osf short fresh : Bool) (ring : List (Nat × Nat)) (b : BillState) :
    BillState × List (Nat × Nat) × Bool :=
  let span := 60 * bl.demandMin / bl.demandSub
  let b := if b.subStart = 0 then { b with subStart := time } else b
  let bound := (b.subStart / span + 1) * span
  let b := if fresh then { b with subStart := time } else b
  let b := { b with
    subE := (b.subE + e) % 2 ^ 64, subV := (b.subV + v) % 2 ^ 64,
    dflags := if osf then b.dflags ||| 0x19 else b.dflags }
  if short ∨ bound ≤ time then
    let ring := ((b.subE, b.subV) :: ring).take bl.demandSub
    let den := bl.demandMin * 2 ^ 32
    let p := fitNat (2 ^ 31) ((ring.map (·.1)).foldl (· + ·) 0 * 600 / den)
    let q := fitNat (2 ^ 31) ((ring.map (·.2)).foldl (· + ·) 0 * 60 / den)
    let unt := osf || Word.bit b.dflags 0
    let mp := maxDemand p b.maxP b.maxPTime time 1 unt b.dflags
    let mq := maxDemand q b.maxQ b.maxQTime time 2 unt mp.2.2
    ({ b with
        maxP := mp.1, maxPTime := mp.2.1, maxQ := mq.1, maxQTime := mq.2.1, dflags := clearBit mq.2.2 0,
        subIdx := (b.subIdx + 1) % bl.demandSub, subE := 0, subV := 0, subStart := time }, ring, true)
  else (b, ring, false)

/-! ### Snapshots (R292, R294 to R301) -/

/-- The keys of a kind that are due (R296), ascending, newest `size` of them, with the number omitted and the first
omitted key. -/
def snapKeys (dst : Bool) (annualMonth : Option Nat) (day size : Nat) (ref : Option Nat) (commissioned now : Nat) :
    List Nat × Nat × Nat :=
  match latestKey dst annualMonth day now with
  | none => ([], 0, 0)
  | some top =>
    let lo := match ref with
      | some k => k + 1
      | none => match latestKey dst annualMonth day commissioned with
        | some k => k + 1
        | none => 0
    let keys := ((List.range (top + 1 - lo)).map (· + lo)).filter (isKey annualMonth)
    let left := keys.length - size
    (keys.drop left, left, keys.headD 0)

/-- Ring address of a snapshot entry (R300). -/
def snapAddr (n kind key : Nat) : Nat :=
  if kind = 1 then 0x120000 + 6144 * (n - 1) + 256 * (key % 24) else 0x160000 + 4096 * (n - 1) + 256 * (key / 12 % 16)

/-- The 16 totals of a snapshot (R301), in 2^-16. -/
def snapTotals (t : ChType) (w : Work) : List Nat :=
  let first := if t = .gas then [w.eGas, w.vBase] else [w.eHeat, w.eCool]
  ((first ++ w.eHeatT ++ w.eCoolT ++ [w.vFwd, w.vRev, w.eCond1, w.eCond2, w.eSubst, w.vSubst]).map (· / 65536))

/-- The lowest-indexed signing key (R300). -/
def Image.signKey (im : Image) : Option (List Byte) :=
  (im.keys.foldl (fun (b : Option KeyEntry) k =>
    if k.use = 6 then (match b with
      | none => some k
      | some x => if k.index < x.index then some k else b) else b) none).map (·.key)

/-- The greater of two maxima with their times; among equal ones the earlier time (R299). A time of 0 is no maximum. -/
def betterMax (a b : Nat × Nat) : Nat × Nat :=
  if b.2 = 0 then a
  else if a.1 < b.1 ∨ (a.1 = b.1 ∧ (a.2 = 0 ∨ b.2 < a.2)) then b else a

/-- Bytes of a snapshot entry of channel n in HOARD, if valid. -/
def Mem.snapEntry (m : Mem) (a : Nat) : Option (List Byte) :=
  if m.slotValid a 256 then some (m.hoard.readBytes a 256) else none

/-- Highest key among the valid snapshots of a kind, with the highest SEQ (R296, R300). -/
def Mem.snapTop (m : Mem) (n kind : Nat) : Option Nat × Nat :=
  let keys := (List.range (if kind = 1 then 24 else 16)).filterMap fun i =>
    (m.snapEntry (snapAddr n kind (if kind = 1 then i else 12 * i))).map fun d => (fieldAt d 8 2, fieldAt d 0 4)
  keys.foldl (fun b k => (some (match b.1 with
    | none => k.1
    | some x => max x k.1), max b.2 k.2)) (none, 0)

/-- YMAX of an annual snapshot (R299) from the monthly entries with DUE_TIME above lo, up to due, and the maxima in
force. -/
def yearMax (m : Mem) (n lo due : Nat) (monthly : Bool) (b : BillState) : (Nat × Nat) × (Nat × Nat) :=
  let start := ((b.maxP, b.maxPTime), (b.maxQ, b.maxQTime))
  if !monthly then start
  else
    (List.range 24).foldl (fun (p, q) k =>
      match m.snapEntry (snapAddr n 1 k) with
      | none => (p, q)
      | some d =>
        let dueT := fieldAt d 0xC 5
        if lo < dueT ∧ dueT ≤ due then
          (betterMax p (fieldAt d 0xA8 4, fieldAt d 0xB0 5), betterMax q (fieldAt d 0xAC 4, fieldAt d 0xB5 5))
        else (p, q)) start

/-- Whole seconds of a cycle count. -/
def wholeSeconds (cycles : Nat) : Nat := cycles / 9600000

/-- The body of a snapshot entry, bytes 0x008 to 0x0F7 (R300). -/
def snapBody (t : ChType) (n kind key due taken flags seq pcc freeze : Nat) (credit : Int) (y : (Nat × Nat) × (Nat × Nat))
    (sign : Option (List Byte)) (w : Work) : List Byte :=
  let b := w.bill
  let flags := flags + 64 * Word.ofBool sign.isNone + 128 * Word.ofBool (decide (t = .gas))
  let d := le 2 key ++ le 1 kind ++ le 1 flags ++ le 5 due ++ le 5 taken ++ le 1 w.tariff ++ le 1 n ++ le 4 w.stepTick ++
    le 4 seq ++ le 4 pcc ++ zeros 4 ++ (snapTotals t w).flatMap (le 8) ++ le 4 b.maxP ++ le 4 b.maxQ ++ le 5 b.maxPTime ++
    le 5 b.maxQTime ++ le 5 b.periodStart ++ zeros 1 ++
    (if kind = 2 then le 4 y.1.1 ++ le 4 y.2.1 ++ le 5 y.1.2 ++ le 5 y.2.2 else zeros 18) ++ zeros 2 ++
    le 4 (wholeSeconds w.tFlowFault) ++ le 4 (wholeSeconds w.tTempFault) ++ le 4 (wholeSeconds w.tLowDt) ++
    le 4 (wholeSeconds w.tNegDt) ++ leInt 8 credit ++ le 4 freeze
  d ++ (match sign with
    | none => zeros 8
    | some k => (cmac k d).take 8)

/-- The reset of the maxima after a snapshot (R292, R290). -/
def BillState.afterSnap (time : Nat) (b : BillState) : BillState :=
  { b with maxP := 0, maxQ := 0, maxPTime := 0, maxQTime := 0, periodStart := time,
           dflags := clearBit (clearBit b.dflags 1) 2 }

/-- Whether channel n has a PREPAY entry, and which (R311). -/
def State.prepay (s : State) (n : Nat) : Option PrepayEntry :=
  match s.img.image with
  | none => none
  | some im => match im.prepay with
    | none => none
    | some p => p.entries.find? fun e => e.ch == n

/-- The sequence number of the allocator freeze as its record holds it (R431): the freeze record's sequence field. -/
def State.freezeSeq (s : State) : Nat :=
  match s.img.image with
  | none => 0
  | some im => if im.allocs.isNone then 0 else
    match s.alc.run with
    | some r => r.seq
    | none => match s.mem.drain.readSlots 0x24F000 0x24F040 64 with
    | .body d => fieldAt d 0 4
    | .absent | .lost => 0

/-- Take one snapshot of channel n from working state w (R296 to R299): its entry, queued behind the step's commit, and the
LATE event. `extra` holds the FLAGS bits 2 to 4. -/
def State.takeSnap (n kind key extra : Nat) (prevDue : Option Nat) (w : Work) (s : State) : State × HoardRec :=
  let bl := s.billing
  let day := if kind = 1 then bl.monthlyDay else bl.annualDay
  let due := dueInstant s.dst day key
  let now := s.rtc.count
  let late := decide (due + 10 < now)
  let dfl := w.bill.dflags
  let unt := s.rtc.osf || Word.bit dfl (2 + kind)
  let flags := Word.ofBool late + 2 * Word.ofBool unt + extra + 32 * Word.ofBool (Word.bit dfl 1 || Word.bit dfl 2)
  let lo := prevDue.getD s.img.module_.commissionTime
  let y := if kind = 2 then yearMax s.mem.drain n lo due (bl.monthlyDay != 0) w.bill else ((0, 0), (0, 0))
  let sign := match s.img.image with
    | none => none
    | some im => im.signKey
  let c := s.ch n
  let q := 1 + if kind = 1 then c.snap.seqM else c.snap.seqA
  let body := snapBody (s.cfg n).type n kind key due now flags s.img.module_.acceptedSeq s.img.module_.pcc
    (if kind = 2 then s.freezeSeq else 0) (if (s.prepay n).isSome then w.credit.credit else 0) y sign w
  let s1 := if late then s.event 0x30 n (le 2 key ++ le 1 kind) else s
  ((s1.snapOffer n key (decide (kind = 2))).onCh n fun c => { c with
    snap := if kind = 1 then { c.snap with keyM := some key, seqM := q } else { c.snap with keyA := some key, seqA := q } },
   { kind := .single (snapAddr n kind key) q, body := body })

/-- Take the keys of one kind in order. -/
def State.takeSnaps (n kind extra : Nat) (w : Work) (prevDue : Option Nat) (keys : List Nat) (s : State) :
    State × List HoardRec :=
  match keys with
  | [] => (s, [])
  | k :: t =>
    let r := s.takeSnap n kind k extra prevDue w
    let day := if kind = 1 then s.billing.monthlyDay else s.billing.annualDay
    let rest := State.takeSnaps n kind extra w (some (dueInstant s.dst day k)) t r.1
    (rest.1, r.2 :: rest.2)

/-- One kind of due-date snapshots (R296), with the event for keys omitted. The previous snapshot's DUE_TIME is the one that it records
(R299). -/
def State.snapKind (n kind extra : Nat) (w : Work) (s : State) : State × List HoardRec :=
  let bl := s.billing
  let c := s.ch n
  if kind = 1 ∧ bl.monthlyDay = 0 then (s, [])
  else
    let ref := if kind = 1 then c.snap.keyM else c.snap.keyA
    let day := if kind = 1 then bl.monthlyDay else bl.annualDay
    let r := snapKeys s.dst (if kind = 1 then none else some bl.annualMonth) day (if kind = 1 then 24 else 16) ref
      s.img.module_.commissionTime s.rtc.count
    let s1 := if r.2.1 = 0 then s else s.event 0x31 n (le 1 kind ++ le 2 r.2.1 ++ le 2 r.2.2)
    let prev := ref.map fun k => match s.mem.drain.snapEntry (snapAddr n kind k) with
      | some d => fieldAt d 0xC 5
      | none => dueInstant s.dst day k
    State.takeSnaps n kind extra w prev r.1 s1

/-- The snapshots of a step end, monthly first (R296): the entries, and the working state after them (R292). -/
def State.snapshots (n extra : Nat) (w : Work) (s : State) : State × Work × List HoardRec :=
  let m := s.snapKind n 1 extra w
  let a := m.1.snapKind n 2 extra w
  let all := m.2 ++ a.2
  if all.isEmpty then (a.1, w, [])
  else
    let b := w.bill.afterSnap s.rtc.count
    let b := { b with dflags := if m.2.isEmpty then b.dflags else clearBit b.dflags 3 }
    let b := { b with dflags := if a.2.isEmpty then b.dflags else clearBit b.dflags 4 }
    (a.1, { w with bill := b }, all)

/-! ### Load profile (R302 to R305) -/

/-- The 16-bit profile format (R305). -/
def profileFmt (v : Int) : Nat :=
  let a := v.natAbs
  let x := (List.range 8).foldl (fun b i => if a / 10 ^ (7 - i) ≤ 4095 then 7 - i else b) 7
  (if v < 0 then 0x8000 else 0) + x * 4096 + min 4095 (a / 10 ^ x)

/-- Integer bits [31:0] of a total. -/
def low32 (v : Nat) : Nat := v / 2 ^ 32 % 2 ^ 32

/-- The totals that the profile differences: energy, cooling, volume (R304). -/
def profTotals (t : ChType) (w : Work) : Nat × Nat × Nat :=
  if t = .gas then (low32 w.eGas, low32 w.eCool, low32 w.vBase) else (low32 w.eHeat, low32 w.eCool, low32 w.vFwd)

/-- Start a profile hour with the totals of `base` (R302). DESIGN CHOICE, log entry 22. -/
def Work.startHour (t : ChType) (hour : Nat) (base w : Work) : Work :=
  let p := profTotals t base
  { w with bill := { w.bill with
      profHour := hour, profTicks := 0, profTicksT := 0, sumS := 0, sumR := 0, profQmax := -(2 ^ 31 : Int), pflags := 0,
      profE0 := p.1, profC0 := p.2.1, profV0 := p.2.2 } }

/-- A mean temperature of the hour in 0.1 °C, 12 bits (R304). -/
def profMean (sum : Int) (ticks : Nat) : Nat := if ticks = 0 then 0x800 else Word.ofInt 12 (sum / (ticks : Int) / 1000)

/-- Bytes 3 to 15 of a profile entry (R304). -/
def profileEntry (cfg : ChanCfg) (w : Work) : List Byte :=
  let b := w.bill
  let p := profTotals cfg.type w
  let diff (a b : Nat) : Nat := (a + 2 ^ 32 - b) % 2 ^ 32
  let heat := diff p.1 b.profE0
  let cool := diff p.2.1 b.profC0
  let e : Int := match cfg.type with
    | .heat | .gas => heat
    | .cool => -(cool : Int)
    | .heatcool => (heat : Int) - cool
    | .water | .off => 0
  let flags := b.pflags ||| (if b.profTicks < 14400 then 4 else 0) ||| (if 0 < heat ∧ 0 < cool then 32 else 0)
  le 3 b.profHour ++ le 2 (profileFmt e) ++ le 2 (profileFmt (diff p.2.2 b.profV0)) ++
    le 2 (profileFmt (if b.profQmax = -(2 ^ 31 : Int) then 0 else b.profQmax)) ++ le 1 flags ++
    le 3 (profMean b.sumS b.profTicksT + 4096 * (if cfg.hasRet then profMean b.sumR b.profTicksT else 0x800))

/-- Gather a step into the hour (R302): `flags` holds the step's bits 0, 1, 3 to 6 of R304. -/
def Work.gatherHour (cfg : ChanCfg) (len flags : Nat) (flow : Int) (w : Work) : Work :=
  let b := w.bill
  let ticks := len / tickCycles
  let inForce := cfg.hasSup && w.thetaS.isSome && (!cfg.hasRet || w.thetaR.isSome)
  let b := { b with
    profTicks := Word.sat 65535 (b.profTicks + ticks), profQmax := max b.profQmax flow, pflags := b.pflags ||| flags }
  { w with bill := if inForce then { b with
      profTicksT := Word.sat 65535 (b.profTicksT + ticks), sumS := b.sumS + w.thetaS.getD 0 * ticks,
      sumR := b.sumR + w.thetaR.getD 0 * ticks } else b }

/-- No profile hour runs yet: BILLING_STATE is the zero one of R595 and R148. -/
def BillState.noHour (b : BillState) : Bool :=
  b.subStart == 0 && b.profHour == 0 && b.profTicks == 0 && b.pflags == 0 && b.profQmax == 0

/-- One step end of the load profile (R302, R344): the working state, whether the hour number has changed, and the entry of the hour that
closes, by a change of the hour number or short by a time step. `old` is the working state before the step: the first step of a channel
starts the hour in which it ends. DESIGN CHOICE, log entry 22. -/
def Work.profile (cfg : ChanCfg) (len flags time : Nat) (flow : Int) (stepped : Bool) (old w : Work) :
    Work × Bool × Option (List Byte) :=
  let hour := time / 3600 % 2 ^ 24
  let w := (if old.bill.noHour then w.startHour cfg.type hour old else w).gatherHour cfg len flags flow
  let newHour := decide (w.bill.profHour ≠ hour)
  if newHour || stepped then (w.startHour cfg.type hour w, newHour, some (profileEntry cfg w)) else (w, false, none)

/-- Where the profile entry with a sequence number lies (R303). -/
def profAddr (n seq : Nat) : Nat := 0x190000 + 11904 * (n - 1) + 16 * ((seq - 1) % 744)

/-- Give the entry its sequence number (R303). -/
def State.profileRec (n : Nat) (d : List Byte) (s : State) : State × HoardRec :=
  let q := (s.ch n).snap.profSeq + 1
  (s.onCh n fun c => { c with snap := { c.snap with profSeq := q } }, { kind := .profile (profAddr n q), body := le 3 q ++ d })

/-! ### Tariff (R284 to R286, R309, R310) -/

/-- Evaluate the tariff for channel n's next step (R285): the working state and what `CHW_TARIFF` shows. -/
def State.nextTariff (s : State) (w : Work) : Work × (Nat × Nat × Bool × Bool) :=
  let t := tariffAt (match s.img.image with
    | none => none
    | some im => im.tariff) s.dst s.rtc.osf s.rtc.count
  ({ w with bill := { w.bill with tariffNext := t.1 } }, t.2)

/-- `CHW_TARIFF` (R309). -/
def tariffWord (w : Work) (e : Nat × Nat × Bool × Bool) (closed : Bool) : Nat :=
  (if closed then w.tariff else 0) + 8 * Word.ofBool e.2.2.2 + 16 * (w.bill.tariffNext % 8) + 128 * Word.ofBool e.2.2.1 +
    256 * (e.1 % 4) + 2048 * Word.ofBool (Word.bit w.bill.dflags 1 || Word.bit w.bill.dflags 2) + 4096 * (e.2.1 % 8) +
    2 ^ 16 * (w.bill.maxPTime / 2 ^ 32 % 256) + 2 ^ 24 * (w.bill.maxQTime / 2 ^ 32 % 256)

/-- `CHW_MAXDEM_P`, its time, `CHW_MAXDEM_Q` and its time (R310). -/
def maximaWords (b : BillState) : List Nat :=
  [b.maxP % 2 ^ 32, b.maxPTime % 2 ^ 32, b.maxQ % 2 ^ 32, b.maxQTime % 2 ^ 32]

end Sys2Proof.Machine
end

