-- ==== Sys2Proof/Machine/Valve.lean ====
section
/-! DEFINITION. The valve bridge: commands and their answers (R276, R277), moves, feedback and faults (R275, R278, R279), and
what interruptions leave (R280). -/

namespace Sys2Proof.Machine

/-- Ticks run and the module is neither off nor unpowered. -/
def State.running (s : State) : Bool :=
  decide (s.pwr.phase = .running ∧ s.pwr.state ≠ .off ∧ s.pwr.state ≠ .unpowered) && !s.pwr.failSilent

/-- The module runs in NORMAL (R4, R57). -/
def State.normal (s : State) : Bool := s.running && decide (s.pwr.mode = .normal)

/-- The module runs in BACKUP. -/
def State.backup (s : State) : Bool := s.running && decide (s.pwr.mode = .backup)

/-- Apply f to both datapaths' working state of a channel (R256). -/
def Chan.onWork (c : Chan) (f : Work → Work) : Chan := { c with a := f c.a, b := f c.b }

/-- Apply f to a channel's VALVE_STATE (R281). -/
def State.onValve (n : Nat) (f : ValveState → ValveState) (s : State) : State :=
  s.onCh n fun c => c.onWork fun w => { w with valve := f w.valve }

/-- Apply f to a channel's CREDIT_STATE (R316). -/
def State.onCredit (n : Nat) (f : CreditState → CreditState) (s : State) : State :=
  s.onCh n fun c => c.onWork fun w => { w with credit := f w.credit }

/-- The channel has a valve (R115). -/
def ChanCfg.hasValve (c : ChanCfg) : Bool := Word.bit c.options 2

/-- How a valve command is answered (R276). -/
inductive ValveAnswer where
  | ok | queued | busy | notInState | badArg
  deriving DecidableEq, Repr

/-- The counted reading of the contacts (R275): 0 none yet, 1 OPEN, 2 CLOSED, 3 UNKNOWN, 4 both closed. -/
def contactPos (r : Bool × Bool) : Nat := if r.1 && r.2 then 4 else if r.1 then 1 else if r.2 then 2 else 3

/-- The counted position of a reading history, newest first. -/
def countedPos (h : List (Bool × Bool)) : Nat :=
  match h with
  | x :: y :: _ => if x = y then contactPos x else 0
  | _ => 0

/-- The valve shows FB_BOTH: both contacts count as closed. -/
def Valve.showsBoth (v : Valve) : Bool := countedPos v.hist == 4

/-- Whether the bridge moves channel n's valve. -/
def Bridge.moves (b : Bridge) (n : Nat) : Bool :=
  match b.moving with
  | none => false
  | some c => c.ch == n

/-- The queued command of a channel. -/
def Bridge.queued (b : Bridge) (n : Nat) : Option ValveCmd := b.queue.find? fun c => c.ch == n

/-- Submit a valve command (R276): dir 1 OPEN, 2 CLOSE; source 1 remote, 2 credit policy. The state, the answer and the
ticket of an accepted command. During a power-fail sequence, a phase of NORMAL, the answer is BUSY (R56). A move that waits to be resumed
is a queued command (R280): another direction takes its place. DEDUCED, log entry 25. -/
def State.submitValve (n dir source : Nat) (s : State) : State × ValveAnswer × Nat :=
  let v := (s.ch n).a.valve
  let t := s.bridge.next
  if !(s.cfg n).hasValve then (s, .badArg, 0)
  else if !s.normal || !s.active then (s, .notInState, 0)
  else if s.pwr.pfActive then (s, .busy, 0)
  else if (s.ch n).valve.showsBoth then (s, .notInState, 0)
  else if s.bridge.moves n then (s, .busy, 0)
  else
    let s1 := (s.onBridge fun b => { b with next := t + 1 }).onValve n fun v => { v with source := source }
    if v.position = dir ∧ (s.bridge.queued n).isNone then (s1, .ok, t)
    else
      match s.bridge.queued n with
      | some c =>
        ((s1.onBridge fun b => { b with
            queue := b.queue.map fun q => if q.ch = n then { q with dir := dir, source := source } else q }).onValve n
          fun v => { v with pending := dir, position := if 4 ≤ v.position then 3 else v.position }, .queued, c.ticket)
      | none =>
        let idle := s.bridge.moving.isNone && s.bridge.queue.isEmpty
        ((s1.onBridge fun b => { b with
            queue := b.queue ++ [{ ch := n, dir := dir, source := source, ticket := t }] }).onValve n
          fun v => { v with pending := dir, ticket := t }, if idle then .ok else .queued, t)

/-- The estimate of R277 for the queued command of channel n, in whole seconds. -/
def State.valveEstimate (n nowMs : Nat) (s : State) : Nat :=
  let tmax (k : Nat) : Nat := 1000 * (s.cfg k).valveTmax
  let head := match s.bridge.moving with
    | none => 0
    | some c => tmax c.ch - (nowMs - s.bridge.since)
  let ahead := match findIdx (fun c => c.ch == n) s.bridge.queue with
    | none => s.bridge.queue
    | some i => s.bridge.queue.take (i + 1)
  ((ahead.map fun c => 200 + tmax c.ch).foldl (· + ·) head + 999) / 1000

/-- Place of channel n in the queue, 1 to 39; 0 not queued (R282). -/
def State.queuePos (n : Nat) (s : State) : Nat :=
  match findIdx (fun c => c.ch == n) s.bridge.queue with
  | none => 0
  | some i => min 39 (i + 1)

/-- `CHW_VALVE` (R282). -/
def State.valveWord (n : Nat) (s : State) : Nat :=
  if !(s.cfg n).hasValve then 0
  else
    let v := (s.ch n).a.valve
    v.position % 8 + 16 * (v.pending % 4) + 256 * (v.fault % 8) + 4096 * (v.source % 4) + 2 ^ 16 * s.queuePos n +
      2 ^ 24 * ((s.ch n).valve.lastMoveS % 256)

/-- What the bridge drives (R19, R274): the channel, its bridge voltage in mV, and whether VLV_A is positive against VLV_B. -/
structure BridgeDrive where
  ch       : Nat
  mV       : Nat
  positive : Bool
  deriving DecidableEq, Repr

/-- The bridge's current limit, mA (R274). -/
def bridgeLimit : Nat := 250

/-- The bridge drives the valve that moves, towards OPEN with VLV_A positive; at any other time, and for every other channel, both
terminals are high-impedance (R39, R274). -/
def State.bridgeDrive (s : State) : Option BridgeDrive :=
  if s.normal && s.active && !s.pwr.pfActive then
    s.bridge.moving.map fun c => { ch := c.ch, mV := (s.cfg c.ch).valveMv, positive := decide (c.dir = 1) }
  else none

/-- Stop the bridge and leave its rest to run from now. -/
def State.stopBridge (nowMs : Nat) (s : State) : State := s.onBridge fun b => { b with moving := none, since := nowMs }

/-- Record and log a valve fault (R279). -/
def State.valveFault (n code : Nat) (s : State) : State :=
  let s1 := s.onValve n fun v => { v with fault := code }
  let v := (s1.ch n).a.valve
  s1.event 0x72 n (le 1 code ++ le 1 v.position ++ le 4 v.ticket)

/-- A fault ends the move in progress (R279). -/
def State.moveFault (n code nowMs : Nat) (s : State) : State :=
  let p := countedPos (s.ch n).valve.hist
  let pos := if p = 1 ∨ p = 2 then p else 3
  ((s.stopBridge nowMs).onValve n fun v => { v with position := pos, elapsed := 0, flags := 0 }).valveFault n code

/-- A move has reached its target (R278, R279, R281). -/
def State.moveDone (n dir nowMs : Nat) (s : State) : State :=
  let dur := (nowMs - s.bridge.since + 999) / 1000
  ((s.stopBridge nowMs).onValve n fun v => { v with
      position := dir, fault := 0, elapsed := 0, flags := 0, lastMove := s.rtc.count }).onCh n fun c => { c with
        valve := { c.valve with lastEnd := dir, movedRun := 0, opposite := none, lastMoveS := min 255 dur } }

/-- Drop queued commands whose valve already shows the commanded position (R276). -/
def State.dropDone (q : List ValveCmd) (s : State) : State :=
  match q with
  | [] => s.onBridge fun b => { b with queue := [] }
  | c :: t =>
    if (s.ch c.ch).a.valve.position = c.dir then
      State.dropDone t (s.onValve c.ch fun v => { v with pending := 0, flags := 0, elapsed := 0 })
    else s.onBridge fun b => { b with queue := c :: t }

/-- The bridge has rested since its last move (R277). -/
def Bridge.rested (b : Bridge) (nowMs : Nat) : Bool := b.since == 0 || decide (b.since + 200 ≤ nowMs)

/-- Start the next move (R278). -/
def State.startMove (nowMs : Nat) (s : State) : State :=
  let s1 := s.dropDone s.bridge.queue
  match s1.bridge.queue with
  | [] => s1
  | c :: t =>
    ((s1.onBridge fun b => { b with moving := some c, since := nowMs, queue := t }).onValve c.ch fun v => { v with
        position := 3 + c.dir, pending := 0, source := c.source, elapsed := 0, flags := 0 }).onCh c.ch fun x => { x with
          valve := { x.valve with opposite := none, movedRun := 0 } }

/-- Stop the move in progress for an interruption (R52, R280): `flag` is the FLAGS bit, 0 power failure, 1 reset. -/
def State.interruptMove (nowMs flag : Nat) (s : State) : State :=
  match s.bridge.moving with
  | none => s
  | some c =>
    (s.onBridge fun b => { b with moving := none, since := nowMs }).onValve c.ch fun v => { v with
      elapsed := min 65535 (v.elapsed + (nowMs - s.bridge.since) / 100), flags := setBit v.flags flag }

/-- Insert a command by its ticket. -/
def insertTicket (c : ValveCmd) (l : List ValveCmd) : List ValveCmd :=
  match l with
  | [] => [c]
  | x :: t => if c.ticket < x.ticket then c :: x :: t else x :: insertTicket c t

/-- When NORMAL begins: the moves recorded as in progress first, in ticket order, then the queued commands (R280). -/
def State.resumeValves (s : State) : State :=
  let all := s.activeCh.filter fun n => (s.cfg n).hasValve
  let moving := all.filter fun n => decide (4 ≤ (s.ch n).a.valve.position)
  let idle := all.filter fun n => decide ((s.ch n).a.valve.position < 4 ∧ (s.ch n).a.valve.pending ≠ 0)
  let cmd (src : Nat) (n : Nat) : ValveCmd :=
    let v := (s.ch n).a.valve
    { ch := n, dir := if 4 ≤ v.position then v.position - 3 else v.pending, source := if src = 3 then 3 else v.source,
      ticket := v.ticket }
  let first := (moving.map (cmd 3)).foldl (fun l c => insertTicket c l) []
  let rest := (idle.map (cmd 0)).foldl (fun l c => insertTicket c l) []
  let top := (first ++ rest).foldl (fun m c => max m c.ticket) 0
  let s1 := s.onBridge fun b => { b with moving := none, queue := first ++ rest, next := max b.next (top + 1) }
  moving.foldl (fun t n => t.onValve n fun v => { v with source := 3 }) s1

/-! ### Credit (R312 to R325) -/

/-- The increment that the credit pays for (R312). -/
def chargedQty (unit : Nat) (t : ChType) (i : Inc) : Nat :=
  if unit = 0 then powerQty t i else match t with
    | .gas => i.dvb
    | .heat | .cool | .heatcool | .water => i.dv
    | .off => 0

/-- The credit state of R314. -/
def creditState (grace credit : Int) : Nat := if 0 < credit then 1 else if -grace < credit then 2 else 3

/-- OVERRIDE clears when the credit state becomes CREDIT (R324). -/
def CreditState.become (st : Nat) (c : CreditState) : CreditState :=
  { c with cstate := st, cflags := if st = 1 ∧ c.cstate ≠ 1 then clearBit c.cflags 1 else c.cflags }

/-- Charge a step (R313): the state, and whether the subtraction saturated. -/
def CreditState.charge (e : PrepayEntry) (t : ChType) (i : Inc) (c : CreditState) : CreditState × Bool :=
  let x := chargedQty e.unit t i * e.price + c.rem
  let q : Int := c.credit - (x / 2 ^ 40 : Nat)
  let low : Int := -(2 ^ 47 : Int) * 65536
  let cr := if q < low then low else q
  ({ c with credit := cr, rem := x % 2 ^ 40 }.become (creditState e.grace cr), decide (q < low))

/-- Charge a step of channel n's working state, if it is prepaid. -/
def chargeWork (e : Option PrepayEntry) (t : ChType) (i : Inc) (w : Work) : Work × Bool :=
  match e with
  | none => (w, false)
  | some e =>
    let r := w.credit.charge e t i
    ({ w with credit := r.1 }, r.2)

/-- Log a change of credit state or a saturation (R313, R314, R329). -/
def State.logCredit (n : Nat) (old : Nat) (c : CreditState) (saturated : Bool) (s : State) : State :=
  if old ≠ c.cstate ∨ saturated then s.event 0x90 n (le 1 c.cstate ++ leInt 8 c.credit) else s

/-- FAULT_HOURS, LOCKOUT and REISSUED at a step close (R321, R325): `perWh` for UNIT 0, which alone counts hours, `faulted` at this step, `hourOver` at a change of the
profile hour, `allHour` whether every step close of the ended hour was faulted. -/
def CreditState.hours (perWh faulted hourOver allHour : Bool) (c : CreditState) : CreditState :=
  let c := if hourOver then { c with cflags := clearBit c.cflags 3 } else c
  let f := if !faulted then 0 else if perWh && hourOver && allHour then Word.sat 255 (c.faultHours + 1) else c.faultHours
  { c with faultHours := f, cflags := if 24 ≤ f then setBit c.cflags 2 else clearBit c.cflags 2 }

/-- The protected period in force (R323). -/
def State.protectedNow (s : State) : Option Nat :=
  match s.img.image with
  | none => none
  | some im => match im.prepay with
    | none => none
    | some p => protectedAt p.prot s.dst s.rtc.osf s.rtc.count

/-- Submit a policy command, log an accepted one (R329), and set CFLAGS by the answer: `ok` on OK or QUEUED, `wait`
otherwise. DEDUCED, log entry 26. -/
def State.policySubmit (n dir : Nat) (ok wait : Nat → Nat) (s : State) : State :=
  let r := s.submitValve n dir 2
  match r.2.1 with
  | .ok | .queued =>
    let c := (r.1.ch n).a.credit
    let s1 := r.1.event (if dir = 2 then 0x93 else 0x95) n (leInt 8 c.credit ++ le 4 r.2.2)
    s1.onCredit n fun c => { c with cflags := ok c.cflags }
  | .busy | .notInState => r.1.onCredit n fun c => { c with cflags := wait c.cflags }
  | .badArg => r.1

/-- A command other than one of the policy has closed the valve, closes it, or waits to (R324). -/
def State.closedRemotely (s : State) (n : Nat) : Bool :=
  let v := (s.ch n).a.valve
  v.source != 2 && (v.pending == 2 || (v.pending == 0 && (v.position == 2 || v.position == 5))) && v.source != 0

/-- The valve policy of R322 for channel n. A valve that a remote command closed is not closed again for credit, and so never reopened
(R324). DEDUCED, log entry 26. -/
def State.policy (n : Nat) (s : State) : State :=
  if (s.prepay n).isNone || !(s.cfg n).hasValve then s
  else
    let c := (s.ch n).a.credit
    let lock := Word.bit c.cflags 2
    let out := c.cstate == 3 || lock
    let forced := Word.bit c.cflags 1
    let closed := Word.bit c.cflags 0
    match s.protectedNow with
    | none =>
      if out && !forced && !closed && !s.closedRemotely n then
        s.policySubmit n 2 (fun f => setBit (clearBit f 4) 0) (fun f => setBit f 4)
      else if c.cstate == 1 && !lock && closed then
        s.policySubmit n 1 (fun f => clearBit (clearBit (clearBit f 0) 4) 5) (fun f => setBit f 5)
      else s
    | some p =>
      if out && !forced then
        let s1 := if Word.bit c.cflags 4 then s
          else (s.event 0x94 n (le 1 p)).onCredit n fun c => { c with cflags := setBit c.cflags 4 }
        if closed then s1.policySubmit n 1 (fun f => clearBit f 5) (fun f => setBit f 5) else s1
      else if c.cstate == 1 && !lock && closed then
        s.policySubmit n 1 (fun f => clearBit (clearBit (clearBit f 0) 4) 5) (fun f => setBit f 5)
      else s

/-- The policy submits CLOSE once for a forced valve, and REISSUED holds from then on (R325). -/
def State.reclose (n : Nat) (s : State) : State :=
  s.policySubmit n 2 (fun f => setBit (clearBit f 4) 3) (fun f => setBit (setBit f 4) 3)

/-- A valve that was closed for credit has been forced (R325). -/
def State.forcedValve (n : Nat) (s : State) : State :=
  let c := (s.ch n).a.credit
  if (s.prepay n).isSome && Word.bit c.cflags 0 then
    let again := !Word.bit c.cflags 3
    let s1 := (s.onTamper fun t => { t with events := setBits t.events 64 }).event 0x96 n (le 1 (Word.ofBool again))
    if again then s1.reclose n else s1
  else s

/-- REISSUED has cleared at a change of the profile hour: a valve that still shows MOVED is closed again, once (R325). -/
def State.forcedAgain (n : Nat) (s : State) : State :=
  let c := (s.ch n).a
  if (s.prepay n).isSome && Word.bit c.credit.cflags 0 && c.valve.fault == 4 then s.reclose n else s

/-! ### The commands -/

/-- VALVE_MOVE_START (R278): the bridge has rested for 0.2 s (R277, R279) and the next move starts, in NORMAL, by the active member (R274). A
switchover in progress starts none (R558). DESIGN CHOICE, log entry 7. DEDUCED, log entry 25. -/
def execValveMoveStart (now : Now) (s : State) : Out :=
  if s.normal && s.active && !s.pwr.pfActive && s.bridge.moving.isNone && !s.pair.switching && s.bridge.rested now.ms then
    .next (s.startMove now.ms)
  else .next s

/-- A counted sample of a valve that moves toward dir: completion, FB_BOTH and DISAGREE (R278, R279). -/
def State.movingSample (n dir nowMs : Nat) (opposite : Bool) (s : State) : State :=
  let p := countedPos (s.ch n).valve.hist
  if p = 4 then s.moveFault n 3 nowMs
  else if p = dir then s.moveDone n dir nowMs
  else
    let since := if s.bridge.since + 2000 ≤ nowMs ∧ opposite then some ((s.ch n).valve.opposite.getD nowMs) else none
    let s1 := s.onCh n fun c => { c with valve := { c.valve with opposite := since } }
    match since with
    | none => s1
    | some t => if t + 2000 ≤ nowMs then s1.moveFault n 2 nowMs else s1

/-- A sample of an idle valve: its position, FB_BOTH and MOVED (R275, R279). Both contacts closed is no position, and the recorded move
that waits to be resumed stays in VALVE_STATE (R280). -/
def State.idleSample (n : Nat) (was : Nat) (raw : Nat) (s : State) : State :=
  let c := s.ch n
  let p := countedPos c.valve.hist
  let s1 := if p = 0 then s
    else if p = 4 then (if was = 4 then s else (s.onValve n fun v => { v with position := 3 }).valveFault n 3)
    else if 4 ≤ c.a.valve.position ∧ (s.bridge.queued n).isSome then s
    else s.onValve n fun v => { v with position := p }
  let run := if c.valve.lastEnd = 0 ∨ raw = c.valve.lastEnd ∨ raw = 4 then 0 else c.valve.movedRun + 1
  let s2 := s1.onCh n fun c => { c with valve := { c.valve with movedRun := min 4 run } }
  if run = 3 then (s2.valveFault n 4).forcedValve n else s2

/-- VALVE_FEEDBACK_SAMPLE (R275). -/
def execValveFeedbackSample (now : Now) (ch : Nat) (fbOpen fbClosed : Bool) (s : State) : Out :=
  if ch = 0 ∨ 40 < ch then .refused .illFormed
  else if !(s.normal && s.active && (s.cfg ch).hasValve) || s.pwr.pfActive then .next s
  else
    let was := countedPos (s.ch ch).valve.hist
    let s1 := s.onCh ch fun c => { c with valve := { c.valve with hist := ((fbOpen, fbClosed) :: c.valve.hist).take 2 } }
    match s1.bridge.moving with
    | some c =>
      if c.ch = ch then .next (s1.movingSample ch c.dir now.ms (if c.dir = 1 then fbClosed else fbOpen))
      else .next (s1.idleSample ch was (contactPos (fbOpen, fbClosed)))
    | none => .next (s1.idleSample ch was (contactPos (fbOpen, fbClosed)))

/-- Stop the move in progress with a fault, if a valve moves and `when_` holds for it. -/
def State.faultMoving (code nowMs : Nat) (when_ : Nat → Bool) (s : State) : State :=
  match s.bridge.moving with
  | none => s
  | some c => if when_ c.ch then s.moveFault c.ch code nowMs else s

/-- VALVE_TIMEOUT (R279): the target was not reached within VALVE_TMAX. -/
def execValveTimeout (now : Now) (s : State) : Out :=
  .next (s.faultMoving 1 now.ms fun n => decide (s.bridge.since + 1000 * (s.cfg n).valveTmax ≤ now.ms))

/-- VALVE_OVERCURRENT (R279): the 250 mA limit has held for 50 ms. -/
def execValveOvercurrent (now : Now) (s : State) : Out := .next (s.faultMoving 5 now.ms fun _ => true)

/-- VALVE_OPEN_COIL (R279): the current has stayed below 5 mA for 1 s after the start of a move. -/
def execValveOpenCoil (now : Now) (s : State) : Out :=
  .next (s.faultMoving 6 now.ms fun _ => decide (s.bridge.since + 1000 ≤ now.ms))

end Sys2Proof.Machine
end

