-- ==== Sys2Proof/Machine/Pulse.lean ====
section
/-! DEFINITION. Pulse outputs: which pulses a step makes due and when they start (R268 to R273). -/

namespace Sys2Proof.Machine

/-- The assignment of output k: channel, quantity, width in ms and value (R114). -/
def State.pulseCfg (s : State) (k : Nat) : Nat × Nat × Nat × Nat :=
  match s.img.image with
  | none => (0, 0, 0, 0)
  | some im => nth im.pulses (k - 1) (0, 0, 0, 0)

/-- The total that an output carries (R114, R267). -/
def pulseTotal (qty : Nat) (w : Work) : Nat :=
  nth [w.eHeat, w.eCool, w.vFwd, w.vRev, w.vBase, w.eGas] (qty - 1) 0

/-- Round a time in CLK_BUS cycles up to the timer clock (R270): 8 cycles of CLK_AFE, or 9375/32 of the SETT clock while
ROOT is stopped. DEDUCED, log entry 27. -/
def timerRound (sett : Bool) (x : Rat) : Nat :=
  let up (r : Rat) : Nat := (-ratFloor (-r)).toNat
  if sett then up ((up (x * 32 / 9375) : Rat) * 9375 / 32) else 8 * up (x / 8)

/-- Start time of pulse i of a step (R270). DEDUCED, log entry 27. -/
def pulseStart (sett : Bool) (stop len v r dT i : Nat) : Nat :=
  timerRound sett ((stop + 480000 : Nat) + (len : Rat) * ((i * v : Nat) - (r : Rat)) / (dT : Rat))

/-- Queue due times on an output (R271): the output, how many were discarded, and whether one was deferred. -/
def PulseOut.queue (gap : Nat) (due : List Nat) (p : PulseOut) : PulseOut × Nat × Bool :=
  match due with
  | [] => (p, 0, false)
  | t :: rest =>
    let prev := match p.waiting.getLast? with
      | some x => some x
      | none => p.last
    let at_ := match prev with
      | none => t
      | some x => max t (x + gap)
    if 65535 ≤ p.waiting.length then
      let r := PulseOut.queue gap rest p
      (r.1, r.2.1 + 1, r.2.2)
    else
      let r := PulseOut.queue gap rest { p with waiting := p.waiting ++ [at_] }
      (r.1, r.2.1, r.2.2 || decide (t < at_))

/-- Cycles of 2 × PO_WIDTH (R268, R271). -/
def pulseGap (width : Nat) : Nat := 2 * width * 9600

/-- Make the pulses of output k due for a step of its channel (R269 to R271). -/
def State.pulsesOf (k : Nat) (sett : Bool) (stop len : Nat) (old new : Work) (s : State) : State :=
  let (_, qty, width, v) := s.pulseCfg k
  let a := pulseTotal qty old
  let b := pulseTotal qty new
  let n := b / v - a / v
  if v = 0 ∨ b ≤ a then s
  else
    let due := (List.range n).map fun i => pulseStart sett stop len v (a % v) (b - a) (i + 1)
    let r := (s.out k).queue (pulseGap width) due
    let s1 := if r.2.2 && !(s.out k).backlog then s.event 0x70 0 (le 1 k) else s
    let s2 := if r.2.1 = 0 then s1 else s1.event 0x71 0 (le 1 k ++ le 4 r.2.1)
    s2.setOut k { r.1 with backlog := r.1.backlog || r.2.2 }

/-- Take over the pulses that wait on output k from SWITCH_DONE (R558), from the first step close at `stop` on. -/
def State.handedPulses (k stop : Nat) (s : State) : State :=
  let m := nth s.pair.pulsesIn (k - 1) 0
  if m = 0 then s
  else
    let r := (s.out k).queue (pulseGap (s.pulseCfg k).2.2.1) (List.replicate m (stop + 480000))
    (s.setOut k r.1).onPair fun p => { p with pulsesIn := updAt p.pulsesIn (k - 1) fun _ => 0 }

/-- Make the pulses of every output that carries channel n due (R269), after those that a switchover handed over. -/
def State.pulses (n : Nat) (sett : Bool) (stop len : Nat) (old new : Work) (s : State) : State :=
  ((List.range 8).map (· + 1)).foldl
    (fun t k => if (t.pulseCfg k).1 = n then (t.handedPulses k stop).pulsesOf k sett stop len old new else t) s

/-- The last TOTALS record but one of channel n: the valid slot with the lower sequence number (R63). -/
def Mem.prevTotals (m : Mem) (n : Nat) : Option Work :=
  let a := totalsAddr n
  let b := a + 512
  if m.slotValid a 512 && m.slotValid b 512 then
    some (Work.ofBytes (m.hoard.readBytes ((if m.slotSeq a < m.slotSeq b then a else b) + 8) 496))
  else none

/-- The pulses that the last mirrored step of each output's channel made due wait one step more (R270), and a takeover loses them: the new
active member logs them as lost (R273). DEDUCED, log entry 163. -/
def State.missedPulses (s : State) : State :=
  ((List.range 8).map (· + 1)).foldl (fun t k =>
    let c := t.pulseCfg k
    match s.mem.prevTotals c.1 with
    | none => t
    | some w =>
      let m := pulseTotal c.2.1 (s.ch c.1).a / c.2.2.2 - pulseTotal c.2.1 w / c.2.2.2
      if c.1 = 0 ∨ c.2.2.2 = 0 ∨ m = 0 then t else t.event 0x71 0 (le 1 k ++ le 4 m)) s

/-- Discard what waits on every output and cut the pulse in progress short (R272); `lost` logs the waiting pulses. -/
def State.dropPulses (lost : Bool) (s : State) : State :=
  ((List.range 8).map (· + 1)).foldl (fun t k =>
    let p := t.out k
    let t1 := if lost && !p.waiting.isEmpty then t.event 0x71 0 (le 1 k ++ le 4 p.waiting.length) else t
    t1.setOut k { p with closed := false, waiting := [], backlog := false }) s

/-- Whether the pulse outputs are driven: per assignment, in NORMAL and BACKUP, by the active member (R39). -/
def State.pulsesDriven (s : State) : Bool := (s.normal || s.backup) && s.active

/-- PULSE_START (R270): the first waiting pulse of an output has reached its start. DESIGN CHOICE, log entry 7. -/
def execPulseStart (po : Nat) (now : Now) (s : State) : Out :=
  if po = 0 ∨ 8 < po then .refused .illFormed
  else
    let p := s.out po
    match p.waiting with
    | [] => .next s
    | t :: rest =>
      if !s.pulsesDriven || decide (s.grid now.cyc < t) then .next s
      else .next (s.setOut po { closed := true, waiting := rest, last := some t, backlog := p.backlog && !rest.isEmpty })

/-- PULSE_END (R268): PO_WIDTH after its start, the output opens. -/
def execPulseEnd (po : Nat) (now : Now) (s : State) : Out :=
  if po = 0 ∨ 8 < po then .refused .illFormed
  else
    let p := s.out po
    match p.last with
    | none => .next s
    | some t =>
      if s.grid now.cyc < t + (s.pulseCfg po).2.2.1 * 9600 then .next s
      else .next (s.setOut po { p with closed := false })

end Sys2Proof.Machine
end

