-- ==== Sys2Proof/Machine/StepClose.lean ====
section
/-! DEFINITION. The step end of a channel in the order of R575: both datapaths, the compare and its reaction (R255 to R257),
billing, the commit (R167, R168), tracking (R198, R207) and the window values (R211 to R215, R264). -/

namespace Sys2Proof.Machine

/-! ### Rates and the step grid (R158) -/

/-- The rate of a channel: 0 FULL, 1 TRUNK, 2 DEGRADED (R158). -/
def State.rate (s : State) (n : Nat) : Nat :=
  if s.pwr.mode = .backup then 2 else if (s.cfg n).trunk then 1 else 0

/-- Ticks of a step at a rate (R158). -/
def stepTicks (rate : Nat) : Nat := if rate = 0 then 4 else if rate = 1 then 1 else 32

/-- A zero calibration drives channel n (R195). -/
def State.calibrating (s : State) (n : Nat) : Bool := s.meas.calTick.isSome && s.meas.calChans.contains n

/-- Channel n integrates: NORMAL or BACKUP, the active member, a channel in service (R165, R171, R570). -/
def State.integrates (s : State) (n : Nat) : Bool :=
  (s.normal || s.backup) && s.active && decide ((s.cfg n).type ≠ .off) && !(s.ch n).lost

/-! ### Both datapaths -/

/-- The gas definition of a channel. -/
def State.gasDef (s : State) (n : Nat) : Option GasDef :=
  if (s.cfg n).type = .gas then (match s.img.image with
    | none => none
    | some im => im.gasDefs.find? fun g => g.index == (s.cfg n).gasIdx)
  else none

/-- The temperatures of the most recent pair that ended before the edge of the step that closes (R225). -/
def Temp.closing (t : Temp) : Option Int × Option Int := t.atEdge.getD (t.thetaS, t.thetaR)

/-- θs in force at step close, none while its sensor is absent or faulted (R225, R236). -/
def State.thetaS (s : State) (n : Nat) : Option Int :=
  let t := (s.ch n).temp
  if (s.cfg n).hasSup && !t.sup.faulted && !(s.tc (tcOf n)).converter then t.closing.1 else none

/-- θr in force at step close. -/
def State.thetaR (s : State) (n : Nat) : Option Int :=
  let t := (s.ch n).temp
  if (s.cfg n).hasRet && !t.ret.faulted && !(s.tc (tcOf n)).converter then t.closing.2 else none

/-- The image has a TARIFF section. -/
def State.tariffed (s : State) : Bool :=
  match s.img.image with
  | none => false
  | some im => im.tariff.isSome

/-- The input of the step of channel n that ends at `stop` on the tick grid (R239, R255). DEDUCED, log entry 20. -/
def State.stepIn (s : State) (n stop tick : Nat) (pf : Bool) : StepIn :=
  let c := s.ch n
  let bl := s.billing
  { cfg := s.cfg n, gas := s.gasDef n, thetaS := s.thetaS n, thetaR := s.thetaR n, faulted := s.tempFaulted n,
    start := c.stepStart, stop := stop, samples := c.acc.samples.reverse, carry := c.carry, tick := tick,
    time := s.rtc.count, osf := s.rtc.osf, tariffed := s.tariffed, pf := pf, degraded := decide (s.pwr.mode = .backup),
    merged := c.merged, gap := c.gap, cond1 := bl.cond1, cond2 := bl.cond2 }

/-- What datapath B is given: the values that it has formed itself (R187, R256). -/
def StepIn.sideB (i : StepIn) : StepIn :=
  let own (x : Sample) : Sample := { x with q := x.qB }
  { i with samples := i.samples.map own, carry := i.carry.map own }

/-- What one datapath forms at a step close: the body, the increments, and whether the credit saturated (R255, R313).
DEDUCED, log entry 19. -/
def datapath (i : StepIn) (e : Option PrepayEntry) (w : Work) : Work × Inc × Bool :=
  let r := stepWork i w
  let c := chargeWork e i.cfg.type r.2 r.1
  (c.1, r.2, c.2)

/-- The body with the injected fault of one of its 64-bit words (R256, R582). DESIGN CHOICE, log entry 18. -/
def upsetBytes (u : Upset) (bs : List Byte) : List Byte :=
  match u.word with
  | none => bs
  | some (k, x) =>
    let w := fieldAt bs (8 * k) 8
    bs.take (8 * k) ++ le 8 (w ^^^ x) ++ bs.drop (8 * k + 8)

/-- Index of the first 64-bit word in which two bodies differ. -/
def firstDiff (n : Nat) (a b : List Byte) : Option Nat :=
  (List.range n).find? fun k => slice a (8 * k) 8 != slice b (8 * k) 8

/-- The compare of R256: the value of `FLT_DMR_MISMATCH.WORD`, none where every word and increment agrees (R582).
DESIGN CHOICE, log entry 18. -/
def compareDatapaths (u : Upset) (a b : Work × Inc × Bool) : Option Nat :=
  match firstDiff 62 a.1.bytes (upsetBytes u b.1.bytes) with
  | some k => some k
  | none => if u.incr ∨ a.2.1 ≠ b.2.1 then some 255 else none

/-- Count a mismatch; its reaction is due (R257, R579, R582, R583). -/
def State.dmrMismatch (n word : Nat) (s : State) : State :=
  (s.onFlt fun f => { f with
    dmrCount := Word.sat 65535 (f.dmrCount + 1), dmrCh := n, dmrWord := word, dmrPending := true,
    lastAddr := totalsAddr n, lastKind := 3, lastReader := 1, events := setBits f.events 8 }).event 0x62 n (le 1 word)

/-! ### Signal, template and gas -/

/-- ⌊255 × mean ρ⌋ over the good shots of a step (R214). -/
def StepAcc.quality (a : StepAcc) : Nat := if a.good = 0 then 0 else min 255 (255 * a.sumRho / (65536 * a.good))

/-- `CHW_SIGNAL_Q` (R214). -/
def StepAcc.signal (a : StepAcc) (gain : Nat) : Nat :=
  let n := max 1 a.shots
  a.quality + 256 * min 63 (a.sumSnr / n) + 2 ^ 14 * (gain % 8) + 2 ^ 17 * min 127 (a.sumPeak / n / 16) +
    2 ^ 24 * (if a.good = 0 then 0 else a.minCpr) + 2 ^ 28 * min 15 a.missed

/-- The tracked template after a step with good captures (R198): at 2^-16 of a tap. DEDUCED, log entry 30. -/
def trackTemplate (fine capSum : List Int) : List Int :=
  let top := 16384 * 65536
  let avg := scaleTaps top (padTaps capSum)
  scaleTaps top ((fine.zip avg).map fun p => p.1 + divNear (p.2 - p.1) 4096)

/-- Normalised correlation × 255, for event 0x004B. DEDUCED, log entry 30. -/
def templateQ (a b : List Int) : Nat :=
  let y := (dot a b).toNat
  let e := energy a * energy b
  if e = 0 then 0 else isqrt (65025 * y * y / e)

/-- Move the tracked template at a step close (R198). -/
def Flow.track (f : Flow) (a : StepAcc) : Flow :=
  match f.cal with
  | none => f
  | some k =>
    if a.capN = 0 ∨ f.lowQ ∨ f.air ∨ f.flowFault then f
    else
      let fine0 := if f.fine.isEmpty then k.tracked.map (· * 65536) else f.fine
      let fine := trackTemplate fine0 a.capSum
      let t := fine.map fun x => divNear x 65536
      { f with fine := fine, cal := some { k with tracked := t }, calDirty := f.calDirty || t != k.tracked,
               templateDrift := templateDrifts t k.learned }

/-- The table position x of R207 at θ in 0.0001 °C. -/
def gasPos (theta : Int) : Rat := ((theta + 250000 : Int) : Rat) / 25000

/-- GAS_RANGE at a step close with a good temperature (R207). -/
def Flow.rangeStep (f : Flow) (theta : Int) : Flow :=
  { f with gasRange := decide (gasPos theta < 0) || decide (32 < gasPos theta) }

/-- The gas evaluation of a step close with VALID pairs and a valid temperature (R207): c in 0.01 m/s, θ in 0.0001 °C. dc
is kept in 2^-16. While GAS_RANGE is set the anomaly evaluation is suspended. -/
def Flow.gasStep (f : Flow) (g : GasDef) (cMean : Rat) (theta : Int) : Flow :=
  let x := gasPos theta
  let x := if x < 0 then 0 else if 32 < x then 32 else x
  let i := min 31 (ratFloor x).toNat
  let c0 : Rat := (nth g.cRef i 0 : Nat)
  let c1 : Rat := (nth g.cRef (i + 1) 0 : Nat)
  let dc := ratTrunc ((cMean - (c0 + (x - (i : Nat)) * (c1 - c0))) * 65536)
  let ring := (dc :: f.dcRing).take 64
  let sum := (sumInt ring).natAbs
  let lim := g.anomLimit * 65536 * ring.length
  let anom := if f.gasRange then f.gasAnom else if lim < sum then true else if 10 * sum ≤ 9 * lim then false else f.gasAnom
  { f with dcRing := ring, gasAnom := anom }

/-- dc_avg in 0.01 m/s, and the index in 0.01 %, saturated (R207, R215). -/
def Flow.gasPair (f : Flow) (g : GasDef) : Int × Int :=
  let n := max 1 f.dcRing.length
  let dc := Word.satInt 32767 (divTrunc (sumInt f.dcRing) (65536 * n))
  let ix : Int := if g.cSlope = 0 then 0
    else Word.satInt 32767 (ratTrunc ((sumInt f.dcRing : Rat) * 100 / ((65536 * n : Nat) * (g.cSlope : Rat))))
  (dc, ix)

/-- `CHW_GAS_INDEX` (R215). -/
def Flow.gasWord (f : Flow) (g : GasDef) : Nat :=
  Word.ofInt 16 (f.gasPair g).2 + 2 ^ 16 * Word.ofInt 16 (f.gasPair g).1

/-- What a step close does to the flow path: CLIPPED, LOW_Q, tracking and gas (R164, R193, R198, R207). -/
def Flow.closeStep (f : Flow) (cfg : ChanCfg) (g : Option GasDef) (theta : Option Int) (faulted degraded : Bool)
    (tick : Nat) (a : StepAcc) : Flow :=
  let low := decide (a.quality < cfg.sigqMin)
  let f := { f with clipped := a.clipped }
  let f := if a.shots = 0 then f
    else { f with
      lowQ := f.lowQ || (low && !degraded),
      goodSince := if low then none else match f.goodSince with
        | none => some tick
        | some t => some t }
  let f := if degraded then f else f.track a
  match g, theta with
  | some g, some t =>
    if faulted then f
    else
      let f := f.rangeStep t
      if a.valid = 0 then f else f.gasStep g (a.sumC / a.valid) t
  | _, _ => f

/-! ### The window values -/

/-- `CHW_CREDIT` (R330): without a PREPAY entry STATE reads 0, and the rest shows CREDIT_STATE as committed (R311). -/
def creditWord (prepaid : Bool) (c : CreditState) : Nat :=
  Word.ofInt 28 (Word.satInt 134217727 (divTrunc c.credit 65536)) + 2 ^ 28 * (if prepaid then c.cstate % 4 else 0) +
    2 ^ 30 * Word.ofBool (Word.bit c.cflags 0) + 2 ^ 31 * Word.ofBool (Word.bit c.cflags 1)

/-- The totals that the window shows: E_HEAT or E_GAS, E_COOL or V_BASE, V_FWD, V_REV and E_SUBST (R265, R266). -/
def shownTotals (t : ChType) (w : Work) : List Nat :=
  if t = .gas then [w.eGas, w.vBase, w.vFwd, w.vRev, w.eSubst] else [w.eHeat, w.eCool, w.vFwd, w.vRev, w.eSubst]

/-- The values of R211 to R215, R236, R264, R265, R309 and R310 at a step close. DEDUCED, log entry 31. -/
def State.showStep (n : Nat) (a : StepAcc) (inc : Inc) (s : State) : State :=
  let c := s.ch n
  let f := c.flow
  let old := c.shown
  let cfg := s.cfg n
  let bits := f.bits / 2 * 2 + Word.ofBool inc.fault + 2 * Word.ofBool a.held
  let mean (x : Rat) (k : Nat) : Int := ratNear (x * (k : Nat) / (a.valid : Rat))
  s.onCh n fun c => { c with shown :=
    { status := bits + s.tempStatus n, flow := inc.flow,
      tofMean := if a.valid = 0 then old.tofMean else (mean a.sumT 256).toNat,
      tofDiff := if a.valid = 0 then old.tofDiff else fitInt (mean a.sumDt 65536),
      c := if a.valid = 0 then old.c else fitNat (2 ^ 32) (mean a.sumC 1).toNat, signal := a.signal f.gain,
      gas := (match s.gasDef n with
        | none => 0
        | some g => f.gasWord g),
      zero := (match f.cal with
        | none => 0
        | some k => k.zeroTracked),
      tempS := c.a.thetaS, tempR := c.a.thetaR, power := inc.power, tariff := tariffWord c.a c.tarEval true,
      totals := shownTotals cfg.type c.a, maxima := maximaWords c.a.bill,
      credit := creditWord (s.prepay n).isSome c.a.credit } }

/-! ### The commit -/

/-- Hand the channel's record and the ring entries behind it to the queue, or hold them while the queue is full (R168,
R298). A close that is held carries what was merged into it and has a budget of its own. DEDUCED, log entry 24. -/
def State.commitStep (n : Nat) (force : Bool) (entries : List HoardRec) (s : State) : State :=
  let c := s.ch n
  if queueBound ≤ s.mem.queue.length ∧ !force then
    s.onCh n fun c => { c with owed := true, merged := false, heldTick := some s.meas.tick, behind := c.behind ++ entries }
  else
    let s1 := s.onCh n fun c => { c with owed := false, merged := false, behind := [] }
    (c.behind ++ entries).foldl (fun t r => t.enqueue r) (s1.enqueue (totalsRec n c.a))

/-- Log what a step close changed in the flow path. -/
def State.putStepFlow (n : Nat) (g : Flow) (s : State) : State :=
  let f := (s.ch n).flow
  let s1 := s.putFlow n g 0
  let s2 := match g.cal with
    | none => s1
    | some k => s1.change f.templateDrift g.templateDrift 0x4B n 0 (le 1 (templateQ k.tracked k.learned))
  s2.change f.gasAnom g.gasAnom 0x4C n 0 (match s.gasDef n with
    | none => []
    | some d => leInt 2 (g.gasPair d).1 ++ leInt 2 (g.gasPair d).2)

/-- Everything after an agreed compare (R575, steps 3 to 9): billing, policy, commit, pulses and the window.
DEDUCED, log entry 19. -/
def State.afterCompare (n stop : Nat) (pf hold : Bool) (i : StepIn) (w : Work) (inc : Inc) (saturated : Bool) (s : State) :
    State :=
  let c := s.ch n
  let old := c.a
  let len := i.stop - i.start
  let s := s.rollHour
  let s := match inc.subst with
    | none => s
    | some (e, v) => s.event 0x60 n (le 4 (i.gap.getD 0 / 9600) ++ le 4 (e / 2 ^ 32) ++ le 4 (v / 2 ^ 32))
  let s := s.putStepFlow n (c.flow.closeStep i.cfg i.gas i.thetaS i.faulted i.degraded i.tick c.acc)
  let s := if i.cfg.type ≠ .off ∧ (s.prepay n).isSome then s.logCredit n old.credit.cstate w.credit saturated else s
  -- demand
  let d := w.bill.demand s.billing (powerQty i.cfg.type inc) inc.dv i.time i.osf (c.stepped || hold) c.subFresh c.ring
  let w := { w with bill := d.1 }
  -- snapshots
  let fault := Word.ofBool (c.flow.flowFault || i.faulted)
  let sn := s.snapshots n (8 * Word.ofBool i.degraded + 16 * fault) w
  -- load profile
  let heat := c.hourHeat || decide (0 < inc.heat)
  let cool := c.hourCool || decide (0 < inc.cool)
  let pflags := 32 * Word.ofBool (heat && cool) + Word.ofBool c.stepped + 2 * Word.ofBool i.osf + 8 * Word.ofBool i.faulted +
    16 * Word.ofBool (c.flow.flowFault || inc.fault || decide (old.tFlowFault < w.tFlowFault)) + 64 * Word.ofBool i.degraded
  let p := sn.2.1.profile i.cfg len pflags i.time inc.flow c.stepped old
  let pr : State × List HoardRec := match p.2.2, s.billing.profileOn with
    | some d, true => let r := sn.1.profileRec n d; (r.1, [r.2])
    | _, _ => (sn.1, [])
  -- tariff
  let t := pr.1.nextTariff p.1
  -- credit hours and LOCKOUT
  let allHour := c.faultHour && i.faulted
  let w := match s.prepay n with
    | none => t.1
    | some e => { t.1 with credit := t.1.credit.hours (e.unit == 0) i.faulted p.2.1 allHour }
  let lockWas := Word.bit old.credit.cflags 2
  let lockNow := Word.bit w.credit.cflags 2
  let s := pr.1.onCh n fun c => { c with
    temp := { c.temp with atEdge := none }, a := w, b := w, acc := c.late, late := .reset, stepStart := stop, gap := none, stepped := false, ring := d.2.1,
    subFresh := d.2.2, faultHour := if p.2.1 then true else allHour,
    hourHeat := heat && p.2.2.isNone, hourCool := cool && p.2.2.isNone, tarEval := t.2,
    carry := match c.acc.samples with
      | [] => c.carry
      | x :: _ => some x }
  let s := s.change lockWas lockNow 0x97 n 0 (le 1 w.credit.faultHours)
  let s := if p.2.1 && Word.bit old.credit.cflags 3 then s.forcedAgain n else s
  let s := s.policy n
  let s := s.commitStep n (pf || hold) (sn.2.2 ++ pr.2)
  let s := s.pulses n i.degraded stop len old w
  s.showStep n c.acc inc

/-- The integration has read a parity error in B0 to B2: as a mismatch, which is not counted (R569). DESIGN CHOICE, log entry
166. -/
def State.parityMismatch (s : State) : State :=
  (s.sramRead 0 0x30000 1).onFlt fun f => { f with dmrPending := true }

/-- Close the step of channel n at `stop` (R255, R256): both datapaths, the compare, and on agreement what follows. With a parity
error in its memory nothing of the step is applied (R569). DEDUCED, log entry 19. -/
def State.closeStep (n stop tick : Nat) (pf hold : Bool) (upset : Upset) (s : State) : State :=
  let c := s.ch n
  let i := s.stepIn n stop tick pf
  let e := s.prepay n
  let a := datapath i e c.a
  let b := datapath i.sideB e c.b
  if s.mem.parityIn 0 0x30000 then s.parityMismatch
  else match compareDatapaths upset a b with
  | some word => s.dmrMismatch n word
  | none => s.afterCompare n stop pf hold i a.1 a.2.1 a.2.2

/-- No fault of a datapath. -/
def noUpset : Upset := { word := none, incr := false }

/-- The upset of a channel in a list. -/
def upsetOf (n : Nat) (l : List (Nat × Upset)) : Upset :=
  match l.find? fun e => e.1 == n with
  | none => noUpset
  | some e => e.2

/-- Add what two accumulators of a step gathered, the later one's pairs being newer. -/
def StepAcc.join (a b : StepAcc) : StepAcc :=
  { samples := b.samples ++ a.samples, valid := a.valid + b.valid, sumT := a.sumT + b.sumT, sumDt := a.sumDt + b.sumDt,
    sumC := a.sumC + b.sumC, good := a.good + b.good, sumRho := a.sumRho + b.sumRho, shots := a.shots + b.shots,
    sumSnr := a.sumSnr + b.sumSnr, sumPeak := a.sumPeak + b.sumPeak, minCpr := min a.minCpr b.minCpr,
    missed := a.missed + b.missed, clipped := a.clipped || b.clipped, held := a.held || b.held,
    capSum := addLists a.capSum b.capSum, capN := a.capN + b.capN }

/-- The latest step end of channel n's grid at or before the tick edge (R158); during the power-fail sequence at or before t0 (R53). -/
def State.lastStepEnd (s : State) (n : Nat) : Nat :=
  let m := stepTicks (s.rate n)
  let tick := if s.pwr.pfActive then min s.meas.tick (s.pwr.pfAt / tickCycles) else s.meas.tick
  tick / m * m

/-- The step end that is due has not closed: pairs taken now belong to the next step (R159). -/
def State.stepDue (s : State) (n : Nat) : Bool := decide ((s.ch n).stepStart < s.lastStepEnd n * tickCycles)

/-- A step that has ended has not closed, or its TOTALS commit is held (R168). -/
def State.commitsOpen (s : State) : Bool := s.activeCh.any fun n => (s.integrates n && s.stepDue n) || (s.ch n).owed

/-- Close the steps of all channels at one instant of the tick grid (R53, R58, R57): the power-fail commit, the change of
rate and the commit before HOLD. A step that has ended and has not closed closes first, at its own end. -/
def State.closeAll (cyc : Nat) (pf hold : Bool) (upsets : List (Nat × Upset)) (s : State) : State :=
  let stop := s.grid cyc
  s.forCh (s.activeCh.filter s.integrates) fun n t =>
    if stop ≤ (t.ch n).stepStart then t
    else
      let e := t.lastStepEnd n
      let t := if (t.ch n).stepStart < e * tickCycles ∧ e * tickCycles < stop then
        t.closeStep n (e * tickCycles) e false false noUpset else t
      let t := t.onCh n fun c => { c with acc := c.acc.join c.late, late := .reset }
      t.closeStep n stop t.meas.tick pf hold (upsetOf n upsets)

/-! ### The commands -/

/-- STEP_CLOSE (R255): the step that ends at channel n's latest step end closes, if it has not closed yet. After t0 of the power-fail
sequence no further step end counts (R53). DESIGN CHOICE, log entry 18. DEDUCED, log entry 20. -/
def execStepClose (ch : Nat) (upset : Upset) (s : State) : Out :=
  if ch = 0 ∨ 40 < ch then .refused .illFormed
  else
    let e := s.lastStepEnd ch
    if !s.integrates ch || decide (e * tickCycles ≤ (s.ch ch).stepStart) then .next s
    else .next (s.closeStep ch (e * tickCycles) e false false upset)

/-- STEP_OVERRUN (R168): a held close has found no space by the end of its budget; its commit merges into the next. -/
def execStepOverrun (ch : Nat) (s : State) : Out :=
  if ch = 0 ∨ 40 < ch then .refused .illFormed
  else if !(s.ch ch).owed || (s.ch ch).merged then .next s
  else
    let s1 := s.onMeas fun m => { m with overrun := Word.sat 65535 (m.overrun + 1), lastCh := ch }
    let s2 := s1.event 0x61 ch (le 4 s.meas.tick)
    .next (s2.onCh ch fun c => { c with merged := true })

end Sys2Proof.Machine
end

