-- ==== Sys2Proof/Machine/RtdSlot.lean ====
section
/-! DEFINITION. What an RTD slot does (R157, R158, R222 to R233): sensor conversions, gain samples and converter checks. -/

namespace Sys2Proof.Machine

/-- A zero calibration drives its channels outside NORMAL too, on a module with an accepted image (R145, R146). -/
def State.calDriven (s : State) : Bool :=
  s.meas.calTick.isSome && decide (s.pwr.mode = .unconfigured) && s.running

/-- Slots of channel n are driven in this tick (R158, R171). -/
def State.slotDriven (s : State) (n : Nat) : Bool :=
  !s.pwr.pfActive && decide (s.pwr.state = .run) && decide ((s.cfg n).type ≠ .off) && !(s.ch n).lost &&
    ((s.normal && s.active) || (s.backup && s.active && s.meas.tick % 32 == 0) || (s.calDriven && s.calibrating n))

/-- The converters' own slots 0 and 5 are driven: in NORMAL and in BACKUP. A zero calibration on an uncommissioned module drives the
slots of its channels only (R171). DEDUCED, log entry 162. -/
def State.convDriven (s : State) (_k : Nat) : Bool :=
  !s.pwr.pfActive && decide (s.pwr.state = .run) &&
    ((s.normal && s.active) || (s.backup && s.active && s.meas.tick % 32 == 0))

/-- The RTD phase of the tick: MEAS_TICK mod 4, or i mod 4 in DEGRADED (R157, R158). -/
def State.rtdPhase (s : State) : Nat := if s.pwr.mode = .backup then s.meas.tick / 32 % 4 else s.meas.tick % 4

/-- The channels that converter k serves in this tick, in order (R157, R158). DEDUCED, log entry 29. -/
def State.served (s : State) (k : Nat) : List Nat :=
  let all := chansOf k
  let trunk (n : Nat) : Bool := (s.cfg n).trunk && decide (s.pwr.mode ≠ .backup)
  all.filter trunk ++ all.filter fun n => !trunk n && (n - 1) % 4 == s.rtdPhase

/-- Channel and side (0 supply, 1 return) of RTD slot 1 to 4 of converter k. DEDUCED, log entry 29. -/
def State.slotSensor (s : State) (k slot : Nat) : Option (Nat × Nat) :=
  match (s.served k)[(slot - 1) / 2]? with
  | none => none
  | some n => some (n, (slot - 1) % 2)

/-- The TEMPCAL section of a channel. -/
def State.tempCal (s : State) (n : Nat) : TempCal :=
  match s.img.image with
  | none => { sup := { r0 := 0, a := 0, b := 0 }, ret := { r0 := 0, a := 0, b := 0 }, pairOffset := 0 }
  | some im => match im.tempCals.find? fun e => e.1 == n with
    | none => { sup := { r0 := 0, a := 0, b := 0 }, ret := { r0 := 0, a := 0, b := 0 }, pairOffset := 0 }
    | some e => e.2

/-- The path gain and reference that a channel's sensors use (R218, R223, R226). -/
def State.gainRef (s : State) (n : Nat) : Rat × Nat :=
  let k := tcOf n
  let c := s.tc k
  let f := s.tcFactory k
  if usesRef100 (s.cfg n).rtd then (gainOf c.gain100 f.2.2.1, c.ref100) else (gainOf c.gain1k f.2.2.2.1, c.ref1k)

/-- The temperature pair after one more conversion (R225): `uk` is the temperature of a good conversion.
DEDUCED, log entry 28. -/
def Temp.pairStep (t : Temp) (side tick : Nat) (hasRet : Bool) (off : Int) (uk : Option Int) : Temp × Bool :=
  if side = 0 then
    let t := { t with supConv := some (tick, uk) }
    match hasRet, uk with
    | false, some u => ({ t with thetaS := some (thetaFloor u off) }, true)
    | _, _ => (t, false)
  else
    match t.supConv, uk with
    | some (k, some u), some v =>
      if k = tick then ({ t with thetaS := some (thetaFloor u off), thetaR := some (thetaFloor v 0) }, true) else (t, false)
    | _, _ => (t, false)

/-- The temperatures in force at the end of the step that is due, kept when a pair that ended later replaces them (R225). -/
def State.keepEdge (s : State) (n : Nat) (old new : Temp) : Temp :=
  if s.stepDue n then { new with atEdge := some (old.atEdge.getD (old.thetaS, old.thetaR)) } else new

/-- A conversion of one sensor of channel n (R222 to R225, R229, R230, R233). While a sensor stays faulted its conversions complete no
pair: new temperatures are in force with a pair that the second good conversion belongs to, or a later one (R230). -/
def State.sensorConversion (n side : Nat) (cv : Conversion) (s : State) : State :=
  let cfg := s.cfg n
  let cal := s.tempCal n
  let g := s.gainRef n
  let sc := cal.side (side == 1)
  let kind := convKind sc (sensorOhms cv.ratio g.1 g.2) cv
  let t := (s.ch n).temp
  let old := if side = 0 then t.sup else t.ret
  let new := old.convert kind.1
  let t := if side = 0 then { t with sup := new } else { t with ret := new }
  let bad := new.faulted || (s.tc (tcOf n)).converter
  let p := t.pairStep side s.meas.tick cfg.hasRet cal.pairOffset (if bad then none else kind.2)
  let s1 := s.onCh n fun c => { c with temp := if p.2 then s.keepEdge n t p.1 else p.1 }
  let s2 := if (s.tc (tcOf n)).converter then s1 else s1.sensorChange n side old new
  if p.2 then s2.evalRange n false else s2

/-- The sensors of converter k's channels become faulted, or good again, with CONVERTER (R228, R230, R238). -/
def State.converterSensors (k : Nat) (begins : Bool) (s : State) : State :=
  s.forCh (chansOf k) fun n t =>
    let side (i : Nat) (has : Bool) (x : Sensor) (t : State) : State :=
      if !has ∨ x.faulted then t
      else if begins then (t.onset 0x50 n i (le 1 i ++ le 1 5)).chEvent n (2 ^ (24 + i))
      else t.ending 0x50 n i (le 1 i ++ le 1 5)
    let c := t.ch n
    let t := side 0 (t.cfg n).hasSup c.temp.sup t
    let t := side 1 (t.cfg n).hasRet c.temp.ret t
    let t := if begins then t.chEvent n (2 ^ 30) else t
    if !begins && (t.cfg n).hasSup && !t.tempFaulted n then t.chEvent n (2 ^ 26) else t

/-- Put a converter's checks: log and raise what began or ended (R228, R238, R308). The end of CONVERTER names the cause that held last.
DEDUCED, log entry 159. -/
def State.putChecks (k : Nat) (c : Conv) (s : State) : State :=
  let old := s.tc k
  let s := s.setTc k c
  let s := s.change old.drift.holds c.drift.holds 0x53 0 k (le 1 k)
  let s := if c.drift.holds && !old.drift.holds
    then s.forCh (chansOf k) fun n t => t.chEvent n (2 ^ 29) else s
  let by_ := if c.converter then c else old
  let cause := if by_.cross.holds then 1 else if by_.zero.holds then 2 else 3
  let s := s.change old.converter c.converter 0x54 0 k (le 1 k ++ le 1 cause)
  if c.converter && !old.converter then s.converterSensors k true
  else if old.converter && !c.converter then s.converterSensors k false
  else s

/-- A gain sample of a reference (R226, R228). -/
def State.gainSample (k : Nat) (ref100 : Bool) (ratio : Int) (s : State) : State :=
  let f := s.tcFactory k
  let c := s.tc k
  let c := if ref100 then { c with gain100 := (ratio :: c.gain100).take 16 } else { c with gain1k := (ratio :: c.gain1k).take 16 }
  let fact : Nat := if ref100 then f.2.2.1 else f.2.2.2.1
  s.putChecks k { c with gain := c.gain.step (offBy ratio fact 1000) }

/-- The leakage check of one channel whose slots are driven (R171, R227, R228). -/
def State.leakCheck (n : Nat) (cv : Conversion) (s : State) : State :=
  let cfg := s.cfg n
  let bad0 := cfg.hasSup && decide (cv.insulSup < 20000)
  let bad1 := cfg.hasRet && decide (cv.insulRet < 20000)
  if !s.slotDriven n ∨ !cfg.hasSup then s
  else
    let t := (s.ch n).temp
    let fail := bad0 || bad1
    let f := if fail then t.leakFail + 1 else 0
    let p := if fail then 0 else t.leakPass + 1
    let now := if t.leak then decide (p < 2) else decide (2 ≤ f)
    let who := if now && !t.leak then (if bad0 then 0 else 1) else t.leakWho
    let s1 := s.onCh n fun c => { c with
      temp := { c.temp with leak := now, leakWho := who, leakFail := min 2 f, leakPass := min 2 p } }
    let s2 := s1.change t.leak now 0x52 n 0 (le 1 who)
    if now && !t.leak then s2.chEvent n (2 ^ 28) else s2

/-- The diagnostic slot 5 of converter k (R227, R228). DESIGN CHOICE, log entry 16. -/
def State.diagnostic (k : Nat) (cv : Conversion) (s : State) : State :=
  let p := s.rtdPhase
  let c := s.tc k
  if p = 1 then
    let f := s.tcFactory k
    let big := offBy cv.ratio f.2.2.2.2 500
    s.putChecks k { c with
      drift := c.drift.step (offBy cv.ratio f.2.2.2.2 50 && !big), cross := c.cross.step big }
  else if p = 3 then
    s.leakCheck (5 * k - 4 + s.meas.tick / 4 % 5) cv
  else s.putChecks k { c with zero := c.zero.step (decide (20 * 2 ^ 30 < cv.ratio.natAbs * 1000000)) }

/-- Whether slot 0 measures a reference in this tick, and which: true for the 100 Ω one (R157, R158). -/
def State.refSlot (s : State) : Option Bool :=
  if s.pwr.mode = .backup then some (s.meas.tick / 32 % 2 == 0)
  else match s.meas.tick % 4 with
    | 0 => some true
    | 2 => some false
    | _ => none

/-- RTD_SLOT (R222): the result that the slot hands over at its end. DESIGN CHOICE, log entry 6. -/
def execRtdSlot (tc slot : Nat) (conv : Conversion) (s : State) : Out :=
  if tc = 0 ∨ 8 < tc ∨ 5 < slot then .refused .illFormed
  else if slot = 0 then
    match s.refSlot with
    | none => .next s
    | some r => if s.convDriven tc then .next (s.gainSample tc r conv.ratio) else .next s
  else if slot = 5 then
    if s.convDriven tc then .next (s.diagnostic tc conv) else .next s
  else
    match s.slotSensor tc slot with
    | none => .next s
    | some (n, side) =>
      let cfg := s.cfg n
      if s.slotDriven n && (if side = 0 then cfg.hasSup else cfg.hasRet) then .next (s.sensorConversion n side conv)
      else .next s

end Sys2Proof.Machine
end

