-- ==== Sys2Proof/Machine/Flags.lean ====
section
/-! DEFINITION. The status words of the register file: each composes the fields that its rule gives from the state. -/

namespace Sys2Proof.Machine

/-- A bit of a status word. -/
def flag (b : Bool) (k : Nat) : Nat := Word.ofBool b * 2 ^ k

/-! ### Module (R465 to R468) -/

/-- `MOD_MODE.MODE` (R466): 5 until the start-up decision. -/
def State.modeCode (s : State) : Nat :=
  if s.pwr.phase = .running ∨ s.pwr.phase = .waiting then
    match s.pwr.mode with
    | .normal => 1
    | .backup => 2
    | .hold => 3
    | .shipping | .unconfigured => 5
  else 5

/-- The module drives the field pins (R39). -/
def State.drives (s : State) : Bool := s.active && (s.normal || s.backup)

/-- `MOD_MODE` (R466). -/
def State.modMode (s : State) : Nat :=
  s.modeCode + flag s.meas.test 3 + 16 * (s.pwr.strapRole % 4) + flag s.drives 6 + flag s.pwr.failSilent 7 +
    flag (!s.pwr.straps.role1 && !s.pwr.straps.role0) 8 + flag (!s.pwr.straps.hostmode) 9 +
    1024 * s.pwr.straps.haddr.toNat

/-- Set `MOD_EVENTS.MODE` where MODE, TEST or ACTIVE differ between two states (R468). -/
def State.noteMode (old new : State) : State :=
  if old.modeCode = new.modeCode ∧ old.meas.test = new.meas.test ∧ old.drives = new.drives then new
  else new.onHl fun h => { h with events := setBits h.events (2 ^ 17) }

/-- The live event latch of channel n, with its temperature events (R212, R238). -/
def State.chEvents (s : State) (n : Nat) : Nat := (s.ch n).flow.events.toNat

/-- Channels whose live latch is not 0. -/
def State.chEvt (s : State) : List Nat := allCh.filter fun n => s.chEvents n != 0

/-- The W1C bits of `RTC_STATUS` (R351). -/
def Rtc.w1c (r : Rtc) : Nat := flag r.badWrite 4 + flag r.slewRefused 6 + flag r.autoRelease 8 + flag r.stepped 9

/-- `MOD_EVENTS` (R468): the summaries and the latched bits. -/
def State.modEvents (s : State) : Nat :=
  flag (s.pwr.events != 0#32) 0 + flag (s.rtc.w1c != 0) 1 + flag (!s.chEvt.isEmpty) 2 +
    flag (s.dma.events &&& s.dma.eventEn != 0#32) 3 + flag (s.disp.events != 0#32) 4 + flag (s.radio.events != 0#32) 5 +
    flag (s.pair.events != 0#32) 6 + flag (s.flt.events != 0#32) 7 + flag (s.tamper.events != 0#32) 8 +
    flag (s.hl.status != 0#32) 9 + (s.hl.events &&& 0xF0000#32).toNat

/-- HOST_IRQ_N is driven low (R460); with VIO_HOST absent the pin is isolated (R33). DESIGN CHOICE, log entry 144. -/
def State.irq (s : State) : Bool :=
  s.pwr.vioHost && decide (s.pwr.state = .run ∨ s.pwr.state = .sleep) && (s.modEvents &&& s.hl.eventEn.toNat) != 0

/-- `MOD_STATUS` (R467). -/
def State.modStatus (s : State) : Nat :=
  flag s.irq 0 + flag s.hl.service 1 + flag s.hl.running 2 + flag s.hl.wbuf.isEmpty 3 + flag (!s.rtc.osf) 4 +
    flag s.img.module_.commissioned 5 + flag s.pwr.pfActive 6 + 256 * (s.chEvt.headD 0) + 2 ^ 16 * s.chEvt.length

/-- `ID_PART` (R465). -/
def State.idPart (s : State) : Nat := 0xE740 + 2 ^ 16 * (if s.otp.a169 then 2 else 1) + 2 ^ 24

/-- `ID_REV` (R465). -/
def State.idRev (_s : State) : Nat := 0x100 + 2 ^ 16

/-- `MOD_CMD_STATUS` (R469). -/
def State.cmdStatusWord (s : State) : Nat :=
  let t := s.hl.taken.getD (0, 0)
  t.1 % 256 + 256 * (t.2 % 256) + 2 ^ 16 * (s.hl.result % 256) + flag s.hl.running 24 + flag s.hl.discarded 25 +
    flag s.hl.duplicate 26

/-- `RESET_CAUSE` (R103). -/
def State.resetCause (s : State) : Nat := s.pwr.cause % 2 ^ 18 + 2 ^ 24 * (s.pwr.warmCount % 256)

/-- `IMG_STATUS` (R150). -/
def State.imgStatus (s : State) : Nat :=
  flag s.img.cardPresent 0 + flag s.img.accepted 1 + flag s.img.module_.commissioned 2 + flag (s.meas.calPhase != 0) 3 +
    256 * (s.img.result % 256) + 2 ^ 16 * (s.img.section_ % 256) + flag s.img.chgL 24 + flag s.img.chgB 25 +
    flag s.img.chgO 26

/-! ### Supply and clocks (R70 to R73, R99 to R102) -/

/-- `PWR_STATE` (R99). -/
def State.pwrState (s : State) : Nat :=
  s.pwr.lastState % 8 + 16 * (s.pwr.lastWake % 16) + 2 ^ 16 * Word.sat 65535 s.pwr.lastExit

/-- `PWR_SUPPLY` (R70). -/
def State.pwrSupply (s : State) : Nat :=
  let p := s.pwr
  flag (p.vbusOk && !p.vbusOv) 0 + flag p.storeRdy 1 + flag p.onCell 2 + flag p.cellPresent 3 + flag p.belowWarn 4 +
    flag p.nvInhibit 5 + flag p.pfActive 6 + 256 * (p.pfStep % 16) + 2 ^ 16 * Word.sat 255 p.storeV

/-- `PWR_VBAT` (R71). -/
def State.pwrVbat (s : State) : Nat := s.pwr.vbatMv % 65536 + 2 ^ 16 * (s.pwr.loadMv % 65536)

/-- `PWR_RET_STATUS` (R100). -/
def State.pwrRet (s : State) : Nat :=
  s.pwr.retSel % 256 + 256 * (s.pwr.retFail % 256) + 2 ^ 16 * (s.pwr.rebuilt % 256) + flag s.pwr.cardReread 24

/-- `CLK_STATUS` (R101). -/
def State.clkStatus (s : State) : Nat :=
  flag s.pwr.rootOk 0 + flag s.pwr.settRun 1 + flag s.pwr.trimValid 2 + flag s.pwr.trimLimit 3

/-- `CLK_SETT_TRIM` (R102). -/
def State.settTrim (s : State) : Nat := Word.ofInt 16 s.pwr.trim + 2 ^ 16 * Word.sat 255 s.pwr.measAge

/-! ### Measurement (R172 to R174, R177) -/

/-- `MEAS_STATUS` (R172); no slot is driven during a power-fail sequence (R52). DEDUCED, log entry 161. -/
def State.measStatus (s : State) : Nat :=
  let sched := if s.pwr.pfActive then 0 else if s.normal && s.active then 1 else if s.backup && s.active then 2 else if s.calDriven then 3 else 0
  let held := allCh.any fun n => (s.ch n).owed || (s.ch n).heldTick.isSome
  sched + flag held 2 + flag (s.cfg 1).trunk 4 + flag (s.cfg 11).trunk 5 + flag (s.cfg 21).trunk 6 +
    flag (s.cfg 31).trunk 7 + 256 * s.activeCh.length

/-- The 40 fault bits of R174. -/
def State.faultBits (s : State) : Nat := (allCh.map fun n => flag (s.chFault n) (n - 1)).foldl (· + ·) 0

/-- Waveform export is allowed (R166). -/
def State.mayExport (s : State) (n : Nat) : Bool :=
  (s.cfg n).trunk && Word.bit (s.cfg n).options 3 &&
    (match s.img.image with
      | none => false
      | some im => match im.host with
        | none => false
        | some h => Word.bit h.flags 0)

/-- The code of a channel type (R177). -/
def ChType.code (t : ChType) : Nat :=
  match t with
  | .off => 0
  | .heat => 1
  | .cool => 2
  | .heatcool => 3
  | .water => 4
  | .gas => 5

/-- `CHW_TYPE` of channel n (R177). -/
def State.chwType (s : State) (n : Nat) : Nat :=
  let g := s.cfg n
  let k := (n - 1) % 10 + 1
  let fixed := 256 * ((n - 1) / 10 + 1) + 4096 * tcOf n + 2 ^ 16 * k + 2 ^ 20 * ((n - 1) % 4)
  let on := g.type.code + flag g.trunk 3 + flag g.hasSup 4 + flag g.hasRet 5 + flag g.hasValve 6 +
    flag (s.mayExport n) 7
  fixed + 2 ^ 24 * (if g.trunk then 0 else 8 * (k - 1) + 4) + (if g.type = .off then 0 else on)

/-- The 32 words of channel n's window at 0x140 to 0x1BC (R175, R475). -/
def State.windowOf (s : State) (n : Nat) : List Nat :=
  let c := s.ch n
  let v := c.shown
  let dth := match v.tempS, v.tempR with
    | some a, some b => Word.ofInt 32 (a - b)
    | _, _ => noTheta
  let off := decide ((s.cfg n).type = .off)
  let th (t : Option Int) : Nat := if off then noTheta else thetaWord t
  let tot (i : Nat) : List Nat := let t := nth v.totals i 0; [t / 2 ^ 64 % 65536, t / 2 ^ 32 % 2 ^ 32]
  [s.chwType n, v.status + c.flow.calResult % 8 * 2 ^ 20, s.chEvents n, Word.ofInt 32 v.flow, th v.tempS, th v.tempR, if off then noTheta else dth,
    Word.ofInt 32 v.power, v.tofMean % 2 ^ 32, Word.ofInt 32 v.tofDiff, v.c % 2 ^ 32, v.signal] ++
  tot 0 ++ tot 1 ++ tot 2 ++ tot 3 ++
  [v.tariff, v.credit, s.valveWord n, nth v.maxima 0 0, nth v.maxima 1 0, nth v.maxima 2 0, nth v.maxima 3 0,
    nth v.totals 4 0 / 2 ^ 32 % 2 ^ 32, Word.ofInt 32 v.zero, v.gas, c.flow.capCtrl % 2 ^ 32,
    c.flow.capWritten % 65536 + 2 ^ 16 * (c.flow.capDropped % 65536)]

/-! ### Pair, faults and tamper (R331, R562, R564, R578 to R583) -/

/-- `MIR_STATUS` (R562). -/
def State.mirStatus (s : State) : Nat :=
  let p := s.pair
  let pct := if p.phase = 3 then 100 else if p.syncTotal = 0 then 0 else
    100 * (p.syncTotal - (p.syncTodo.map (·.2.2)).foldl (· + ·) 0) / p.syncTotal
  p.phase % 4 + flag s.drives 2 + flag p.peerActive 3 + flag p.ready 4 + flag p.linkFault 5 + flag p.cableLost 6 +
    flag p.peerOkIn 7 + flag s.pwr.peerOkOut 8 + flag p.harness 9 + flag p.peerOnCell 10 + flag p.switching 11 +
    4096 * (s.pwr.failCause % 8) + 2 ^ 16 * (p.refuse % 8) + 2 ^ 24 * pct

/-- `MIR_CRC_ERRORS` (R564). -/
def State.mirErrors (s : State) : Nat :=
  s.pair.crcErrors % 65536 + 2 ^ 16 * (s.pair.resends % 256) + 2 ^ 24 * (s.pair.resendFail % 256)

/-- `MIR_GAP_MS` (R564). -/
def State.mirGap (s : State) : Nat := Word.sat (2 ^ 24 - 1) s.pair.gapMs + 2 ^ 24 * Word.sat 255 s.pair.record.takeovers

/-- `FLT_STATUS` (R578). -/
def State.fltStatus (s : State) : Nat :=
  let f := s.flt
  flag f.moduleLost 0 + flag (!f.totalsLost.isEmpty) 1 + flag f.securityLost 2 + flag f.otherLost 3 + flag f.scrubbing 4 +
    2 ^ 16 * ((allCh.find? f.totalsLost.contains).getD 0) + 2 ^ 24 * Word.sat 255 f.scrubAge

/-- `FLT_HOARD_CORR` (R580). -/
def State.fltCorr (s : State) : Nat := s.flt.corr + 2 ^ 16 * s.flt.corrScrub

/-- `FLT_SRAM_PAR` (R581). -/
def State.fltPar (s : State) : Nat := s.flt.parCount + 2 ^ 16 * (s.flt.parBanks % 256)

/-- `FLT_DMR_MISMATCH` (R582). -/
def State.fltDmr (s : State) : Nat := s.flt.dmrCount + 2 ^ 16 * (s.flt.dmrCh % 64) + 2 ^ 24 * (s.flt.dmrWord % 256)

/-- `FLT_LAST_ADDR` (R583). -/
def State.fltLast (s : State) : Nat :=
  s.flt.lastAddr % 2 ^ 24 + 2 ^ 24 * (s.flt.lastKind % 16) + 2 ^ 28 * (s.flt.lastReader % 16)

/-- `TAMPER_STATUS` (R331). -/
def State.tamperStatus (s : State) : Nat :=
  let t := s.tamper
  flag t.coverOpen 0 + flag t.tcoverOpen 1 + flag t.cardOut 2 + flag (!t.disc.isEmpty) 3 + flag t.linkLost 4 +
    256 * (t.latch.length % 16) + flag (t.latch.any fun e => e.2.2.2) 12

/-! ### Sessions, M-Bus and allocators (R413, R414, R434, R435) -/

/-- `SES_ACTIVE` (R413). -/
def State.sesActive (s : State) : Nat :=
  let l := s.sess.ctxs.toList
  (l.filter fun c => c.st != .free).length + 256 * (l.filter fun c => c.st == .running || c.st == .ready).length +
    2 ^ 16 * s.sess.evictions + 2 ^ 24 * s.sess.dups

/-- `SES_BUSY_REJECTS` (R414). -/
def State.sesBusy (s : State) : Nat := s.sess.busy + 2 ^ 16 * s.sess.authFail + 2 ^ 24 * s.sess.replays

/-- `ALC_STATUS` (R434). -/
def State.alcStatus (s : State) : Nat :=
  let n := match s.img.image with
    | none => 0
    | some im => (im.allocs.getD []).length
  n % 512 + flag s.alc.run.isSome 9 + 2 ^ 16 * s.alc.strangers.length + 2 ^ 24 * s.alc.refused

/-- The module answers on the bus (R417). -/
def State.mbusServing (s : State) : Bool :=
  decide (s.pwr.state = .run) && s.running && s.active &&
    decide (s.pwr.mode = .normal ∨ s.pwr.mode = .backup ∨ s.pwr.mode = .unconfigured)

/-- `MBUS_STATUS` (R435). -/
def State.mbusStatus (s : State) : Nat :=
  s.mbus.baud % 8 + flag s.mbus.selected.isSome 3 + 16 * (s.mbus.selected.getD 0) + flag s.mbusServing 10 +
    2 ^ 16 * s.mbus.frameErr + 2 ^ 24 * s.mbus.answered

/-! ### Host link (R471 to R474) -/

/-- `HL_STATUS` (R471). -/
def State.hlStatus (s : State) : Nat :=
  let h := s.hl
  flag h.service 0 + flag h.challenge.isSome 1 + 4 * (h.fails % 4) + flag h.lockedOut 4 + 32 * h.wbuf.length +
    (h.status &&& 0x1F0000#32).toNat

/-- `HL_CRC_ERRORS` (R472). -/
def State.hlErrors (s : State) : Nat := s.hl.crcErr + 2 ^ 16 * s.hl.aborted + 2 ^ 24 * s.hl.malformed

/-- `HL_STREAM_STATUS` (R474). -/
def State.hlStream (s : State) : Nat := s.hl.next + 256 * (s.hl.count % 65536) + 2 ^ 24 * s.hl.dropped

/-- The host holds SERVICE or needs none: on an uncommissioned module the requirement lapses (R453). -/
def State.serviceHeld (s : State) : Bool := s.hl.service || !s.img.module_.commissioned

/-- The HOST section allows DC12 to DC15 (R130, R497). -/
def State.hostDma (s : State) : Bool :=
  match s.img.image with
  | none => false
  | some im => match im.host with
    | none => false
    | some h => Word.bit h.flags 1

/-- `RTC_CTRL`, `RTC_DATE`, `RTC_TIME`, `RTC_SLEW`. -/
def rtcSetReg (a : Nat) : Bool := a == 0xC0 || a == 0xC8 || a == 0xCC || a == 0xD8

/-- `DMA_STOP`, `DMA_Hn_PROG`, `DMA_Hn_CTRL`. -/
def dmaSetReg (a : Nat) : Bool :=
  a == 0x210 || (decide (0x220 ≤ a ∧ a < 0x260) && (a % 16 == 0 || a % 16 == 4))

/-- The level and the HOST section allow a write to the register at an address (R453). -/
def State.mayWrite (s : State) (a : Nat) : Bool :=
  if rtcSetReg a ∨ a = 0x1B8 then s.serviceHeld
  else if dmaSetReg a then s.serviceHeld && s.hostDma
  else true

/-- Refuse an RTC register write: nothing changes but BADWRITE (R337). -/
def State.badWrite (s : State) : State := s.onRtc fun r => { r with badWrite := true }

/-- The host link is served: VIO_HOST present, in Run, with ROOT running and no reset held (R33, R78, R79, R97, R107).
DESIGN CHOICE, log entry 153. -/
def State.hostServed (s : State) : Bool :=
  s.pwr.vioHost && decide (s.pwr.state = .run ∧ s.pwr.phase ≠ .inReset ∧ s.pwr.phase ≠ .rootDead)

/-- A LINK reset waits for its posted writes: host frames are answered BUSY (R98). -/
def State.linkBusy (s : State) : Bool := s.hl.linkDue != 0

/-- A register write as a command of its own: judged as checks 6 and 7 of R442 judge a frame, and executed at once.
DEDUCED, log entry 117. -/
def State.asWrite (a : Nat) (f : State → State) (s : State) : State :=
  if !s.hostServed then s
  else if !s.mayWrite a then (if rtcSetReg a then s.badWrite else s)
  else if s.pwr.pfActive || s.linkBusy then s
  else f s

/-! ### DMA and display (R501, R503, R505, R532 to R536) -/

/-- DMA channel k. -/
def State.dc (s : State) (k : Nat) : DmaCh := vget s.dma.chs k DmaCh.reset

/-- Put DMA channel k. -/
def State.setDc (s : State) (k : Nat) (c : DmaCh) : State :=
  s.onDma fun d => { d with chs := d.chs.setIfInBounds k c }

/-- A channel stands at a WAIT or awaits a paced request (R501). -/
def State.dcWaiting (s : State) (k : Nat) : Bool :=
  let c := s.dc k
  c.run && (c.wait.isSome || (match c.move with
    | none => false
    | some m => match m.paced with
      | none => false
      | some l => nth s.dma.prq l 0 == 0))

/-- `DMA_STATUS` (R501). -/
def State.dmaStatus (s : State) : Nat :=
  ((List.range 16).map fun k => flag (s.dc k).run k + flag (s.dcWaiting k) (16 + k)).foldl (· + ·) 0

/-- `DMA_ERR_INFO` (R503). -/
def State.dmaErrInfo (s : State) : Nat := s.dma.errCh % 16 + 16 * (s.dma.errCode % 16) + 256 * (s.dma.errInsn % 2 ^ 24)

/-- `DMA_Hn_STATUS` (R505). -/
def State.dmaHStatus (s : State) (k : Nat) : Nat :=
  let c := s.dc k
  flag c.run 0 + flag (s.dcWaiting k) 1 + flag c.armed.isSome 2 + 16 * (c.err % 16) + 256 * (c.pc % 2 ^ 24)

/-- `DSP_STATUS` (R532): `suspended` is the condition of R528. -/
def State.dspStatus (s : State) : Nat :=
  let d := s.disp
  let present := match s.img.image with
    | none => false
    | some im => im.display.isSome
  flag present 0 + flag d.railsOn 1 + flag (d.updates.any (·.started)) 2 + flag s.backup 3 + flag d.ptempFault 4 +
    flag d.tempOut 5 + flag d.railFault 6 + flag (d.dirty != 0) 7 + 256 * (d.screen % 16) + flag (d.rom != 0) 12 +
    2 ^ 13 * (d.rom % 4) + 2 ^ 16 * (d.range % 8)

/-- The first update of a region is running or waits for its area; a second one is pending (R523, R534). -/
def Disp.busyBit (d : Disp) (r : Nat) : Nat :=
  let n := (d.updates.filter fun u => u.target == .region r).length
  flag (decide (0 < n)) r + flag (decide (1 < n)) (16 + r)

/-- `DSP_REGION_BUSY` (R534). -/
def State.dspBusy (s : State) : Nat := ((List.range 16).map s.disp.busyBit).foldl (· + ·) 0

/-- An accepted or running full refresh. -/
def Update.isRefresh (u : Update) : Bool :=
  match u.target with
  | .refresh _ => true
  | .region _ | .rom => false

/-- `DSP_REFRESH` (R535) at a SETT instant in ms. DEDUCED, log entry 49. -/
def State.dspRefresh (s : State) (ms : Nat) : Nat :=
  let d := s.disp
  let hours := match d.lastMs with
    | none => 0
    | some t => Word.sat 255 ((ms - t) / 3600000)
  d.count % 65536 + 2 ^ 16 * (d.lastCause % 8) + flag (d.updates.any Update.isRefresh) 19 + 2 ^ 20 * hours

/-- `DSP_PANEL_TEMP` (R536). -/
def State.dspTemp (s : State) : Nat := Word.ofInt 16 s.disp.temp + flag s.disp.internalSrc 16

end Sys2Proof.Machine
end

