-- ==== Sys2Proof/Machine/Telegram.lean ====
section
/-! DEFINITION. Telegrams: identities (R383 to R385), frames and their security (R386 to R389), data records and telegram
kinds (R391 to R398), and the message counters (R399, R400, R402). -/

namespace Sys2Proof.Machine

/-! ### Identities -/

/-- The 8 identity bytes of identity i: M-field (2) and A-field (6). The accepted image gives them, else the MODULE record
(R383, R420). -/
def State.identity (i : Nat) (s : State) : List Byte :=
  match s.img.image with
  | some im =>
    if i = 0 then im.identity.take 8 else (s.cfg i).ident
  | none => if i = 0 then s.img.module_.moduleIdent else slice s.img.module_.chIdent (8 * (i - 1)) 8

/-- Identity i exists (R383): identity 0, and each channel that is not OFF. -/
def State.hasIdentity (i : Nat) (s : State) : Bool :=
  match s.img.image with
  | some _ => i == 0 || decide ((s.cfg i).type ≠ .off)
  | none => if i = 0 then s.img.module_.moduleIdent != zeros 8 else
      decide (i ≤ 40) && slice s.img.module_.chIdent (8 * (i - 1)) 8 != zeros 8

/-- The identities that exist. -/
def State.identities (s : State) : List Nat := (List.range 41).filter s.hasIdentity

/-- The device address in the order of the long TPL header: ID, manufacturer, version, type. -/
def longAddress (ident : List Byte) : List Byte := slice ident 2 4 ++ slice ident 0 2 ++ slice ident 6 2

/-- The frame names one of the module's identities in its long TPL header (R363, R383): it belongs to the session engine.
DEDUCED, log entry 146. -/
def State.addressed (f : List Byte) (s : State) : Bool :=
  fieldAt f 10 1 == 0x90 && fieldAt f 27 1 == 0x5B && s.identities.any fun i => slice f 28 8 == longAddress (s.identity i)

/-! ### Block CRCs (R357, R386, R388) -/

/-- The CRC of EN 13757, high byte first. -/
def en13757Crc (bs : List Byte) : List Byte := be 2 ((crc16 0x3D65#16 0#16 bs) ^^^ 0xFFFF#16).toNat

/-- n blocks of 16 bytes, each with its CRC. PRESUMED, log entry 41. -/
def blocks16 (n : Nat) (bs : List Byte) : List Byte :=
  match n with
  | 0 => []
  | k + 1 =>
    let b := bs.take 16
    if b.isEmpty then [] else b ++ en13757Crc b ++ blocks16 k (bs.drop 16)

/-- A frame as sent in format A: `body` starts with the C-field. -/
def formatA (body : List Byte) : List Byte :=
  let first := le 1 body.length ++ body.take 9
  first ++ en13757Crc first ++ blocks16 16 (body.drop 9)

/-- A frame as sent in format B: the L-field counts the CRC bytes. -/
def formatB (body : List Byte) : List Byte :=
  if body.length ≤ 125 then
    let b := le 1 (body.length + 2) ++ body
    b ++ en13757Crc b
  else
    let b := le 1 (body.length + 4) ++ body.take 125
    let r := body.drop 125
    b ++ en13757Crc b ++ r ++ en13757Crc r

/-- MODE codes that send format B (R357). -/
def sendsB (mode : Nat) : Bool := mode == 5 || mode == 6

/-- The frame as sent in a mode. -/
def onAir (mode : Nat) (body : List Byte) : List Byte := if sendsB mode then formatB body else formatA body

/-- The length that R364 counts for an L-field value of L without CRCs (R388). -/
def airLength (mode L : Nat) : Nat :=
  if sendsB mode then (if L ≤ 125 then L + 3 else L + 5) else 1 + L + 2 * (1 + (L - 9 + 15) / 16)

/-- L of a frame with P bytes of data records in a security mode (R388). -/
def frameL (sec P : Nat) : Nat := 9 + (if sec = 7 then 23 else 5) + 16 * ((P + 2 + 15) / 16)

/-- Airtime of a frame of a length, in 0.1 µs (R364). DESIGN CHOICE, log entries 13 and 40. -/
def airtime (mode nChan len : Nat) : Nat :=
  match mode with
  | 1 => 180000 + 4883 * len
  | 2 => 30000 + 4883 * len
  | 3 | 4 => 12000 + 1200 * len
  | 5 | 6 => 10000 + 800 * len
  | _ => if Config.nChannelRate nChan = 4800 then 120000 + 16667 * len else 240000 + 33333 * len

/-! ### Security (R387) -/

/-- 0x2F 0x2F, the data and 0x2F fill to a multiple of 16. -/
def filled (data : List Byte) : List Byte :=
  let d := 0x2F#8 :: 0x2F#8 :: data
  d ++ List.replicate ((16 - d.length % 16) % 16) 0x2F#8

/-- KDF-A: the key of a derivation constant for a message counter and a meter (R387). PRESUMED, log entry 41. -/
def kdfA (key : List Byte) (dc mcr : Nat) (id4 : List Byte) : List Byte :=
  cmac key (le 1 dc ++ le 4 mcr ++ id4 ++ List.replicate 7 0x07#8)

/-- The configuration-field extension of mode 7: KDF-A, and the KEYS index in bits [3:0] and [7:6] (R387).
PRESUMED, log entry 41. -/
def keyIdByte (k : Nat) : Nat := 0x10 + k % 16 + 64 * (k / 16 % 4)

/-- The TPL, the AFL and the encrypted part of a mode 7 frame: key, derivation constants for encryption and MAC, ID,
counter, header up to the status byte, key index and data (R386, R387). PRESUMED, log entry 41. -/
def mode7 (key : List Byte) (dcEnc dcMac : Nat) (id4 : List Byte) (mcr : Nat) (head : List Byte) (keyIx : Nat)
    (data : List Byte) : List Byte :=
  let plain := filled data
  let n := plain.length / 16
  let enc := cbcEncrypt n (kdfA key dcEnc mcr id4) (zeros 16) plain
  let tpl := head ++ le 2 (0x0700 + 16 * (n % 16)) ++ le 1 (keyIdByte keyIx) ++ enc
  let mac := (cmac (kdfA key dcMac mcr id4) (0x25#8 :: le 4 mcr ++ tpl)).take 8
  [0x90#8, 0x0F#8] ++ le 2 0x2C00 ++ [0x25#8] ++ le 4 mcr ++ mac ++ tpl

/-- The TPL and the encrypted part of a mode 5 frame: the identity gives the IV (R387). PRESUMED, log entry 41. -/
def mode5 (key ident : List Byte) (acc : Nat) (head data : List Byte) : List Byte :=
  let plain := filled data
  let n := plain.length / 16
  head ++ le 2 (0x0500 + 16 * (n % 16)) ++ cbcEncrypt n key (ident ++ List.replicate 8 (BitVec.ofNat 8 acc)) plain

/-- A frame from its C-field on (R386): C-field, identity bytes, security mode, key and its index, counter, access number,
status byte and data records. PRESUMED, log entry 41. -/
def frameBody (c : Byte) (ident : List Byte) (sec : Nat) (key : List Byte) (keyIx mcr acc status : Nat) (data : List Byte) :
    List Byte :=
  let head := 0x7A#8 :: le 1 acc ++ le 1 status
  [c] ++ ident ++ (if sec = 7 then mode7 key 0 1 (slice ident 2 4) mcr head keyIx data else mode5 key ident acc head data)

/-! ### Status byte (R389) -/

/-- Alarm conditions of channel n that are live (R397). -/
def State.chAlarms (n : Nat) (s : State) : Nat :=
  let c := s.ch n
  let f := c.flow
  flag f.flowFault 0 + flag (s.tempFaulted n) 1 + flag (s.tamper.disc.any fun e => e.1 == n) 2 +
    flag (c.a.valve.fault != 0) 3 +
    flag ((s.prepay n).isSome && (c.a.credit.cstate == 3 || Word.bit c.a.credit.cflags 2)) 4 +
    flag f.gasAnom 5 + flag f.reverse 6 + flag (f.zeroDrift || f.templateDrift) 7

/-- `PWR_EVENTS.CELL_LOW` is set. -/
def State.cellLow (s : State) : Bool := s.pwr.events.getLsbD 3

/-- Alarm conditions of the module that are live; conditions 8 and 9 have an onset only (R397). -/
def State.moduleAlarms (s : State) : Nat :=
  flag s.tamper.coverOpen 0 + flag s.tamper.tcoverOpen 1 + flag s.tamper.cardOut 2 + flag s.tamper.linkLost 3 +
    flag s.cellLow 4 + flag s.pwr.onCell 5 + flag s.rtc.osf 6 + flag (decide (s.pwr.mode = .unconfigured)) 7

/-- Bit 4 of a channel's status byte: LOW_Q, AIR or a HELD sample in the last step. -/
def State.weakQuality (s : State) (n : Nat) : Bool :=
  let c := s.ch n
  c.flow.lowQ || c.flow.air || Word.bit c.shown.status 1

/-- Bits [7:2] of the status byte of identity i, and bits [1:0] where the frame is no answer to a request. -/
def State.statusByte (i : Nat) (s : State) : Nat :=
  let f := (s.ch i).flow
  let fault := if i = 0 then decide (s.pwr.mode = .unconfigured) else s.chFault i || f.calMissing || f.calMismatch
  let weak := if i = 0 then s.activeCh.any s.weakQuality else s.weakQuality i
  (if (if i = 0 then s.moduleAlarms else s.chAlarms i) = 0 then 0 else 3) + flag (s.pwr.onCell || s.cellLow) 2 +
    flag fault 3 + flag weak 4 + flag s.rtc.osf 5 + flag (s.tamperStatus % 32 != 0) 6 +
    flag (decide (s.pwr.mode = .backup)) 7

/-- The status byte of a response with a result: busy, application error, else as any frame (R389). -/
def State.answerStatus (i result : Nat) (s : State) : Nat :=
  let st := s.statusByte i
  if result = 1 then st / 4 * 4 + 1 else if result = 0 ∨ result = 6 then st else st / 4 * 4 + 2

/-! ### Data records (R391) -/

/-- DIB and VIB bytes. -/
def hx (l : List Nat) : List Byte := l.map (BitVec.ofNat 8)

/-- DIB bytes with the storage number 1 where asked (R394). -/
def dib (stored : Bool) (l : List Nat) : List Byte :=
  match l with
  | [] => []
  | a :: t => hx ((if stored then a + 64 else a) :: t)

/-- Type I of EN 13757-3 at a count, in local time with the summer-time bit (R391).
PRESUMED, log entry 41. DEDUCED, log entry 42. -/
def typeI (rule : Bool) (count : Nat) : List Byte :=
  let dst := dstAt rule count
  let l := localTime rule count
  let dt := dateOf (l / 86400)
  let y := dt.y - 2000
  let t := l % 86400
  hx [t % 60 + flag dst 6 + flag (leap dt.y) 7, t / 60 % 60 + flag (decide (99 < y)) 7,
    t / 3600 + 32 * weekday (l / 86400), dt.d + 32 * (y % 8), dt.m + 16 * (y / 8 % 16), 0]

/-- Type G of EN 13757-3. PRESUMED, log entry 41. -/
def typeG (y m d : Nat) : List Byte :=
  let y := y - 2000
  hx [d % 32 + 32 * (y % 8), m % 16 + 16 * (y / 8 % 16)]

/-- The time record. -/
def timeRecord (rule : Bool) (count : Nat) : List Byte := hx [0x06, 0x6D] ++ typeI rule count

/-- The serial record. -/
def serialRecord (serial : Nat) : List Byte := hx [0x07, 0x79] ++ le 8 serial

/-- The 48 integer bits of a 48.32 total. -/
def total6 (v : Nat) : List Byte := le 6 (v / 2 ^ 32)

/-- A temperature in 0.001 °C, truncated toward zero; 0x8000_0000 where it does not exist. -/
def temp4 (t : Option Int) : List Byte :=
  match t with
  | none => le 4 noTheta
  | some v => leInt 4 (divTrunc v 10)

/-- A tariff register: DIB of index i (0 to 3), heat or cooling. -/
def tariffDib (st cool : Bool) (i : Nat) : List Byte :=
  let x := if cool then 64 else 0
  if i = 3 then dib st [0x86, 0x80 + x, 0x10, 0x03] else dib st [0x86, 16 * (i + 1) + x, 0x03]

/-- The four tariff registers of an energy. -/
def tariffRecords (st cool : Bool) (l : List Nat) : List Byte :=
  (List.range 4).flatMap fun i => tariffDib st cool i ++ total6 (nth l i 0)

/-- A 4-byte duration in whole seconds with a manufacturer VIFE. -/
def durationRecord (st : Bool) (vife v : Nat) : List Byte := dib st [0x04, 0xFF, vife] ++ le 4 (wholeSeconds v)

/-- The record group of one RECORDS bit (R391): channel type, whether it is prepaid, the totals, and the values of the
registers that bit 8 sends. -/
def recordGroup (st rule : Bool) (t : ChType) (w : Work) (flow power : Int) (k : Nat) : List Byte :=
  let cond (v : Nat) (x : List Nat) : List Byte :=
    dib st (x ++ [if t = .water then 0x10 else 0x03]) ++ total6 v
  let heat := decide (t = .heat ∨ t = .heatcool)
  let cool := decide (t = .cool ∨ t = .heatcool)
  match k with
  | 0 => dib st [0x06, 0x03] ++ total6 (if t = .gas then w.eGas else w.eHeat)
  | 1 => dib st [0x86, 0x40, 0x03] ++ total6 w.eCool
  | 2 => dib st [0x06, 0x10] ++ total6 w.vFwd
  | 3 => dib st [0x86, 0x80, 0x40, 0x10] ++ total6 w.vRev
  | 4 => dib st [0x86, 0xC0, 0x40, 0x10] ++ total6 w.vBase
  | 5 => (if heat then tariffRecords st false w.eHeatT else []) ++ (if cool then tariffRecords st true w.eCoolT else [])
  | 6 => cond w.eCond1 [0x86, 0x80, 0x80, 0x40] ++ cond w.eCond2 [0x86, 0xC0, 0x80, 0x40]
  | 7 => dib st [0x86, 0x80, 0xC0, 0x40, 0x03] ++ total6 w.eSubst ++ dib st [0x86, 0x80, 0xC0, 0x40, 0x10] ++
      total6 w.vSubst
  | 8 => dib st [0x04, 0x38] ++ leInt 4 flow ++ dib st [0x04, 0x2A] ++ leInt 4 power
  | 9 =>
    let d := match w.thetaS, w.thetaR with
      | some a, some b => some (a - b)
      | _, _ => none
    dib st [0x04, 0x58] ++ temp4 w.thetaS ++ dib st [0x04, 0x5C] ++ temp4 w.thetaR ++ dib st [0x04, 0x60] ++ temp4 d
  | 10 => dib st [0x14, 0x2A] ++ le 4 w.bill.maxP ++ dib st [0x16, 0x6D] ++ typeI rule w.bill.maxPTime ++
      dib st [0x14, 0x38] ++ le 4 w.bill.maxQ ++ dib st [0x16, 0x6D] ++ typeI rule w.bill.maxQTime
  | 11 => durationRecord st 2 w.tFlowFault ++ durationRecord st 3 w.tTempFault ++ durationRecord st 4 w.tLowDt ++
      durationRecord st 5 w.tNegDt
  | 12 => dib st [0x06, 0xFF, 0x01] ++ leInt 6 (divTrunc w.credit.credit 65536)
  | _ => []

/-- The groups that RECORDS selects, in ascending bit order. -/
def recordGroups (st rule : Bool) (t : ChType) (w : Work) (flow power : Int) (records : Nat) : List Byte :=
  ((List.range 13).filter (Word.bit records)).flatMap (recordGroup st rule t w flow power)

/-- The totals of a channel as committed (R392): the record in HOARD. -/
def State.committed (n : Nat) (s : State) : Work :=
  match s.mem.totals n with
  | .body d => Work.ofBytes d
  | .absent | .lost => Work.absent

/-! ### Telegram kinds (R392 to R398) -/

/-- The billing telegram's records (R392). -/
def State.billingData (n records : Nat) (s : State) : List Byte :=
  let w := s.committed n
  timeRecord s.dst w.stepTime ++ serialRecord s.otp.serial ++
    recordGroups false s.dst (s.cfg n).type w (s.ch n).shown.flow (s.ch n).shown.power records

/-- The compact telegram's records (R393). -/
def State.compactData (n : Nat) (s : State) : List Byte :=
  let w := s.committed n
  let t := (s.cfg n).type
  let g (k : Nat) : List Byte := recordGroup false s.dst t w 0 0 k
  timeRecord s.dst w.stepTime ++
    (match t with
      | .heat | .heatcool | .gas => g 0 ++ g 2
      | .cool => g 1 ++ g 2
      | .water => g 2 ++ g 3
      | .off => [])

/-- The values of a snapshot entry as a TOTALS body holds them: 48.16 totals as 48.32 (R300, R301). FLAGS bit 7 tells that
it carries E_GAS and V_BASE in the first two totals, and not E_HEAT and E_COOL. -/
def workOfSnap (d : List Byte) : Work :=
  let tot (i : Nat) : Nat := 65536 * fieldAt d (0x28 + 8 * i) 8
  let dur (o : Nat) : Nat := 9600000 * fieldAt d o 4
  let gas := Word.bit (fieldAt d 0xB 1) 7
  let w := Work.absent
  { w with
    eHeat := if gas then 0 else tot 0, eCool := if gas then 0 else tot 1, eGas := if gas then tot 0 else 0,
    vBase := if gas then tot 1 else 0, eHeatT := [tot 2, tot 3, tot 4, tot 5], eCoolT := [tot 6, tot 7, tot 8, tot 9],
    vFwd := tot 10, vRev := tot 11, eCond1 := tot 12, eCond2 := tot 13, eSubst := tot 14, vSubst := tot 15,
    tFlowFault := dur 0xD4, tTempFault := dur 0xD8, tLowDt := dur 0xDC, tNegDt := dur 0xE0,
    bill := { w.bill with maxP := fieldAt d 0xA8 4, maxQ := fieldAt d 0xAC 4, maxPTime := fieldAt d 0xB0 5,
                          maxQTime := fieldAt d 0xB5 5 },
    credit := { w.credit with credit := fieldInt d 0xE4 8 } }

/-! ### Longest frames (R388, R367) -/

/-- Bytes of the record group of a RECORDS bit (R391). -/
def groupLen (t : ChType) (k : Nat) : Nat :=
  let both := decide (t = .heatcool)
  match k with
  | 0 | 2 => 8
  | 1 | 12 => 9
  | 3 | 4 => 10
  | 5 => if both then 74 else 37
  | 6 | 7 => 22
  | 8 => 12
  | 9 => 18
  | 10 | 11 => 28
  | _ => 0

/-- Bytes of the groups that RECORDS selects. -/
def groupsLen (t : ChType) (records : Nat) : Nat :=
  (((List.range 13).filter (Word.bit records)).map (groupLen t)).foldl (· + ·) 0

/-- P of the longest frame of an entry whose channel has a type (R392 to R397). -/
def entryLen (e : TelegramEntry) (t : ChType) : Nat :=
  match e.kind with
  | 1 => 18 + groupsLen t e.records
  | 2 => 8 + (if t = .water then 18 else if t = .cool then 17 else 16)
  | 3 => if e.ch = 0 then 18 + 161 else 18 + 11 + groupsLen t e.records + 11
  | 4 => 18 + 2 + 16 * e.records
  | _ => 18 + 14 + (if e.ch = 0 then 7 else 0)

end Sys2Proof.Machine
end

