-- ==== Sys2Proof/Machine/Alloc.lean ====
section
/-! DEFINITION. Allocator collection: records (R425 to R427), the parser (R428, R429), strangers (R430) and the annual freeze
(R431 to R433). -/

namespace Sys2Proof.Machine

/-- What a slot's record holds (R426). -/
structure AlcRec where
  rxTime    : Nat
  sts       : Nat
  acc       : Nat
  current   : Nat
  frozen    : Nat
  due       : Nat
  dueDate   : List Byte
  freezeSeq : Nat
  flags     : Nat
  rxCount   : Nat
  rejCount  : Nat
  ident     : List Byte
  deriving DecidableEq, Repr

/-- The value of a reading field that holds none. -/
def noReading : Nat := 0xFFFFFF

/-- A record that has just been started for an allocator. -/
def AlcRec.start (ident : List Byte) : AlcRec :=
  { rxTime := 0, sts := 0, acc := 0, current := 0, frozen := 0, due := 0, dueDate := zeros 2, freezeSeq := 0, flags := 0,
    rxCount := 0, rejCount := 0, ident := ident }

/-- The body of a slot (R426). -/
def AlcRec.bytes (r : AlcRec) : List Byte :=
  le 5 r.rxTime ++ le 1 r.sts ++ le 1 r.acc ++ zeros 1 ++ le 3 r.current ++ le 3 r.frozen ++ le 3 r.due ++
  padTo 2 r.dueDate ++ zeros 1 ++ le 4 r.freezeSeq ++ le 4 r.flags ++ le 4 r.rxCount ++ le 2 r.rejCount ++ zeros 6 ++
  padTo 8 r.ident

/-- Read a body; d starts at slot offset 8. -/
def AlcRec.ofBytes (d : List Byte) : AlcRec :=
  { rxTime := fieldAt d 0 5, sts := fieldAt d 5 1, acc := fieldAt d 6 1, current := fieldAt d 8 3, frozen := fieldAt d 11 3,
    due := fieldAt d 14 3, dueDate := slice d 17 2, freezeSeq := fieldAt d 20 4, flags := fieldAt d 24 4,
    rxCount := fieldAt d 28 4, rejCount := fieldAt d 32 2, ident := slice d 40 8 }

/-- A reading is stored (R427). -/
def AlcRec.stored (r : AlcRec) : Bool := Word.bit r.flags 0

/-- Slot A of allocator slot a (R425). -/
def alcAddr (a : Nat) : Nat := 0x240000 + 128 * a

/-- The provisioned allocators. -/
def State.allocs (s : State) : List Allocator :=
  match s.img.image with
  | none => []
  | some im => im.allocs.getD []

/-- The image has an ALLOCATORS section. -/
def State.hasAllocs (s : State) : Bool :=
  match s.img.image with
  | none => false
  | some im => im.allocs.isSome

/-- The record of slot a in a memory: none while it is empty (R426). -/
def State.alcIn (m : Mem) (a : Nat) (s : State) : Option AlcRec :=
  match s.allocs[a]?, m.readSlots (alcAddr a) (alcAddr a + 64) 64 with
  | some al, .body d => let r := AlcRec.ofBytes d; if r.ident = al.ident then some r else none
  | _, _ => none

/-- The record of slot a as last handed to the queue. -/
def State.alcRec (a : Nat) (s : State) : Option AlcRec := s.alcIn s.mem.drain a

/-- Commit the record of slot a. A freeze that has not yet reached the slot is committed with it (R433). -/
def State.commitAlc (a : Nat) (r : AlcRec) (s : State) : State :=
  let write (r : AlcRec) (s : State) : State :=
    s.enqueue { kind := .slots (alcAddr a) (alcAddr a + 64), body := r.bytes }
  match s.alc.run with
  | none => write r s
  | some f => match f.left.find? fun e => e.1 == a with
    | none => write r s
    | some e => write { r with frozen := e.2, freezeSeq := f.seq }
        (s.onAlc fun c => { c with run := some { f with left := f.left.filter fun e => e.1 != a } })

/-! ### The parser -/

/-- A value of a data record: an unsigned integer of 1 to 4 bytes or a BCD number of 2 to 8 digits (R428).
DEDUCED, log entry 43. -/
def recordValue (dif : Nat) (d : List Byte) : Option Nat :=
  let k := dif % 16
  if 1 ≤ k ∧ k ≤ 4 then some (leNat d)
  else if 9 ≤ k ∧ k ≤ 12 then
    if d.all fun b => decide (b.toNat % 16 ≤ 9 ∧ b.toNat / 16 ≤ 9) then
      some (d.reverse.foldl (fun v b => v * 100 + 10 * (b.toNat / 16) + b.toNat % 16) 0)
    else none
  else none

/-- Bytes of data that a DIF announces; `none` for a variable length. -/
def dataLen (dif : Nat) : Option Nat :=
  match dif % 16 with
  | 0 | 8 => some 0
  | 1 | 9 => some 1
  | 2 | 10 => some 2
  | 3 | 11 => some 3
  | 4 | 5 | 12 => some 4
  | 6 | 14 => some 6
  | 7 => some 8
  | _ => none

/-- The extension bytes of a DIF or VIF: those up to the first without bit 7. -/
def extLen (n : Nat) (first : Nat) (d : List Byte) : Nat :=
  match n with
  | 0 => 0
  | k + 1 =>
    if first < 128 then 0
    else match d with
      | [] => 0
      | b :: t => 1 + extLen k b.toNat t

/-- The storage number of a DIF and its DIFEs. -/
def storageOf (dif : Nat) (difes : List Byte) : Nat :=
  (difes.zipIdx.map fun e => e.1.toNat % 16 * 2 ^ (1 + 4 * e.2)).foldl (· + ·) (dif / 64 % 2)

/-- The data records of a decrypted part as (storage number, VIF, DIF, data); n bounds their number. -/
def dataRecords (n : Nat) (d : List Byte) : List (Nat × Nat × Nat × List Byte) :=
  match n, d with
  | 0, _ => []
  | _, [] => []
  | k + 1, b :: t =>
    let dif := b.toNat
    if dif = 0x2F then dataRecords k t
    else if dif % 16 = 15 then []
    else
      let e := extLen 10 dif t
      let t1 := t.drop e
      match t1 with
      | [] => []
      | v :: t2 =>
        let x := extLen 10 v.toNat t2
        let t3 := t2.drop x
        let len := match dataLen dif with
          | some l => l
          | none => 1 + fieldAt t3 0 1
        (storageOf dif (t.take e), v.toNat, dif, t3.take len) :: dataRecords k (t3.drop len)

/-- A type G date as a number that rises with the date. -/
def dateRank (d : List Byte) : Nat :=
  let a := fieldAt d 0 1
  let b := fieldAt d 1 1
  512 * (a / 32 + 8 * (b / 16)) + 32 * (b % 16) + a % 32

/-- What a telegram brings: CURRENT, ALC_DUE and its date; none when it is implausible (R428, step 4). -/
def telegramValues (d : List Byte) : Option (Nat × Nat × List Byte) :=
  let rs := dataRecords d.length d
  let first (st vif : Nat) : Option (Nat × List Byte) := (rs.find? fun r => r.1 == st && r.2.1 == vif).map (·.2.2)
  match first 0 0x6E with
  | none => none
  | some c =>
    match recordValue c.1 c.2 with
    | none => none
    | some cur =>
      let due := match first 1 0x6E with
        | none => some noReading
        | some x => recordValue x.1 x.2
      let date := match first 1 0x6C with
        | none => zeros 2
        | some x => padTo 2 x.2
      match due with
      | none => none
      | some v => if noReading < cur ∨ noReading < v then none else some (cur, v, date)

/-- Handle a frame from a transmitter that no slot names (R430). DEDUCED, log entry 45. -/
def State.stranger (ident : List Byte) (s : State) : State :=
  let l := s.alc.strangers
  let fresh : Stranger := { ident := ident, count := 1, last := s.rtc.count }
  match findIdx (fun e => e.ident == ident) l with
  | some i => s.onAlc fun c => { c with strangers := updAt l i fun e =>
      { e with count := Word.sat 65535 (e.count + 1), last := s.rtc.count } }
  | none =>
    if l.length < 64 then s.onAlc fun c => { c with strangers := l ++ [fresh] }
    else
      let old := l.foldl (fun m e => min m e.last) ((l.head?.map (·.last)).getD 0)
      match findIdx (fun e => e.last ≤ old) l with
      | none => s
      | some i => s.onAlc fun c => { c with strangers := updAt l i fun _ => fresh }

/-- Consecutive implausible telegrams of a slot. -/
def Alc.runOf (c : Alc) (a : Nat) : Nat := ((c.refusals.find? fun e => e.1 == a).map (·.2)).getD 0

/-- Set the count of consecutive implausible telegrams. -/
def Alc.setRun (c : Alc) (a n : Nat) : Alc := { c with refusals := (a, n) :: c.refusals.filter fun e => e.1 != a }

/-- Refuse a telegram of slot a with a FLAGS bit (R428 step 3, R429). -/
def State.alcRefuse (a bit : Nat) (r : AlcRec) (s : State) : State :=
  (s.onAlc fun c => { c with refused := Word.sat 255 (c.refused + 1) }).commitAlc a
    { r with flags := r.flags ||| 2 ^ bit, rejCount := Word.sat 65535 (r.rejCount + 1) }

/-- Store a telegram in slot a's record, with further FLAGS bits (R428, R429). DEDUCED, log entry 44. -/
def State.alcStore (a sts acc more : Nat) (v : Nat × Nat × List Byte) (r : AlcRec) (s : State) : State :=
  let flags := (r.flags &&& 0x30) ||| 1 ||| more ||| (if sts % 4 = 0 then 0 else 8)
  (s.onAlc fun c => c.setRun a 0).commitAlc a
    { r with rxTime := s.rtc.count, sts := sts, acc := acc, current := v.1, due := v.2.1, dueDate := v.2.2, flags := flags,
             rxCount := (r.rxCount + 1) % 2 ^ 32 }

/-- The plausibility rule (R429): `values` is none when step 4 of R428 found the telegram implausible.
DEDUCED, log entry 44. -/
def State.alcJudge (a sts acc : Nat) (values : Option (Nat × Nat × List Byte)) (r : AlcRec) (s : State) : State :=
  let d := (acc + 256 - r.acc) % 256
  let implausible (s : State) : State :=
    match values with
    | none => (s.onAlc fun c => c.setRun a (c.runOf a + 1)).alcRefuse a 2 r
    | some v =>
      if 8 ≤ s.alc.runOf a then s.alcStore a sts acc 0x20 v r
      else (s.onAlc fun c => c.setRun a (c.runOf a + 1)).alcRefuse a 2 r
  match values with
  | none => implausible s
  | some v =>
    if !r.stored then s.alcStore a sts acc 0 v r
    else if d = 0 then s
    else if 128 ≤ d then implausible s
    else if r.current ≤ v.1 then s.alcStore a sts acc 0 v r
    else if dateRank r.dueDate < dateRank v.2.2 then s.alcStore a sts acc 0x10 v r
    else implausible s

/-- Handle one frame, from its L-field on without CRCs (R428). -/
def State.parseFrame (f : List Byte) (s : State) : State :=
  let ident := slice f 2 8
  match findIdx (fun a => a.ident == ident) s.allocs, s.allocs.find? fun a => a.ident == ident with
  | some a, some al =>
    let ci := fieldAt f 10 1
    let long := decide (ci = 0x72)
    let o := if long then 19 else 11
    let cf := fieldAt f (o + 2) 2
    if (ci ≠ 0x7A ∧ ci ≠ 0x72) ∨ (long ∧ slice f 11 8 ≠ longAddress ident) ∨ cf / 256 % 32 ≠ 5 then s
    else
      let acc := fieldAt f o 1
      let sts := fieldAt f (o + 1) 1
      let r := (s.alcRec a).getD (AlcRec.start ident)
      let n := cf / 16 % 16
      let rest := f.drop (o + 4)
      let iv := ident ++ List.replicate 8 (BitVec.ofNat 8 acc)
      let plain := match al.key with
        | none => []
        | some k => cbcDecrypt n k iv (rest.take (16 * n))
      if plain.take 2 ≠ [0x2F#8, 0x2F#8] then s.alcRefuse a 1 r
      else s.alcJudge a sts acc (telegramValues (plain.drop 2 ++ rest.drop (16 * n))) r
  | _, _ => s.stranger ident

/-- ALLOCATOR_PARSE (R428): the parser takes the oldest received frame that is not addressed to the module (R363); one that is
read with a parity error is discarded (R569). -/
def execAllocatorParse (s : State) : Out :=
  match s.radio.rx.find? fun f => !s.addressed f with
  | none => .next s
  | some f =>
    let s1 := s.onRadio fun r => { r with rx := r.rx.erase f }
    if s.frameSpoilt then .next s1.frameDiscard else .next (s1.parseFrame f)

/-! ### The annual freeze -/

/-- Hand the slots of a running freeze to the queue while it has space, then the freeze record (R433). -/
def pumpFreeze (n : Nat) (s : State) : State :=
  match n with
  | 0 => s
  | k + 1 =>
    match s.alc.run with
    | none => s
    | some f =>
      if queueBound ≤ s.mem.queue.length then s
      else match f.left with
        | [] =>
          let body := le 4 f.seq ++ le 2 f.key ++ le 1 f.flags ++ zeros 1 ++ le 5 f.time ++ zeros 35
          (s.onAlc fun c => { c with run := none }).enqueue { kind := .slots 0x24F000 0x24F040, body := body }
        | e :: _ =>
          let ident := ((s.allocs[e.1]?).map (·.ident)).getD (zeros 8)
          pumpFreeze k (s.commitAlc e.1 ((s.alcRec e.1).getD (AlcRec.start ident)))

/-- Let a running freeze go on, behind the TOTALS commits of its tick (R433). -/
def State.pumpAlc (s : State) : State := if s.commitsOpen then s else pumpFreeze 481 s

/-- The annual key that a freeze is due for at the present count, if any (R432). -/
def State.freezeDue (s : State) : Option (Nat × Nat) :=
  let bl := s.billing
  let latest := latestKey s.dst (some bl.annualMonth) bl.annualDay s.rtc.count
  let (seq, ref) := match s.mem.drain.readSlots 0x24F000 0x24F040 64 with
    | .body d => (fieldAt d 0 4, some (fieldAt d 4 2))
    | .absent | .lost => (0, latestKey s.dst (some bl.annualMonth) bl.annualDay s.img.module_.commissionTime)
  match latest with
  | none => none
  | some k => match ref with
    | none => some (seq + 1, k)
    | some r => if r < k then some (seq + 1, k) else none

/-- Begin the freeze that is due: every slot's CURRENT is held as it stands (R432, R433). -/
def State.freeze (fromHold : Bool) (s : State) : State :=
  if !s.hasAllocs ∨ s.alc.run.isSome then s
  else match s.freezeDue with
    | none => s
    | some (seq, key) =>
      let late := decide (dueInstant s.dst s.billing.annualDay key + 10 < s.rtc.count)
      let left := ((List.range s.allocs.length).filter fun a => match s.alcRec a with
        | none => true
        | some r => r.freezeSeq != seq).map fun a => (a, match s.alcRec a with
          | none => noReading
          | some r => if r.stored then r.current else noReading)
      let run : FreezeRun :=
        { seq := seq, key := key, flags := s.untrusted + flag late 1 + flag fromHold 2, time := s.rtc.count, left := left }
      s.onAlc fun c => { c with run := some run }

/-- ALLOCATOR_FREEZE (R432): at the first tick at or after a due instant, by the active member. -/
def execAllocatorFreeze (s : State) : Out :=
  if (s.normal ∨ s.backup) ∧ s.active then .next (s.freeze false).pumpAlc else .next s

end Sys2Proof.Machine
end

