-- ==== Sys2Proof/Machine/Radio.lean ====
section
/-! DEFINITION. The radio: message counters (R399, R400), telegrams as assembled (R374, R392 to R398), airtime budgets (R364 to
R366), the transmit queue (R373 to R377), transmission (R358, R375), response windows and reception (R361 to R363). -/

namespace Sys2Proof.Machine

/-! ### Message counters -/

/-- The body of the SECURITY record (R402). -/
def Sec.bytes (c : Sec) : List Byte := c.limit.flatMap (le 4) ++ zeros 4 ++ c.floor.flatMap (le 4) ++ zeros 712

/-- Hand the SECURITY record to the queue. -/
def State.commitSec (s : State) : State := s.enqueue { kind := .slots 0x250000 0x250400, body := s.sec.bytes }

/-- TX_LIMIT of identity i as committed (R400). -/
def State.txLimit (i : Nat) (s : State) : Nat :=
  match s.mem.readSlots 0x250000 0x250400 1024 with
  | .body d => fieldAt d (4 * i) 4
  | .absent | .lost => 1

/-- RX_FLOOR of key k as committed (R401). -/
def State.rxFloor (k : Nat) (s : State) : Nat :=
  match s.mem.readSlots 0x250000 0x250400 1024 with
  | .body d => fieldAt d (0xA8 + 4 * k) 4
  | .absent | .lost => 0

/-- Commit TX_LIMIT + 64 for each identity with fewer than 32 reserved values left (R400). -/
def State.reserve (s : State) : State :=
  let short (i : Nat) : Bool := s.hasIdentity i && decide (nth s.sec.limit i 0 < nth s.sec.next i 0 + 32)
  if !s.active ∨ !(List.range 41).any short then s
  else (s.onSec fun c => { c with
    limit := (List.range 41).map fun i => nth c.limit i 0 + if short i then 64 else 0 }).commitSec

/-- Take the counters up at a start or a takeover: each at its committed TX_LIMIT (R399, R400). -/
def State.startCounters (s : State) : State :=
  let lim := (List.range 41).map s.txLimit
  (s.onSec fun _ => { next := lim, limit := lim, peer := lim, acc := lim.map (· % 256),
                      floor := (List.range 32).map s.rxFloor }).reserve

/-- The next counter of identity i is free for use (R400). -/
def State.counterFree (i : Nat) (s : State) : Bool :=
  let c := nth s.sec.next i 0
  decide (c < s.txLimit i) && (decide (s.pair.phase < 2) || s.pair.linkFault || decide (c < nth s.sec.peer i 0))

/-- Use a counter value. -/
def State.useCounter (i : Nat) (s : State) : State :=
  (s.onSec fun c => { c with next := updAt c.next i (· + 1) }).reserve

/-- Use an access number (R399). -/
def State.useAccess (i : Nat) (s : State) : State :=
  s.onSec fun c => { c with acc := updAt c.acc i fun a => (a + 1) % 256 }

/-! ### What a telegram carries -/

/-- TELEGRAM entry t. -/
def State.telegram (t : Nat) (s : State) : Option TelegramEntry :=
  match s.img.image with
  | none => none
  | some im => im.telegrams[t]?

/-- A snapshot entry in HOARD by channel, key and kind (R300), if it is there. -/
def State.snapEntry (n key : Nat) (annual : Bool) (s : State) : Option (List Byte) :=
  let a := snapAddr n (if annual then 2 else 1) key
  let d := s.mem.hoard.readBytes a 256
  if s.mem.slotValid a 256 ∧ fieldAt d 8 2 = key then some d else none

/-- The snapshot telegram's records (R394); the due day is the one that ends at DUE_TIME (R294). DEDUCED, log entry 38. -/
def State.snapData (d : List Byte) (n records : Nat) (s : State) : List Byte :=
  let due := dateOf ((localTime s.dst (fieldAt d 0xC 5) - 1) / 86400)
  let t := (s.cfg n).type
  timeRecord s.dst (fieldAt d 0x11 5) ++ serialRecord s.otp.serial ++ hx [0x42, 0x6C] ++ typeG due.y due.m due.d ++
    hx [0x04, 0xFF, 0x08] ++ slice d 8 4 ++ recordGroups true s.dst t (workOfSnap d) 0 0 records ++
    hx [0x07, 0xFF, 0x07] ++ slice d 0xF0 8

/-- The snapshot index telegram's records (R395), from the snapshots as committed (R374). -/
def State.indexData (s : State) : List Byte :=
  timeRecord s.dst s.rtc.count ++ serialRecord s.otp.serial ++ [0x0F#8] ++ allCh.flatMap fun n =>
    let k (kind : Nat) : List Byte :=
      le 2 (if (s.cfg n).type = .off then 0xFFFF else ((s.mem.snapTop n kind).1).getD 0xFFFF)
    k 1 ++ k 2

/-- The slots that the next collector telegram carries: up to n with a stored reading as committed, from the cursor on
(R374, R396). -/
def State.collectorSlots (n : Nat) (s : State) : List Nat :=
  let c := s.alc.cursor
  let all := List.range s.allocs.length
  let order := (all.filter fun a => decide (c ≤ a)) ++ all.filter fun a => decide (a < c)
  (order.filter fun a => match s.alcIn s.mem a with
    | none => false
    | some r => r.stored).take n

/-- The collector telegram's records (R396). -/
def State.collectorData (n : Nat) (s : State) : List Byte :=
  let slots := s.collectorSlots n
  timeRecord s.dst s.rtc.count ++ serialRecord s.otp.serial ++ [0x0F#8] ++ le 1 slots.length ++ slots.flatMap fun a =>
    match s.alcIn s.mem a with
    | none => []
    | some r => le 2 a ++ slice r.ident 2 4 ++ le 3 r.current ++ le 3 r.frozen ++ le 1 r.sts ++
        le 1 (Word.sat 255 ((s.rtc.count - r.rxTime) / 3600)) ++ le 2 r.flags

/-- Move the cursor past the slots just carried. -/
def State.moveCursor (n : Nat) (s : State) : State :=
  match (s.collectorSlots n).getLast? with
  | none => s
  | some a => s.onAlc fun c => { c with cursor := (a + 1) % max 1 s.allocs.length }

/-- The alarm telegram's records for channel n, 0 for the module (R397). -/
def State.alarmData (n since : Nat) (s : State) : List Byte :=
  let live := if n = 0 then s.moduleAlarms else s.chAlarms n
  timeRecord s.dst s.rtc.count ++ serialRecord s.otp.serial ++ hx [0x04, 0xFD, 0x17] ++
    le 4 (live % 65536 + 65536 * (since % 65536)) ++ hx [0x04, 0xFF, 0x09] ++ le 4 (s.log.next - 1) ++
    (if n = 0 then hx [0x04, 0xFF, 0x0A] ++ le 4 s.imgStatus else [])

/-- The onsets that entry t has to report (R397). -/
def State.alarmSince (t : Nat) (s : State) : Nat :=
  ((s.radio.alarms.find? fun a => a.entry == t).map (·.since)).getD 0

/-- Apply f to what entry t keeps. -/
def State.onAlarmOf (t : Nat) (f : AlarmState → AlarmState) (s : State) : State :=
  s.onRadio fun r => { r with alarms := onAlarm t f r.alarms }

/-- The identity under which an entry sends (R385). -/
def TelegramEntry.identity (e : TelegramEntry) : Nat :=
  if e.kind = 4 then 0 else e.ch

/-- Secure data under an identity: C-field, security mode, key and its index, access number and status byte. In mode 7 a
counter is used (R386, R399); none when none is free (R400). -/
def State.secure (c : Byte) (i sec : Nat) (key : List Byte) (keyIx acc status : Nat) (ident data : List Byte) (s : State) :
    Option (List Byte × State) :=
  if sec = 7 then
    if !s.counterFree i then none
    else some (frameBody c ident 7 key keyIx (nth s.sec.next i 0) acc status data, s.useCounter i)
  else some (frameBody c ident 5 key keyIx 0 acc status data, s)

/-- The key of a TELEGRAM entry. -/
def State.entryKey (e : TelegramEntry) (s : State) : List Byte :=
  match s.img.image with
  | none => zeros 16
  | some im => (im.keyOf e.key 1).getD (zeros 16)

/-- The key K_U (R398). -/
def State.unconfKey (s : State) : List Byte := aesEncrypt s.otp.uniqueKey (hx [0x45, 0x54, 0x59, 0x55] ++ zeros 12)

/-! ### Modes, power and budgets -/

/-- The RADIO settings in force: MODE, N_CHAN, TX_DBM and the duty of each band in 0.01 % (R356, R359, R398).
DESIGN CHOICE, log entry 13. DEDUCED, log entry 39. -/
def State.radioCfg (s : State) : Nat × Nat × Int × Nat × Nat × Nat :=
  let last := s.img.module_.radioLast
  let unconf := (fieldAt last 0 1, fieldAt last 1 1, fieldInt last 2 1, 100, 10, Config.dutyNDefault)
  if s.pwr.mode = .unconfigured then unconf
  else match s.img.image with
    | none => unconf
    | some im =>
      let r := im.radio
      (r.mode, r.nChan, r.txDbm, if r.dutyA = 0 then 100 else r.dutyA, if r.dutyB = 0 then 10 else r.dutyB, r.dutyN)

/-- The band of a MODE: 1 A, 2 B, 3 N, 0 none (R356, R378). -/
def bandOf (mode : Nat) : Nat := if mode = 0x10 then 3 else if mode = 1 ∨ mode = 2 then 1 else if mode = 0 then 0 else 2

/-- The hourly budget of the band in use, 0.1 µs (R365). DESIGN CHOICE, log entry 13. -/
def State.budget (s : State) : Nat :=
  let c := s.radioCfg
  3600000 * (if bandOf c.1 = 1 then c.2.2.2.1 else if bandOf c.1 = 2 then c.2.2.2.2.1 else c.2.2.2.2.2)

/-- Airtime in the bins that overlap the 3,600 s before an instant (R365). -/
def State.binUse (at_ : Nat) (s : State) : Nat :=
  ((s.radio.bins.filter fun b => decide (at_ < 60000 * (b.1 + 1) + 3600000 ∧ 60000 * b.1 ≤ at_)).map (·.2)).foldl (· + ·) 0

/-- Airtime of the queued frames. -/
def State.queueUse (s : State) : Nat := (s.radio.queue.map (·.air)).foldl (· + ·) 0

/-- Window use at an instant (R365). -/
def State.windowUse (at_ : Nat) (s : State) : Nat := s.binUse at_ + s.queueUse

/-- Note the window use at an instant: DUTY_HIGH when it first reaches 0.9 × B (R366). -/
def State.noteDuty (at_ : Nat) (s : State) : State :=
  let high := decide (9 * s.budget ≤ 10 * s.windowUse at_)
  s.onRadio fun r => { r with high := high, events := if high && !r.high then setBits r.events 8 else r.events }

/-- Count the airtime of a frame that starts at an instant (R365). DESIGN CHOICE, log entry 40. -/
def State.countAir (at_ air : Nat) (s : State) : State :=
  s.onRadio fun r => { r with bins :=
    match r.bins with
    | [] => [(at_ / 60000, air)]
    | b :: t => if b.1 = at_ / 60000 then (b.1, b.2 + air) :: t else (at_ / 60000, air) :: b :: t }

/-- Transmit power that a frame started now would have (R358). -/
def State.txPower (s : State) : Int :=
  let d := s.radioCfg.2.2.1
  if !s.pwr.onCell then d
  else if s.pwr.mode = .hold then min d 10
  else if s.otp.a169 then min d 14 else d

/-- Transmit power in force at a SETT instant: a frame keeps the power at which it started (R358). -/
def State.txDbmAt (ms : Nat) (s : State) : Int := if ms < s.radio.txEnd then s.radio.txDbm else s.txPower

/-- Responses are received after this module's frames (R362). -/
def State.opensWindow (s : State) : Bool :=
  s.normal && (match s.img.image with
    | none => false
    | some im => Word.bit im.radio.rxEn 1 && [2, 4, 6, 0x10].contains im.radio.mode)

/-- The response reserve of R373, 0.1 µs: response delay, window and a 296-byte response. -/
def State.reserveAir (s : State) : Nat :=
  let c := s.radioCfg
  1000 * (Config.responseDelay c.1 + Config.responseWindow c.1) + airtime c.1 c.2.1 296

/-- Offers are allowed (R360, R373, R377). -/
def State.offersAllowed (s : State) : Bool := !s.pwr.pfActive && !s.pair.switching && (s.normal || s.backup) && s.active

/-- The radio of a module in UNCONFIGURED makes its alarm offers (R141, R360). -/
def State.unconfSends (s : State) : Bool :=
  s.running && decide (s.pwr.mode = .unconfigured) && s.img.module_.commissioned && s.pwr.strapRole != 2

/-- The radio of a module in HOLD makes its alarm offers (R360, R372). -/
def State.holdSends (s : State) : Bool := s.running && decide (s.pwr.mode = .hold) && s.active

/-- SETT ms, rounded up, of a time in 0.1 µs. -/
def msUp (t : Nat) : Nat := (t + 9999) / 10000

/-! ### Grids (R369, R370) -/

/-- The phase of a grid: re-anchored by a backward step, else drawn (R369, R370). -/
def State.phaseOf (t g i : Nat) (s : State) : Nat :=
  match s.radio.phases.find? fun p => p.1 == t && p.2.1 == g with
  | some p => p.2.2
  | none => gridDraw s.otp.uniqueKey [0x45, 0x54, 0x59, 0x52] t g [] % i

/-- The jitter offset of a nominal instant in ms (R369). -/
def State.offsetMs (t g i count : Nat) (s : State) : Int :=
  let j := match s.img.image with
    | none => 0
    | some im => im.radio.jitter
  (2 * (s.jitterDraw t g count : Int) - 2 ^ 32) * (j * i * 10 : Nat) / (2 ^ 32 : Int)

/-- The interval of entry e's grid g (R368). -/
def TelegramEntry.gridOf (e : TelegramEntry) (g : Nat) : Nat :=
  if g = 0 then e.interval else if e.kind = 2 then e.bkInterval else 0

/-- The grid of the mode in force: 0 in NORMAL, 1 in BACKUP. -/
def State.gridNow (s : State) : Nat := if s.backup then 1 else 0

/-! ### The transmit queue (R373 to R376) -/

/-- Reject an offer with a cause. -/
def State.reject (cause : Nat) (s : State) : State :=
  s.onRadio fun r => { r with
    rejected := Word.sat 255 (r.rejected + 1), lastCause := cause, events := setBits r.events 1 }

/-- Find the start of an offer: `start` and the count of bins that can still leave the window (R373). -/
def findStart (n : Nat) (limit a start : Nat) (s : State) : Option Nat :=
  if 10 * (s.windowUse start + a) ≤ 9 * s.budget then some start
  else match n with
    | 0 => none
    | k + 1 =>
      match (s.radio.bins.filter fun b => b.2 != 0 && decide (start < 60000 * (b.1 + 1) + 3600000)).getLast? with
      | none => none
      | some b =>
        let start' := 60000 * (b.1 + 1) + 3600000
        if limit < start' then none else findStart k limit a start' s

/-- The instant, in ms, at which the last queued frame and its response reserve end (R373). -/
def State.tail (now : Nat) (s : State) : Nat :=
  match s.radio.queue.getLast? with
  | none => now
  | some t => t.start + msUp (t.plan + if s.opensWindow then s.reserveAir else 0)

/-- Decide an offer at SETT instant `now` (R373): `len` is the longest frame's length as sent, `build` assembles and
secures the telegram, and answers none when no counter is free. -/
def State.decideOffer (now len entry : Nat) (allowed : Bool) (build : State → Option (List Byte × State)) (s : State) : State :=
  let c := s.radioCfg
  if !allowed then s.reject 4
  else if 32 ≤ s.radio.queue.length then s.reject 1
  else
    let a := airtime c.1 c.2.1 len
    let start := max (now + 30) (s.tail now + 5)
    if now + 4000 < start then s.reject 2
    else match findStart 64 (now + 4000) a start s with
      | none => s.reject 3
      | some st => match build s with
        | none => s.reject 4
        | some (body, s1) =>
          let frame := onAir c.1 body
          (s1.onRadio fun r => { r with queue := r.queue ++
            [{ entry := entry, start := st, air := airtime c.1 c.2.1 frame.length, plan := a, frame := frame }] }).noteDuty now

/-- The longest length as sent of entry e (R367, R373). -/
def State.maxLen (e : TelegramEntry) (s : State) : Nat :=
  airLength s.radioCfg.1 (frameL e.secMode (entryLen e (s.cfg e.ch).type))

/-- The data of entry e: `snap` names the snapshot of a channel's KIND 3 entry (R392 to R397). -/
def State.entryData (t : Nat) (e : TelegramEntry) (snap : Option (Nat × Bool)) (s : State) : Option (List Byte) :=
  match e.kind with
  | 1 => some (s.billingData e.ch e.records)
  | 2 => some (s.compactData e.ch)
  | 3 => if e.ch = 0 then some s.indexData
    else match snap with
      | none => none
      | some (key, annual) => (s.snapEntry e.ch key annual).map fun d => s.snapData d e.ch e.records
  | 4 => some (s.collectorData e.records)
  | _ => some (s.alarmData e.ch (s.alarmSince t))

/-- What an entry keeps changes when its telegram has been assembled: the collector's cursor, an alarm's onsets.
DEDUCED, log entry 147. -/
def State.sentEntry (t : Nat) (e : TelegramEntry) (s : State) : State :=
  match e.kind with
  | 4 => s.moveCursor e.records
  | 5 => s.onAlarmOf t fun a => { a with since := 0 }
  | _ => s

/-- Assemble and secure entry t's telegram (R374). -/
def State.build (t : Nat) (e : TelegramEntry) (snap : Option (Nat × Bool)) (s : State) : Option (List Byte × State) :=
  match s.entryData t e snap with
  | none => none
  | some data =>
    let i := e.identity
    match s.secure 0x44#8 i e.secMode (s.entryKey e) e.key (nth s.sec.acc i 0) (s.statusByte i) (s.identity i) data with
    | none => none
    | some (f, s1) => some (f, (s1.useAccess i).sentEntry t e)

/-- Offer entry t (R373). -/
def State.offer (now t : Nat) (e : TelegramEntry) (snap : Option (Nat × Bool)) (s : State) : State :=
  s.decideOffer now (s.maxLen e) t s.offersAllowed (fun s => s.build t e snap)

/-- The key of a snapshot entry that a KIND 3 entry with CH reports through its own grid: the newest of its channel as committed
(R374). DEDUCED, log entry 38. -/
def State.newestSnap (n : Nat) (s : State) : Option (Nat × Bool) :=
  match (s.mem.snapTop n 1).1, (s.mem.snapTop n 2).1 with
  | some m, some a => if a < m then some (m, false) else some (a, true)
  | some m, none => some (m, false)
  | none, some a => some (a, true)
  | none, none => none

/-- The first KIND 5 entry of the module. -/
def State.moduleAlarm (s : State) : Option (Nat × TelegramEntry) :=
  match s.img.image with
  | none => none
  | some im => (im.telegrams.zipIdx.find? fun e => e.1.kind == 5 && e.1.ch == 0).map fun e => (e.2, e.1)

/-- The queue's mark of the UNCONFIGURED alarm, which is no TELEGRAM entry (R123). -/
def unconfEntry : Nat := 128

/-- The UNCONFIGURED alarm (R398). DEDUCED, log entry 39. -/
def State.buildUnconf (s : State) : Option (List Byte × State) :=
  (s.secure 0x44#8 0 7 s.unconfKey 0 (nth s.sec.acc 0 0) (s.statusByte 0) s.img.module_.moduleIdent
    (s.alarmData 0 0)).map fun p => (p.1, p.2.useAccess 0)

/-- A grid's scheduled instant has come: the count is its nominal instant plus the jitter offset (R369).
DEDUCED, log entry 37. -/
def State.gridInstant (t g i nominal : Nat) (s : State) : Bool :=
  nominal % i == s.phaseOf t g i && ((1000 * nominal : Int) + s.offsetMs t g i nominal) / 1000 == s.rtc.count

/-- The present instant of the RTC in ms. -/
def State.rtcMs (now : Now) (s : State) : Nat := 1000 * s.rtc.count + s.rtc.sub now.sub * 1000 / 32768

/-- A drawn or merged instant has come: its second, or the next one, since the cause is known to the second. DEDUCED, log entry 37. -/
def State.dueNow (due : Nat) (s : State) : Bool := decide (due / 1000 ≤ s.rtc.count ∧ s.rtc.count ≤ due / 1000 + 1)

/-- The alarm of HOLD or of UNCONFIGURED is due (R372). -/
def State.alarmComes (s : State) : Bool := match s.radio.alarmAt with
  | none => false
  | some a => decide (a / 1000 ≤ s.rtc.count)

/-- The next alarm is due 86,400 s after the one that has come, also where that one was skipped (R372). -/
def State.nextAlarm (s : State) : State := s.onRadio fun r => { r with
  alarmAt := r.alarmAt.map fun a => a + 86400000 * ((1000 * s.rtc.count + 999 - a) / 86400000 + 1) }

/-- The module makes offers of its report schedule and its events (R360): NORMAL or BACKUP, as the active member. -/
def State.offering (s : State) : Bool := (s.normal || s.backup) && s.active

/-- An offer is made at this instant (R369 to R372). DEDUCED, log entry 37. -/
def State.offerDue (offer : OfferKind) (s : State) : Bool :=
  let entry (t : Nat) (f : TelegramEntry → Bool) : Bool := match s.telegram t with
    | none => false
    | some e => f e
  match offer with
  | .scheduled t nominal =>
    s.offering && entry t fun e => e.gridOf s.gridNow != 0 && s.gridInstant t s.gridNow (e.gridOf s.gridNow) nominal
  | .catchUp t count =>
    s.offering && entry t fun _ => s.radio.catchUps.any fun c =>
      c.1 == t && c.2.1 == s.gridNow && c.2.2.1 == count && s.dueNow c.2.2.2
  | .snapshot t n key annual =>
    s.normal && s.active && entry t fun _ => s.radio.snaps.any fun c =>
      c.1 == t && c.2.1 == n && c.2.2.1 == key && c.2.2.2.1 == annual && s.dueNow c.2.2.2.2
  | .alarm t =>
    s.normal && s.active && entry t fun e => e.kind == 5 && s.radio.alarms.any fun a =>
      a.entry == t && (match a.due with
        | none => false
        | some d => s.dueNow d)
  | .holdAlarm => s.holdSends && s.alarmComes && s.moduleAlarm.isSome
  | .unconfAlarm => s.unconfSends && s.alarmComes

/-- The place of an offer among those of one instant (R373): the alarms of HOLD and UNCONFIGURED first, then ascending entry index, a
monthly snapshot before an annual one (R394). -/
def offerRank (o : OfferKind) : Nat :=
  match o with
  | .holdAlarm | .unconfAlarm => 0
  | .scheduled t _ | .catchUp t _ | .alarm t | .snapshot t _ _ false => 2 * t + 2
  | .snapshot t _ _ true => 2 * t + 3

/-- The offers of one instant come in their order. -/
def State.inOrder (ms : Nat) (o : OfferKind) (s : State) : Bool := match s.radio.offered with
  | none => true
  | some (m, k) => m != ms || decide (k ≤ offerRank o)

/-- What waits for an offer is gone once it is made. -/
def State.clearOffer (now : Now) (offer : OfferKind) (s : State) : State :=
  let s1 := s.onRadio fun r => { r with offered := some (now.ms, offerRank offer) }
  match offer with
  | .scheduled t _ => s1.onRadio fun r => { r with catchUps := r.catchUps.filter fun c => !(c.1 == t && c.2.1 == s.gridNow) }
  | .catchUp t count => s1.onRadio fun r => { r with
      catchUps := r.catchUps.filter fun c => !(c.1 == t && c.2.1 == s.gridNow && c.2.2.1 == count) }
  | .snapshot t n key annual => s1.onRadio fun r => { r with
      snaps := r.snaps.filter fun c => !(c.1 == t && c.2.1 == n && c.2.2.1 == key && c.2.2.2.1 == annual && s.dueNow c.2.2.2.2) }
  | .alarm t => s1.onAlarmOf t fun a => { a with due := none, last := some (s.rtcMs now) }
  | .holdAlarm | .unconfAlarm => s1.nextAlarm

/-- Decide an offer that is made (R373). The alarms of HOLD and UNCONFIGURED are skipped while the message counter cannot be committed
(R62, R372). -/
def State.makeOffer (now : Now) (offer : OfferKind) (s : State) : State :=
  let s1 := s.clearOffer now offer
  let entry (t : Nat) (f : TelegramEntry → State) : State := match s.telegram t with
    | none => s1
    | some e => f e
  match offer with
  | .scheduled t _ | .catchUp t _ => entry t fun e => s1.offer now.ms t e (s1.newestSnap e.ch)
  | .snapshot t _ key annual => entry t fun e => s1.offer now.ms t e (some (key, annual))
  | .alarm t => entry t fun e => s1.offer now.ms t e none
  | .holdAlarm =>
    if s.pwr.nvInhibit then s1
    else match s.moduleAlarm with
      | none => s1
      | some (t, e) => s1.decideOffer now.ms (s.maxLen e) t true (fun s => s.build t e none)
  | .unconfAlarm =>
    if s.pwr.nvInhibit then s1
    else s1.decideOffer now.ms (airLength s.radioCfg.1 (frameL 7 (18 + 21))) unconfEntry (!s.pwr.pfActive) State.buildUnconf

/-- TELEGRAM_OFFER (R373): an offer at its instant and in its order; a sleeping module wakes for it (R78, R83). DEDUCED, log
entry 37. -/
def execTelegramOffer (now : Now) (offer : OfferKind) (s : State) : Out :=
  if !(s.offerDue offer && s.inOrder now.ms offer) then .next s else .next (s.inRun (State.makeOffer now offer))

/-- Discard the queue and count it (R376). -/
def State.discardQueue (s : State) : State :=
  if s.radio.queue.isEmpty then s
  else s.onRadio fun r => { r with
    queue := [], discarded := Word.sat 255 (r.discarded + r.queue.length), events := setBits r.events 2 }

/-! ### Transmission and response windows -/

/-- Current of a transmission from the cell, mA (R587): that of 14 dBm, in HOLD that of 10 dBm, at whatever power the image sets.
DESIGN CHOICE, log entry 155. -/
def State.txCurrent (s : State) : Nat :=
  if s.pwr.mode = .hold then (if s.otp.a169 then 33 else 28) else if s.otp.a169 then 45 else 38

/-- Send a frame that starts at `ms`, as it is read (R569): count its airtime and its charge (R66, R358, R365). -/
def State.transmit (ms : Nat) (frame : List Byte) (air : Nat) (window : Bool) (s : State) : State :=
  let s1 := (s.frameRead 6).countAir ms air
  let s2 := if s.pwr.onCell then s1.onPwr (Pwr.addCharge (s.txCurrent * air / 10)) else s1
  (s2.onRadio fun r => { r with
    lastFrame := frame, txStart := ms, txEnd := ms + msUp air, txDbm := s.txPower, window := none,
    winDue := window }).noteDuty ms

/-- FRAME_TRANSMIT (R375): the first queued telegram starts, at its planned start. Nothing but the discards of R376 withholds it, since
the plan of R373 has counted its airtime; a sleeping module wakes for it (R78, R83). DEDUCED, log entry 164. -/
def execFrameTransmit (now : Now) (s : State) : Out :=
  match s.radio.queue with
  | [] => .next s
  | t :: rest =>
    if now.ms < t.start then .next s
    else .next (s.inRun fun s =>
      (s.onRadio fun r => { r with queue := rest }).transmit t.start t.frame t.air (s.opensWindow && t.entry != unconfEntry))

/-- DUTY_BIN_ADVANCE (R365): a bin ends; bins that have left the window go. -/
def execDutyBinAdvance (now : Now) (s : State) : Out :=
  .next ((s.onRadio fun r => { r with
    bins := r.bins.filter fun b => decide (now.ms < 60000 * (b.1 + 1) + 3600000) }).noteDuty now.ms)

/-- SETT ms at which the response window of the last frame begins and ends (R362). DESIGN CHOICE, log entry 13. -/
def State.winFrom (s : State) : Nat := s.radio.txEnd + (Config.responseDelay s.radioCfg.1 + 9) / 10

@[inherit_doc State.winFrom]
def State.winTo (s : State) : Nat := s.winFrom + (Config.responseWindow s.radioCfg.1 + 9) / 10

/-- Reception is possible at all (R360). -/
def State.receives (s : State) : Bool := s.normal && s.active && !s.pwr.pfActive

/-- A response window is open (R362). -/
def State.windowOpen (ms : Nat) (s : State) : Bool :=
  s.receives && (match s.radio.window with
    | none => false
    | some w => decide (s.winFrom ≤ ms ∧ ms ≤ w))

/-- A response window is open or is still to come (R377). -/
def State.windowAhead (ms : Nat) (s : State) : Bool := s.windowOpen ms || (s.radio.winDue && decide (ms ≤ s.winTo))

/-- RX_EN of the accepted image (R122). -/
def State.rxEnable (s : State) : Nat := match s.img.image with
  | none => 0
  | some im => im.radio.rxEn

/-- The receiver listens for allocator frames (R360, R361). -/
def State.listening (ms : Nat) (s : State) : Bool :=
  s.receives && decide (s.radio.txEnd ≤ ms) && !s.windowOpen ms && Word.bit s.rxEnable 0

/-- Count a frame that is dropped (R361, R363, R382). -/
def Radio.drop (r : Radio) : Radio := { r with dropped := Word.sat 255 (r.dropped + 1) }

/-- Put a frame into the receive buffer: with 8 frames waiting the oldest is dropped, and RX_OVERRUN raised (R363). -/
def Radio.take (frame : List Byte) (r : Radio) : Radio :=
  if r.rx.length < 8 then { r with rx := r.rx ++ [frame] }
  else { r.drop with rx := r.rx.tail ++ [frame], events := setBits r.events 4 }

/-- RADIO_FRAME_RECEIVED (R361, R363): a frame whose reception began at `since`. One that a transmission has cut is counted as dropped;
one with a right CRC is counted and waits in the receive buffer, for the session engine if it is addressed to the module, else for the
parser. DESIGN CHOICE, log entry 51. DEDUCED, log entry 146. -/
def execRadioFrameReceived (now : Now) (since : Nat) (crcOk : Bool) (frame : List Byte) (s : State) : Out :=
  if s.receives ∧ s.rxEnable ≠ 0 ∧ since < s.radio.txStart ∧ s.radio.txStart ≤ now.ms then .next (s.onRadio Radio.drop)
  else if !(s.listening since || s.windowOpen since) then .next s
  else if !crcOk then .next (s.onRadio fun r => { r with crcErr := Word.sat 255 (r.crcErr + 1) })
  else .next ((s.onRadio fun r => { r with frames := Word.sat 65535 (r.frames + 1) }).onRadio (Radio.take frame))

/-! ### Registers (R378, R380, R381, R382) -/

/-- `RAD_STATUS` (R378) at a SETT instant. -/
def State.radStatus (ms : Nat) (s : State) : Nat :=
  let c := s.radioCfg
  let configured := s.img.image.isSome || s.img.module_.commissioned
  let st := if s.pair.switching then 5 else if s.normal && s.active then 1 else if s.backup && s.active then 2
    else if s.running && decide (s.pwr.mode = .hold) then 3 else if s.unconfSends then 4 else 0
  (if configured then c.1 % 32 + 256 * bandOf c.1 else 0) + flag (decide (ms < s.radio.txEnd)) 10 +
    flag (s.listening ms) 11 + flag (s.windowOpen ms) 12 + flag (decide (s.txDbmAt ms < c.2.2.1)) 13 + 2 ^ 16 * st +
    2 ^ 24 * (if configured then Word.ofInt 8 (s.txDbmAt ms) else 0)

/-- `RAD_DUTY_USED` (R380) at a SETT instant. -/
def State.radDuty (ms : Nat) (s : State) : Nat :=
  let u := s.windowUse ms
  Word.sat 1048575 (u / 10000) + 2 ^ 20 * Word.sat 1023 (if s.budget = 0 then 0 else 1000 * u / s.budget)

/-- `RAD_TXQ` (R381). -/
def State.radTxq (s : State) : Nat :=
  s.radio.queue.length + 256 * s.radio.rejected + 2 ^ 16 * s.radio.discarded + 2 ^ 24 * (s.radio.lastCause % 8)

/-- `RAD_RX_STATS` (R382). -/
def State.radRx (s : State) : Nat := s.radio.frames + 2 ^ 16 * s.radio.crcErr + 2 ^ 24 * s.radio.dropped

end Sys2Proof.Machine
end

