-- ==== Sys2Proof/Machine/Rtc.lean ====
section
/-! DEFINITION. The real-time clock: counting and slewing (R333, R335, R343), setting under HALT (R338 to R342), steps (R344,
R345), time trust (R346) and its registers (R349 to R355). -/

namespace Sys2Proof.Machine

/-- A passive member of a pair, to which the rules of a STANDBY apply (R537). DEDUCED, log entry 50. -/
def State.standby (s : State) : Bool := s.paired && !s.active

/-- The time may be changed here (R337): NORMAL, BACKUP or UNCONFIGURED, not a STANDBY. -/
def State.timeChanges (s : State) : Bool :=
  decide (s.pwr.mode = .normal ∨ s.pwr.mode = .backup ∨ s.pwr.mode = .unconfigured) && !s.standby

/-- Set OSF with a cause, also while it holds; its log entry is due (R346). -/
def State.setOsf (cause : Nat) (s : State) : State :=
  s.onRtc fun r => { r with osf := true, osfCause := cause, osfPend := r.osfPend ++ [(cause, r.count)] }

/-- Write the entries of the settings of OSF that are due, one for each (R346). -/
def State.logOsf (s : State) : State :=
  s.rtc.osfPend.foldl (fun t e => t.onsetAt e.2 0 0x23 0 0 false (le 1 e.1)) (s.onRtc fun r => { r with osfPend := [] })

/-- Move a slew by what one second of the prescaler applies: one cycle in every 10,000 is added or deleted, which moves the prescaler
against the raw count (R343). -/
def Rtc.slewSecond (r : Rtc) : Rtc :=
  if r.slew = 0 then { r with slewPhase := 0 }
  else
    let t := r.slewPhase + 32768
    let k := min (t / 10000) r.slew.natAbs
    { r with slewPhase := t % 10000, slew := if 0 < r.slew then r.slew - k else r.slew + k,
             subBase := (r.subBase + (if 0 < r.slew then 32768 - k else k)) % 32768 }

/-- RTC_SECOND (R333, R335): the count rises by 1, or is held at its highest value; OSF is set when it reaches that value. Whole hours age the last
scrub (R578). DEDUCED, log entries 47 and 140. -/
def execRtcSecond (s : State) : Out :=
  if s.rtc.settLost then .next s
  else
    let s1 := (s.onRtc Rtc.slewSecond).onPwr fun p => { p with settRun := true }
    let s2 := s1.onRtc fun r => { r with count := min countMax (r.count + 1) }
    .next (
      if countMax ≤ s.rtc.count then s2
      else if countMax ≤ s2.rtc.count then s2.setOsf 2
      else if s2.rtc.count % 3600 = 0 then s2.onFlt fun f => { f with scrubAge := Word.sat 255 (f.scrubAge + 1) }
      else s2)

/-- OSCILLATOR_STOP (R346): no edge for 4 ms. DEDUCED, log entry 48. -/
def execOscillatorStop (s : State) : Out :=
  if s.rtc.settLost then .next s
  else .next ((s.setOsf 2).onPwr fun p => { p with settRun := false, trimValid := false })

/-- Release HALT with nothing written: the registers catch up with the shadow (R341, R342). DEDUCED, log entry 116. -/
def Rtc.dropHalt (r : Rtc) : Rtc := { r with halt := false, pendDate := none, pendTime := none }

/-- A write of 1 to HALT (R338): while HALT holds it has no effect; a write that R337 forbids sets BADWRITE. -/
def State.haltWrite (now : Now) (s : State) : State :=
  if !s.timeChanges then s.badWrite
  else if s.rtc.halt then s
  else s.onRtc fun r => { r with halt := true, heldCount := r.count, heldSub := r.sub now.sub, haltMs := now.ms }

/-- HALT (R338). -/
def execHalt (now : Now) (s : State) : Out := .next (s.asWrite 0xC0 (State.haltWrite now))

/-- HALT_AUTO_RELEASE (R342): 2 s after the HALT write. -/
def execHaltAutoRelease (now : Now) (s : State) : Out :=
  if s.rtc.halt ∧ s.rtc.haltMs + 2000 ≤ now.ms then .next ((s.onRtc fun r => { r.dropHalt with autoRelease := true }).event 0x24 0 []) else .next s

/-! ### Steps (R344, R345, R348, R370) -/

/-- The first nominal instant after a count of a grid with interval i and phase p. -/
def nextNominal (i p count : Nat) : Nat := count + 1 + (p + (i - (count + 1) % i)) % i

/-- The grids of the TELEGRAM entries: entry, grid and interval. -/
def State.grids (s : State) : List (Nat × Nat × Nat) :=
  match s.img.image with
  | none => []
  | some im => im.telegrams.zipIdx.flatMap fun e =>
      [(e.2, 0, e.1.gridOf 0), (e.2, 1, e.1.gridOf 1)].filter fun g => g.2.2 != 0

/-- The waits of R370 to R372 run on over a step of the count by d seconds. -/
def Radio.moveWaits (d : Int) (r : Radio) : Radio :=
  let m (t : Nat) : Nat := ((t : Int) + 1000 * d).toNat
  { r with
    catchUps := r.catchUps.map fun c => (c.1, c.2.1, c.2.2.1, m c.2.2.2),
    snaps := r.snaps.map fun c => (c.1, c.2.1, c.2.2.1, c.2.2.2.1, m c.2.2.2.2),
    alarms := r.alarms.map fun a => { a with last := a.last.map m, due := a.due.map m }, alarmAt := r.alarmAt.map m }

/-- What a step does to the report schedule: one catch-up, after the drawn delay, for a grid of the present mode that a forward step
skips, and re-anchored phases after a backward step (R370). -/
def State.stepGrids (old new : Nat) (s : State) : State :=
  let s := s.onRadio (Radio.moveWaits ((new : Int) - old))
  if old < new then
    let g := s.gridNow
    let hit := (if s.normal || s.backup then s.grids else []).filter fun e =>
      e.2.1 == g && decide (nextNominal e.2.2 (s.phaseOf e.1 g e.2.2) old ≤ new)
    if hit.isEmpty then s
    else s.onRadio fun r => { r with
      catchUps := (r.catchUps.filter fun c => !hit.any fun e => e.1 == c.1 && e.2.1 == c.2.1) ++
        hit.map fun e => (e.1, e.2.1, new, s.drawnDelay e.1 e.2.1 60000), events := setBits r.events 32 }
  else
    let re := s.grids.map fun e =>
      (e.1, e.2.1, (new + (nextNominal e.2.2 (s.phaseOf e.1 e.2.1 e.2.2) old - old)) % e.2.2)
    s.onRadio fun r => { r with phases := re }

/-- `RTC_ADJ_LOG.DELTA` for steps and sets (R355). -/
def adjDelta (d : Int) : Nat := Word.ofInt 24 (Word.satInt 8388607 d)

/-- Apply a written time at an instant of the raw SETT count (R341, R344, R345): the prescaler becomes 0 (R339). A time set to the
highest count sets OSF at once (R335). Source 0 host link, 1 remote command. DEDUCED, log entry 140. -/
def State.applyTime (new source raw : Nat) (s : State) : State :=
  let old := s.rtc.count
  let wasOsf := s.rtc.osf
  let s1 := s.onRtc fun r => { r with count := new, subBase := raw % 32768 }
  if !wasOsf ∧ new = old then s1
  else
    let kind := if wasOsf then 2 else 1
    let s2 := s1.onRtc fun r => { r with
      osf := false, stepped := true, adjLog := [kind, source, adjDelta ((new : Int) - old)] }
    let s3 := s2.forCh allCh fun n t => t.onCh n fun c => { c with stepped := true }
    let s4 := (if new = old then s3 else s3.stepGrids old new).event (if wasOsf then 0x22 else 0x21) 0 (le 5 old ++ le 5 new)
    if countMax ≤ new then s4.setOsf 2 else s4

/-- The registers' date and time words of a count (R352). -/
def dateWord (count : Nat) : Nat :=
  let n := count / 86400
  let d := dateOf n
  d.d + 256 * d.m + 2 ^ 16 * d.y + 2 ^ 28 * weekday n

/-- The time word without SUBSEC. -/
def timeWord (count : Nat) : Nat :=
  let t := count % 86400
  t % 60 + 256 * (t / 60 % 60) + 2 ^ 16 * (t / 3600)

/-- The count that a date word and a time word name. -/
def wordsCount (date time : Nat) : Nat :=
  countOf (Word.bits date 16 12) (Word.bits date 8 8) (Word.bits date 0 8) (Word.bits time 16 8) (Word.bits time 8 8)
    (Word.bits time 0 8)

/-- A write of 0 to HALT (R339, R341). -/
def State.haltClear (now : Now) (s : State) : State :=
  if !s.timeChanges then s.badWrite
  else if !s.rtc.halt then s
  else
    let r := s.rtc
    let s1 := s.onRtc Rtc.dropHalt
    if r.pendDate.isNone ∧ r.pendTime.isNone then s1
    else s1.applyTime (wordsCount (r.pendDate.getD (dateWord r.heldCount)) (r.pendTime.getD (timeWord r.heldCount))) 0 now.sub

/-- HALT_RELEASE (R339, R341). -/
def execHaltRelease (now : Now) (s : State) : Out := .next (s.asWrite 0xC0 (State.haltClear now))

/-- A date word that R340 takes. -/
def dateOk (w : Nat) : Bool :=
  let d := Word.bits w 0 8
  let m := Word.bits w 8 8
  let y := Word.bits w 16 12
  decide (2000 ≤ y ∧ y ≤ 2399 ∧ 1 ≤ m ∧ m ≤ 12 ∧ 1 ≤ d ∧ d ≤ monthLen y m ∧ w < 2 ^ 28)

/-- A time word that R340 takes. -/
def timeOk (w : Nat) : Bool :=
  decide (Word.bits w 0 8 ≤ 59 ∧ Word.bits w 8 8 ≤ 59 ∧ Word.bits w 16 8 ≤ 23 ∧ w < 2 ^ 24)

/-- A write to a date or time register: pending under HALT, else refused with BADWRITE (R337, R340). -/
def State.rtcWrite (ok : Bool) (f : Rtc → Rtc) (s : State) : State :=
  if s.timeChanges ∧ s.rtc.halt ∧ ok then s.onRtc f else s.badWrite

/-- Write `RTC_DATE` (R340). -/
def State.dateWrite (v : Nat) (s : State) : State := s.rtcWrite (dateOk v) fun r => { r with pendDate := some v }

/-- Write `RTC_TIME` (R340). -/
def State.timeWrite (v : Nat) (s : State) : State := s.rtcWrite (timeOk v) fun r => { r with pendTime := some v }

/-- RTC_DATE_WRITE (R340). -/
def execRtcDateWrite (value : Word) (s : State) : Out := .next (s.asWrite 0xC8 (State.dateWrite value.toNat))

/-- RTC_TIME_WRITE (R340). -/
def execRtcTimeWrite (value : Word) (s : State) : Out := .next (s.asWrite 0xCC (State.timeWrite value.toNat))

/-! ### Slewing (R343) -/

/-- Slews accepted on the day of the present count, SETT cycles. -/
def Rtc.usedToday (r : Rtc) : Nat := if r.slewDay = r.count / 86400 then r.slewUsed else 0

/-- Whether R343 accepts a slew of a cycles. -/
def Rtc.slewOk (r : Rtc) (a : Int) : Bool :=
  decide (a.natAbs ≤ 262144 ∧ r.slew = 0 ∧ a.natAbs + r.usedToday ≤ 262144) && !r.osf

/-- Start an accepted slew; source 0 host link, 1 remote command. -/
def Rtc.startSlew (r : Rtc) (a : Int) (source : Nat) : Rtc :=
  { r with slew := a, slewPhase := 0, slewUsed := r.usedToday + a.natAbs, slewDay := r.count / 86400,
           adjLog := [3, source, Word.ofInt 24 (divTrunc a 32768)] }

/-- Write `RTC_SLEW` (R343): 0 cancels the rest of a slew. -/
def State.slewWrite (v : Nat) (s : State) : State :=
  let a := Word.toInt 20 v
  if !s.timeChanges then s.badWrite
  else if a = 0 then s.onRtc fun r => { r with slew := 0, slewPhase := 0 }
  else if s.rtc.slewOk a then s.onRtc fun r => r.startSlew a 0
  else s.onRtc fun r => { r with slewRefused := true }

/-- RTC_SLEW_WRITE (R343). -/
def execRtcSlewWrite (value : Word) (s : State) : Out := .next (s.asWrite 0xD8 (State.slewWrite value.toNat))

/-! ### Registers (R349 to R355) -/

/-- `RTC_STATUS` (R351). -/
def State.rtcStatus (s : State) : Nat :=
  let r := s.rtc
  flag r.osf 0 + 2 * (r.osfCause % 4) + flag r.halt 3 + flag (r.slew != 0) 5 + r.w1c + flag (dstAt s.dst r.count) 7 +
    2 ^ 16 * (r.usedToday / 16)

/-- `RTC_ADJ_LOG` (R355). -/
def Rtc.adjWord (r : Rtc) : Nat := nth r.adjLog 0 0 + 4 * nth r.adjLog 1 0 + 256 * nth r.adjLog 2 0

/-- The four registers at an instant: date, time, seconds high and low (R338, R339, R352, R353). -/
def Rtc.instant (r : Rtc) (sub : Nat) : List Nat :=
  let c := if r.halt then r.heldCount else r.count
  let u := if r.halt then r.heldSub else sub
  [r.pendDate.getD (dateWord c), r.pendTime.getD (timeWord c + 2 ^ 24 * (u / 128 % 256)), c / 2 ^ 32 % 256, c % 2 ^ 32]

/-- Read one of the four registers (k: 0 date, 1 time, 2 seconds high, 3 seconds low): the word, and the state with what
the read latches (R349). Under HALT a date or time read gives what is written or held (R339). -/
def State.rtcRead (k : Nat) (now : Now) (s : State) : Nat × State :=
  let l := s.rtc.instant (s.rtc.sub now.sub)
  let latch := s.onRtc fun r => { r with latched := true, latch := l }
  if k = 1 ∨ k = 3 ∨ !s.rtc.latched then (nth l k 0, latch)
  else if s.rtc.halt then (nth l k 0, s)
  else (nth s.rtc.latch k 0, s)

end Sys2Proof.Machine
end

