-- ==== Sys2Proof/Machine/Session.lean ====
section
/-! DEFINITION. The session engine: requests, contexts and answers (R401, R403 to R408, R410), the remote commands (R408, R318 to
R320, R324), and the response slot on radio (R362, R366, R407). -/

namespace Sys2Proof.Machine

/-! ### Requests -/

/-- Context k. -/
def State.ctx (s : State) (k : Nat) : Ctx := vget s.sess.ctxs k Ctx.reset

/-- Put context k. -/
def State.setCtx (k : Nat) (c : Ctx) (s : State) : State :=
  s.onSess fun e => { e with ctxs := e.ctxs.setIfInBounds k c }

/-- Free every context (R403). -/
def State.freeCtxs (s : State) : State :=
  ((s.onSess fun e => { e with ctxs := Vector.replicate 24 Ctx.reset, inbox := [] }).onRadio fun r =>
    { r with answer := none }).onMBus fun m => { m with direct := none }

/-- A request as its frame carries it (R386, R387, R408). -/
structure Request where
  identity : Nat
  key      : KeyEntry
  mcr      : Nat
  acc      : Nat
  cmd      : Nat
  args     : List Byte
  deriving DecidableEq, Repr

/-- The key of the image's set with an index. -/
def State.keyEntry (index : Nat) (s : State) : Option KeyEntry :=
  match s.img.image with
  | none => none
  | some im => im.keys.find? fun k => k.index == index

/-- Step 1 of R404 on a frame from its AFL on: none where it discards the request. -/
def State.authenticate (f : List Byte) (s : State) : Option Request :=
  let tpl := f.drop 17
  let cf := fieldAt f 28 2
  let kb := fieldAt f 30 1
  let mcr := fieldAt f 5 4
  let id4 := slice f 18 4
  let ident := s.identities.find? fun i => longAddress (s.identity i) == slice f 18 8
  match ident, s.keyEntry (kb % 16 + 16 * (kb / 64)) with
  | some i, some k =>
    if slice f 0 5 ≠ [0x90#8, 0x0F#8, 0x00#8, 0x2C#8, 0x25#8] ∨ fieldAt tpl 0 1 ≠ 0x5B ∨ cf / 256 % 32 ≠ 7 then none
    else if slice f 9 8 ≠ (cmac (kdfA k.key 0x11 mcr id4) (0x25#8 :: le 4 mcr ++ tpl)).take 8 then none
    else
      let n := cf / 16 % 16
      let plain := cbcDecrypt n (kdfA k.key 0x10 mcr id4) (zeros 16) ((f.drop 31).take (16 * n))
      let ok := decide (plain.take 3 = [0x2F#8, 0x2F#8, 0x0F#8])
      some { identity := i, key := k, mcr := mcr, acc := fieldAt f 26 1, cmd := if ok then fieldAt plain 3 1 else 0,
             args := plain.drop 4 }
  | _, _ => none

/-- Bytes of arguments of a command (R408). -/
def argLen (cmd : Nat) : Option Nat :=
  match cmd with
  | 0x01 => some 0
  | 0x02 => some 4
  | 0x10 => some 1
  | 0x11 => some 32
  | 0x20 => some 5
  | 0x21 => some 4
  | _ => none

/-- The arguments without the fill, where a known command carries them in the right length. DEDUCED, log entry 136. -/
def Request.arguments (r : Request) : Option (List Byte) :=
  match argLen r.cmd with
  | none => none
  | some n =>
    let fill := r.args.drop n
    if n ≤ r.args.length ∧ fill.length < 16 ∧ fill.all (· == 0x2F#8) then some (r.args.take n) else none

/-- A command that raises RX_FLOOR (R401, R408). -/
def floorBound (cmd : Nat) : Bool := cmd == 0x10 || cmd == 0x20 || cmd == 0x21

/-- The response of context k is still to come or waits (R404). -/
def State.inTransaction (k : Nat) (s : State) : Bool := (s.ctx k).st == .running || (s.ctx k).st == .ready

/-- The medium has an answer to give (R407). On the bus, the response of a context in a transaction waits in the context. -/
def State.owe (p : Partner) (a : Answer) (s : State) : State :=
  match p with
  | .radio _ => s.onRadio fun r => { r with answer := some a }
  | .busMaster => s.onMBus fun m => { m with direct := match a.ctx with
      | none => some a
      | some k => if s.inTransaction k then m.direct else some a }

/-- Answers that would name context k, which is taken anew, are forgotten. -/
def State.forget (k : Nat) (s : State) : State :=
  let f (a : Option Answer) : Option Answer := match a with
    | none => none
    | some a => if a.ctx = some k then none else some a
  (s.onMBus fun m => { m with direct := f m.direct }).onRadio fun r => { r with answer := f r.answer }

/-- The answer to a request: of a context, or with a result of its own. -/
def Request.answer (r : Request) (ctx : Option Nat) (result : Nat) : Answer :=
  { ctx := ctx, identity := r.identity, key := r.key.index, acc := r.acc, cmd := r.cmd, result := result }

/-- Take a new request into context k (R401, R404, R408): what is refused without execution is done at once.
DEDUCED, log entry 136. -/
def State.takeRequest (ms k : Nat) (p : Partner) (r : Request) (s : State) : State :=
  let args := r.arguments
  let fb := floorBound r.cmd
  let old := nth s.sec.floor r.key.index 0
  let replay := args.isSome && fb && decide (r.mcr ≤ old)
  let done : Option (Nat × List Byte) :=
    if args.isNone then some (4, []) else if replay then some (5, []) else none
  let s1 := s.onSess fun e => { e with
    order := e.order + 1, replays := if replay then Word.sat 255 (e.replays + 1) else e.replays }
  let s2 := if args.isSome && fb && !replay then
      (s1.onSec fun c => { c with floor := updAt c.floor r.key.index fun _ => r.mcr }).commitSec
    else s1
  ((s2.forget k).setCtx k
    { st := .running, partner := p, identity := r.identity, key := r.key.index, mcr := r.mcr, acc := r.acc, cmd := r.cmd,
      args := args.getD [], done := done, frame := [], since := ms, order := s1.sess.order }).owe p (r.answer (some k) 0)

/-- The context of a partner. -/
def State.ctxOf (p : Partner) (s : State) : Option Nat :=
  findIdx (fun c => c.st != .free && c.partner == p) s.sess.ctxs.toList

/-- The IDLE context that has gone longest without a request (R406). DEDUCED, log entry 148. -/
def State.oldestIdle (s : State) : Option Nat :=
  let l := s.sess.ctxs.toList
  let idle := l.filter fun c => c.st == .idle
  match idle with
  | [] => none
  | c :: t =>
    let o := t.foldl (fun m x => min m x.order) c.order
    findIdx (fun x => x.st == .idle && x.order == o) l

/-- Steps 2 and 3 of R404, with R405, R406 and the BUSY of R410. DEDUCED, log entry 148. -/
def State.handle (ms : Nat) (p : Partner) (r : Request) (s : State) : State :=
  if r.key.use ≠ 2 then s.owe p (r.answer none 3)
  else match s.ctxOf p with
    | some k =>
      let c := s.ctx k
      if c.mcr = r.mcr ∧ c.acc = r.acc then
        let s1 := s.onSess fun e => { e with dups := Word.sat 255 (e.dups + 1) }
        let s2 := if s.pwr.pfActive ∨ c.st = .running then s1
          else (s1.onSess fun e => { e with order := e.order + 1 }).setCtx k { c with order := s.sess.order + 1 }
        s2.owe p (r.answer (if s.pwr.pfActive then none else some k) 1)
      else if s.pwr.pfActive ∨ c.st ≠ .idle then s.owe p (r.answer none 1)
      else s.takeRequest ms k p r
    | none =>
      if s.pwr.pfActive then s.owe p (r.answer none 1)
      else match findIdx (fun c => c.st == .free) s.sess.ctxs.toList with
        | some k => s.takeRequest ms k p r
        | none => match s.oldestIdle with
          | some k =>
            (s.onSess fun e => { e with evictions := Word.sat 255 (e.evictions + 1) }).takeRequest ms k p r
          | none => (s.onSess fun e => { e with busy := Word.sat 65535 (e.busy + 1) }).owe p (r.answer none 1)

/-- Requests of a partner are taken in the present mode (R410). -/
def State.serves (p : Partner) (s : State) : Bool :=
  s.active && match p with
    | .radio _ => s.normal
    | .busMaster => s.normal || s.backup

/-- The state without a frame that waits for the session engine: from a radio partner in the receive buffer (R363), from the bus
master in the engine's inbox; none where no such frame waits. -/
def State.takeRequestFrame (p : Partner) (frame : List Byte) (s : State) : Option State :=
  match p with
  | .radio a => (s.radio.rx.find? fun f => s.addressed f && slice f 2 8 == a && f.drop 10 == frame).map fun f =>
      s.onRadio fun r => { r with rx := r.rx.erase f }
  | .busMaster => if s.sess.inbox.contains frame then some (s.onSess fun e => { e with inbox := e.inbox.erase frame }) else none

/-- SESSION_REQUEST (R404): a frame that was passed to the session engine is authenticated and handled;
one that is read with a parity error is discarded as if it had never come (R569). DESIGN CHOICE, log entry 51. -/
def execSessionRequest (now : Now) (partner : Partner) (frame : List Byte) (s : State) : Out :=
  match s.takeRequestFrame partner frame with
  | none => .next s
  | some s1 =>
    if s.frameSpoilt then .next s1.frameDiscard
    else if !s1.serves partner then .next s1
    else match s1.authenticate frame with
      | none => .next (s1.onSess fun e => { e with authFail := Word.sat 255 (e.authFail + 1) })
      | some r => .next (s1.handle now.ms partner r)

/-! ### Responses -/

/-- A response from its C-field on, with the state that has used its counter; none when no counter is free (R399, R400,
R408). -/
def State.respond (i key acc cmd result : Nat) (data : List Byte) (s : State) : Option (List Byte × State) :=
  match s.keyEntry key with
  | none => none
  | some k => s.secure 0x08#8 i 7 k.key key acc (s.answerStatus i result) (s.identity i)
      (0x0F#8 :: le 1 cmd ++ le 1 result ++ data)

/-- A response was not sent (R366, R400). -/
def State.skipResponse (s : State) : State := s.onRadio fun r => { r with events := setBits r.events 16 }

/-- COMMAND_EXECUTION_END (R404): the response is cached, and the context becomes READY. -/
def execCommandExecutionEnd (now : Now) (ctx : Nat) (s : State) : Out :=
  if 24 ≤ ctx then .refused .illFormed
  else
    let c := s.ctx ctx
    match c.st, c.done with
    | .running, some (result, data) =>
      match s.respond c.identity c.key c.acc c.cmd result data with
      | none => .next s.skipResponse
      | some (body, s1) =>
        .next (s1.setCtx ctx { c with st := .ready, since := now.ms, frame := (le 1 body.length ++ body).take 252 })
    | _, _ => .next s

/-- SESSION_READY_TIMEOUT (R404): 60 s in READY. -/
def execSessionReadyTimeout (now : Now) (ctx : Nat) (s : State) : Out :=
  if 24 ≤ ctx then .refused .illFormed
  else
    let c := s.ctx ctx
    if c.st = .ready ∧ c.since + 60000 ≤ now.ms then
      .next ((s.forget ctx).setCtx ctx { c with st := .idle, since := now.ms })
    else .next s

/-- SESSION_IDLE_TIMEOUT (R404): 900 s in IDLE. -/
def execSessionIdleTimeout (now : Now) (ctx : Nat) (s : State) : Out :=
  if 24 ≤ ctx then .refused .illFormed
  else if (s.ctx ctx).st = .idle ∧ (s.ctx ctx).since + 900000 ≤ now.ms then .next (s.setCtx ctx Ctx.reset) else .next s

/-- The frame that an answer is, from its C-field on: the cached response, or a new frame with its result. With it, the
state once it has been sent (R404, R407). None when nothing can be sent. -/
def State.answerFrame (ms : Nat) (a : Answer) (s : State) : Option (List Byte × State) :=
  let fresh (result : Nat) := s.respond a.identity a.key a.acc a.cmd result []
  match a.ctx with
  | none => fresh a.result
  | some k =>
    let c := s.ctx k
    match c.st with
    | .ready => some (c.frame.drop 1, s.setCtx k { c with st := .idle, since := ms })
    | .idle => some (c.frame.drop 1, s)
    | .running => fresh 1
    | .free => none

/-- RESPONSE_WINDOW (R362): the answer due in the response slot is sent within the budget (R366, R407) and opens a further
window; with none due, the window of the last frame opens after the response delay. DESIGN CHOICE, log entry 13. -/
def execResponseWindow (now : Now) (s : State) : Out :=
  if !s.receives ∨ now.ms < s.radio.txEnd then .next s
  else match s.radio.answer with
    | some a =>
      let s0 := s.onRadio fun r => { r with answer := none, window := none }
      match s0.answerFrame now.ms a with
      | none => .next s0.skipResponse
      | some (body, s1) =>
        let c := s.radioCfg
        let frame := onAir c.1 body
        let air := airtime c.1 c.2.1 frame.length
        if s.budget < s.windowUse now.ms + air then .next s0.skipResponse
        else .next (s1.transmit now.ms frame air s.opensWindow)
    | none =>
      if s.radio.winDue ∧ s.winFrom ≤ now.ms then .next (s.onRadio fun r => { r with
        winDue := false, window := if now.ms ≤ s.winTo then some s.winTo else none })
      else .next s

/-! ### The remote commands (R408) -/

/-- Context k runs a command with a code and has not executed it. -/
def State.runs (k cmd : Nat) (s : State) : Bool :=
  let c := s.ctx k
  c.st == .running && c.cmd == cmd && c.done.isNone

/-- The command of context k has executed, with a result and its response data. -/
def State.doneCtx (k result : Nat) (data : List Byte) (s : State) : State :=
  s.setCtx k { s.ctx k with done := some (result, data) }

/-- STATUS (R408). -/
def execCmdStatus (ctx : Nat) (s : State) : Out :=
  if 24 ≤ ctx then .refused .illFormed
  else if !s.runs ctx 0x01 then .next s
  else .next (s.doneCtx ctx 0 (le 1 s.modeCode ++ le 1 s.pwr.strapRole ++ le 4 s.modStatus ++ le 5 s.rtc.count ++
    le 4 s.img.module_.acceptedSeq ++ le 4 s.img.module_.pcc))

/-- READ_HOARD (R408). -/
def execCmdReadHoard (ctx : Nat) (s : State) : Out :=
  if 24 ≤ ctx then .refused .illFormed
  else if !s.runs ctx 0x02 then .next s
  else
    let args := (s.ctx ctx).args
    let a := fieldAt args 0 3
    let n := fieldAt args 3 1
    if n = 0 ∨ 128 < n ∨ a < 0x100000 ∨ 0x250000 < a + n then .next (s.doneCtx ctx 4 [])
    else .next ((s.hoardRead a n 8).doneCtx ctx 0 (le 3 a ++ le 1 n ++ s.mem.hoard.readBytes a n))

/-- A mirror frame that carries the record at an address is still to be acknowledged (R320, R401, R542). -/
def Pair.unacked (p : Pair) (addr : Nat) : Bool :=
  (p.store ++ p.waiting).any fun f => f.type == 3 && fieldAt f.payload 0 3 == addr

/-- The wait for the STANDBY to acknowledge a record is over: nothing is mirrored, the record is acknowledged, the link is marked
faulted, or 150 ms have passed since t0 (R320, R401). -/
def State.mirrorDone (addr t0 ms : Nat) (s : State) : Bool :=
  decide (s.pair.phase < 2) || s.pair.linkFault || !s.pair.unacked addr || decide (t0 + 150 ≤ ms)

/-- The floor of a floor-bound command is committed before the command of context k executes, and a PRIMARY waits for the STANDBY to
acknowledge it (R401). -/
def State.floorLanded (k ms : Nat) (s : State) : Option State :=
  if s.canLand && s.mirrorDone 0x250000 (s.ctx k).since ms then some s.drain else none

/-- VALVE (R276, R324, R408): SOURCE 1, and the policy after it (R322). -/
def execCmdValve (now : Now) (ctx : Nat) (s : State) : Out :=
  if 24 ≤ ctx then .refused .illFormed
  else if !s.runs ctx 0x10 then .next s
  else match s.floorLanded ctx now.ms with
    | none => .next s
    | some s =>
      let n := (s.ctx ctx).identity
      let dir := fieldAt (s.ctx ctx).args 0 1
      if n = 0 ∨ dir = 0 ∨ 2 < dir then .next (s.doneCtx ctx 4 [])
      else
        let r := s.submitValve n dir 1
        let accepted (data : List Byte) (result : Nat) : State :=
          let s1 := if (s.prepay n).isNone then r.1
            else if dir = 1 then (r.1.onCredit n fun c => { c with cflags := setBit c.cflags 1 }).event 0x98 n
              (leInt 8 (s.ch n).a.credit.credit)
            else r.1.onCredit n fun c => { c with cflags := clearBit c.cflags 0 }
          (s1.policy n).doneCtx ctx result data
        match r.2.1 with
        | .ok => .next (accepted (le 4 r.2.2) 0)
        | .queued => .next (accepted (le 4 r.2.2 ++ le 2 (r.1.valveEstimate n now.ms)) 6)
        | .busy => .next (r.1.policy n |>.doneCtx ctx 1 [])
        | .notInState => .next (r.1.policy n |>.doneCtx ctx 2 [])
        | .badArg => .next (r.1.doneCtx ctx 4 [])

/-- A token serial is a duplicate (R319). -/
def CreditState.duplicate (c : CreditState) (serial : Nat) : Bool :=
  if c.tokenHigh < serial then false
  else
    let d := c.tokenHigh - serial
    if d = 0 ∨ 64 < d then true else Word.bit c.tokenWindow (d - 1)

/-- Mark a token serial as applied (R319). -/
def CreditState.markApplied (c : CreditState) (serial : Nat) : CreditState :=
  if c.tokenHigh < serial then
    let k := serial - c.tokenHigh
    let w := if c.tokenHigh ≠ 0 ∧ k ≤ 64 then (c.tokenWindow * 2 ^ k ||| 2 ^ (k - 1)) % 2 ^ 64 else 0
    { c with tokenHigh := serial, tokenWindow := w }
  else { c with tokenWindow := (c.tokenWindow ||| 2 ^ (c.tokenHigh - serial - 1)) % 2 ^ 64 }

/-- The highest credit, 2^47 − 1 in 48.16 (R318). -/
def creditTop : Int := (2 ^ 47 - 1) * 65536

/-- The checks of R318 on a token for the addressed identity: the result, 0 where it is accepted. -/
def State.checkToken (identity : Nat) (t : List Byte) (s : State) : Nat :=
  let serial := fieldAt t 0 4
  let n := fieldAt t 4 1
  let amount := fieldInt t 8 8
  let until_ := fieldAt t 16 5
  if !((s.normal || s.backup) && s.active) || s.pwr.pfActive then 2
  else match s.prepay n with
    | none => 4
    | some e =>
      if fieldAt t 5 1 ≠ 1 ∨ fieldAt t 6 2 ≠ 0 ∨ fieldAt t 21 3 ≠ 0 ∨ serial = 0 ∨ amount ≤ 0 ∨
        (identity ≠ 0 ∧ identity ≠ n) then 4
      else
        let key := match s.img.image with
          | none => none
          | some im => im.keyOf e.tokenKey 4
        let mac := key.map fun k => (cmac k (ascii ['E', 'T', 'Y', 'T'] ++ le 8 s.otp.serial ++ t.take 24)).take 8
        if mac ≠ some (slice t 24 8) then 3
        else if until_ ≠ 0 ∧ s.rtc.osf then 2
        else if until_ ≠ 0 ∧ until_ < s.rtc.count then 4
        else if (s.ch n).a.credit.duplicate serial then 5
        else if creditTop < (s.ch n).a.credit.credit + amount then 4
        else 0

/-- Apply a token to a credit state (R320, step 1). -/
def CreditState.topUp (grace : Int) (serial : Nat) (amount : Int) (c : CreditState) : CreditState :=
  let cr := c.credit + amount
  { (c.markApplied serial).become (creditState grace cr) with credit := cr, topups := (c.topups + 1) % 2 ^ 32 }

/-- TOPUP (R318, R320): a refusal is answered and logged; an accepted token is applied in both datapaths and its record
committed. -/
def execCmdTopup (now : Now) (ctx : Nat) (s : State) : Out :=
  if 24 ≤ ctx then .refused .illFormed
  else if !s.runs ctx 0x11 then .next s
  else
    let t := (s.ctx ctx).args
    let n := fieldAt t 4 1
    let serial := fieldAt t 0 4
    let amount := fieldInt t 8 8
    if (allCh.any fun k => (s.ch k).token.isSome && k == n) then .next s
    else
      let r := s.checkToken (s.ctx ctx).identity t
      if r ≠ 0 then
        .next ((s.event 0x92 (if n ≤ 40 then n else 0) (le 4 serial ++ le 1 r)).doneCtx ctx r [])
      else
        let grace := ((s.prepay n).map (·.grace)).getD 0
        let s1 := s.onCredit n fun c => c.topUp grace serial amount
        let s2 := s1.enqueue (totalsRec n (s1.ch n).a)
        .next (s2.onCh n fun c => { c with
          token := some (serial, amount, now.ms), shown := { c.shown with credit := creditWord true c.a.credit } })

/-- TOPUP_ANSWER (R320, steps 3 and 4): once the commit has landed and a STANDBY has acknowledged its mirror. -/
def execTopupAnswer (now : Now) (ctx : Nat) (s : State) : Out :=
  if 24 ≤ ctx then .refused .illFormed
  else if !s.runs ctx 0x11 ∨ !s.canLand then .next s
  else
    let n := fieldAt (s.ctx ctx).args 4 1
    match (s.ch n).token with
    | none => .next s
    | some (serial, amount, t0) =>
      if serial ≠ fieldAt (s.ctx ctx).args 0 4 ∨ !s.mirrorDone (totalsAddr n) t0 now.ms then .next s
      else
        let s1 := s.drain.onCh n fun c => { c with token := none }
        .next (((s1.event 0x91 n (le 4 serial ++ leInt 8 amount)).policy n).doneCtx ctx 0 [])

/-- SET_TIME (R337, R408). -/
def execCmdSetTime (now : Now) (ctx : Nat) (s : State) : Out :=
  if 24 ≤ ctx then .refused .illFormed
  else if !s.runs ctx 0x20 then .next s
  else match s.floorLanded ctx now.ms with
    | none => .next s
    | some s =>
      let c := fieldAt (s.ctx ctx).args 0 5
      if !s.timeChanges then .next (s.doneCtx ctx 2 [])
      else if countMax < c then .next (s.doneCtx ctx 4 [])
      else .next ((s.applyTime c 1 now.sub).doneCtx ctx 0 (le 5 s.rtc.count))

/-- ADJUST_TIME (R337, R343, R408). -/
def execCmdAdjustTime (now : Now) (ctx : Nat) (s : State) : Out :=
  if 24 ≤ ctx then .refused .illFormed
  else if !s.runs ctx 0x21 then .next s
  else match s.floorLanded ctx now.ms with
    | none => .next s
    | some s =>
      let a := fieldInt (s.ctx ctx).args 0 4
      if !s.timeChanges then .next (s.doneCtx ctx 2 [])
      else if a = 0 then .next ((s.onRtc fun r => { r with slew := 0, slewPhase := 0 }).doneCtx ctx 0 [])
      else if s.rtc.slewOk a then .next ((s.onRtc fun r => r.startSlew a 1).doneCtx ctx 0 [])
      else .next (s.doneCtx ctx (if s.rtc.osf ∨ s.rtc.slew ≠ 0 then 2 else 4) [])

end Sys2Proof.Machine
end

