-- ==== Sys2Proof/Machine/MBus.lean ====
section
/-! DEFINITION. The wired M-Bus slave (R415 to R422). Every frame command carries the rate of its characters as the code of
`MBUS_STATUS.BAUD` (R435). -/

namespace Sys2Proof.Machine

/-- The module answers with bytes (R423, R435). -/
def State.busAnswer (bytes : List Byte) (s : State) : State :=
  s.onMBus fun m => { m with out := bytes, collision := false, answered := Word.sat 255 (m.answered + 1) }

/-- The single character 0xE5. -/
def State.busAck (s : State) : State := s.busAnswer [0xE5#8]

/-- A good frame has come at a rate (R415, R435), and keeps the module awake (R81). -/
def State.busFrame (now : Now) (baud : Nat) (s : State) : State :=
  (s.onMBus fun m => { m with baud := baud % 8 }).onPwr fun p => { p with lastBusMs := now.ms }

/-- The identity the bus sees: in UNCONFIGURED identity 0 alone (R419, R420). -/
def State.busIdentities (s : State) : List Nat :=
  if s.pwr.mode = .unconfigured then s.identities.filter (· == 0) else s.identities

/-- The module answers on the bus and holds an identity (R417, R420). -/
def State.onBus (s : State) : Bool := s.mbusServing && !s.busIdentities.isEmpty

/-- Clear the selection and the FCB state (R420). -/
def State.deselect (s : State) : State := s.onMBus fun m => { m with selected := none, last := none }

/-- The rates at which the module receives, as `MBUS_STATUS.BAUD` codes them (R415, R435). -/
def busRate (baud : Nat) : Bool := decide (1 ≤ baud ∧ baud ≤ 6)

/-- Serve a frame to 0xFD that has come at a rate: `f` acts while the module answers on the bus. -/
def State.busServe (now : Now) (baud : Nat) (f : State → State) (s : State) : State :=
  if s.pwr.state ≠ .run ∨ !busRate baud then s
  else
    let s1 := s.busFrame now baud
    if s1.onBus then f s1 else s1

/-- SND_NKE (R418, R420). -/
def execSndNke (now : Now) (address : Byte) (baud : Nat) (s : State) : Out :=
  .next (s.busServe now baud fun s =>
    if address = 0xFD#8 then s.deselect.busAck else if address = 0xFF#8 then s.deselect else s)

/-- A byte or a nibble matches with the wildcard F (R419). -/
def matchesAddress (want have_ : List Byte) : Bool :=
  let nib (w h : Nat) : Bool := w == 15 || w == h
  ((want.take 4).zip (have_.take 4)).all (fun p =>
    nib (p.1.toNat / 16) (p.2.toNat / 16) && nib (p.1.toNat % 16) (p.2.toNat % 16)) &&
  (slice want 4 2 == [0xFF#8, 0xFF#8] || slice want 4 2 == slice have_ 4 2) &&
  (slice want 6 1 == [0xFF#8] || slice want 6 1 == slice have_ 6 1) &&
  (slice want 7 1 == [0xFF#8] || slice want 7 1 == slice have_ 7 1)

/-- SECONDARY_SELECT (R419). -/
def execSecondarySelect (now : Now) (data : List Byte) (baud : Nat) (s : State) : Out :=
  .next (s.busServe now baud fun s =>
    let s0 := s.deselect
    let hits := if data.length = 8 then s.busIdentities.filter fun i => matchesAddress data (longAddress (s.identity i))
      else []
    match hits with
    | [] => s0
    | [i] => (s0.onMBus fun m => { m with selected := some i }).busAck
    | _ :: _ :: _ => s0.busAck.onMBus fun m => { m with collision := true })

/-- Act while an identity is selected (R421). -/
def State.whenSelected (now : Now) (baud : Nat) (f : Nat → State → State) (s : State) : State :=
  s.busServe now baud fun s => match s.mbus.selected with
    | none => s
    | some i => f i s

/-- REQ_UD1 (R421): no class 1 data. -/
def execReqUd1 (now : Now) (baud : Nat) (s : State) : Out := .next (s.whenSelected now baud fun _ s => s.busAck)

/-- SND_UD_REQUEST (R421): acknowledged; a mode 7 request that names the selected identity goes to the session engine.
DESIGN CHOICE, log entry 51. -/
def execSndUdRequest (now : Now) (frame : List Byte) (baud : Nat) (s : State) : Out :=
  .next (s.whenSelected now baud fun i s =>
    let s1 := s.busAck
    if fieldAt frame 0 1 = 0x90 ∧ fieldAt frame 17 1 = 0x5B ∧ slice frame 18 8 = longAddress (s.identity i) ∧
      (s.normal || s.backup) then
      s1.onSess fun e => { e with inbox := e.inbox ++ [frame] }
    else s1)

/-- SND_UD_OTHER (R421). -/
def execSndUdOther (now : Now) (baud : Nat) (s : State) : Out := .next (s.whenSelected now baud fun _ s => s.busAck)

/-- BAUD_SWITCH (R415): acknowledged and otherwise ignored. -/
def execBaudSwitch (now : Now) (ci : Byte) (baud : Nat) (s : State) : Out :=
  .next (s.whenSelected now baud fun _ s => if 0xB8 ≤ ci.toNat ∧ ci.toNat ≤ 0xBD then s.busAck else s)

/-- MBUS_FRAME_ERROR (R416). -/
def execMbusFrameError (now : Now) (s : State) : Out :=
  if s.pwr.state ≠ .run then .next s
  else .next ((s.onMBus fun m => { m with frameErr := Word.sat 255 (m.frameErr + 1) }).onPwr fun p => { p with lastBusMs := now.ms })

/-! ### REQ_UD2 (R422) -/

/-- A RSP_UD long frame: `body` is the frame of R386 from its C-field on, whose M-field and A-field the link header of
EN 13757-2 replaces (R386). PRESUMED, log entry 52. -/
def longFrame (body : List Byte) : List Byte :=
  let x := body.take 1 ++ [0xFD#8] ++ body.drop 9
  let n := le 1 x.length
  [0x68#8] ++ n ++ n ++ [0x68#8] ++ x ++ le 1 (x.foldl (fun a b => a + b.toNat) 0) ++ [0x16#8]

/-- The first TELEGRAM entry of a kind and channel. -/
def State.firstEntry (kind ch : Nat) (s : State) : Option (Nat × TelegramEntry) :=
  match s.img.image with
  | none => none
  | some im => (im.telegrams.zipIdx.find? fun e => e.1.kind == kind && e.1.ch == ch).map fun e => (e.2, e.1)

/-- Secure an entry's data as a response of identity i. -/
def State.busTelegram (i : Nat) (e : TelegramEntry) (data : List Byte) (s : State) : Option (List Byte × State) :=
  (s.secure 0x08#8 i e.secMode (s.entryKey e) e.key (nth s.sec.acc i 0) (s.statusByte i) (s.identity i) data).map
    fun p => (p.1, p.2.useAccess i)

/-- The session answer of identity i, if one is to be given (case 1 of R422). PRESUMED, log entry 52. -/
def State.busSession (i : Nat) (s : State) : Option Answer :=
  let live (a : Answer) : Bool := match a.ctx with
    | none => true
    | some k => (s.ctx k).st != .free
  match s.mbus.direct.filter fun a => a.identity == i && live a with
  | some a => some a
  | none =>
    match s.ctxOf .busMaster with
    | none => none
    | some k =>
      let c := s.ctx k
      if c.identity = i ∧ s.inTransaction k then
        some { ctx := some k, identity := i, key := c.key, acc := c.acc, cmd := c.cmd, result := 1 }
      else none

/-- The new frame of R422 for identity i, with the state once it is sent. DEDUCED, log entry 147. -/
def State.busFresh (ms i : Nat) (s : State) : Option (List Byte × State) :=
  match s.busSession i with
  | some a => (s.onMBus fun m => { m with direct := if m.direct = some a then none else m.direct }).answerFrame ms a
  | none =>
    if s.pwr.mode = .unconfigured then
      (s.secure 0x08#8 0 7 s.unconfKey 0 (nth s.sec.acc 0 0) (s.statusByte 0) (s.identity 0) (s.alarmData 0 0)).map
        fun p => (p.1, p.2.useAccess 0)
    else match (if i = 0 then none else s.firstEntry 1 i) with
      | some (_, e) => s.busTelegram i e (s.billingData i e.records)
      | none => match (if i = 0 then none else s.firstEntry 2 i) with
        | some (_, e) => s.busTelegram i e (s.compactData i)
        | none => match (if i = 0 then s.firstEntry 5 0 else none) with
          | some (t, e) => s.busTelegram 0 e (s.alarmData 0 (s.alarmSince t))
          | none => none

/-- Case 6 of R422: there is no frame to send for identity i. -/
def State.busNothing (i : Nat) (s : State) : Bool :=
  (s.busSession i).isNone && decide (s.pwr.mode ≠ .unconfigured) &&
    (if i = 0 then (s.firstEntry 5 0).isNone else (s.firstEntry 1 i).isNone && (s.firstEntry 2 i).isNone)

/-- REQ_UD2 (R422); a frame for which no counter is free is not sent and counts as a response skipped (R400).
PRESUMED, log entry 52. -/
def execReqUd2 (now : Now) (fcv fcb : Bool) (baud : Nat) (s : State) : Out :=
  .next (s.whenSelected now baud fun i s =>
    let again : Option (List Byte) := match s.mbus.last with
      | none => none
      | some (b, f) => if fcv && b == fcb then some f else none
    match again with
    | some f => s.busAnswer f
    | none => match s.busFresh now.ms i with
      | none => if s.busNothing i then s else s.skipResponse
      | some (body, s1) =>
        let f := longFrame body
        (s1.busAnswer f).onMBus fun m => { m with last := some (fcb, f) })

end Sys2Proof.Machine
end

