-- ==== Sys2Proof/Machine/TofSlot.lean ====
section
/-! DEFINITION. What a ToF slot does (R154 to R156, R180 to R193), waveform export (R166, R209, R210, R216, R217), drive stops
(R193), recovery from low quality (R164) and zero tracking (R199, R200). -/

namespace Sys2Proof.Machine

/-- Apply f to the flow path of channel n. -/
def State.onFlow (n : Nat) (f : Flow → Flow) (s : State) : State := s.onCh n fun c => { c with flow := f c.flow }

/-- The digitizer of a channel, 1 to 4 (R15). -/
def digOf (n : Nat) : Nat := (n - 1) / 10 + 1

/-- The pair and the shot (0 TA to TB, 1 TB to TA) that a slot is for channel n at a rate (R156). -/
def slotPair (n rate slot : Nat) : Option (Nat × Nat) :=
  if rate = 1 then (if slot < 256 ∧ slot % 8 < 2 then some (slot / 8, slot % 8) else none)
  else
    let b := 8 * (posOf n - 1) + 4
    if slot = b then some (0, 0) else if slot = b + 1 then some (0, 1) else none

/-! ### Waveform export -/

/-- A request on a line (R485). -/
def State.request (line : Nat) (s : State) : State :=
  s.onDma fun d => { d with prq := updAt d.prq line fun k => min 16 (k + 1) }

/-- The capture at a shot is wanted under `CHW_CAPTURE_CTRL` (R166, R216). -/
def captureWanted (ctrl pair dir : Nat) : Bool :=
  let want := Word.bits ctrl 1 2
  Word.bit ctrl 0 && (want == 0 || (want == 1 && dir == 0) || (want == 2 && dir == 1)) &&
    pair % 2 ^ Word.bits ctrl 4 4 == 0

/-- A capture record (R209). -/
def captureRecord (tick n slot info rseq : Nat) (w0 : Int) (tof : Nat) (xs : List Int) : List Byte :=
  le 4 tick ++ le 1 n ++ le 1 slot ++ le 1 info ++ le 1 rseq ++ le 2 w0.toNat ++ le 2 xs.length ++ le 4 tof ++
    padTo 3072 (xs.flatMap (leInt 2))

/-- Write a capture to the ring, or drop it (R210): the record takes the ring's next index after those in flight. -/
def State.exportCapture (n slot dir : Nat) (w0 : Int) (xs : List Int) (r : ShotRes) (tElec : Nat) (s : State) : State :=
  let k := digOf n - 1
  let f := (s.ch n).flow
  if s.hl.credit = 0 ∨ (s.dc k).service.isSome then
    (s.onFlow n fun f => { f with capDropped := (f.capDropped + 1) % 65536, events := setBits f.events (2 ^ 13) }).onHl
      fun h => { h with dropped := Word.sat 255 (h.dropped + Word.ofBool (s.hl.credit == 0)) }
  else
    let tof := if r.edge then 0 else (ratNear ((r.tof - (tElec : Nat) / 256) * 256)).toNat
    let info := dir + 2 * f.gain + flag r.clipped 4 + flag r.good 5
    let rec_ := captureRecord s.meas.tick n slot info f.rseq w0 tof xs
    let svc : Service :=
      { p0 := 0, p1 := 0x60000 + 3088 * ((s.hl.next + s.hl.fly.length) % 42), p2 := 3088, p3 := 0, src := rec_, pos := 0,
        ch := n, landed := false }
    let s1 := s.onHl fun h => { h with credit := h.credit - 1, fly := h.fly ++ [(k, false)] }
    ((s1.setDc k { s1.dc k with service := some svc }).onFlow n fun f => { f with rseq := (f.rseq + 1) % 256 }).request k

/-! ### The shot and the pair -/

/-- The template that correlates a channel's captures: the tracked one, or the new one in step 3 of a zero calibration. -/
def State.template (s : State) (n : Nat) : List Int :=
  let c := s.ch n
  if s.calibrating n then (if s.meas.calPhase = 3 then c.zcal.template else [])
  else match c.flow.cal with
    | none => []
    | some k => k.tracked

/-- T_ELEC and the zero offset in force (R184, R185). -/
def State.zeroOf (s : State) (n : Nat) : Nat × Int :=
  let c := s.ch n
  if s.calibrating n then (c.zcal.tElec, 0)
  else match c.flow.cal with
    | none => (0, 0)
    | some k => (k.tElec, k.zeroTracked)

/-- One shot of channel n: drive supervision, capture and correlation (R154, R155, R181 to R184, R193). -/
def State.fireShot (n slot pair dir : Nat) (shot : Shot) (s : State) : State × ShotRes :=
  let cfg := s.cfg n
  if (s.ch n).flow.stop then (s, undriven)
  else
    let lim := driveFault cfg shot.driveUa
    let f0 := (s.ch n).flow
    let f1 := { f0.drive dir lim.1 lim.2 with burst := some (cfg.burst dir) }
    let f := { f1 with stopTick := if f1.stop then s.meas.tick else f1.stopTick }
    let s1 := s.putFlow n f 0
    let degraded := decide (s.rate n = 2)
    let pref := refStart cfg f.cal (s.calibrating n)
    let p := f.pred.getD pref
    let w := captureWindow cfg degraded f.acquire p pref
    let xs := (shot.samples.take w.2).map fun x => max (-2048) (min 2047 x)
    let amp := match f.cal with
      | none => none
      | some k => some (k.ampRef, k.gainRef)
    let r := analyse cfg (s.template n) amp f.gain w.1 p true (!lim.1 && !lim.2) xs
    if s.rate n = 1 ∧ s.normal ∧ s.mayExport n ∧ captureWanted f.capUse pair dir then
      (s1.exportCapture n slot dir w.1 xs r (s.zeroOf n).1, r)
    else (s1, r)

/-- Add to what the step gathers, or to what the next one gathers. -/
def State.gather (n : Nat) (f : StepAcc → StepAcc) (s : State) : State :=
  if s.stepDue n then s.onCh n fun c => { c with late := f c.late } else s.onCh n fun c => { c with acc := f c.acc }

/-- The tick at which the second half of step 3 begins (R196). DEDUCED, log entry 55. -/
def Meas.calHalf (m : Meas) : Nat := m.calTick.getD 0 + 36 + 2 * m.calDur

/-- The pair of channel n is complete: its flow sample, supervision, and what gathers it (R185 to R193, R199, R203). -/
def State.endPair (n pair : Nat) (x y : ShotRes) (s : State) : State :=
  let cfg := s.cfg n
  let z := s.zeroOf n
  let r := pairTimes x y z.1 z.2
  let at_ := s.edge + 75000 * pair
  let v := (s.ch n).bandTheta cfg (s.tempFaulted n)
  if s.calibrating n then
    let half := decide (s.meas.calHalf ≤ s.meas.tick)
    let s1 := s.onCh n fun c => { c with
      flow := c.flow.aim x y r, zcal := c.zcal.pair s.meas.calPhase half x y r v }
    if s.normal then s1.gather n fun a => { a with samples := { at_ := at_, q := 0, qB := 0, status := .fault } :: a.samples }
    else s1
  else
    let fcal := match s.img.image with
      | none => none
      | some im => (im.flowCals.find? fun e => e.1 == n).map (·.2)
    let p := (s.ch n).flow.pair cfg fcal v (s.rate n) x y r
    let g := p.1
    let s1 := s.putFlow n g p.2.2
    let s2 := s1.gather n fun a => a.pair cfg x y r { at_ := at_, q := p.2.1.q, qB := p.2.1.qB, status := p.2.1.status }
    if s.normal then s2.onCh n fun c => { c with
      track := c.track.pair r (g.cut && !g.lowQ && !g.air) (decide (600 ≤ s.meas.tick % 1200)) v }
    else s2

/-- TOF_SLOT (R154): the shot of a channel's slot; the second shot completes the pair. DESIGN CHOICE, log entry 6. -/
def execTofSlot (ch slot : Nat) (shot : Shot) (s : State) : Out :=
  if ch = 0 ∨ 40 < ch then .refused .illFormed
  else if !s.slotDriven ch then .next s
  else match slotPair ch (s.rate ch) slot with
    | none => .next s
    | some (pair, dir) =>
      let s := if dir = 0 then s.onFlow ch fun f => { f with capUse := f.capCtrl } else s
      let r := s.fireShot ch slot pair dir shot
      if dir = 0 then .next (r.1.onFlow ch fun f => { f with first := some r.2 })
      else match (r.1.ch ch).flow.first with
        | none => .next r.1
        | some x => .next ((r.1.onFlow ch fun f => { f with first := none }).endPair ch pair x r.2)

/-- TD_SHORT_STOP_END (R193): the 1 s drive stop ends. -/
def execTdShortStopEnd (ch : Nat) (s : State) : Out :=
  if ch = 0 ∨ 40 < ch then .refused .illFormed
  else if (s.ch ch).flow.stopTick + 4 ≤ s.meas.tick then .next (s.onFlow ch fun f => { f with stop := false })
  else .next s

/-- LOW_Q_RECOVERY (R164): 60 s at or above SIGQ_MIN. -/
def execLowQRecovery (ch : Nat) (s : State) : Out :=
  if ch = 0 ∨ 40 < ch then .refused .illFormed
  else
    let f := (s.ch ch).flow
    match f.goodSince with
    | none => .next s
    | some t => if f.lowQ ∧ t + 240 ≤ s.meas.tick then .next (s.putFlow ch { f with lowQ := false } 0) else .next s

/-! ### Zero tracking -/

/-- Pairs of channel n in a full window half of 150 s. -/
def halfPairs (rate : Nat) : Nat := if rate = 1 then 19200 else 600

/-- A window qualifies (R199). -/
def ZeroTrack.qualifies (z : ZeroTrack) (rate : Nat) (zero : Int) : Bool :=
  let n := halfPairs rate
  let m1 := z.sum1 / (n : Nat)
  let m2 := z.sum2 / (n : Nat)
  let d := (m1 + m2) / 2 - (zero : Rat) / 65536
  let e := m1 - m2
  let within (x lim : Rat) : Bool := decide (-lim ≤ x ∧ x ≤ lim)
  z.ok && z.n1 == n && z.n2 == n && decide (spanWidth z.vmin z.vmax ≤ 5000) && within d (2 / 1000) && within e (1 / 1000)

/-- The tracked zero after a qualifying window: an eighth of the difference, at most 0.1 ps, and within 1.0 ps of the
learned one (R199), in 2^-16 ns. DEDUCED, log entry 54. -/
def ZeroTrack.move (z : ZeroTrack) (rate : Nat) (learned zero : Int) : Int :=
  let n := 2 * halfPairs rate
  let mean := (z.sum1 + z.sum2) / (n : Nat) * 65536
  let step := Word.satInt 6 (ratNear ((mean - (zero : Rat)) / 8))
  learned + Word.satInt 65 (zero + step - learned)

/-- ZERO_TRACK_WINDOW (R199): the 300 s window that ends at this tick. -/
def execZeroTrackWindow (ch : Nat) (s : State) : Out :=
  if ch = 0 ∨ 40 < ch then .refused .illFormed
  else if !s.normal ∨ s.meas.tick % 1200 ≠ 0 then .next s
  else
    let c := s.ch ch
    let z := c.track
    let s1 := s.onCh ch fun c => { c with track := .reset }
    match c.flow.cal with
    | none => .next s1
    | some k =>
      if !z.qualifies (s.rate ch) k.zeroTracked then .next s1
      else
        let t := z.move (s.rate ch) k.zeroLearned k.zeroTracked
        let k' := { k with zeroTracked := t }
        let f := c.flow
        .next (s1.putFlow ch { f with
          cal := some k', calDirty := f.calDirty || t != k.zeroTracked, zeroDrift := k'.zeroDrifts } 0)

/-- CAL_TRACK_COMMIT (R200): once an hour, when a tracked value has changed. -/
def execCalTrackCommit (ch : Nat) (s : State) : Out :=
  if ch = 0 ∨ 40 < ch then .refused .illFormed
  else
    let f := (s.ch ch).flow
    match f.cal with
    | none => .next s
    | some k =>
      if !s.integrates ch ∨ s.meas.tick % 14400 ≠ 0 ∨ !f.calDirty then .next s
      else
        let k := { k with trackTime := s.rtc.count }
        .next ((s.onFlow ch fun f => { f with cal := some k, calDirty := false }).enqueue (calRec ch k))

end Sys2Proof.Machine
end

