-- ==== Sys2Proof/Machine/ZeroCal.lean ====
section
/-! DEFINITION. Zero calibrations (R145, R195 to R197) and the TEST condition's end (R459). -/

namespace Sys2Proof.Machine

/-- Begin the run at its first tick (R195): acquisition starts from TOF_INIT. DESIGN CHOICE, log entry 12. -/
def State.calBegin (s : State) : State :=
  if s.meas.calPhase = 0 ∨ s.meas.calTick.isSome then s
  else (s.onMeas fun m => { m with calTick := some m.tick }).forCh s.meas.calChans fun n t => t.onCh n fun c => { c with
    flow := { c.flow with first := none, acquire := true, pred := none },
    zcal := { ZeroCal.reset with running := true } }

/-- Whole-number taps of the new template (R195). -/
def ZeroCal.learn (z : ZeroCal) : List Int := if z.capN = 0 then [] else scaleTaps 16384 (padTaps z.capSum)

/-- ZERO_CAL_PHASE (R195): step 1 ends 2 s after t0 and gives T_ELEC, step 2 ends 18 s after t0 and gives the template. -/
def execZeroCalPhase (s : State) : Out :=
  match s.meas.calTick with
  | none => .next s
  | some t =>
    if s.meas.calPhase = 1 ∧ t + 8 ≤ s.meas.tick then
      .next ((s.onMeas fun m => { m with calPhase := 2 }).forCh s.meas.calChans fun n s =>
        let d := s.draw
        d.2.onCh n fun c => { c with zcal := { c.zcal with tElec := (Config.loopbackDelay d.1).toNat } })
    else if s.meas.calPhase = 2 ∧ t + 72 ≤ s.meas.tick then
      .next ((s.onMeas fun m => { m with calPhase := 3 }).forCh s.meas.calChans fun n s =>
        s.onCh n fun c => { c with zcal := { c.zcal with template := c.zcal.learn } })
    else .next s

/-- Mean of Δt_raw over step 3. -/
def ZeroCal.meanDt (z : ZeroCal) : Rat := (z.sum1 + z.sum2) / ((z.n1 + z.n2 : Nat) : Rat)

/-- `CAL_RESULT` of a completed run (R196). DEDUCED, log entry 55. -/
def ZeroCal.judge (z : ZeroCal) : Nat :=
  let big (x lim : Rat) : Bool := decide (x < -lim ∨ lim < x)
  if z.shots = 0 ∨ 255 * z.sumRho < 242 * 65536 * z.shots then 2
  else if z.sumSnr < 30 * z.shots then 3
  else if z.n1 = 0 ∨ z.n2 = 0 ∨ big (z.sum1 / (z.n1 : Nat) - z.sum2 / (z.n2 : Nat)) (2 / 1000) then 4
  else if big z.meanDt (50 / 1000) then 5
  else if 5000 < spanWidth z.vmin z.vmax then 6
  else 1

/-- The calibration record that a passing channel gets (R195, R201). DEDUCED, log entry 56. -/
def ZeroCal.record (z : ZeroCal) (cfg : ChanCfg) (imgSeq time gain : Nat) (inTest : Bool) : Cal :=
  let n := z.n1 + z.n2
  let zero := ratNear (z.meanDt * 65536)
  { imgSeq := imgSeq, learnTime := time, flags := 1 + 2 * Word.ofBool inTest, burstN := cfg.burstN,
    burstCyc := cfg.burstCyc, drive := Word.ofBool (Word.bit cfg.options 4), tapStep := tapStep cfg.burstN,
    gainRef := gain, tElec := z.tElec, zeroLearned := zero, zeroTracked := zero,
    tofRef := (ratNear (z.sumRaw / (n : Nat) * 256)).toNat,
    cLearn := (ratNear ((cfg.pathL : Rat) * 100000 * (n : Nat) / z.sumT)).toNat,
    thetaLearn := if z.nV = 0 then -(2 ^ 31 : Int) else divNear z.sumV z.nV,
    ampRef := z.sumPeak / z.shots, trackTime := time, learned := z.template, tracked := z.template }

/-- End channel n's run with a result of R196, or 7 (R195, R197, R212, R308). The record carries the accepted IMG_SEQ (R145, R147). -/
def State.calResult (n result : Nat) (s : State) : State :=
  let c := s.ch n
  let f := c.flow
  let k := c.zcal.record (s.cfg n) s.img.module_.acceptedSeq s.rtc.count f.gain s.img.module_.commissioned
  let s0 := s.onCh n fun c => { c with zcal := .reset }
  let g := { f with calResult := result, first := none, events := setBits f.events (if result = 1 then 2 ^ 11 else 2 ^ 12) }
  let s1 := if result = 1 then
      (s0.putFlow n { g with cal := some k, fine := [], calDirty := false, calMissing := false, calMismatch := false,
                             zeroDrift := false, templateDrift := false } 0).enqueue (calRec n k)
    else s0.putFlow n g 0
  s1.event 0x4D n (le 1 result)

/-- No run is in progress any more; a TEST whose time has run out ends with it (R459). -/
def State.calOver (s : State) : State :=
  s.onMeas fun m => { m with
    calChans := [], calPhase := 0, calTick := none, test := m.test && !m.testOver, testOver := false }

/-- End a run without writing: a reset, a power-fail sequence, or the end of its permission (R195). -/
def State.calAbort (s : State) : State :=
  if s.meas.calPhase = 0 then s else s.calOver.forCh s.meas.calChans fun n t => t.calResult n 7

/-- ZERO_CAL_END (R195, R197): one audit entry for each channel that passes. DEDUCED, log entry 157. -/
def execZeroCalEnd (_now : Now) (s : State) : Out :=
  match s.meas.calTick with
  | none => .next s
  | some t =>
    if s.meas.calPhase ≠ 3 ∨ s.meas.tick < t + 4 * s.meas.calDur then .next s
    else
      let chans := s.meas.calChans
      let commissioned := s.img.module_.commissioned
      let pass := chans.filter fun n => (s.ch n).zcal.judge == 1
      let s1 := s.forCh chans fun n t => t.calResult n (t.ch n).zcal.judge
      let s2 := if commissioned then
          (s1.onImg fun g => { g with module_ := { g.module_ with pcc := g.module_.pcc + 1 } }).commitModule
        else s1
      let m := s2.img.module_
      let s3 := if commissioned then
          s2.forCh pass fun n t => t.writeAudit 6 0 m.acceptedSeq m.acceptedSeq m.digest m.digest m.pcc (le 4 n)
        else s2
      .next (s.noteMode s3.calOver)

/-- TEST_TIMEOUT (R459): 4 h after entry, or at the end of the zero calibration that then runs. -/
def execTestTimeout (s : State) : Out :=
  if !s.meas.test ∨ s.meas.tick < s.meas.testTick + 57600 then .next s
  else if s.meas.calPhase ≠ 0 then .next (s.onMeas fun m => { m with testOver := true })
  else .next (s.noteMode (s.onMeas fun m => { m with test := false }))

end Sys2Proof.Machine
end

