-- ==== Sys2Proof/Machine/MemMap.lean ====
section
/-! DEFINITION. The internal memory map as the host and the DMA engine read it (R446, R447, R430, R567, R569). -/

namespace Sys2Proof.Machine

/-- The bytes of the stranger table at 0x03_F000 (R430). -/
def Alc.table (c : Alc) : List Byte :=
  padTo 1024 (c.strangers.flatMap fun e => padTo 8 e.ident ++ le 2 e.count ++ le 5 e.last ++ zeros 1)

/-- Whether memory lists an address. -/
def Memory.lists (m : Memory) (a : Nat) : Bool := m.any fun c => c.1 == a

/-- A byte of SRAM B0 to B3. The spec lays out the stranger table alone; every other byte that no DMA channel has written
is the free value `d`. DESIGN CHOICE, log entry 11. -/
def State.innerByte (s : State) (d a : Nat) : Byte :=
  if 0x3F000 ≤ a ∧ a < 0x3F400 then nth s.alc.table (a - 0x3F000) 0#8
  else if s.mem.sram.lists a then s.mem.sram.read a
  else Config.sramByte d a

/-- A byte of the mask ROM: the water tables at 0x50_0000 and 0x50_1000, entry k in four bytes (R243), and bytes that the spec
leaves open. DESIGN CHOICE, log entry 15. -/
def romAt (a : Nat) : Byte :=
  let k (base : Nat) : Nat := (a - base) / 4
  if a < 0x500000 + 3204 then nth (le 4 (rhoWord (k 0x500000))) ((a - 0x500000) % 4) 0#8
  else if 0x501000 ≤ a ∧ a < 0x501000 + 3204 then nth (le 4 (hWord (k 0x501000))) ((a - 0x501000) % 4) 0#8
  else Config.romByte a

/-- The byte at an address of the map (R446). DESIGN CHOICE, log entry 11. -/
def State.mapByte (s : State) (d a : Nat) : Byte :=
  if a < 0x40000 then s.innerByte d a
  else if a < 0x80000 then s.mem.sram.read a
  else if 0x100000 ≤ a ∧ a < 0x300000 then s.mem.hoard.read a
  else if 0x500000 ≤ a ∧ a < 0x510000 then romAt a
  else 0#8

/-- Read n bytes at a: the bytes, and the state with the free value drawn and the errors met counted for a reader.
DEDUCED, log entry 137. -/
def State.mapRead (a n reader : Nat) (s : State) : List Byte × State :=
  let d := if a < 0x40000 then s.draw else (0, s)
  let bs := (List.range n).map fun i => s.mapByte d.1 (a + i)
  let t := d.2
  (bs, if a < 0x80000 then t.sramRead a n reader
       else if 0x100000 ≤ a ∧ a < 0x300000 then t.hoardRead a n reader else t)

/-- A read of n bytes at a meets a parity error or an uncorrectable word (R567, R569). -/
def Mem.faultIn (m : Mem) (a n : Nat) : Bool :=
  m.parityIn a n || m.bad.any fun w => decide (a < w + 8 ∧ w < a + n)

/-- Write SRAM; the bytes written carry no parity error any more. -/
def State.sramWrite (a : Nat) (bs : List Byte) (s : State) : State :=
  s.onMem fun m => { m with
    sram := m.sram.writeBytes a bs, parity := m.parity.filter fun x => decide (x < a ∨ a + bs.length ≤ x) }

/-- Write HOST_SCRATCH in whole words of HOARD (R448). -/
def State.scratchWrite (a : Nat) (bs : List Byte) (s : State) : State :=
  let hit (w : Nat) : Bool := decide (a < w + 8 ∧ w < a + bs.length)
  s.onMem fun m => { m with
    hoard := m.hoard.writeBytes a bs, soft := m.soft.filter fun w => !hit w, bad := m.bad.filter fun w => !hit w }

end Sys2Proof.Machine
end

