-- ==== Sys2Proof/Machine/Dma.lean ====
section
/-! DEFINITION. The DMA engine (R476 to R500): fetch and checks, the five instructions, bursts and arbitration, events, errors,
arming and stopping. -/

namespace Sys2Proof.Machine

/-! ### Areas, ports and ranges (R476, R487, R495) -/

/-- A host channel. -/
def dmaHost (k : Nat) : Bool := decide (12 ≤ k)

/-- An instruction address that a channel may fetch from (R476, R477). -/
def dmaPcOk (k a : Nat) : Bool :=
  decide (a % 16 = 0) && (if dmaHost k then decide (0x50000 ≤ a ∧ a < 0x60000) else decide (0x4A000 ≤ a ∧ a < 0x50000))

/-- The source port of a route. -/
def srcPort (k : Nat) : Option Nat :=
  match k with
  | 0 | 1 | 2 | 3 => some (0x600000 + 4 * k)
  | 4 => some 0x600010
  | 5 => some 0x600014
  | 7 => some 0x60002C
  | 9 => some 0x600020
  | 11 => some 0x600028
  | _ => none

/-- The destination port of a route. -/
def dstPort (k : Nat) : Option Nat :=
  match k with
  | 6 => some 0x600018
  | 8 => some 0x60001C
  | 10 => some 0x600024
  | _ => none

/-- n bytes from a lie within [lo, hi). -/
def within (lo hi a n : Nat) : Bool := decide (lo ≤ a ∧ a + n ≤ hi)

/-- A channel may read a range; `fix` tells that the address stays (R479, R487). -/
def dmaReads (k a n : Nat) (fix : Bool) : Bool :=
  (fix && srcPort k == some a) ||
  within 0x500000 0x510000 a n ||
  (if dmaHost k then within 0 0x80000 a n || within 0x100000 0x300000 a n
   else within 0 0x50000 a n || within 0x60000 0x80000 a n || within 0x100000 0x2F0000 a n)

/-- A channel may write a range. -/
def dmaWrites (k a n : Nat) (fix : Bool) : Bool :=
  (fix && dstPort k == some a) ||
  (if dmaHost k then within 0x50000 0x60000 a n || within 0x2F0000 0x300000 a n
   else within 0x30000 0x40000 a n || (decide (k < 4) && within 0x60000 0x80000 a n) ||
     (k == 7 && !fix && decide (n = 256 ∧ a % 256 = 0) && within 0x120000 0x188000 a n))

/-! ### Errors, events and boundaries (R486, R492 to R494, R497, R498) -/

/-- Bit of a host channel in a group of `DMA_EVENTS` (R502). -/
def hostBit (group k : Nat) : Nat := 2 ^ (group + (k - 12))

/-- Raise bits of `DMA_EVENTS`. -/
def State.dmaRaise (mask : Nat) (s : State) : State := s.onDma fun d => { d with events := setBits d.events mask }

/-- A stopped channel: its latches are cleared, and nothing is in progress (R486). -/
def DmaCh.halted (c : DmaCh) : DmaCh := { c with run := false, latches := 0, move := none, wait := none, wrote := none }

/-- Channel k stops on an error at an instruction (R493, R494): an image channel restarts later and its route's transfer
begins again, a host channel loses its armed set. -/
def State.dmaFail (k code insn : Nat) (s : State) : State :=
  let c := (s.dc k).halted
  let c := if dmaHost k then { c with armed := none, stop := false, err := code }
    else { c with restart := true, err := code, service := c.service.map fun v => { v with pos := 0 } }
  ((s.setDc k { c with down := false }).onDma fun d => { d with
    errBits := setBits d.errBits (2 ^ k), errCh := k, errCode := code, errInsn := insn }).dmaRaise
      (if dmaHost k then hostBit 12 k else 2 ^ 16)

/-- Go to an instruction address, or stop with FETCH. DEDUCED, log entry 59. -/
def State.dmaGoto (k pc : Nat) (s : State) : State :=
  if dmaPcOk k pc then s.setDc k { s.dc k with pc := pc } else s.dmaFail k 4 pc

/-- Start a program at an address: loop counters idle, no running CRC (R477). DEDUCED, log entry 59. -/
def State.dmaBegin (k pc : Nat) (s : State) : State :=
  (s.setDc k { s.dc k with
    run := true, ctr0 := none, ctr1 := none, crc := none, move := none, wait := none, wrote := none }).dmaGoto k pc

/-- Hand an armed set over (R497). -/
def State.dmaHandOver (k : Nat) (s : State) : State :=
  match (s.dc k).armed with
  | none => s
  | some (pc, prio) => (s.setDc k { s.dc k with armed := none, prio := prio, err := 0 }).dmaBegin k pc

/-- What happens at a boundary of channel k: a switched-off domain, a stop, a hand-over (R492, R497 to R499). -/
def State.dmaBoundary (k : Nat) (s : State) : State :=
  let c := s.dc k
  if c.run && c.down then s.dmaFail k 6 c.pc
  else if c.run && c.stop then
    ((s.setDc k { c.halted with stop := false, quiet := false }).dmaRaise (if c.quiet then 0 else hostBit 20 k)).dmaHandOver k
  else s.dmaHandOver k

/-- A paced MOVE awaits its next request, or a WAIT is in progress, or the channel stands between two instructions (R492). -/
def State.atBoundary (s : State) (k : Nat) : Bool := (s.dc k).move.isNone || s.dcWaiting k

/-- Raise an event in every running channel that may wait on it (R486). -/
def State.dmaEvent (ev : Nat) (s : State) : State :=
  (List.range 16).foldl (fun t k =>
    let c := t.dc k
    let may := if ev = 36 ∨ ev = 37 then true else if ev < 16 then !dmaHost k else dmaHost k
    if c.run && may then t.setDc k { c with latches := c.latches ||| 2 ^ ev } else t) s

/-! ### Fetch (R476, R477) -/

/-- The instruction of channel k: its four words. -/
def State.dmaFetch (s : State) (k : Nat) : List Nat :=
  (List.range 4).map fun i => leNat ((List.range 4).map fun j => s.mem.sram.read ((s.dc k).pc + 4 * i + j))

/-- Run an instruction of channel k where the channel stands at one: a parity error in the fetch is DATA, an illegal
opcode OPCODE (R493); an instruction of another kind is not this command's. In Sleep the clocks of the engine stand still, and the
channels keep their state (R78, R500). -/
def State.dmaRun (k op : Nat) (f : List Nat → State → State) (s : State) : Out :=
  if 16 ≤ k then .refused .illFormed
  else
    let c := s.dc k
    if s.pwr.state ≠ .run ∨ !c.run ∨ c.move.isSome ∨ c.wait.isSome then .next s
    else if s.mem.faultIn c.pc 16 then .next ((s.sramRead c.pc 16 2).dmaFail k 8 c.pc)
    else
      let w := s.dmaFetch k
      let o := nth w 0 0 / 2 ^ 28 % 16
      if o = 0 ∨ 5 < o then .next (s.dmaFail k 1 c.pc)
      else if o = op then .next (f w s) else .next s

/-! ### MOVE (R478 to R480) -/

/-- A MOVE with its addresses and count in bytes taken from the words or the route parameters. -/
structure MoveInsn where
  src    : Nat
  dst    : Nat
  bytes  : Nat
  srcFix : Bool
  dstFix : Bool
  crc    : Nat
  init   : Bool
  paced  : Option Nat
  burst  : Nat
  deriving DecidableEq, Repr

/-- Reserved bits and fields out of range in a MOVE of channel k (R478, R485). -/
def moveIllegal (k : Nat) (w : List Nat) : Bool :=
  let w0 := nth w 0 0
  let w1 := nth w 1 0
  let w2 := nth w 2 0
  let w3 := nth w 3 0
  let paced := Word.bit w0 19
  let line := Word.bits w0 14 5
  Word.bits w0 0 10 != 0 || Word.bits w0 21 2 == 3 || decide (2 ^ 24 ≤ w1 ∨ 2 ^ 24 ≤ w2 ∨ 2 ^ 12 ≤ w3) ||
    (if paced then dmaHost k || line != k else line != 0) ||
    (Word.bit w0 25 && w1 != 0) || (Word.bit w0 24 && w2 != 0) || (Word.bit w0 23 && w3 != 0)

/-- Decode a MOVE of channel k. -/
def decodeMove (v : Option Service) (w : List Nat) : MoveInsn :=
  let w0 := nth w 0 0
  let p (f : Service → Nat) : Nat := match v with
    | none => 0
    | some v => f v
  { src := if Word.bit w0 25 then p (·.p0) else nth w 1 0, dst := if Word.bit w0 24 then p (·.p1) else nth w 2 0,
    bytes := if Word.bit w0 23 then p (·.p2) else 4 * (nth w 3 0 + 1), srcFix := Word.bit w0 27,
    dstFix := Word.bit w0 26, crc := Word.bits w0 21 2, init := Word.bit w0 20,
    paced := if Word.bit w0 19 then some (Word.bits w0 14 5) else none, burst := Word.bits w0 10 4 + 1 }

/-- The bytes that a side of a MOVE touches. -/
def spanOf (fix : Bool) (bytes : Nat) : Nat := if fix then 4 else bytes

/-- The first error of a decoded MOVE, 0 for none (R479, R480, R487, R493). DEDUCED, log entry 58. -/
def moveError (k : Nat) (c : DmaCh) (m : MoveInsn) : Nat :=
  let kindOk := m.crc == 0 || m.init || (match c.crc with
    | none => false
    | some r => r.1 == m.crc)
  if !kindOk then 9
  else if m.src % 4 ≠ 0 ∨ m.dst % 4 ≠ 0 ∨ m.bytes % 4 ≠ 0 ∨ m.bytes < 4 ∨ 16384 < m.bytes then 2
  else if dmaReads k m.src (spanOf m.srcFix m.bytes) m.srcFix && dmaWrites k m.dst (spanOf m.dstFix m.bytes) m.dstFix then 0
  else 3

/-- Start of a running CRC of a kind (R480). -/
def crcStart (kind : Nat) : Nat := if kind = 1 then 0xFFFFFFFF else 0

/-- MOVE (R479): the checks before the first burst; the words follow in the bursts.
DESIGN CHOICE, log entry 35. DEDUCED, log entry 58. -/
def State.runMove (k : Nat) (w : List Nat) (s : State) : State :=
  let c := s.dc k
  let w0 := nth w 0 0
  if moveIllegal k w then s.dmaFail k 1 c.pc
  else if dmaHost k ∧ (Word.bit w0 25 ∨ Word.bit w0 24 ∨ Word.bit w0 23) then s.dmaFail k 10 c.pc
  else
    let m := decodeMove c.service w
    let e := moveError k c m
    if e ≠ 0 then s.dmaFail k e c.pc
    else s.setDc k { c with
      crc := if m.crc ≠ 0 ∧ m.init then some (m.crc, crcStart m.crc) else c.crc,
      move := some { src := m.src, dst := m.dst, left := m.bytes / 4, srcFix := m.srcFix, dstFix := m.dstFix, crc := m.crc,
                     paced := m.paced, burst := m.burst, buf := [] } }

/-- MOVE (R479). DESIGN CHOICE, log entry 7. -/
def execDmaMove (ch : Nat) (s : State) : Out := s.dmaRun ch 1 (State.runMove ch)

/-! ### LOOP, WAIT (R481, R482) -/

/-- LOOP (R481). -/
def State.runLoop (k : Nat) (w : List Nat) (s : State) : State :=
  let c := s.dc k
  let w0 := nth w 0 0
  let target := nth w 1 0
  let repeat_ := w0 % 65536
  if Word.bits w0 16 11 ≠ 0 ∨ repeat_ = 0 ∨ 2 ^ 24 ≤ target ∨ nth w 2 0 ≠ 0 ∨ nth w 3 0 ≠ 0 ∨ c.pc < target then
    s.dmaFail k 1 c.pc
  else
    let one := Word.bit w0 27
    let n := ((if one then c.ctr1 else c.ctr0)).getD (repeat_ - 1)
    let next : Option Nat := if 0 < n then some (n - 1) else none
    let c1 := if one then { c with ctr1 := next } else { c with ctr0 := next }
    ((s.setDc k c1).dmaGoto k (if 0 < n then target else c.pc + 16)).dmaBoundary k

/-- LOOP (R481). -/
def execDmaLoop (ch : Nat) (s : State) : Out := s.dmaRun ch 2 (State.runLoop ch)

/-- A channel may wait on a line or an event (R485, R486). -/
def mayWait (k : Nat) (event : Bool) (num : Nat) : Bool :=
  if event then (num == 36 || num == 37 || (if dmaHost k then decide (16 ≤ num ∧ num < 36) else decide (num < 16)))
  else !dmaHost k && num == k

/-- WAIT (R482): the wait begins. -/
def State.runWait (k : Nat) (w : List Nat) (s : State) : State :=
  let c := s.dc k
  let w0 := nth w 0 0
  let event := Word.bit w0 27
  let num := Word.bits w0 21 6
  if Word.bits w0 0 21 ≠ 0 ∨ 2 ^ 16 ≤ nth w 1 0 ∨ nth w 2 0 ≠ 0 ∨ nth w 3 0 ≠ 0 ∨ !mayWait k event num then
    s.dmaFail k 1 c.pc
  else (s.setDc k { c with wait := some (s.meas.tick, event, num, nth w 1 0) }).dmaBoundary k

/-- WAIT (R482). -/
def execDmaWait (ch : Nat) (s : State) : Out := s.dmaRun ch 3 (State.runWait ch)

/-- What a channel waits for has come (R482). -/
def State.waitMet (s : State) (k : Nat) : Bool :=
  match (s.dc k).wait with
  | none => false
  | some (_, event, num, _) => if event then Word.bit (s.dc k).latches num else nth s.dma.prq num 0 != 0

/-- DMA_WAIT_COMPLETE (R482): an event's latch is cleared; a request is not consumed. -/
def execDmaWaitComplete (ch : Nat) (s : State) : Out :=
  if 16 ≤ ch then .refused .illFormed
  else
    let c := s.dc ch
    match c.wait with
    | none => .next s
    | some (_, event, num, _) =>
      if s.pwr.state ≠ .run ∨ !s.waitMet ch then .next s
      else
        let c1 := { c with wait := none, latches := if event then clearBit c.latches num else c.latches }
        .next (((s.setDc ch c1).dmaGoto ch (c.pc + 16)).dmaBoundary ch)

/-- DMA_WAIT_TIMEOUT (R482). -/
def execDmaWaitTimeout (ch : Nat) (s : State) : Out :=
  if 16 ≤ ch then .refused .illFormed
  else
    let c := s.dc ch
    match c.wait with
    | none => .next s
    | some (since, _, _, t) =>
      if s.pwr.state = .run ∧ t ≠ 0 ∧ since + t ≤ s.meas.tick ∧ !s.waitMet ch then .next (s.dmaFail ch 5 c.pc) else .next s

/-! ### Confirmation, SIGNAL and END (R480, R483, R484, R489) -/

/-- Mark the record of a route as confirmed. -/
def landFly (k : Nat) (l : List (Nat × Bool)) : List (Nat × Bool) := l.map fun e => if e.1 = k then (k, true) else e

/-- A capture record has been written and read back (R210, R217, R461): NEXT and COUNT advance past every record of the ring's order that
is complete. A record that was in flight at a LINK reset counts in WRITTEN only. DEDUCED, log entry 160. -/
def State.publish (n k : Nat) (s : State) : State :=
  (s.onFlow n fun f => { f with capWritten := (f.capWritten + 1) % 65536 }).onHl fun h =>
    let l := landFly k h.fly
    let m := (l.takeWhile (·.2)).length
    { h with
      next := (h.next + m) % 42, count := (h.count + m) % 65536, fly := l.drop m,
      events := if m = 0 then h.events else setBits h.events (2 ^ 19) }

/-- The last word of a route's transfer has been confirmed. -/
def State.transferLanded (k a : Nat) (s : State) : State :=
  match (s.dc k).service with
  | none => s
  | some v =>
    if v.landed ∨ a + 4 ≠ v.p1 + v.p2 ∨ v.pos < v.src.length then s
    else
      let s1 := s.setDc k { s.dc k with service := some { v with landed := true } }
      if v.ch = 0 then s1 else s1.publish v.ch k

/-- How a confirmation goes (R489). -/
inductive Confirm where
  | passed | waits | failed
  deriving DecidableEq, Repr

/-- Confirm the last word written; `ack` tells whether a port acknowledges it within 1 ms. -/
def State.confirm (k : Nat) (ack : Bool) (s : State) : Confirm × State :=
  let c := s.dc k
  match c.wrote with
  | none => (.passed, s)
  | some (a, v) =>
    let done := (s.setDc k { c with wrote := none }).transferLanded k a
    if 0x600000 ≤ a then (if c.down || !ack then .failed else .passed, done)
    else if 0x100000 ≤ a ∧ a < 0x2F0000 ∧ s.mem.queue.any fun r => decide (r.addr ≤ a ∧ a < r.addr + 256) then (.waits, s)
    else
      let m := if a < 0x80000 then s.mem.sram else s.mem.hoard
      (if m.readLE a 4 = v then .passed else .failed, done)

/-- Take f once the confirmation has passed. -/
def State.confirmed (k : Nat) (ack : Bool) (f : State → State) (s : State) : State :=
  match s.confirm k ack with
  | (.passed, t) => f t
  | (.waits, t) => t
  | (.failed, t) => t.dmaFail k 7 (s.dc k).pc

/-- SIGNAL (R483). -/
def State.runSignal (k : Nat) (ack : Bool) (w : List Nat) (s : State) : State :=
  let c := s.dc k
  let w0 := nth w 0 0
  let kind := Word.bits w0 26 2
  let ev := Word.bits w0 20 6
  let evOk := if dmaHost k then decide (16 ≤ ev ∧ ev < 32) else decide (ev < 16)
  let ok := if kind = 0 then evOk else dmaHost k && decide (kind < 3) && ev == 0
  if Word.bits w0 0 20 ≠ 0 ∨ nth w 1 0 ≠ 0 ∨ nth w 2 0 ≠ 0 ∨ nth w 3 0 ≠ 0 ∨ !ok then s.dmaFail k 1 c.pc
  else s.confirmed k ack fun t =>
    let t1 := if kind = 0 then t.dmaEvent ev else t.dmaRaise (hostBit (4 * kind) k)
    (t1.dmaGoto k (c.pc + 16)).dmaBoundary k

/-- SIGNAL (R483). -/
def execDmaSignal (ch : Nat) (ack : Bool) (s : State) : Out := s.dmaRun ch 4 (State.runSignal ch ack)

/-- Write one word where a channel may write (R487, R488). -/
def State.dmaStore (a v : Nat) (s : State) : State :=
  if a < 0x80000 then s.sramWrite a (le 4 v) else if 0x2F0000 ≤ a ∧ a < 0x300000 then s.scratchWrite a (le 4 v) else s

/-- A write to an address would be a new HOARD write, which the VBAT_NVW inhibit holds back (R46, R48).
DEDUCED, log entry 141. -/
def State.heldBack (s : State) (a : Nat) : Bool := s.pwr.nvInhibit && decide (0x2F0000 ≤ a ∧ a < 0x300000)

/-- The value that END stores of a running CRC (R480, R484). -/
def crcFinal (kind reg : Nat) : Nat := if kind = 1 then reg ^^^ 0xFFFFFFFF else reg ^^^ 0xFFFF

/-- The display service loads the transfer of at most 100 rows from a row on, and requests its first burst (R516).
DESIGN CHOICE, log entry 36. -/
def State.lineService (row : Nat) (s : State) : State :=
  let rows := match s.img.image with
    | none => 0
    | some im => match im.display with
      | none => 0
      | some d => min 100 (d.rows - row)
  if rows = 0 then s
  else
    let v : Service :=
      { p0 := 0x40000 + 160 * row, p1 := 0, p2 := 160 * rows, p3 := 0, src := [], pos := 0, ch := 0, landed := false }
    (s.setDc 6 { s.dc 6 with service := some v }).request 6

/-- The route's service ends its transfer at an END (R485, R495); the display's goes on with the next rows (R516).
DESIGN CHOICE, log entry 36. DEDUCED, log entry 62. -/
def State.endService (k : Nat) (s : State) : State :=
  match (s.dc k).service with
  | none => s
  | some v =>
    let s1 := (s.setDc k { s.dc k with service := none }).onDma fun d => { d with prq := updAt d.prq k (· - 1) }
    if k = 6 then s1.lineService ((v.p0 + v.p2 - 0x40000) / 160) else s1

/-- What END does after its store: chain or stop (R484). -/
def State.finish (k next : Nat) (chain : Bool) (s : State) : State :=
  let s1 := if dmaHost k then s else s.endService k
  if chain then
    let c := s1.dc k
    ((s1.setDc k { c with ctr0 := none, ctr1 := none, crc := none }).dmaGoto k next).dmaBoundary k
  else
    let s2 := s1.setDc k { (s1.dc k).halted with stop := false }
    (if dmaHost k then s2.dmaRaise (hostBit 0 k) else s2).dmaBoundary k

/-- END (R484). -/
def State.runEnd (k : Nat) (ack : Bool) (w : List Nat) (s : State) : State :=
  let c := s.dc k
  let w0 := nth w 0 0
  let chain := Word.bit w0 27
  let store := Word.bits w0 25 2
  let par := Word.bit w0 24
  let next := nth w 1 0
  let addr := nth w 2 0
  if Word.bits w0 0 24 ≠ 0 ∨ store = 3 ∨ 2 ^ 24 ≤ next ∨ 2 ^ 24 ≤ addr ∨ nth w 3 0 ≠ 0 ∨ (!chain ∧ next ≠ 0) ∨
    ((par ∨ store = 0) ∧ addr ≠ 0) then s.dmaFail k 1 c.pc
  else if par ∧ dmaHost k then s.dmaFail k 10 c.pc
  else if chain ∧ !dmaPcOk k next then s.dmaFail k 4 next
  else s.confirmed k ack fun t =>
    if store = 0 then t.finish k next chain
    else match c.crc with
      | none => t.dmaFail k 9 c.pc
      | some (kind, reg) =>
        let a := if par then (match c.service with
          | none => 0
          | some v => v.p3) else addr
        if kind ≠ store then t.dmaFail k 9 c.pc
        else if a % 4 ≠ 0 then t.dmaFail k 2 c.pc
        else if !dmaWrites k a 4 false then t.dmaFail k 3 c.pc
        else if t.heldBack a then t
        else (t.dmaStore a (crcFinal kind reg)).finish k next chain

/-- END (R484). -/
def execDmaEnd (ch : Nat) (ack : Bool) (s : State) : Out := s.dmaRun ch 5 (State.runEnd ch ack)

/-! ### Bursts (R490, R491) -/

/-- A port's address. -/
def isPort (a : Nat) : Bool := decide (0x600000 ≤ a)

/-- An address lies in the domain that was switched off under a MOVE: the port's where the MOVE uses one, else HOARD's, else
that of SRAM (R499). DEDUCED, log entry 57. -/
def MoveRun.offAt (m : MoveRun) (a : Nat) : Bool :=
  let hoard (a : Nat) : Bool := decide (0x100000 ≤ a ∧ a < 0x300000)
  if isPort m.src || isPort m.dst then isPort a else if hoard m.src || hoard m.dst then hoard a else decide (a < 0x80000)

/-- Read the next word of channel k's MOVE: a port gives the route's words, and a free value once it has none; a domain
that was switched off reads 0 (R495, R499). DESIGN CHOICE, log entry 36. -/
def State.dmaLoad (k : Nat) (m : MoveRun) (s : State) : Nat × State :=
  let c := s.dc k
  let a := m.src
  if c.down && m.offAt a then (0, s)
  else if isPort a then
    match c.service with
    | none => let d := s.draw; (leNat ((List.range 4).map fun i => Config.sramByte d.1 (a + i)), d.2)
    | some v => (fieldAt v.src v.pos 4, s.setDc k { c with service := some { v with pos := v.pos + 4 } })
  else
    let r := s.mapRead a 4 2
    (leNat r.1, r.2)

/-- Carry one word into a running CRC. -/
def crcWord (kind reg v : Nat) : Nat :=
  if kind = 1 then ((le 4 v).foldl crc32Byte (BitVec.ofNat 32 reg)).toNat
  else (crc16 0x3D65#16 (BitVec.ofNat 16 reg) (le 4 v)).toNat

/-- Write a word of channel k's MOVE; what DC7 moves gathers into one record (R488), and a domain that was switched off takes no write (R499). -/
def State.dmaPut (k : Nat) (m : MoveRun) (v : Nat) (s : State) : State :=
  let c := s.dc k
  if c.down && m.offAt m.dst then s
  else
    let s1 := s.setDc k { c with wrote := some (m.dst, v) }
    if 0x100000 ≤ m.dst ∧ m.dst < 0x2F0000 then
      let buf := m.buf ++ le 4 v
      if m.left = 1 then s1.enqueue { kind := .raw (m.dst + 4 - buf.length), body := buf } else s1
    else s1.dmaStore m.dst v

/-- Move up to n words of channel k; on a read error the channel stops with DATA. -/
def State.dmaWords (n k : Nat) (s : State) : State :=
  match n with
  | 0 => s
  | j + 1 =>
    match (s.dc k).move with
    | none => s
    | some m =>
      if !((s.dc k).down && m.offAt m.src) && s.mem.faultIn m.src 4 then (s.mapRead m.src 4 2).2.dmaFail k 8 (s.dc k).pc
      else
        let r := s.dmaLoad k m
        let s1 := r.2.dmaPut k m r.1
        let c := s1.dc k
        let crc := if m.crc = 0 then c.crc else c.crc.map fun x => (x.1, crcWord x.1 x.2 r.1)
        let m1 := { m with
          src := if m.srcFix then m.src else m.src + 4, dst := if m.dstFix then m.dst else m.dst + 4, left := m.left - 1,
          buf := if m.dst < 0x100000 ∨ 0x2F0000 ≤ m.dst then [] else m.buf ++ le 4 r.1 }
        let s2 := s1.setDc k { c with crc := crc, move := if m1.left = 0 then none else some m1 }
        State.dmaWords j k s2

/-- Channel k has a burst ready (R491): in Run, a MOVE that neither awaits a request nor the release of the inhibit.
DEDUCED, log entry 141. -/
def State.burstReady (s : State) (k : Nat) : Bool :=
  decide (s.pwr.state = .run) && (s.dc k).run && !s.dcWaiting k && (match (s.dc k).move with
    | none => false
    | some m => !s.heldBack m.dst)

/-- The channel granted next: the highest priority with a ready burst, round robin within it (R491).
DESIGN CHOICE, log entry 35. -/
def State.grantNext (s : State) : Option (Nat × Nat) :=
  [3, 2, 1, 0].findSome? fun p =>
    let last := nth s.dma.granted p 15
    let order := (List.range 16).map fun i => (last + 1 + i) % 16
    (order.find? fun k => s.burstReady k && (s.dc k).prio == p).map fun k => (p, k)

/-- One burst of channel k: a paced one consumes a request (R479, R485). The display service asks for the next burst of its
transfer as the line buffers take one (R516), so that its count stays while words are left. -/
def State.dmaBurstOf (k : Nat) (s : State) : State :=
  match (s.dc k).move with
  | none => s
  | some m =>
    let s1 := s.dmaWords m.burst k
    let more := k == 6 && (s1.dc k).move.isSome
    let s2 := match m.paced with
      | none => s1
      | some l => if more then s1 else s1.onDma fun d => { d with prq := updAt d.prq l (· - 1) }
    let c := s2.dc k
    if !c.run then s2
    else if c.move.isNone then (s2.dmaGoto k (c.pc + 16)).dmaBoundary k
    else if s2.atBoundary k && (c.stop || c.armed.isSome || c.down) then s2.dmaBoundary k
    else s2

/-- DMA_BURST (R490): the next burst is granted and moved. DESIGN CHOICE, log entry 35. -/
def execDmaBurst (s : State) : Out :=
  match s.grantNext with
  | none => .next s
  | some (p, k) => .next ((s.onDma fun d => { d with granted := updAt d.granted p fun _ => k }).dmaBurstOf k)

/-! ### Restart, power, arming and stopping (R494, R497 to R499, R504, R505) -/

/-- The DMAPROG entry of an image channel (R128). -/
def State.dmaEntry (s : State) (k : Nat) : Option DmaStart :=
  match s.img.image with
  | none => none
  | some im => im.dma[k]?

/-- Start an image channel at its START, with its PRIO, if it is enabled. -/
def State.dmaStart (k : Nat) (s : State) : State :=
  match s.dmaEntry k with
  | none => s
  | some e => if e.en then (s.setDc k { s.dc k with prio := e.prio % 4, restart := false }).dmaBegin k e.start else s

/-- DMA_IMAGE_RESTART (R494): 1 ms after an error. -/
def execDmaImageRestart (ch sinceUs : Nat) (s : State) : Out :=
  if 16 ≤ ch then .refused .illFormed
  else if s.pwr.state = .run ∧ (s.dc ch).restart ∧ 1000 ≤ sinceUs then .next ((s.setDc ch { s.dc ch with restart := false }).dmaStart ch) else .next s

/-- DMA_DOMAIN_HOLD_TIMEOUT (R499): the domain that the channel's MOVE or its wait on a request line uses is switched off after
2 ms. At a boundary point the channel stops at once. -/
def execDmaDomainHoldTimeout (ch heldUs : Nat) (s : State) : Out :=
  if 16 ≤ ch then .refused .illFormed
  else
    let c := s.dc ch
    let onLine := match c.wait with
      | none => false
      | some (_, event, _, _) => !event
    if !c.run ∨ (c.move.isNone ∧ !onLine) ∨ (heldUs < 2000 ∧ !s.atBoundary ch) then .next s
    else
      let s1 := s.setDc ch { c with down := true }
      .next (if s1.atBoundary ch then s1.dmaBoundary ch else s1)

/-- Execute a write to `DMA_Hn_CTRL` (R497, R505). -/
def State.dmaCtrlWrite (k v : Nat) (s : State) : State :=
  let c := s.dc k
  let prio := min 1 (Word.bits v 1 2)
  let c1 := { c with stagePrio := prio }
  if Word.bit v 0 then
    let s1 := s.setDc k { c1 with armed := some (c1.stagePc, prio) }
    if !c.run ∨ s1.atBoundary k then s1.dmaBoundary k else s1
  else s.setDc k c1

/-- Execute a write to `DMA_STOP` (R498, R504). -/
def State.dmaStopWrite (v : Nat) (s : State) : State :=
  [12, 13, 14, 15].foldl (fun t k =>
    let c := t.dc k
    if Word.bit v k && c.run then
      let t1 := t.setDc k { c with stop := true, quiet := false, armed := none }
      if t1.atBoundary k then t1.dmaBoundary k else t1
    else t) s

/-- Every channel stops and its sets are cleared (R500): Deep Sleep, WARM and COLD resets. -/
def State.dmaStopAll (s : State) : State := s.onDma fun d => { d with
  chs := Vector.replicate 16 DmaCh.reset, prq := List.replicate 12 0 }

/-- At the first tick the enabled image channels start (R128, R500). DEDUCED, log entry 113. -/
def State.dmaStartAll (s : State) : State := (List.range 12).foldl (fun t k => t.dmaStart k) s

/-- What a LINK reset does to DC12 to DC15 (R98, R498): stopped at their next boundary without STOPPED, sets cleared. -/
def State.dmaLinkReset (s : State) : State :=
  [12, 13, 14, 15].foldl (fun t k =>
    let c := { t.dc k with stagePc := 0, stagePrio := 0, armed := none }
    if t.atBoundary k then t.setDc k { c.halted with stop := false } else t.setDc k { c with stop := true, quiet := true }) s

end Sys2Proof.Machine
end

