-- ==== Sys2Proof/Machine/Compose.lean ====
section
/-! DEFINITION. The composer (R518 to R521): values and their text, what a region and a ROM screen show, and pixels (R506,
R515). -/

namespace Sys2Proof.Machine

/-! ### Values and text (R519, R520) -/

/-- A source's value: a number in its unit, a text, or nothing. -/
inductive SrcValue where
  | number (v : Rat)
  | text (t : List Byte)
  | missing
  deriving DecidableEq, Repr

/-- The kinds of unit that R520 converts. -/
inductive SrcUnit where
  | energy | volume | temp | power | flow | plain
  deriving DecidableEq, Repr

/-- The unit of the main quantity of a channel type (R519). -/
def mainUnit (t : ChType) : SrcUnit := if t = .water then .volume else .energy

/-- The unit of a source for a channel type. -/
def srcUnit (t : ChType) (src : Nat) : SrcUnit :=
  if src = 1 ∨ src = 2 ∨ src = 6 ∨ (0x10 ≤ src ∧ src ≤ 0x17) ∨ src = 0x1A then .energy
  else if 3 ≤ src ∧ src ≤ 5 then .volume
  else if src = 0x18 ∨ src = 0x19 ∨ src = 0x30 ∨ src = 0x31 then mainUnit t
  else if src = 0x20 ∨ src = 0x26 then .flow
  else if 0x21 ≤ src ∧ src ≤ 0x23 then .temp
  else if src = 0x24 ∨ src = 0x25 then .power
  else .plain

/-- The factor of a UNIT code for a unit; none where it does not fit (R520). -/
def unitFactor (u : SrcUnit) (code : Nat) : Option Rat :=
  match code, u with
  | 0, _ => some 1
  | 1, .energy => some (1 / 1000)
  | 2, .energy => some (1 / 1000000)
  | 3, .energy => some (36 / 10000000)
  | 4, .volume => some (1 / 1000)
  | 5, .volume => some (1 / 1000000)
  | 6, .temp => some (1 / 10000)
  | 7, .power => some (1 / 10000)
  | 8, .flow => some (1 / 1000)
  | 9, .flow => some (1 / 1000000)
  | _, _ => none

/-- n decimal digits of a number. -/
def digitsN (n v : Nat) : List Byte :=
  match n with
  | 0 => []
  | k + 1 => digitsN k (v / 10) ++ [BitVec.ofNat 8 (48 + v % 10)]

/-- How many decimal digits a number has, at least 1, within a bound. -/
def digitCount (n v : Nat) : Nat :=
  match n with
  | 0 => 1
  | k + 1 => if v < 10 then 1 else 1 + digitCount k (v / 10)

/-- A number without leading zeros. -/
def digits (v : Nat) : List Byte := digitsN (digitCount 40 v) v

/-- A value truncated toward zero at its decimals (R520). -/
def numberText (decimals : Nat) (v : Rat) : List Byte :=
  let z := ratTrunc (v * (10 ^ decimals : Nat))
  let m := z.natAbs
  let sign : List Byte := if z < 0 then ascii ['-'] else []
  let frac : List Byte := if decimals = 0 then [] else ascii ['.'] ++ digitsN decimals (m % 10 ^ decimals)
  sign ++ digits (m / 10 ^ decimals) ++ frac

/-- A text right-aligned in a width, or width '#' characters (R520). -/
def fitText (width : Nat) (t : List Byte) : List Byte :=
  if width < t.length then List.replicate width 0x23#8 else List.replicate (width - t.length) 0x20#8 ++ t

/-- A local date as YYYY-MM-DD. -/
def dateText (rule : Bool) (count : Nat) : List Byte :=
  let d := dateOf (localTime rule count / 86400)
  digitsN 4 d.y ++ ascii ['-'] ++ digitsN 2 d.m ++ ascii ['-'] ++ digitsN 2 d.d

/-- A local time as HH:MM. -/
def clockText (rule : Bool) (count : Nat) : List Byte :=
  let t := localTime rule count % 86400
  digitsN 2 (t / 3600) ++ ascii [':'] ++ digitsN 2 (t / 60 % 60)

/-- The main quantity of a snapshot entry (R301, R519), in its unit. -/
def snapMain (t : ChType) (d : List Byte) : Rat :=
  let i := match t with
    | .cool => 1
    | .water => 10
    | .heat | .heatcool | .gas | .off => 0
  ((fieldAt d (0x28 + 8 * i) 8 : Nat) : Rat) / 65536

/-- The newest valid snapshot of a kind of channel n, in HOARD (R519). -/
def State.newestOf (n : Nat) (annual : Bool) (s : State) : Option (List Byte) :=
  match (s.mem.snapTop n (if annual then 2 else 1)).1 with
  | none => none
  | some k => s.snapEntry n k annual

/-- The value of a source for a channel, 0 for the module (R519). -/
def State.sourceValue (n src : Nat) (s : State) : SrcValue :=
  let w := s.committed n
  let c := s.ch n
  let tot (v : Nat) : SrcValue := .number ((v : Rat) / (2 ^ 32 : Nat))
  let th (t : Option Int) : SrcValue := match t with
    | none => .missing
    | some v => .number v
  let b (x : Bool) : SrcValue := .number (Word.ofBool x : Nat)
  let t := (s.cfg n).type
  match src with
  | 1 => tot w.eHeat
  | 2 => tot w.eCool
  | 3 => tot w.vFwd
  | 4 => tot w.vRev
  | 5 => tot w.vBase
  | 6 => tot w.eGas
  | 0x18 => tot w.eCond1
  | 0x19 => tot w.eCond2
  | 0x1A => tot w.eSubst
  | 0x20 => .number c.shown.flow
  | 0x21 => th c.shown.tempS
  | 0x22 => th c.shown.tempR
  | 0x23 => match c.shown.tempS, c.shown.tempR with
    | some x, some y => .number (x - y)
    | _, _ => .missing
  | 0x24 => .number c.shown.power
  | 0x25 => .number (c.a.bill.maxP : Nat)
  | 0x26 => .number (c.a.bill.maxQ : Nat)
  | 0x27 => .number (c.a.bill.tariffNext : Nat)
  | 0x28 => .number (Word.satInt 134217727 (divTrunc c.a.credit.credit 65536))
  | 0x30 => match s.newestOf n true with
    | none => .missing
    | some d => .number (snapMain t d)
  | 0x31 => match s.newestOf n false with
    | none => .missing
    | some d => .number (snapMain t d)
  | 0x32 => match s.newestOf n true with
    | none => .missing
    | some d => .text (dateText s.dst (fieldAt d 0xC 5))
  | 0x40 => .text (dateText s.dst s.rtc.count)
  | 0x41 => .text (clockText s.dst s.rtc.count)
  | 0x50 => b (if n = 0 then allCh.any s.chFault else s.chFault n)
  | 0x51 => b (if n = 0 then s.moduleAlarms != 0 else s.chAlarms n != 0)
  | 0x52 => b s.pwr.onCell
  | 0x53 => b s.rtc.osf
  | x => if 0x10 ≤ x ∧ x < 0x14 then tot (nth w.eHeatT (x - 0x10) 0)
    else if 0x14 ≤ x ∧ x < 0x18 then tot (nth w.eCoolT (x - 0x14) 0)
    else .missing

/-! ### Fields, regions and screens (R518, R522) -/

/-- What a field renders: its characters; for an icon its code, or nothing while its source is 0. -/
def State.fieldText (f : FieldDef) (s : State) : List Byte :=
  let v := s.sourceValue f.channel f.source
  if f.kind = 1 then f.text.takeWhile (· != 0#8)
  else if f.kind = 2 then
    let width := f.format / 16 % 16
    match v with
    | .missing => fitText width (ascii ['-', '-', '-', '-'])
    | .text t => fitText width t
    | .number x =>
      fitText width (numberText (f.format % 16) (x * (unitFactor (srcUnit (s.cfg f.channel).type f.source) f.unit).getD 1))
  else if f.source = 0 ∨ (v ≠ .number 0 ∧ v ≠ .missing) then f.text.take 1
  else []

/-- The font cell: width and height (R518). DESIGN CHOICE, log entry 14. -/
def fontCell (font : Nat) : Nat × Nat :=
  match font with
  | 0 => (6, 8)
  | 1 => (8, 16)
  | 2 => (12, 24)
  | _ => (16, 32)

/-- The DISPLAY section in force. -/
def State.dispCfg (s : State) : Option DisplayCfg :=
  match s.img.image with
  | none => none
  | some im => im.display

/-- The fields of screen k. -/
def DisplayCfg.screenFields (d : DisplayCfg) (k : Nat) : List FieldDef :=
  match d.screens[k]? with
  | none => []
  | some (first, n) => (d.fields.drop first).take n

/-- What region r shows on screen k: place, font and text of each of its fields (R521). -/
def State.regionText (d : DisplayCfg) (k r : Nat) (s : State) : List Byte :=
  ((d.screenFields k).filter fun f => f.region == r).flatMap fun f =>
    let t := s.fieldText f
    le 2 f.x ++ le 2 f.y ++ le 1 f.font ++ le 1 f.kind ++ le 1 t.length ++ t

/-- `MIR_LAST_SEQ` (R564): SEQ of the last frame received in order. -/
def State.mirSeq (s : State) : Nat := s.pair.rxSeq % 2 ^ 32

/-- What a ROM screen shows (R139, R141, R528). -/
def State.romText (id : Nat) (s : State) : List Byte :=
  let m := s.img.module_
  match id with
  | 1 => le 4 m.pcc ++ le 5 m.lastLTime ++ m.digest.take 4
  | 2 => le 1 s.img.result ++ le 1 s.img.section_
  | _ => le 8 s.otp.serial ++ le 4 s.mirStatus ++ le 4 s.mirSeq

/-! ### Pixels (R506, R515, R518) -/

/-- A field has ink at a place. DESIGN CHOICE, log entry 14. -/
def State.fieldInk (f : FieldDef) (t : List Byte) (x y : Nat) : Bool :=
  if x < f.x ∨ y < f.y then false
  else
    let dx := x - f.x
    let dy := y - f.y
    if f.kind = 3 then decide (dx < 16 ∧ dy < 16) && !t.isEmpty && Config.icon (fieldAt t 0 1) dx dy
    else
      let c := fontCell f.font
      match t[dx / c.1]? with
      | none => false
      | some ch => decide (dy < c.2) && Config.glyph f.font ch.toNat (dx % c.1) dy

/-- The level of a pixel of region r on screen k: 0 where a field has ink, else 3. -/
def regionPixel (fs : List (FieldDef × List Byte)) (x y : Nat) : Nat :=
  if fs.any fun e => State.fieldInk e.1 e.2 x y then 0 else 3

/-- Four pixels as a byte. -/
def pixelByte (f : Nat → Nat) (x : Nat) : Byte :=
  BitVec.ofNat 8 (f x + 4 * f (x + 1) + 16 * f (x + 2) + 64 * f (x + 3))

/-- Address of the byte that holds pixel (x, y): in the current buffer, or in the target buffer (R515). -/
def bufAddr (target : Bool) (x y : Nat) : Nat := 0x40000 + 160 * y + (if target then 80 else 0) + x / 4

/-- Render an area into the target buffer. -/
def State.renderArea (x y w h : Nat) (f : Nat → Nat → Nat) (s : State) : State :=
  (List.range h).foldl (fun t j => t.sramWrite (bufAddr true x (y + j))
    ((List.range (w / 4)).map fun i => pixelByte (fun px => f px (y + j)) (x + 4 * i))) s

/-- Copy an area of the target buffer into the current one (R526). -/
def State.copyArea (x y w h : Nat) (s : State) : State :=
  (List.range h).foldl (fun t j =>
    t.sramWrite (bufAddr false x (y + j)) (t.mem.sram.readBytes (bufAddr true x (y + j)) (w / 4))) s

/-- Render region r of screen k. -/
def State.renderRegion (d : DisplayCfg) (k r : Nat) (s : State) : State :=
  match d.regions[r]? with
  | none => s
  | some g =>
    let fs := ((d.screenFields k).filter fun f => f.region == r).map fun f => (f, s.fieldText f)
    s.renderArea g.x g.y g.w g.h (regionPixel fs)

/-- A level that the panel can show: with GREY 1 levels 0 and 3 alone (R506). -/
def DisplayCfg.level (d : DisplayCfg) (v : Nat) : Nat := if d.grey = 1 then 3 * (v % 2) else v % 4

/-- Render a ROM screen. DESIGN CHOICE, log entry 14. -/
def State.renderRom (d : DisplayCfg) (id : Nat) (s : State) : State :=
  s.renderArea 0 0 d.cols d.rows fun x y => d.level (Config.romPixel id (s.romText id) x y)

end Sys2Proof.Machine
end

