-- ==== Sys2Proof/Machine/Display.lean ====
section
/-! DEFINITION. The display (R506 to R536): requests, admission, updates frame by frame, rails, the full refresh, the ROM
screens and the dirty map. -/

namespace Sys2Proof.Machine

/-! ### Areas and durations -/

/-- Raise bits of `DSP_EVENTS`. -/
def State.dispRaise (mask : Nat) (s : State) : State := s.onDisp fun d => { d with events := setBits d.events mask }

/-- The area of a target: left, top, width, height (R523). -/
def DisplayCfg.area (c : DisplayCfg) (t : Target) : Nat × Nat × Nat × Nat :=
  match t with
  | .region r => match c.regions[r]? with
    | none => (0, 0, 0, 0)
    | some g => (g.x, g.y, g.w, g.h)
  | .rom | .refresh _ => (0, 0, c.cols, c.rows)

/-- Two targets overlap. -/
def DisplayCfg.overlap (c : DisplayCfg) (t u : Target) : Bool :=
  let a := c.area t
  let b := c.area u
  decide (a.1 < b.1 + b.2.2.1 ∧ b.1 < a.1 + a.2.2.1 ∧ a.2.1 < b.2.1 + b.2.2.2 ∧ b.2.1 < a.2.1 + a.2.2.2)

/-- Two targets are one for R523: a region, or the pseudo-region DRP, or a full refresh of any cause (R527). -/
def Target.same (t u : Target) : Bool :=
  match t, u with
  | .refresh _, .refresh _ => true
  | a, b => a == b

/-- The waveform range for the temperature in use (R514): the first below whose T_HIGH it lies, else range 7. -/
def State.waveRange (s : State) : Nat :=
  match s.img.image with
  | none => 0
  | some im => min 7 (im.waves.findIdx fun w => decide (s.disp.temp < w.high))

/-- Frames of an update in a waveform range (R526). -/
def State.framesOf (s : State) (range : Nat) (clean : Bool) : Nat :=
  match s.img.image with
  | none => 0
  | some im => match im.waves[range]? with
    | none => 0
    | some w => if clean then w.clean.length else w.upd.length

/-- Regions that hold a row, as a map of dirty bits. -/
def DisplayCfg.rowMask (c : DisplayCfg) (row : Nat) : Nat :=
  ((c.regions.zipIdx.filter fun g => decide (g.1.y ≤ row ∧ row < g.1.y + g.1.h)).map fun g => 2 ^ g.2).foldl (· ||| ·) 0

/-- The dirty bit of a target (R531). -/
def Target.dirtyBit (t : Target) : Nat :=
  match t with
  | .region r => 2 ^ r
  | .rom | .refresh _ => 2 ^ 16

/-- Commit the DISPLAY record (R531). -/
def State.commitDirty (flags : Nat) (s : State) : State :=
  s.enqueue { kind := .slots 0x260000 0x260040, body := le 4 s.disp.dirty ++ le 1 flags ++ zeros 3 ++ le 5 s.rtc.count ++ zeros 35 }

/-! ### Texts -/

/-- What a target is known to show or to be about to show. -/
def Disp.textOf (d : Disp) (key : Nat) : Option (List Byte) := (d.texts.find? fun e => e.1 == key).map (·.2)

/-- Remember a text. -/
def Disp.setText (d : Disp) (key : Nat) (t : List Byte) : Disp :=
  { d with texts := (key, t) :: d.texts.filter fun e => e.1 != key }

/-- The texts after a target is rendered: a region's; every region's by a full refresh of a screen; the ROM screen's, which
covers the regions, under the key 16. -/
def State.noteText (c : DisplayCfg) (t : Target) (s : State) : State :=
  let all := (List.range c.regions.length).map fun r => (r, s.regionText c s.disp.screen r)
  let rom := [(16, s.romText s.disp.rom)]
  match t with
  | .region r => s.onDisp fun d => d.setText r (s.regionText c d.screen r)
  | .rom => s.onDisp fun d => { d with texts := rom }
  | .refresh _ => s.onDisp fun d => { d with texts := if d.rom = 0 then all else rom }

/-- Render a target as things stand (R523, R527). -/
def State.renderTarget (c : DisplayCfg) (t : Target) (s : State) : State :=
  let s1 := s.noteText c t
  match t with
  | .region r => s1.renderRegion c s1.disp.screen r
  | .rom => s1.renderRom c s1.disp.rom
  | .refresh _ =>
    if s1.disp.rom = 0 then (List.range c.regions.length).foldl (fun u r => u.renderRegion c u.disp.screen r) s1
    else s1.renderRom c s1.disp.rom

/-! ### Requests and admission (R523 to R525) -/

/-- A request as it is made. -/
def Update.ask (t : Target) (why : Why) (unknown clean : Bool) : Update :=
  { target := t, why := why, unknown := unknown, clean := clean, frame := 0, frames := 0, stop := 0, range := 0,
    rendered := false, started := false }

/-- Hold a request: one per target; a second full refresh is not made before the first has started (R527). -/
def Disp.hold (u : Update) (d : Disp) : Disp :=
  if u.isRefresh && (d.held ++ d.updates.filter fun v => !v.started).any Update.isRefresh then d
  else if d.held.any fun v => v.target.same u.target then
    { d with held := d.held.map fun v => if v.target.same u.target then { u with why := if v.why = .screen then .screen else u.why } else v }
  else { d with held := d.held ++ [u] }

/-- Hold a request. -/
def State.ask (u : Update) (s : State) : State := s.onDisp (Disp.hold u)

/-- The minimum re-update interval has not passed (R525). -/
def State.tooSoon (c : DisplayCfg) (u : Update) (ms : Nat) (s : State) : Bool :=
  match u.target, u.why with
  | .region r, .content =>
    match c.regions[r]?, s.disp.lastStart.find? fun e => e.1 == r with
    | some g, some e => decide (ms < e.2 + 1000 * g.minimum)
    | _, _ => false
  | _, _ => false

/-- The admitted end of a request (R524): `others` are the accepted updates, the one that it replaces apart.
DEDUCED, log entry 64. -/
def State.admitEnd (c : DisplayCfg) (u : Update) (others : List Update) (ms : Nat) (s : State) : Nat :=
  let t0 := ms + 20 + (if s.disp.railsOn then 0 else 30)
  let t := (others.filter fun v => c.overlap v.target u.target).foldl (fun t v => max t v.stop) t0
  t + 20 * s.framesOf s.waveRange u.clean

/-- Accept a request (R523): it replaces the pending one of its target in its place, or comes last. -/
def acceptUpdate (u : Update) (l : List Update) : List Update :=
  if l.any fun v => v.target.same u.target && !v.started then
    l.map fun v => if v.target.same u.target && !v.started then u else v
  else l ++ [u]

/-- Decide one held request; the first to be accepted with the rails off powers them (R509). -/
def State.decideOne (c : DisplayCfg) (ms : Nat) (u : Update) (s : State) : State :=
  if s.disp.lockout ∨ s.tooSoon c u ms then s
  else
    let others := s.disp.updates.filter fun v => !(v.target.same u.target && !v.started)
    let stop := s.admitEnd c u others ms
    if ms + 3000 < stop then s.dispRaise 8
    else
      let s1 := s.noteText c u.target
      s1.onDisp fun d => { d with
        held := d.held.filter fun v => !v.target.same u.target, updates := acceptUpdate { u with stop := stop } d.updates,
        railsOn := true, ramping := d.ramping || !d.railsOn, panel := if d.railsOn then d.panel else .up ms }

/-- An update that waits can take its area: nothing overlapping runs or stands before it; `ending` leaves out those that
end with the frame in progress (R523). DEDUCED, log entry 63. -/
def Disp.canStart (c : DisplayCfg) (ending : Bool) (l : List Update) (i : Nat) (u : Update) : Bool :=
  !(l.zipIdx.any fun v => decide (v.2 ≠ i) && c.overlap v.1.target u.target &&
    (if v.1.started then !(ending && decide (v.1.frames ≤ v.1.frame + 1)) else decide (v.2 < i)))

/-- Render the updates that can start at the next frame boundary (R523). -/
def State.renderNext (c : DisplayCfg) (s : State) : State :=
  let l := s.disp.updates
  let due := (l.zipIdx.filter fun v => !v.1.started && !v.1.rendered && Disp.canStart c true l v.2 v.1).map (·.2)
  due.foldl (fun t i => match l[i]? with
    | none => t
    | some u => (t.renderTarget c u.target).onDisp fun d => { d with
        updates := updAt d.updates i fun v => { v with rendered := true } }) s

/-- Decide every held request, in order (R523). DEDUCED, log entry 65. -/
def State.decideHeld (c : DisplayCfg) (ms : Nat) (s : State) : State :=
  s.disp.held.foldl (fun t u => t.decideOne c ms u) s

/-- Decide held requests at once while the rails are off (R523). DEDUCED, log entry 65. -/
def State.decideIfOff (c : DisplayCfg) (ms : Nat) (s : State) : State :=
  if s.disp.railsOn then s else (s.decideHeld c ms).renderNext c

/-! ### Evaluation and screens (R521, R522, R527, R528) -/

/-- The display follows R521 to R527: NORMAL on the active member. -/
def State.dispNormal (s : State) : Bool := s.normal && s.active && !s.pwr.pfActive

/-- A held request of a region while a ROM screen is shown, or of the ROM screen while it is not, has nothing left to show. -/
def Disp.dropHidden (d : Disp) : Disp :=
  { d with held := d.held.filter fun u => match u.target with
      | .region _ => d.rom == 0
      | .rom => d.rom != 0
      | .refresh _ => true }

/-- Request every region whose rendering differs from what it shows or is to show. -/
def State.compareRegions (c : DisplayCfg) (why : Why) (s : State) : State :=
  let s := s.onDisp Disp.dropHidden
  if s.disp.rom = 0 then
    (List.range c.regions.length).foldl (fun t r =>
      if t.disp.textOf r = some (t.regionText c t.disp.screen r) then t
      else t.ask (.ask (.region r) why false false)) s
  else if s.disp.textOf 16 = some (s.romText s.disp.rom) then s
  else s.ask (.ask .rom .screen false false)

/-- A byte of the frame buffers lies in the area of a text, a region's or the ROM screen's (R515). -/
def DisplayCfg.holdsByte (c : DisplayCfg) (key a : Nat) : Bool :=
  let x := (a - 0x40000) % 80 * 4
  let y := (a - 0x40000) / 160
  let g := c.area (if key = 16 then .rom else .region key)
  decide (g.1 ≤ x ∧ x < g.1 + g.2.2.1 ∧ g.2.1 ≤ y ∧ y < g.2.1 + g.2.2.2)

/-- The composer reads the frame buffers: what an area with a parity error shows is not known, and it is rendered again (R569).
DESIGN CHOICE, log entry 166. -/
def State.composerRead (c : DisplayCfg) (s : State) : State :=
  let bad := s.mem.parity.filter fun a => decide (0x40000 ≤ a ∧ a < 0x49600)
  if bad.isEmpty then s
  else (s.sramRead 0x40000 0x9600 7).onDisp fun d => { d with texts := d.texts.filter fun e => !(bad.any (c.holdsByte e.1)) }

/-- Ask for the full refresh that is due (R527). -/
def State.refreshDue (ms : Nat) (s : State) : State :=
  match s.disp.want with
  | some cause => (s.onDisp fun d => { d with want := none }).ask (.ask (.refresh cause) .screen true true)
  | none =>
    match s.disp.lastMs with
    | none => s
    | some t => if t + 86400000 ≤ ms then s.ask (.ask (.refresh 5) .screen false true) else s

/-- Show the ROM screen of a condition in which R521 to R527 do not hold: the STANDBY screen again when MIR_STATUS has changed
(R528). DEDUCED, log entry 67. -/
def State.showRom (id : Nat) (ms : Nat) (s : State) : State :=
  let first := s.disp.rom != id
  let changed := (s.disp.textOf 16).map (fun t => slice t 8 4) != some (le 4 s.mirStatus)
  if first || (id == 3 && changed && decide (s.disp.standbyMs + 60000 ≤ ms)) then
    let unknown := s.disp.want.isSome
    (s.onDisp fun d => { d with rom := id, want := none, standbyMs := ms }).ask (.ask .rom .screen unknown unknown)
  else s

/-- DISPLAY_EVALUATION (R521): 100 ms after a tick edge with MEAS_TICK mod 4 = 0. DEDUCED, log entry 67. -/
def execDisplayEvaluation (now : Now) (s : State) : Out :=
  match s.dispCfg with
  | none => .next s
  | some c =>
    if s.meas.tick % 4 ≠ 0 ∨ now.cyc < 960000 ∨ !s.running ∨ s.pwr.pfActive then .next s
    else if s.dispNormal then
      .next ((((s.composerRead c).refreshDue now.ms).compareRegions c .content).decideIfOff c now.ms)
    else if s.pwr.mode = .unconfigured then .next ((s.showRom 2 now.ms).decideIfOff c now.ms)
    else if s.pwr.mode = .normal then .next ((s.showRom 3 now.ms).decideIfOff c now.ms)
    else .next s

/-- KEY_PRESS (R522): a low level held for 20 ms (R23). The next screen; the first press leaves the audit screen of R139. -/
def execKeyPress (now : Now) (lowMs : Nat) (s : State) : Out :=
  match s.dispCfg with
  | none => .next s
  | some c =>
    if lowMs < 20 ∨ !s.dispNormal then .next s
    else
      let d := s.disp
      let audit := d.rom != 0
      let last := decide (c.screens.length ≤ d.screen + 1)
      let s1 := s.onDisp fun d => { d with
        rom := if !audit && last then 1 else 0,
        screen := if audit then 0 else if last then d.screen else d.screen + 1,
        auditHold := false, keyMs := now.ms }
      .next ((s1.compareRegions c .screen).decideIfOff c now.ms)

/-- SCREEN_TIMEOUT (R522): 300 s without a press, unless R139 holds the audit screen. -/
def execScreenTimeout (now : Now) (s : State) : Out :=
  match s.dispCfg with
  | none => .next s
  | some c =>
    let d := s.disp
    if !s.dispNormal ∨ d.auditHold ∨ now.ms < d.keyMs + 300000 ∨ (d.screen = 0 ∧ d.rom = 0) then .next s
    else
      let s1 := s.onDisp fun d => { d with screen := 0, rom := 0 }
      .next ((s1.compareRegions c .screen).decideIfOff c now.ms)

/-! ### Frames (R516, R523, R526, R530) -/

/-- A frame is in progress. -/
def Disp.framing (d : Disp) : Bool :=
  match d.panel with
  | .frame _ => true
  | .off | .up _ | .last _ _ | .down _ | .cut _ => false

/-- Rows that missed their data in a frame (R516, R530). -/
def State.underrun (c : DisplayCfg) (rows : List Nat) (s : State) : State :=
  if rows.isEmpty ∨ !s.disp.framing then s
  else
    let whole := (s.disp.updates.filter (·.started)).map fun u => match u.target with
      | .region _ => 0
      | .rom | .refresh _ => 2 ^ 16
    let mask := ((rows.map c.rowMask) ++ whole).foldl (· ||| ·) 0
    ((s.onDisp fun d => { d with dirty := d.dirty ||| mask, dirtyFlags := 2 }).dispRaise 16).commitDirty 2

/-- The end of an update's last frame (R526, R527, R531). -/
def State.updateDone (c : DisplayCfg) (ms : Nat) (u : Update) (s : State) : State :=
  let a := c.area u.target
  let s1 := s.copyArea a.1 a.2.1 a.2.2.1 a.2.2.2
  match u.target with
  | .region _ | .rom => s1
  | .refresh cause =>
    ((s1.onDisp fun d => { d with
      count := (d.count + 1) % 65536, lastCause := cause, lastMs := some ms, dirty := 0, dirtyFlags := 0 }).dispRaise 1).commitDirty 0

/-- Count a frame of every running update, and end those that have had their last. -/
def State.advanceUpdates (c : DisplayCfg) (ms : Nat) (s : State) : State :=
  let l := s.disp.updates.map fun u => if u.started then { u with frame := u.frame + 1 } else u
  let done := l.filter fun u => u.started && decide (u.frames ≤ u.frame)
  done.foldl (fun t u => t.updateDone c ms u)
    (s.onDisp fun d => { d with updates := l.filter fun u => !(u.started && decide (u.frames ≤ u.frame)) })

/-- Start the waiting updates whose area is free, in acceptance order; a full refresh absorbs the region updates that have
not started (R523, R527). -/
def State.startUpdates (c : DisplayCfg) (ms : Nat) (s : State) : State :=
  let l := s.disp.updates
  let range := s.waveRange
  let go := (l.zipIdx.filter fun v => !v.1.started && v.1.rendered && Disp.canStart c false l v.2 v.1).map (·.2)
  let begun := l.zipIdx.map fun v =>
    if go.contains v.2 then { v.1 with started := true, frame := 0, frames := s.framesOf range v.1.clean, range := range } else v.1
  let full := begun.any fun u => u.started && u.isRefresh && u.frame == 0
  let kept := begun.filter fun u => u.started || !full || (match u.target with
    | .region _ => false
    | .rom | .refresh _ => true)
  let starts := (begun.zipIdx.filter fun v => go.contains v.2).flatMap fun v => match v.1.target with
    | .region r => [(r, ms)]
    | .rom | .refresh _ => (List.range c.regions.length).map fun r => (r, ms)
  s.onDisp fun d => { d with
    updates := kept, range := if go.isEmpty then d.range else range,
    lastStart := starts ++ d.lastStart.filter fun e => !starts.any fun x => x.1 == e.1 }

/-- At a boundary with nothing running or accepted the neutral frame starts and the rails go down (R510); else a frame starts and its
rows are moved (R516). DEDUCED, log entry 60. -/
def State.nextFrame (ms : Nat) (s : State) : State :=
  if s.disp.updates.isEmpty then s.onDisp fun d => { d with railsOn := false, ramping := false, panel := .down ms }
  else
    (((s.onDisp fun d => { d with panel := .frame ms }).setDc 6 { s.dc 6 with service := none }).onDma fun d => { d with
      prq := updAt d.prq 6 fun _ => 0 }).lineService 0

/-- DISPLAY_FRAME_BOUNDARY (R523). DEDUCED, log entry 60. -/
def execDisplayFrameBoundary (now : Now) (missedRows : List Nat) (s : State) : Out :=
  match s.dispCfg with
  | none => .next s
  | some c =>
    if !s.disp.railsOn ∨ s.disp.ramping then .next s
    else
      let s1 := ((s.underrun c missedRows).advanceUpdates c now.ms).startUpdates c now.ms
      .next (((s1.decideHeld c now.ms).renderNext c).nextFrame now.ms)

/-! ### Rails, temperature and giving up (R509 to R511, R514, R529, R530) -/

/-- SETT ms from which the panel's lines are all at 0 V: the discharge ends 30 ms after t1, 10 ms after it began (R510). -/
def Disp.darkAt (d : Disp) : Nat :=
  match d.panel with
  | .off | .up _ | .frame _ => 0
  | .last start _ => start + 50
  | .down t1 => t1 + 30
  | .cut start => start + 10

/-- Give up every accepted update (R529, R530): what had driven a frame is dirty, what it shows is not known, and a start,
dirty or rebuild refresh that was to come is wanted again. The rails go down as `panel` says. DEDUCED, log entry 66. -/
def State.dispGiveUp (panel : PanelPhase) (flags : Nat) (s : State) : State :=
  if !s.disp.railsOn then s
  else
    let d := s.disp
    let mask := ((d.updates.filter (·.started)).map fun u => u.target.dirtyBit).foldl (· ||| ·) 0
    let want := (d.updates.filterMap fun u => match u.target with
      | .refresh c => if u.unknown then some c else none
      | .region _ | .rom => none).head?
    let keys := d.updates.flatMap fun u => match u.target with
      | .region r => [r]
      | .rom | .refresh _ => List.range 17
    let s1 := (s.onDisp fun d => { d with
      updates := [], railsOn := false, ramping := false, panel := panel, dirty := d.dirty ||| mask,
      dirtyFlags := if mask = 0 then d.dirtyFlags else flags, want := if want.isSome then want else d.want,
      texts := d.texts.filter fun e => !keys.contains e.1 }).dispRaise 32
    if mask = 0 then s1 else s1.commitDirty flags

/-- The frame in progress at t0 of the power-fail sequence is finished: an update whose last frame it is completes (R52, R526, R529).
DEDUCED, log entry 66. -/
def State.dispFrameOut (ms : Nat) (s : State) : State :=
  match s.dispCfg with
  | none => s
  | some c => if s.disp.railsOn && !s.disp.ramping then s.advanceUpdates c ms else s

/-- The end of the module's use of the panel: held requests are dropped too. DEDUCED, log entry 66. -/
def State.dispEnd (panel : PanelPhase) (flags : Nat) (s : State) : State :=
  (s.dispGiveUp panel flags).onDisp fun d => { d with held := [] }

/-- A WARM reset, fail-silent, the loss of the active role: the frame in progress is cut and the rails are discharged at once (R529). -/
def State.dispStop (ms : Nat) (s : State) : State := s.dispEnd (.cut ms) 0

/-- What the panel does after t0 of a power failure: the frame in progress, the neutral frame and the discharge; without a frame in
progress the discharge at once (R529). DEDUCED, log entry 60. -/
def Disp.lastFrame (ms : Nat) (d : Disp) : PanelPhase :=
  match d.panel with
  | .frame start => .last start (d.updates.filter (·.started))
  | .off | .up _ | .last _ _ | .down _ | .cut _ => .cut ms

/-- Step 3 of R52 at t0: the frame in progress is finished unless the store is faulted (R51, R529). -/
def State.dispPowerFail (ms : Nat) (bad : Bool) (s : State) : State :=
  if bad then s.dispEnd (.cut ms) 1 else (s.dispFrameOut ms).dispEnd (s.disp.lastFrame ms) 1

/-- A member has become active: at a takeover it requests screen 0 (R528); elected at a start, it shows first the audit screen that R139
holds. -/
def State.dispActive (takeover : Bool) (s : State) : State :=
  let s1 := s.onDisp fun d => { d with
    rom := if d.auditHold && !takeover then 1 else 0, screen := 0, auditHold := d.auditHold && !takeover, texts := [] }
  match s1.dispCfg with
  | none => s1
  | some c => s1.compareRegions c .screen

/-- What a gate or source line carries. -/
inductive Level where
  | zero | vcom | vsh | vsl | vgh | vgl
  deriving DecidableEq, Repr

/-- The voltage of a level, in millivolts (R508). -/
def DisplayCfg.railMv (c : DisplayCfg) (l : Level) : Int :=
  match l with
  | .zero => 0
  | .vcom => -(10 * (c.vcom : Int))
  | .vsh => 15000
  | .vsl => -15000
  | .vgh => 22000
  | .vgl => -20000

/-- How far a level may be off, in millivolts: 2 % of a source rail, 3 % of a gate rail, 10 mV of VCOM (R508). -/
def Level.tolerance (l : Level) : Int :=
  match l with
  | .zero => 0
  | .vcom => 10
  | .vsh | .vsl => 300
  | .vgh => 660
  | .vgl => 600

/-- A rail that reads v is within its tolerance. -/
def DisplayCfg.railOk (c : DisplayCfg) (l : Level) (v : Int) : Bool :=
  decide (c.railMv l - l.tolerance ≤ v ∧ v ≤ c.railMv l + l.tolerance)

/-- Every rail is within its tolerance (R509 step 7). -/
def DisplayCfg.railsOk (c : DisplayCfg) (r : Rails) : Bool :=
  c.railOk .vsh r.vsh && c.railOk .vsl r.vsl && c.railOk .vgh r.vgh && c.railOk .vgl r.vgl && c.railOk .vcom r.vcom

/-- RAIL_CHECK (R511): step 7 of R509. -/
def execRailCheck (now : Now) (rails : Rails) (s : State) : Out :=
  if !s.disp.ramping then .next s
  else if s.dispCfg.any fun c => c.railsOk rails then .next (s.onDisp fun d => { d with ramping := false, railFault := false })
  else
    let s1 := (s.dispGiveUp (.cut now.ms) 0).onDisp fun d => { d with railFault := true, lockout := true, lockMs := now.ms }
    .next (s1.dispRaise 4)

/-- RAIL_LOCKOUT_END (R511): 60 s after the rail fault. -/
def execRailLockoutEnd (now : Now) (s : State) : Out :=
  if !s.disp.lockout ∨ now.ms < s.disp.lockMs + 60000 then .next s
  else
    let s1 := s.onDisp fun d => { d with lockout := false }
    match s1.dispCfg with
    | none => .next s1
    | some c => if s1.disp.railsOn ∨ !s.running then .next s1 else .next (s1.decideIfOff c now.ms)

/-- PANEL_TEMP_MEASURE (R514): a faulted NTC reading gives way to the internal temperature. DESIGN CHOICE, log entry 16. -/
def execPanelTempMeasure (ntc internal : Int) (s : State) : Out :=
  if !s.disp.railsOn then .next s
  else
    let bad := decide (ntc < -300 ∨ 850 < ntc)
    let t := if bad then internal else ntc
    let out := match s.img.image with
      | none => false
      | some im => (match im.waves.head? with
        | none => false
        | some w => decide (t < w.low)) || (match im.waves.getLast? with
        | none => false
        | some w => decide (w.high ≤ t))
    let d := s.disp
    .next ((s.onDisp fun d => { d with temp := t, internalSrc := bad, ptempFault := bad, tempOut := out }).dispRaise
      (flag (bad && !d.ptempFault) 1 + flag (out && !d.tempOut) 6))

/-! ### The lines of the panel (R506 to R510, R512, R516) -/

/-- What the drivers do at an instant: no rails; gates held off with the sources at 0 V; gates held off with the sources at VCOM; a
frame of some updates, at a time in µs from its boundary; a neutral frame, likewise. -/
inductive Scan where
  | dark
  | gatesOff
  | standing
  | frame (us : Nat) (driven : List Update)
  | neutral (us : Nat)
  deriving DecidableEq, Repr

/-- The discharge, `us` µs after step 2 of R510 began: the sources go to 0 V with VCOM, the gates are held at VGL to its end. -/
def Scan.discharge (us : Nat) : Scan := if us < 7000 then .gatesOff else .dark

/-- What the drivers do `us` µs after the panel's phase began (R509, R510, R529). -/
def Disp.scan (us : Nat) (d : Disp) : Scan :=
  match d.panel with
  | .off => .dark
  | .up _ => if us < 5000 then .dark else if us < 21000 then .gatesOff else .standing
  | .frame _ => .frame us (d.updates.filter (·.started))
  | .last _ driven =>
    if us < 20000 then .frame us driven else if us < 40000 then .neutral (us - 20000) else .discharge (us - 40000)
  | .down _ => if us < 20000 then .neutral us else .discharge (us - 20000)
  | .cut _ => .discharge us

/-- Row y is selected `us` µs after a frame boundary: from 80 µs × y for 80 µs (R507). -/
def DisplayCfg.selects (c : DisplayCfg) (us y : Nat) : Bool := decide (y < c.rows ∧ us / 80 = y)

/-- What gate G(y + 1) carries (R506, R507, R509). -/
def DisplayCfg.gate (c : DisplayCfg) (k : Scan) (y : Nat) : Level :=
  if c.rows ≤ y then .zero
  else match k with
    | .dark => .zero
    | .gatesOff | .standing => .vgl
    | .frame us _ | .neutral us => if c.selects us y then .vgh else .vgl

/-- A pixel of a frame buffer, the current one or the target (R515). -/
def State.pixel (target : Bool) (x y : Nat) (s : State) : Nat :=
  Word.bits (leNat (s.mem.sram.readBytes (bufAddr target x y) 1)) (2 * (x % 4)) 2

/-- A target's area holds a pixel. -/
def DisplayCfg.covers (c : DisplayCfg) (t : Target) (x y : Nat) : Bool :=
  let a := c.area t
  decide (a.1 ≤ x ∧ x < a.1 + a.2.2.1 ∧ a.2.1 ≤ y ∧ y < a.2.1 + a.2.2.2)

/-- The frame words of an update. -/
def State.waveOf (u : Update) (s : State) : List Nat :=
  match s.img.image with
  | none => []
  | some im => match im.waves[u.range]? with
    | none => []
    | some w => if u.clean then w.clean else w.upd

/-- The level that a drive code names (R512). -/
def driveLevel (code : Nat) : Level := if code = 1 then .vsh else if code = 2 then .vsl else .vcom

/-- What a pixel of an update's area is driven with in its present frame: the code of its transition, with old taken to be new while
the panel state of the area is unknown (R512, R526). -/
def State.pixelDrive (u : Update) (x y : Nat) (s : State) : Level :=
  let new := s.pixel true x y
  let old := if u.unknown then new else s.pixel false x y
  driveLevel (Word.bits (nth (s.waveOf u) u.frame 0) (2 * (4 * old + new)) 2)

/-- What source S(x + 1) carries; `missed` are the rows whose data had not arrived when they were selected (R506, R507, R516). -/
def State.sourceLine (c : DisplayCfg) (k : Scan) (missed : List Nat) (x : Nat) (s : State) : Level :=
  if c.cols ≤ x then .zero
  else match k with
    | .dark | .gatesOff => .zero
    | .standing | .neutral _ => .vcom
    | .frame us driven =>
      let y := us / 80
      if c.rows ≤ y ∨ missed.contains y then .vcom
      else match driven.find? fun u => c.covers u.target x y with
        | none => .vcom
        | some u => s.pixelDrive u x y

end Sys2Proof.Machine
end

