-- ==== Sys2Proof/Machine/Load.lean ====
section
/-! DEFINITION. What a start restores from HOARD (R97, R107, R570, R595): the records, the newest entries of the ring areas, and
the working state of a channel made from them. -/

namespace Sys2Proof.Machine

/-! ### Two-slot records (R63, R143) -/

/-- Slot B and the slot size of the two-slot record whose slot A lies at an address. -/
def recGeo (a : Nat) : Option (Nat × Nat) :=
  if a = 0x100000 then some (0x100400, 1024)
  else if a = 0x100800 then some (0x100820, 32)
  else if a = 0x100880 then some (0x1008A0, 32)
  else if a = 0x250000 then some (0x250400, 1024)
  else if a = 0x260000 then some (0x260040, 64)
  else if a = 0x24F000 then some (0x24F040, 64)
  else if 0x110000 ≤ a ∧ a < 0x11A000 ∧ (a - 0x110000) % 1024 = 0 then some (a + 512, 512)
  else if 0x101000 ≤ a ∧ a < 0x110000 ∧ (a - 0x101000) % 1536 = 0 then some (a + 768, 768)
  else if 0x240000 ≤ a ∧ a < 0x24F000 ∧ (a - 0x240000) % 128 = 0 then some (a + 64, 64)
  else none

/-- Read the record whose slot A lies at an address. -/
def Mem.record (m : Mem) (a : Nat) : Found :=
  match recGeo a with
  | none => .absent
  | some (b, n) => m.readSlots a b n

/-- A lost record (R570): its mark, `FLT_EVENTS.REC_LOST` and event 0x0063. -/
def State.lostRec (addr : Nat) (mark : Flt → Flt) (s : State) : State :=
  (s.onFlt fun f => { mark f with events := setBits f.events 16 }).event 0x63 0 (le 4 addr)

/-- Read a record at a start: its body, none where it is absent or lost; a lost one is reported (R570, R583). -/
def State.loadRec (a : Nat) (mark : Flt → Flt) (s : State) : Option (List Byte) × Bool × State :=
  let n := match recGeo a with
    | none => 0
    | some (_, n) => n
  let s1 := s.hoardRead a (2 * n) 5
  match s1.mem.record a with
  | .body d => (some d, false, s1)
  | .absent => (none, false, s1)
  | .lost => (none, true, s1.lostRec a mark)

/-! ### PAIR and DISPLAY records -/

/-- The body of the PAIR record (R538). -/
def PairRec.bytes (p : PairRec) : List Byte := le 4 p.epoch ++ le 8 p.serial ++ le 2 p.takeovers ++ le 1 p.flags ++ zeros 1

/-- Read the body of a PAIR record. -/
def PairRec.ofBytes (d : List Byte) : PairRec :=
  { epoch := fieldAt d 0 4, serial := fieldAt d 4 8, takeovers := fieldAt d 12 2, flags := fieldAt d 14 1 }

/-- The absent PAIR record (R595). -/
def PairRec.absent : PairRec := { epoch := 0, serial := 0, takeovers := 0, flags := 0 }

/-- Commit the PAIR record. -/
def State.commitPair (s : State) : State :=
  s.enqueue { kind := .slots 0x100880 0x1008A0, body := s.pair.record.bytes }

/-! ### Channels -/

/-- Highest valid ENTRY_SEQ of a channel's profile ring (R303). -/
def Mem.profTop (m : Mem) (n : Nat) : Nat :=
  (List.range 744).foldl (fun b i => max b (m.hoard.readLE (profAddr n (i + 1)) 3)) 0

/-- Report the lost entries among ring entries: a sequence word that is not 0 in an entry that is not valid (R570, R595). -/
def State.reportLost (addrs : List Nat) (valid : Mem → Nat → Bool) (s : State) : State :=
  (addrs.filter fun a => s.mem.hoard.readLE a 4 != 0 && !valid s.mem a).foldl
    (fun t a => t.lostRec a fun f => { f with otherLost := true }) s

/-- Addresses of the snapshot entries of channel n. -/
def snapAddrs (n : Nat) : List Nat :=
  (List.range 24).map (snapAddr n 1) ++ (List.range 16).map fun i => snapAddr n 2 (12 * i)

/-- What the ring areas hold of a channel. -/
def Mem.snapOf (m : Mem) (n : Nat) : Snap :=
  let a := m.snapTop n 1
  let b := m.snapTop n 2
  { keyM := a.1, keyA := b.1, seqM := a.2, seqA := b.2, profSeq := m.profTop n }

/-- CAL_MISSING and CAL_MISMATCH of a channel of a commissioned module (R202). -/
def Flow.judgeCal (commissioned : Bool) (cfg : ChanCfg) (f : Flow) : Flow :=
  let on := commissioned && decide (cfg.type ≠ .off)
  let valid := match f.cal with
    | none => false
    | some k => Word.bit k.flags 0
  let differs := match f.cal with
    | none => false
    | some k => k.burstN != cfg.burstN || k.burstCyc != cfg.burstCyc || k.drive != Word.ofBool (Word.bit cfg.options 4) ||
        k.tapStep != tapStep cfg.burstN
  { f with calMissing := on && !valid, calMismatch := on && valid && differs }

/-- A move that the record shows in progress was cut by a reset or takeover, unless the power-fail sequence cut it (R281).
DEDUCED, log entry 81. -/
def ValveState.cut (v : ValveState) : ValveState := if 4 ≤ v.position ∧ v.flags = 0 then { v with flags := 2 } else v

/-- The flow path of a channel that begins with a calibration record (R181, R182, R198, R199, R202, R203): the gain is GAIN_REF, and the
drift conditions are judged from the record, without an event. DEDUCED, log entry 53. -/
def Flow.start (commissioned : Bool) (cfg : ChanCfg) (cal : Option Cal) : Flow :=
  Flow.judgeCal commissioned cfg { Flow.reset with
    cal := cal,
    gain := (match cal with
      | none => 4
      | some k => k.gainRef % 8),
    zeroDrift := (match cal with
      | none => false
      | some k => k.zeroDrifts),
    templateDrift := (match cal with
      | none => false
      | some k => templateDrifts k.tracked k.learned) }

/-- What a takeover or a rebuild of B2 leaves of a channel's flow path: waveform export and its counters, which only a WARM or COLD
reset clears (R216, R217), the event latch (R212) and `CAL_RESULT`. -/
def Flow.keepExport (f old : Flow) : Flow :=
  { f with rseq := old.rseq, capCtrl := old.capCtrl, capUse := old.capUse, capWritten := old.capWritten,
           capDropped := old.capDropped, events := old.events, calResult := old.calResult }

/-- The working state of channel n at a start, from its records (R162, R264, R291): the window shows the restored totals.
`CAL_RESULT` reads 7 where the reset ended the channel's run (R195). DEDUCED, log entry 53. -/
def State.primeChan (n : Nat) (w : Work) (lost : Bool) (cal : Option Cal) (ring : List (Nat × Nat)) (snap : Snap) (s : State) :
    State :=
  let cfg := s.cfg n
  let w := { w with valve := w.valve.cut }
  let t := s.setCh n { Chan.reset with
    flow := { (Flow.start s.img.module_.commissioned cfg cal).keepExport (s.ch n).flow with
      calResult := if s.meas.calCut.contains n then 7 else (s.ch n).flow.calResult },
    temp := { Temp.reset with thetaS := w.thetaS, thetaR := w.thetaR }, a := w, b := w, lost := lost, ring := ring, snap := snap,
    valve := { Valve.reset with lastEnd := if w.valve.position = 1 ∨ w.valve.position = 2 then w.valve.position else 0 },
    shown := { Shown.reset with totals := shownTotals cfg.type w, maxima := maximaWords w.bill,
                                tariff := tariffWord w (0, 0, false, false) false,
                                credit := creditWord (s.prepay n).isSome w.credit } }
  t.evalRange n true

/-- The gap that the first step of channel n after a WARM reset substitutes, in CLK_BUS cycles (R258): ticks since STEP_TICK, or
seconds of the RTC since STEP_TIME after a ROOT failure; none without a step to go on from. DEDUCED, log entry 109. -/
def State.restartGap (s : State) (n : Nat) : Option Nat :=
  let w := (s.ch n).a
  if !s.pwr.warmGap ∨ (s.cfg n).type = .off ∨ (w.stepTick = 0 ∧ w.stepTime = 0) then none
  else
    let gap := if Word.bit s.pwr.cause 7 then min 3600 (s.rtc.count - w.stepTime) * 9600000
      else min 14400 (s.meas.tick - w.stepTick) * tickCycles
    if gap = 0 then none else some gap

/-- Restore channel n from HOARD (R97, R570, R595). DEDUCED, log entries 53 and 81. -/
def State.loadChan (n : Nat) (s : State) : State :=
  let t := s.loadRec (totalsAddr n) fun f => { f with totalsLost := f.totalsLost ++ [n] }
  let c := t.2.2.loadRec (calAddr n) fun f => { f with otherLost := true }
  let w := match t.1 with
    | none => Work.absent
    | some d => Work.ofBytes d
  let s1 := c.2.2.reportLost (snapAddrs n) fun m a => m.slotValid a 256
  s1.primeChan n w t.2.1 (c.1.map Cal.ofBytes) [] (s1.mem.snapOf n)

/-! ### Module-wide records -/

/-- Restore the MODULE record (R144, R570): a module whose record is lost is treated as commissioned. -/
def State.loadModule (s : State) : State :=
  let r := s.loadRec 0x100000 fun f => { f with moduleLost := true }
  let m := match r.1 with
    | some d => ModuleRec.ofBytes d
    | none => { ModuleRec.absent with commissioned := r.2.1 }
  r.2.2.onImg fun i => { i with module_ := m }

/-- Restore the SECURITY record: a lost one is rewritten out of every counter's reach (R570). -/
def State.loadSecurity (s : State) : State :=
  let r := s.loadRec 0x250000 fun f => { f with securityLost := true }
  if r.2.1 then
    let high := List.replicate 41 0x80000000
    let s1 := (r.2.2.onSec fun _ => { next := high, limit := high, peer := high, acc := List.replicate 41 0,
                                      floor := List.replicate 32 0x7FFFFFFF }).commitSec
    if s1.canLand then s1.drain.startCounters else s1
  else r.2.2.startCounters

/-- Restore the PAIR record: EPOCH 0 where it is absent or lost (R570, R595). -/
def State.loadPair (s : State) : State :=
  let r := s.loadRec 0x100880 fun f => { f with otherLost := true }
  r.2.2.onPair fun p => { p with record := match r.1 with
    | none => PairRec.absent
    | some d => PairRec.ofBytes d }

/-- Restore the dirty map: every region is dirty where the DISPLAY record is lost (R570). -/
def State.loadDisplay (s : State) : State :=
  let r := s.loadRec 0x260000 fun f => { f with otherLost := true }
  r.2.2.onDisp fun d => match r.1 with
    | some b => { d with dirty := fieldAt b 0 4, dirtyFlags := fieldAt b 4 1 }
    | none => { d with dirty := if r.2.1 then 0x1FFFF else 0 }

/-- Restore the cell charge (R66, R69): a lost record restarts at 0 and raises CELL_LOW (R570). DEDUCED, log entry 95. -/
def State.loadCharge (s : State) : State :=
  let r := s.loadRec 0x100800 fun f => { f with otherLost := true }
  r.2.2.onPwr fun p => match r.1 with
    | some d => { p with chargeUah := fieldAt d 0 4, remNc := fieldAt d 4 4, replaced := fieldAt d 8 5, chgFlags := fieldAt d 13 1 }
    | none => { p with chargeUah := 0, remNc := 0, events := if r.2.1 then setBits p.events 8 else p.events }

/-- The valid annual snapshot with the highest key: FREEZE_SEQ and KEY that it records (R300). -/
def Mem.newestFreeze (m : Mem) : Option (Nat × Nat) :=
  (allCh.flatMap fun n => (List.range 16).filterMap fun i => m.snapEntry (snapAddr n 2 (12 * i))).foldl
    (fun b d => match b with
      | none => some (fieldAt d 0xEC 4, fieldAt d 8 2)
      | some x => if x.2 < fieldAt d 8 2 then some (fieldAt d 0xEC 4, fieldAt d 8 2) else some x) none

/-- Rebuild a lost freeze record from the newest valid annual snapshot (R570). -/
def State.loadFreeze (s : State) : State :=
  let r := s.loadRec 0x24F000 fun f => { f with otherLost := true }
  match r.2.1, r.2.2.mem.newestFreeze with
  | true, some (q, key) => r.2.2.enqueue { kind := .slots 0x24F000 0x24F040, body := le 4 q ++ le 2 key ++ zeros 42 }
  | _, _ => r.2.2

/-- The newest event 0x0004 that the log holds is an onset: its end is still to come (R141, R306). -/
def Mem.unconfOpen (m : Mem) : Bool :=
  let top := (List.range 4096).foldl (fun b i =>
    let a := 0x210000 + 32 * i
    if m.hoard.readLE (a + 10) 2 = 4 ∧ b.1 < m.hoard.readLE a 4 ∧ !m.badIn a 32 ∧
      m.hoard.readLE (a + 28) 4 = (crc32 (m.hoard.readBytes a 28)).toNat
    then (m.hoard.readLE a 4, m.hoard.readLE (a + 9) 1) else b) (0, 2)
  !Word.bit top.2 1

/-- Find the ends of the event log and of the audit trail (R140, R306). -/
def State.loadLog (s : State) : State :=
  let e := s.mem.newestEntry 0x210000 32 4096
  let a := s.mem.newestEntry 0x230000 64 1024
  s.onLog fun l => { l with
    next := e + 1, auditNext := a + 1, hour := s.rtc.count / 3600,
    auditLast := if a = 0 then none else
      let b := s.mem.hoard.readBytes (auditAddr a) 64
      some (fieldAt b 10 1, slice b 20 16, slice b 36 16) }

/-- Restore the records that a start reads besides the MODULE record and the channels. -/
def State.loadRecords (s : State) : State :=
  let entry (n : Nat) (m : Mem) (a : Nat) : Bool :=
    m.hoard.readLE (a + n - 4) 4 == (crc32 (m.hoard.readBytes a (n - 4))).toNat && !m.badIn a n
  let s1 := (((s.loadPair).loadSecurity).loadDisplay).loadFreeze
  let s2 := s1.reportLost ((List.range 4096).map fun i => 0x210000 + 32 * i) (entry 32)
  s2.reportLost ((List.range 1024).map fun i => 0x230000 + 64 * i) (entry 64)

/-- After a COLD or WARM start the first step of every channel is booked to the TARIFF of the restored record (R285). -/
def State.startTariffs (s : State) : State := s.forCh s.activeCh fun n t => t.onCh n fun c =>
  let restored (w : Work) : Work := { w with bill := { w.bill with tariffNext := w.tariff } }
  { c with a := restored c.a, b := restored c.b }

/-- Restore every channel. -/
def State.loadChans (s : State) : State :=
  let s1 := s.forCh allCh State.loadChan
  let top := (allCh.map fun n => (s1.ch n).a.valve.ticket).foldl max 0
  s1.onBridge fun _ => { moving := none, since := 0, queue := [], next := top + 1 }

end Sys2Proof.Machine
end

