-- ==== Sys2Proof/Machine/Pair.lean ====
section
/-! DEFINITION. The redundant pair (R537 to R564): Movor frames, pairing and synchronisation, mirroring, the peer watcher, takeover,
power-fail handover, fail-silent and the planned switchover. -/

namespace Sys2Proof.Machine

/-- Raise bits of `MIR_EVENTS`. -/
def State.mirRaise (mask : Nat) (s : State) : State := s.onPair fun p => { p with events := setBits p.events mask }

/-! ### Ending a pairing, link faults, abandoning (R542, R549, R558) -/

/-- A planned switchover is abandoned (R558, R561): cause 1 drain timeout, 2 power failure, 3 peer lost. -/
def State.abandonSwitch (cause : Nat) (s : State) : State :=
  if !s.pair.switching ∧ s.pair.peerHand.isNone then s
  else
    let s1 := (s.onPair fun p => { p with switching := false, handTick := none, peerHand := none }).mirRaise 64
    s1.event 0xA8 0 (le 1 cause)

/-- The pairing ends: nothing is in flight, and an active member knows of no READY peer. A passive member keeps its mirror, so
that a takeover by it stays a mirrored one (R550). DEDUCED, log entry 70. -/
def State.unpair (s : State) : State :=
  if s.pair.phase < 2 then s
  else
    let s1 := (s.onPair fun p => { p with
      phase := 1, ready := p.ready && !p.active, store := [], waiting := [], missing := [], ahead := [], txSeq := 0,
      syncTodo := [], syncTotal := 0, syncEnd := none }).mirRaise 2
    s1.abandonSwitch 3

/-- The link is faulted (R542, R549): the pairing ends. DEDUCED, log entries 70 and 73. -/
def State.linkFaultBegin (cause : Nat) (s : State) : State :=
  let s1 := s.unpair
  if s1.pair.linkFault then s1
  else ((s1.onPair fun p => { p with linkFault := true }).mirRaise 4).onset 0xA2 0 0 (le 1 cause)

/-! ### Synchronisation (R545) -/

/-- The mirrored areas: address of the first record, stride, records. Between uncommissioned members only the MODULE area. -/
def syncAreas (commissioned : Bool) : List (Nat × Nat × Nat) :=
  let module_ := [(0x100000, 0, 1), (0x100880, 0, 1)]
  if commissioned then
    module_ ++ [(0x250000, 0, 1), (0x110000, 1024, 40), (0x101000, 1536, 40), (0x120000, 256, 960), (0x160000, 256, 640),
      (0x190000, 16, 29760), (0x210000, 32, 4096), (0x230000, 64, 1024), (0x240000, 128, 480), (0x24F000, 0, 1)]
  else module_ ++ [(0x101000, 1536, 40)]

/-- The body that a RECORD frame carries for the record at an address; empty where there is no valid one.
DEDUCED, log entry 72. -/
def Mem.syncBody (m : Mem) (a : Nat) : List Byte :=
  match recGeo a with
  | some (b, n) => match m.readSlots a b n with
    | .body d => d
    | .absent | .lost => []
  | none =>
    if a < 0x190000 then (if m.slotValid a 256 then m.hoard.readBytes (a + 8) 240 else [])
    else
      let n := if a < 0x210000 then 16 else if a < 0x230000 then 32 else 64
      if m.hoard.readLE a (if a < 0x210000 then 3 else 4) = 0 then [] else m.hoard.readBytes a n

/-- Send what synchronisation has left while the store is less than half full, then SYNC_END (R545). -/
def State.pumpSync (n : Nat) (s : State) : State :=
  match n with
  | 0 => s
  | k + 1 =>
    if s.pair.phase ≠ 2 ∨ s.pair.syncTotal = 0 ∨ s.pair.syncEnd.isSome ∨ 12288 < s.pair.stored ∨ !s.pair.waiting.isEmpty then s
    else match s.pair.syncTodo with
      | [] => (s.onPair (Pair.send 12 [])).onPair fun p => { p with syncEnd := some p.txSeq }
      | (a, step, left) :: rest =>
        let s1 := s.onPair (Pair.send 3 (le 3 a ++ zeros 1 ++ s.mem.drain.syncBody a))
        let s2 := if 0x110000 ≤ a ∧ a < 0x11A000 then
            let ch := (a - 0x110000) / 1024 + 1
            s1.onPair (Pair.send 4 (ringPayload ch (s1.ch ch).ring))
          else s1
        State.pumpSync k (s2.onPair fun p => { p with
          syncTodo := if left ≤ 1 then rest else (a + step, step, left - 1) :: rest })

/-- Who copies: the active member, and between two uncommissioned members the strapped PRIMARY. DEDUCED, log entry 71. -/
def State.syncSource (s : State) : Bool :=
  s.active || (!s.img.module_.commissioned && s.pwr.strapRole == 1)

/-- Begin or continue the synchronisation; none runs while the active member is in BACKUP (R545). -/
def State.sync (s : State) : State :=
  if s.pair.phase ≠ 2 ∨ !s.syncSource ∨ s.backup ∨ s.pair.rising.isSome then s
  else
    let s1 := if s.pair.syncTotal ≠ 0 then s
      else
        let l := syncAreas s.img.module_.commissioned
        s.onPair fun p => { p with syncTodo := l, syncTotal := (l.map (·.2.2)).foldl (· + ·) 0 }
    s1.pumpSync 1024

/-- Pairing is complete and READY reached (R545, R561). -/
def State.pairReady (ms : Nat) (s : State) : State :=
  let s1 := (s.onPair fun p => { p with phase := 3, ready := true, syncTodo := [] }).mirRaise 1
  s1.event 0xA4 0 (le 4 s.pair.peerSerial ++ le 4 (ms - s.pair.pairedAt))

/-! ### Becoming active and passive (R538, R551 to R553) -/

/-- Step 1 of an activation: the PAIR record with EPOCH + 1, HALT released, contexts FREE; the role begins at the next tick
edge (R538, R552). DEDUCED, log entry 76. -/
def State.declare (kind : Nat) (s : State) : State :=
  let s1 := s.onPair fun p => { p with
    rising := some kind, pfWait := false,
    record := { epoch := p.record.epoch + 1, serial := s.otp.serial,
                takeovers := if kind = 1 ∨ kind = 3 then Word.sat 65535 (p.record.takeovers + 1) else p.record.takeovers,
                flags := Word.ofBool (kind == 2) } }
  (s1.commitPair.onRtc Rtc.dropHalt).freeCtxs

/-- The gap of a mirrored takeover for channel n, in ticks (R553): none where no record has been received. At most 3,600 s of it are
substituted (R258). -/
def State.takeoverGap (n : Nat) (s : State) : Option Nat :=
  let w := (s.ch n).a
  if w.stepTick = 0 ∨ (s.cfg n).type = .off then none else some (s.meas.tick - w.stepTick)

/-- The activation takes effect at a tick edge (R552, R558): slots are driven from this tick, each channel's first step begins
here, counters restart, and valves, display and telegrams go on. DEDUCED, log entries 75 and 149. -/
def State.beginActive (kind : Nat) (s : State) : State :=
  let s0 := if s.canLand then s.drain else s
  let s1 := (s0.onPair fun p => { p with active := true, peerActive := false, rising := none, peerHand := none,
                                         ready := p.ready && (kind == 4 || kind == 0) }).mirRaise (8 + flag (kind == 4) 5)
  let mirrored := kind == 1 || kind == 3
  let gaps := (s1.activeCh.map fun n => (n, if mirrored then s1.takeoverGap n else none))
  let most := (gaps.map fun g => (g.2.getD 0) * 250).foldl max 0
  let s2 := gaps.foldl (fun t g =>
    let c := t.ch g.1
    let t1 := if kind = 0 then t else t.primeChan g.1 c.a c.lost c.flow.cal c.ring (t.mem.snapOf g.1)
    t1.onCh g.1 fun c => { c with stepStart := t1.edge, acc := .reset, late := .reset, carry := none,
                                  gap := if kind = 0 then t1.restartGap g.1 else g.2.map fun k => min 14400 k * tickCycles }) s1
  let s3 := (s2.onPair fun p => { p with gapMs := if kind = 0 ∨ kind = 4 then p.gapMs else min (2 ^ 24 - 1) most }).startCounters.onSec fun c =>
    { c with acc := s2.sec.acc }
  let s4 := (s3.onPwr fun p => { p with warmGap := false }).resumeValves.dispActive (kind != 0)
  let e := s4.pair.record.epoch
  let s4 := if kind = 1 ∨ kind = 2 ∨ kind = 3 then s4.missedPulses else s4
  if kind = 1 ∨ kind = 2 then s4.event 0xA0 0 (le 1 kind ++ le 4 most ++ le 4 e)
  else if kind = 3 then s4.event 0xA7 0 (le 4 most)
  else if kind = 4 then s4.event 0xA1 0 (le 4 s4.meas.tick ++ le 4 e)
  else s4

/-- Radio and M-Bus stop. -/
def State.silence (s : State) : State :=
  (s.onRadio fun r => { r with queue := [], window := none, winDue := false, answer := none, rx := [], alarms := [], snaps := [],
                               catchUps := [] }).onMBus fun m => { m with selected := none, last := none, direct := none }

/-- TEST ends with the role, and with NORMAL (R459). -/
def State.endTest (s : State) : State := s.onMeas fun m => { m with test := false, testOver := false }

/-- The member becomes passive (R537): field pins, radio, M-Bus and display as on a STANDBY. -/
def State.demote (ms : Nat) (s : State) : State :=
  let s1 := ((s.interruptMove ms 1).calAbort).endTest
  let s2 := ((s1.silence).freeCtxs).dispStop ms
  let s3 := (s2.dropPulses false).onBridge fun b => { b with moving := none, queue := [] }
  (s3.onPair fun p => { p with active := false, peerActive := true, ready := false, switching := false, handTick := none }).mirRaise 16

/-- Fail-silent (R556): cause 1 DMR mismatch, 2 uncorrectable TOTALS record, 3 watchdog. DEDUCED, log entry 142. -/
def State.goFailSilent (cause ms : Nat) (s : State) : State :=
  if s.pwr.failSilent then s
  else
    let s1 := (((s.interruptMove ms 1).calAbort).endTest).dropPulses true
    let s2 := ((s1.silence).dispStop ms).event 0xA5 0 (le 1 cause)
    (s2.onPwr fun p => { p with failSilent := true, failCause := cause, peerOkOut := false }).onPair fun p => { p with
      active := false, rising := none }

/-! ### Sending (R543, R555, R556) -/

/-- The payload of HELLO (R541). DEDUCED, log entry 68. -/
def State.helloPayload (s : State) : List Byte :=
  le 8 s.otp.serial ++ s.img.module_.digest ++ le 1 s.pwr.strapRole ++
    le 1 (flag s.img.module_.commissioned 0 + flag s.img.accepted 1) ++ le 4 s.pair.record.epoch ++ le 8 s.pair.record.serial ++
    le 4 s.meas.tick

/-- The payload of HEARTBEAT (R541): SUBSEC in 1/256 s. DEDUCED, log entry 80. -/
def State.heartbeatPayload (sub : Nat) (s : State) : List Byte :=
  le 4 s.meas.tick ++ le 5 s.rtc.count ++ le 1 (sub / 128) ++ le 1 (flag s.rtc.osf 0 + flag s.pwr.vbusOk 1) ++
    le 4 s.pair.record.epoch

/-- Whether the module takes part in the link: a pair role, running, in Run, since the routes of the frames lie in PD_BUS and PD_CORE
(R78, R495). DEDUCED, log entries 74 and 165. -/
def State.onMovor (s : State) : Bool := s.running && s.paired && decide (s.pwr.state = .run)

/-- A frame that reaches a module off the link: in Sleep its activity raises a wake (R83, R555), else it has no effect.
DEDUCED, log entry 165. -/
def State.offLink (s : State) : State :=
  if s.paired ∧ s.running ∧ s.pwr.state = .sleep then s.raiseWake .movor else s

/-- A HEARTBEAT leaves at an instant (R543, R555): the active member's from 1.000 ms after the tick edge every 50 ms, and only the first
of a measurement tick (R158) while it or its peer is fed from the cell; a passive member's as its timer says, none on the cell.
DEDUCED, log entry 74. -/
def State.beatDue (cyc : Nat) (s : State) : Bool :=
  if s.active then
    (if s.pwr.onCell || s.pair.peerOnCell then s.meas.tick % 32 == 0 && cyc == 9600
     else decide (9600 ≤ cyc) && (cyc - 9600) % 480000 == 0)
  else !s.pwr.onCell

/-- FLAGS of a frame sent (R540): active, fed from the cell, and READY of a passive member. -/
def State.movorFlags (s : State) : Nat := flag s.drives 0 + flag s.pwr.onCell 1 + flag (!s.active && s.pair.ready) 2

/-- A frame as it stands on the link (R540, R541). -/
def State.movorBytes (f : MovorFrame) (s : State) : List Byte :=
  let n := f.payload.length
  let b := le 1 f.type ++ le 1 s.movorFlags ++ le 2 n ++ le 4 f.seq ++ le 4 s.pair.ackSeq ++ f.payload ++ zeros ((n + 3) / 4 * 4 - n)
  b ++ le 4 (crc32 b).toNat

/-- HEARTBEAT_TIMER (R543): every 50 ms a FAILED frame while fail-silent, a HELLO while unpaired, a HEARTBEAT while paired.
DEDUCED, log entries 74 and 142. -/
def execHeartbeatTimer (now : Now) (s : State) : Out :=
  if s.pwr.failSilent then
    (if s.paired ∧ s.pwr.phase = .running then
      .next (s.onPair fun p => { p with
        txSeq := p.txSeq + 1, store := [], waiting := [],
        line := s.movorBytes { seq := p.txSeq + 1, type := 8, payload := le 1 s.pwr.failCause } })
    else .next s)
  else if !s.onMovor then .next s
  else if s.pair.phase < 2 then
    if s.normal ∨ s.pwr.mode = .unconfigured then
      .next (s.onPair fun p => ({ p with txSeq := 0, rxSeq := 0, ackSeq := 0, store := [], waiting := [], missing := [], ahead := [] }).send
        1 s.helloPayload)
    else .next s
  else if s.pwr.pfActive ∨ !s.beatDue now.cyc then .next s
  else .next ((s.onPair (Pair.send 2 (s.heartbeatPayload (s.rtc.sub now.sub)))).sync)

/-! ### Receiving: order, acknowledgement, gaps (R542) -/

/-- What a frame's FLAGS say of the peer, and that a valid frame has arrived (R540, R549). -/
def State.noteFlags (ms : Nat) (f : PeerFrame) (s : State) : State :=
  s.onPair fun p => { p with
    heard := true, heardMs := ms, peerActive := f.flags.getLsbD 0, peerOnCell := f.flags.getLsbD 1, failedHeard := false,
    ready := if p.active && p.phase == 3 then f.flags.getLsbD 2 else p.ready }

/-- The TX_LIMITs that an acknowledged RECORD of SECURITY carries (R400). -/
def ackedLimits (f : MovorFrame) : Option (List Nat) :=
  if f.type = 3 ∧ fieldAt f.payload 0 3 = 0x250000 ∧ 4 < f.payload.length then
    some ((List.range 41).map fun i => fieldAt f.payload (4 + 4 * i) 4)
  else none

/-- Take an acknowledgement: the store is freed, reserved counters are released, and SYNC_END's makes the peer READY (R400, R542,
R545). -/
def State.takeAck (ms ack : Nat) (s : State) : State :=
  let got := s.pair.store.filter fun f => decide (f.seq ≤ ack)
  let s1 := (s.onPair fun p => { p with store := p.store.filter fun f => decide (ack < f.seq) }).onPair Pair.flush
  let s2 := (got.filterMap ackedLimits).foldl (fun t l => t.onSec fun c => { c with peer := l }) s1
  let s3 := match s2.pair.syncEnd with
    | none => s2
    | some q => if q ≤ ack ∧ s2.pair.phase = 2 then s2.pairReady ms else s2
  s3.sync

/-- Ask for the frames below a SEQ that have not come: one RESEND each, which takes no SEQ (R542). DEDUCED, log entry 68. -/
def State.askMissing (seq : Nat) (s : State) : State :=
  let p := s.pair
  let lost := ((List.range (min 2048 (seq - 1 - p.rxSeq))).map (· + p.rxSeq + 1)).filter fun q =>
    !p.missing.contains q && !p.ahead.any fun f => f.seq == q
  if lost.isEmpty then s
  else s.onPair fun p => { p with
    missing := p.missing ++ lost, resends := Word.sat 255 (p.resends + lost.length),
    line := lost.flatMap fun q => s.movorBytes { seq := 0, type := 6, payload := le 4 q } }

/-- Acknowledge what has been received in order, once its records are committed (R540, R546). -/
def State.noteAck (s : State) : State := if s.mem.queue.isEmpty then s.onPair fun p => { p with ackSeq := p.rxSeq } else s

/-- Take the content of frames in order, those that came ahead of a missing one included; f is what a content does.
DEDUCED, log entry 69. -/
def State.takeInOrder (f : MovorFrame → State → State) (n : Nat) (m : MovorFrame) (s : State) : State :=
  let s1 := (f m (s.onPair fun p => { p with rxSeq := m.seq, missing := p.missing.filter (· != m.seq) })).noteAck
  match n with
  | 0 => s1
  | k + 1 =>
    match s1.pair.ahead.find? fun x => x.seq == m.seq + 1 with
    | none => s1
    | some x => State.takeInOrder f k x (s1.onPair fun p => { p with ahead := p.ahead.filter fun y => y.seq != x.seq })

/-- Receive a numbered frame while paired. -/
def State.receive (f : MovorFrame → State → State) (type : Nat) (now : Now) (p : PeerFrame) (s : State) : State :=
  if !s.onMovor then s.offLink
  else
    let s1 := s.noteFlags now.ms p
    if s1.pair.phase < 2 then s1
    else
      let s2 := s1.takeAck now.ms p.ack
      let m : MovorFrame := { seq := p.seq, type := type, payload := p.payload }
      if p.seq ≤ s2.pair.rxSeq then s2
      else if p.seq = s2.pair.rxSeq + 1 then s2.takeInOrder f s2.pair.ahead.length m
      else
        let s3 := s2.askMissing p.seq
        if s3.pair.ahead.any fun x => x.seq == p.seq then s3
        else s3.onPair fun q => { q with ahead := q.ahead ++ [m], missing := q.missing.filter (· != p.seq) }

/-! ### What the frames do -/

/-- HEARTBEAT (R543): a passive member takes MEAS_TICK, the RTC count, SUBSEC and OSF; `raw` is what its own prescaler reads. -/
def State.takeHeartbeat (raw : Nat) (d : List Byte) (s : State) : State :=
  let s1 := s.onPair fun p => { p with peerVbus := Word.bit (fieldAt d 10 1) 1, peerEpoch := fieldAt d 11 4 }
  if s1.active ∨ !s1.pair.peerActive then s1
  else ((s1.onMeas fun m => { m with tick := fieldAt d 0 4 }).onRtc fun r => { r with
    count := fieldAt d 4 5, subBase := (raw % 32768 + 32768 - 128 * fieldAt d 9 1) % 32768,
    osf := Word.bit (fieldAt d 10 1) 0 }).onPwr fun p => { p with warmGap := false }

/-- How a record that arrives is written at its address. -/
def State.arrivedRec (a : Nat) (body : List Byte) (s : State) : HoardRec :=
  match recGeo a with
  | some (b, _) => { kind := .slots a b, body := body }
  | none =>
    if a < 0x190000 then
      let c := s.ch (fieldAt body 15 1)
      { kind := .single a (1 + if fieldAt body 2 1 = 1 then c.snap.seqM else c.snap.seqA), body := body }
    else if a < 0x210000 then { kind := .profile a, body := body }
    else { kind := .entry a, body := body }

/-- Clear the sequence words of the record at an address: the active member holds none there. DEDUCED, log entry 72. -/
def Mem.clearRecord (m : Mem) (a : Nat) : Mem :=
  match recGeo a with
  | some (b, _) => (m.writeWord (a, zeros 8)).writeWord (b, zeros 8)
  | none => m.writeWord (a, zeros 8)

/-- What the working state takes from a record that has arrived (R545, R546). -/
def State.absorb (a : Nat) (d : List Byte) (s : State) : State :=
  if a = 0x100000 then s.onImg fun i => { i with module_ := ModuleRec.ofBytes d }
  else if a = 0x100880 then s.onPair fun p => { p with record := PairRec.ofBytes d }
  else if a = 0x250000 then s.onSec fun c => { c with
    limit := (List.range 41).map fun i => fieldAt d (4 * i) 4, floor := (List.range 32).map fun k => fieldAt d (0xA8 + 4 * k) 4 }
  else if 0x110000 ≤ a ∧ a < 0x11A000 then
    let w := Work.ofBytes d
    s.onCh ((a - 0x110000) / 1024 + 1) fun c => { c with a := w, b := w, lost := false }
  else if 0x101000 ≤ a ∧ a < 0x110000 then
    let n := (a - 0x101000) / 1536 + 1
    s.onCh n fun c => { c with flow := Flow.judgeCal s.img.module_.commissioned (s.cfg n) { c.flow with cal := some (Cal.ofBytes d) } }
  else if 0x120000 ≤ a ∧ a < 0x190000 then
    let key := some (fieldAt d 0 2)
    s.onCh (fieldAt d 15 1) fun c => { c with snap := if fieldAt d 2 1 = 1
      then { c.snap with keyM := max key c.snap.keyM, seqM := c.snap.seqM + 1 }
      else { c.snap with keyA := max key c.snap.keyA, seqA := c.snap.seqA + 1 } }
  else if 0x210000 ≤ a ∧ a < 0x230000 then s.onLog fun l => { l with next := max l.next (fieldAt d 0 4 + 1) }
  else if 0x230000 ≤ a ∧ a < 0x240000 then
    if s.log.auditNext ≤ fieldAt d 0 4 then s.onLog fun l => { l with
      auditNext := fieldAt d 0 4 + 1, auditLast := some (fieldAt d 10 1, slice d 20 16, slice d 36 16) }
    else s
  else s

/-- A channel's TOTALS record has come after POWER_FAIL (R554). -/
def State.pfGot (a : Nat) (s : State) : State :=
  if 0x110000 ≤ a ∧ a < 0x11A000 then
    s.onPair fun p => { p with pfLeft := p.pfLeft.filter (· != (a - 0x110000) / 1024 + 1) }
  else s

/-- RECORD (R545, R546): the passive member commits the record, and its working state follows. -/
def State.takeRecord (d : List Byte) (s : State) : State :=
  let a := fieldAt d 0 3
  let body := d.drop 4
  if s.active ∨ !mirrored a then s
  else if body.isEmpty then
    (if s.canLand then s.drain.onMem fun m => m.clearRecord a else s)
  else
    let s1 := ((s.onMem fun m => { m with queue := m.queue ++ [s.arrivedRec a body] }).absorb a body).pfGot a
    if s1.canLand then s1.drain else s1

/-- RING (R546): the demand ring of a channel, newest sub-interval first. -/
def State.takeRing (d : List Byte) (s : State) : State :=
  if s.active then s
  else s.onCh (fieldAt d 0 1) fun c => { c with
    ring := (List.range ((d.length - 4) / 16)).map fun i => (fieldAt d (4 + 16 * i) 8, fieldAt d (12 + 16 * i) 8) }

/-- POWER_FAIL (R554): a READY passive member on VBUS in NORMAL awaits the records of the final commit, every channel's TOTALS record. -/
def State.takePowerFail (ms : Nat) (s : State) : State :=
  let s1 := s.mirRaise 256
  if s1.active then s1
  else
    let s2 := if s1.pair.peerHand.isSome then s1.abandonSwitch 2 else s1
    if s2.pair.ready ∧ s2.normal ∧ s2.pwr.vbusOk then s2.onPair fun p => { p with pfWait := true, pfSince := ms, pfLeft := s.activeCh }
    else s2

/-- SWITCH (R558): the tick H of the handover. -/
def State.takeSwitch (d : List Byte) (s : State) : State :=
  if s.active ∨ !s.pair.ready then s else s.onPair fun p => { p with peerHand := some (fieldAt d 0 4) }

/-- SWITCH_DONE (R558): the waiting pulses of each output. -/
def State.takeSwitchDone (d : List Byte) (s : State) : State :=
  s.onPair fun p => { p with pulsesIn := (List.range 8).map fun k => fieldAt d (2 * k) 2 }

/-- PEER_EVENT (R547): logged by the active member as event 0x00A6. -/
def State.takePeerEvent (d : List Byte) (s : State) : State :=
  if s.active then s.event 0xA6 (fieldAt d 12 1) (slice d 10 2 ++ slice d 16 10) else s

/-- SYNC_END (R545): the passive member is READY, unless it is fed from its cell (R555). -/
def State.takeSyncEnd (ms : Nat) (s : State) : State :=
  if s.active ∨ s.pwr.onCell ∨ s.pair.phase ≠ 2 then s else s.pairReady ms

/-- What the content of a frame does, by its TYPE (R541). DEDUCED, log entry 69. -/
def State.takeContent (now : Now) (m : MovorFrame) (s : State) : State :=
  match m.type with
  | 2 => s.takeHeartbeat now.sub m.payload
  | 3 => s.takeRecord m.payload
  | 4 => s.takeRing m.payload
  | 7 => s.takePowerFail now.ms
  | 9 => s.takeSwitch m.payload
  | 10 => s.takeSwitchDone m.payload
  | 11 => s.takePeerEvent m.payload
  | 12 => s.takeSyncEnd now.ms
  | _ => s

/-- RECORD (R546). -/
def execRecord (now : Now) (frame : PeerFrame) (s : State) : Out := .next (s.receive (State.takeContent now) 3 now frame)

/-- RING (R546). -/
def execRing (now : Now) (frame : PeerFrame) (s : State) : Out := .next (s.receive (State.takeContent now) 4 now frame)

/-- POWER_FAIL (R554). -/
def execPowerFail (now : Now) (frame : PeerFrame) (s : State) : Out := .next (s.receive (State.takeContent now) 7 now frame)

/-- SWITCH (R558). -/
def execSwitchFrame (now : Now) (frame : PeerFrame) (s : State) : Out := .next (s.receive (State.takeContent now) 9 now frame)

/-- SWITCH_DONE (R558). -/
def execSwitchDone (now : Now) (frame : PeerFrame) (s : State) : Out := .next (s.receive (State.takeContent now) 10 now frame)

/-- PEER_EVENT (R547). -/
def execPeerEvent (now : Now) (frame : PeerFrame) (s : State) : Out := .next (s.receive (State.takeContent now) 11 now frame)

/-- SYNC_END (R545). -/
def execSyncEnd (now : Now) (frame : PeerFrame) (s : State) : Out := .next (s.receive (State.takeContent now) 12 now frame)

/-- HEARTBEAT (R543). Where it shows both members active, the one with the lower EPOCH, or with equal EPOCH the higher serial,
becomes passive, logs a link fault and pairs again (R560). -/
def execHeartbeat (now : Now) (frame : PeerFrame) (s : State) : Out :=
  let e := fieldAt frame.payload 11 4
  let own := s.pair.record.epoch
  if s.onMovor && s.active && frame.flags.getLsbD 0 && (decide (own < e) || (own == e && decide (s.pair.peerSerial < s.otp.serial))) then
    let s1 := (s.noteFlags now.ms frame).demote now.ms
    .next (s.noteMode ((s1.linkFaultBegin 5).onPair fun p => { p with phase := 1, ready := false }))
  else .next (s.receive (State.takeContent now) 2 now frame)

/-- ACK (R542): nothing but the acknowledgement. -/
def execAck (now : Now) (frame : PeerFrame) (s : State) : Out :=
  if !s.onMovor then .next s.offLink
  else
    let s1 := s.noteFlags now.ms frame
    if s1.pair.phase < 2 then .next s1 else .next (s1.takeAck now.ms frame.ack)

/-- Send a frame of the store again (R542). -/
def State.sendAgain (seq : Nat) (s : State) : State :=
  match s.pair.store.find? fun f => f.seq == seq with
  | none => s
  | some f => s.onPair fun p => { p with line := s.movorBytes f }

/-- RESEND (R542): the frame asked for is sent again from the store, which keeps it. -/
def execResend (now : Now) (frame : PeerFrame) (s : State) : Out :=
  if !s.onMovor then .next s.offLink
  else
    let s1 := s.noteFlags now.ms frame
    if s1.pair.phase < 2 then .next s1 else .next ((s1.takeAck now.ms frame.ack).sendAgain (fieldAt frame.payload 0 4))

/-- MOVOR_FRAME_ERROR (R541, R542): the frame is discarded and counted, and a gap that the next frame shows is asked for. -/
def execMovorFrameError (_now : Now) (seenSeq : Option Nat) (s : State) : Out :=
  if !s.onMovor then .next s.offLink
  else
    let s1 := s.onPair fun p => { p with crcErrors := Word.sat 65535 (p.crcErrors + 1) }
    match seenSeq with
    | none => .next s1
    | some q => if s1.pair.phase < 2 then .next s1 else .next (s1.askMissing q)

/-- FAILED (R549): the peer says that it is fail-silent. -/
def execFailed (now : Now) (frame : PeerFrame) (s : State) : Out :=
  if !s.onMovor then .next s.offLink
  else
    let s1 := (s.noteFlags now.ms frame).onPair fun p => { p with failedHeard := true }
    .next (if s1.active then s1.unpair else s1)

/-! ### Pairing (R539, R544) -/

/-- The first check of R544 that fails, 0 for none. DEDUCED, log entries 73 and 78. -/
def State.pairCheck (frame : PeerFrame) (s : State) : Nat :=
  let d := frame.payload
  let peer := fieldAt d 0 8
  let flags := fieldAt d 41 1
  let named := match s.img.image with
    | none => false
    | some im => match im.members with
      | none => false
      | some (a, b) => (a == s.otp.serial && b == peer) || (b == s.otp.serial && a == peer)
  if !(s.img.accepted && Word.bit flags 1 && slice d 8 32 == s.img.module_.digest) then 1
  else if !named then 2
  else if fieldAt d 40 1 = s.pwr.strapRole then 3
  else if s.active && frame.flags.getLsbD 0 then 4
  else 0

/-- Neither member is active: whether this one becomes so (R539). -/
def State.electsSelf (d : List Byte) (s : State) : Bool :=
  let peer := fieldAt d 0 8
  let e := fieldAt d 42 4
  let mine := s.pair.record.serial == s.otp.serial
  let theirs := fieldAt d 46 8 == peer
  if mine && (!theirs || decide (e < s.pair.record.epoch)) then true
  else if theirs && (!mine || decide (s.pair.record.epoch < e)) then false
  else s.pwr.strapRole == 1

/-- Send the entries logged while unpaired, before the synchronisation overwrites the log (R547). -/
def State.sendPeerEvents (s : State) : State :=
  (s.pair.peerEvents.foldl (fun t e => t.onPair (Pair.send 11 e)) s).onPair fun p => { p with peerEvents := [] }

/-- The pairing is made. -/
def State.pairUp (now : Now) (frame : PeerFrame) (s : State) : State :=
  let d := frame.payload
  let s1 := s.onPair fun p => { p with
    phase := 2, peerSerial := fieldAt d 0 8, peerEpoch := fieldAt d 42 4, rxSeq := frame.seq, ackSeq := frame.seq, missing := [], ahead := [],
    pairedAt := now.ms, ready := false, syncTodo := [], syncTotal := 0, syncEnd := none, refuse := p.refuse, heard := true,
    store := p.store.filter fun f => decide (frame.ack < f.seq) }
  let s2 := if s1.pair.linkFault then
      (s1.onPair fun p => { p with linkFault := false }).ending 0xA2 0 0 []
    else s1
  let elected := !s2.active && !frame.flags.getLsbD 0 && s2.normal && !s2.pwr.failSilent && s2.electsSelf d
  let s3 := if elected then s2.declare 0 else s2
  if s3.active || elected then s3.onPair fun p => { p with peerEvents := [] } else s3.sendPeerEvents

/-- HELLO (R544): the checks, and the pairing or its refusal. A HELLO from a peer that is taken for paired ends that pairing
first. -/
def execHello (now : Now) (frame : PeerFrame) (s : State) : Out :=
  if !s.onMovor then .next s.offLink
  else
    let s1 := (s.unpair).noteFlags now.ms frame
    let c := s1.pairCheck frame
    if c = 0 then .next (s1.pairUp now frame)
    else
      let peer := fieldAt frame.payload 0 8
      let known := s1.pair.refuse == c && s1.pair.peerSerial == peer
      let s2 := (s1.onPair fun p => { p with refuse := c, barred := true, peerSerial := peer }).mirRaise 128
      .next (if known then s2 else s2.event 0xA3 0 (le 1 c ++ le 4 peer))

/-! ### Loss of the peer, activation and handover (R549 to R554) -/

/-- MOVOR_LINK_FAULT (R542): a resent frame has not come within 20 ms, an acknowledgement or a wait is more than 100 ms old, or the cable
is lost. -/
def execMovorLinkFault (cause ageMs : Nat) (s : State) : Out :=
  let p := s.pair
  let holds := if cause = 1 then !p.missing.isEmpty && decide (20 ≤ ageMs)
    else if cause = 2 then !p.store.isEmpty && decide (100 < ageMs)
    else if cause = 3 then !p.waiting.isEmpty && decide (100 < ageMs) else decide (cause = 4) && p.cableLost
  if !s.onMovor ∨ s.pair.phase < 2 ∨ !holds then .next s
  else
    let s1 := if cause = 1 then s.onPair fun p => { p with resendFail := Word.sat 255 (p.resendFail + 1) } else s
    .next (s1.linkFaultBegin cause)

/-- Milliseconds since the last valid frame, or the start. -/
def State.silentFor (ms : Nat) (s : State) : Nat := ms - s.pair.heardMs

/-- FRAMES_STOPPED (R549): no frame for 250 ms while PEER_OK_IN or the harness shows the peer. -/
def execFramesStopped (now : Now) (s : State) : Out :=
  if !s.onMovor ∨ !s.pair.heard ∨ s.silentFor now.ms < 250 ∨ !(s.pair.peerOkIn || s.pair.harness) then .next s
  else .next ((s.linkFaultBegin 5).onPair fun p => { p with heard := false })

/-- The member is one that may take over: passive, in NORMAL, on VBUS, commissioned, not fail-silent (R549). -/
def State.mayTakeOver (s : State) : Bool :=
  s.onMovor && !s.active && s.normal && s.pwr.vbusOk && !s.pwr.onCell && s.img.module_.commissioned && !s.pwr.failSilent &&
    s.pair.rising.isNone && !s.pwr.pfActive

/-- PEER_LOST (R549): the three witnesses agree; a READY member takes over (R552), but one whose pairing was refused not while it still
hears the peer (R544). -/
def execPeerLost (now : Now) (peerOkLowMs quietMs : Nat) (s : State) : Out :=
  let frames := decide (250 ≤ s.silentFor now.ms) || (s.pair.failedHeard && !s.pair.barred)
  if !s.mayTakeOver ∨ !s.pair.ready ∨ !frames ∨ peerOkLowMs < 10 ∨ quietMs < 250 then .next s
  else
    let s1 := s.unpair.onPair fun p => { p with heard := false, peerActive := false, failedHeard := false }
    .next (s1.declare 1)

/-- Raise every TX_LIMIT by 2^24 and commit the SECURITY record (R551). -/
def State.jumpCounters (s : State) : State :=
  (s.onSec fun c => { c with limit := c.limit.map (· + 2 ^ 24) }).commitSec

/-- UNMIRRORED_ACTIVATION (R550, R551). A strapped PRIMARY may replace PEER_OK_IN by 2 s without frames and harness activity; a
strapped STANDBY must have run for 2 s. DEDUCED, log entry 75. -/
def execUnmirroredActivation (now : Now) (peerOkLowMs quietMs runMs : Nat) (s : State) : Out :=
  let silentMs := s.silentFor now.ms
  let primary := decide (s.pwr.strapRole = 1)
  let exception := primary && decide (2000 ≤ silentMs ∧ 2000 ≤ quietMs ∧ peerOkLowMs < 10)
  let witness := decide (250 ≤ silentMs ∧ 250 ≤ quietMs) && (decide (10 ≤ peerOkLowMs) || exception)
  if !s.mayTakeOver ∨ s.pair.barred ∨ !witness ∨ (!primary ∧ runMs < 2000) ∨ (s.pair.ready ∧ !exception) then .next s
  else
    let s1 := s.unpair.onPair fun p => { p with heard := false, peerActive := false, failedHeard := false, ready := false }
    let s2 := s1.jumpCounters.forCh allCh fun n t => t.onCh n fun c => { c with gap := none }
    .next (s2.declare 2)

/-- Every record of the peer's final commit has come and is committed (R554). -/
def State.pfRecords (s : State) : Bool := s.pair.pfLeft.isEmpty && s.mem.queue.isEmpty

/-- PF_HANDOVER_TIMEOUT (R554): the records are committed, or 250 ms have passed since POWER_FAIL. -/
def execPfHandoverTimeout (now : Now) (s : State) : Out :=
  if !s.pair.pfWait ∨ !s.mayTakeOver then .next (s.onPair fun p => { p with pfWait := false })
  else if s.pfRecords ∨ s.pair.pfSince + 250 ≤ now.ms then .next (s.declare 3)
  else .next s

/-! ### Planned switchover (R557, R558) -/

/-- The conditions of step 2 hold: the queue is empty, no frame or response window is in progress, no valve moves.
DEDUCED, log entry 77. -/
def State.switchDrained (ms : Nat) (s : State) : Bool :=
  s.radio.queue.isEmpty && !s.windowAhead ms && decide (s.radio.txEnd ≤ ms) && s.bridge.moving.isNone

/-- The old active member's part of edge H (R558): the steps that end are closed, committed and mirrored, the waiting pulses
are handed over, and the member becomes passive. DEDUCED, log entry 77. -/
def State.handOver (ms : Nat) (upsets : List (Nat × Upset)) (s : State) : State :=
  let s1 := s.closeAll 0 false false upsets
  let counts := (List.range 8).map fun k => (s1.out (k + 1)).waiting.length
  let s2 := s1.onPair (Pair.send 10 (counts.flatMap fun n => le 2 n))
  let outs := (List.range 8).map fun k => (s2.out (k + 1)).closed
  let s3 := (s2.forCh ((List.range 8).map (· + 1)) fun k t => t.setOut k { t.out k with waiting := [] }).demote ms
  let s4 := s3.forCh ((List.range 8).map (· + 1)) fun k t => t.setOut k { t.out k with closed := nth outs (k - 1) false }
  (s4.onPair fun p => { p with ready := true }).mirRaise 32

/-- SWITCHOVER_HANDOVER (R558): at the first edge with everything drained SWITCH names the next tick, H; at edge H the role is
handed over. DEDUCED, log entry 77. -/
def execSwitchoverHandover (now : Now) (upsets : List (Nat × Upset)) (s : State) : Out :=
  if !s.pair.switching ∨ !s.active then .next s
  else match s.pair.handTick with
    | none =>
      if s.switchDrained now.ms then
        let h := s.meas.tick + 1
        .next ((s.onPair fun p => { p with handTick := some h }).onPair (Pair.send 9 (le 4 h)))
      else .next s
    | some h => if h ≤ s.meas.tick then .next (s.noteMode (s.handOver now.ms upsets)) else .next s

/-- SWITCHOVER_ABANDONED (R558): not drained within 30 s. -/
def execSwitchoverAbandoned (now : Now) (s : State) : Out :=
  if s.pair.switching ∧ s.pair.handTick.isNone ∧ s.pair.switchAt + 30000 ≤ now.ms then .next (s.abandonSwitch 1) else .next s

/-- What a tick edge does in a pair: an activation that was declared, that the records of a power-fail handover allow (R554), or that edge
H of a switchover makes, takes effect. DEDUCED, log entry 76. -/
def State.pairTick (s : State) : State :=
  match s.pair.rising with
  | some k => if s.normal ∨ s.backup then s.beginActive k else s
  | none =>
    if s.pair.pfWait && s.mayTakeOver && s.pfRecords then (s.declare 3).beginActive 3
    else match s.pair.peerHand with
    | some h => if h = s.meas.tick ∧ !s.active ∧ s.normal then (s.declare 4).beginActive 4 else s
    | none => s

end Sys2Proof.Machine
end

