-- ==== Sys2Proof/Machine/Tamper.lean ====
section
/-! DEFINITION. Tamper recording (R89, R326 to R328, R331, R332): the SETT latch, its transfer into the event log, and the Movor
cable. -/

namespace Sys2Proof.Machine

/-- Raise bits of `TAMPER_EVENTS`. -/
def State.tamperRaise (mask : Nat) (s : State) : State := s.onTamper fun t => { t with events := setBits t.events mask }

/-- Event code of a switch (R328). -/
def tamperCode (i : TamperInput) : Nat :=
  match i with
  | .cover => 0x80
  | .terminalCover => 0x81

/-- Latch an edge in SETT (R89): a ninth one overwrites the newest entry and marks it. -/
def Tamper.latchEdge (i : TamperInput) (opened : Bool) (time : Nat) (t : Tamper) : Tamper :=
  if t.latch.length < 8 then { t with latch := t.latch ++ [(i, opened, time, false)] }
  else { t with latch := t.latch.take 7 ++ [(i, opened, time, true)], events := setBits t.events 32 }

/-- Move the latch into the event log, oldest first (R89, R326): the entries carry the SETT timestamp. -/
def State.transferLatch (s : State) : State :=
  let fill := s.tamper.latch.length
  let s1 := s.onTamper fun t => { t with latch := [] }
  s.tamper.latch.foldl (fun u e =>
    let flags := 4 + flag e.2.2.2 3
    let data := le 1 (Word.ofBool e.2.1) ++ le 1 fill
    if e.2.1 then u.onsetAt e.2.2.1 flags (tamperCode e.1) 0 0 true data
    else u.endAt e.2.2.1 flags (tamperCode e.1) 0 0 data) s1

/-- The level of a switch. -/
def Tamper.setLevel (i : TamperInput) (opened : Bool) (t : Tamper) : Tamper :=
  match i with
  | .cover => { t with coverOpen := opened, events := setBits t.events (flag opened 0) }
  | .terminalCover => { t with tcoverOpen := opened, events := setBits t.events (flag opened 1) }

/-- TAMPER_EDGE (R326): an accepted change of a switch is latched wherever SETT has power, which is every power state except Off, and
reaches the event log at once while the module runs. -/
def execTamperEdge (input : TamperInput) (opened : Bool) (s : State) : Out :=
  if s.pwr.state = .off ∨ !s.pwr.settRun then .next s
  else
    let s1 := s.onTamper fun t => (t.latchEdge input opened s.rtc.count).setLevel input opened
    .next (if s1.running ∧ s1.pwr.state = .run then s1.transferLatch else s1)

/-- The card's detect level is sampled (R150, R328). DEDUCED, log entry 101. -/
def State.sampleCard (out : Bool) (s : State) : State :=
  let was := s.tamper.cardOut
  let s1 := s.onImg fun i => { i with cardPresent := !out }
  let s2 := s1.change was out 0x82 0 0 (le 5 s.tamper.cardSeen)
  let s3 := s2.onTamper fun t => { t with cardOut := out, cardSeen := if out then t.cardSeen else s.rtc.count }
  if out && !was then s3.tamperRaise 4 else s3

/-- A switch that is open at the first tick after SETT was lost is logged as an onset of untrusted time (R327). -/
def State.firstTamper (cover tcover : Bool) (s : State) : State :=
  let s1 := s.onTamper fun t => (t.setLevel .cover cover).setLevel .terminalCover tcover
  let one (c : Nat) (u : State) : State := u.onsetAt u.rtc.count (1 - u.untrusted) c 0 0 true (le 1 1 ++ le 1 0)
  let s2 := if cover then one 0x80 s1 else s1
  if tcover then one 0x81 s2 else s2

/-- A Movor cable that is lost, in a pair role, is reported once, logged as event 0x0084, and the link is faulted (R32, R542). -/
def State.reportCable (s : State) : State :=
  if !s.paired ∨ s.pwr.phase ≠ .running ∨ !s.powered ∨ !s.pair.cableOpen ∨ s.pair.cableLost then s
  else
    let s1 := ((s.onPair fun p => { p with cableLost := true }).onTamper fun t => { t with linkLost := true }).tamperRaise 16
    (s1.onset 0x84 0 0 (le 1 s.pwr.strapRole)).linkFaultBegin 4

/-- MOVOR_CABLE_LOSS (R32): LINK_DET has read high for 10 ms. A loss before the first tick is reported at that tick. -/
def execMovorCableLoss (highMs : Nat) (s : State) : Out :=
  if highMs < 10 then .next s else .next (s.onPair fun p => { p with cableOpen := true }).reportCable

/-- MOVOR_CABLE_RESTORED (R328): the condition ends. -/
def execMovorCableRestored (s : State) : Out :=
  let s0 := s.onPair fun p => { p with cableOpen := false }
  if !s.paired ∨ s.pwr.phase ≠ .running ∨ !s.powered ∨ !s.pair.cableLost then .next s0
  else
    let s1 := (s0.onPair fun p => { p with cableLost := false }).onTamper fun t => { t with linkLost := false }
    .next (s1.ending 0x84 0 0 (le 1 s.pwr.strapRole))

end Sys2Proof.Machine
end

