-- ==== Sys2Proof/Machine/Image.lean ====
section
/-! DEFINITION. The configuration image (R108 to R137, R151): its sections and their checks, the image that the module holds, the
admission test and the decision. -/

namespace Sys2Proof.Machine

/-! ### Sections (R110 to R112) -/

/-- A section as framed: its type, its body, its complete bytes, and whether its frame is as R110 says. -/
structure Sect where
  type   : Nat
  body   : List Byte
  raw    : List Byte
  framed : Bool
  deriving DecidableEq, Repr

/-- Class of a section type and how many of it an image may hold; class 0 for an unknown type (R111). -/
def sectKind (type : Nat) : Nat × Nat :=
  match type with
  | 0x01 | 0xF0 => (0x4C, 1)
  | 0x10 | 0x11 | 0x12 => (0x4C, 40)
  | 0x13 => (0x4C, 4)
  | 0x20 | 0x21 | 0x22 => (0x42, 1)
  | 0x02 | 0x30 | 0x31 | 0x32 | 0x33 | 0x40 | 0x41 | 0x50 | 0x60 | 0x70 => (0x4F, 1)
  | _ => (0, 0)

/-- All bytes of a range of a body are 0. -/
def zeroAt (d : List Byte) (off n : Nat) : Bool := (slice d off n).all (· == 0#8)

/-- Split the sections that fill the bytes exactly (R110); the last is badly framed where the chain of lengths breaks. -/
def splitSections (n : Nat) (bs : List Byte) : List Sect :=
  match n with
  | 0 => []
  | k + 1 =>
    if bs.isEmpty then []
    else
      let type := fieldAt bs 0 2
      let blen := fieldAt bs 4 4
      let padded := (blen + 3) / 4 * 4
      let total := 8 + padded + 4
      if bs.length < total then [{ type := type, body := [], raw := bs, framed := false }]
      else
        let ok := decide ((sectKind type).1 ≠ 0 ∧ fieldAt bs 2 1 = (sectKind type).1 ∧ fieldAt bs 3 1 = 0) &&
          zeroAt bs (8 + blen) (padded - blen) && fieldAt bs (8 + padded) 4 == (crc32 (bs.take (8 + padded))).toNat
        { type := type, body := slice bs 8 blen, raw := bs.take total, framed := ok } :: splitSections k (bs.drop total)

/-- Bodies of a type. -/
def bodies (l : List Sect) (type : Nat) : List (List Byte) := (l.filter fun s => s.type == type).map (·.body)

/-- The body of a type that occurs at most once. -/
def bodyOf (l : List Sect) (type : Nat) : Option (List Byte) := (bodies l type).head?

/-- Sections stand in ascending type order, those of one type in ascending order of their index byte, and none too often
(R111). -/
def orderOk (prev : Option Sect) (s : Sect) : Bool :=
  match prev with
  | none => true
  | some p => decide (p.type < s.type) ||
      (p.type == s.type && decide (1 < (sectKind s.type).2) && decide (fieldAt p.body 0 1 < fieldAt s.body 0 1))

/-! ### Checks of bodies against their layouts -/

/-- An 8-digit BCD number (R113, R115). DEDUCED, log entry 86. -/
def bcdOk (v : Nat) : Bool := (List.range 8).all fun i => decide (v / 16 ^ i % 16 < 10)

/-- v lies within [lo, hi]. -/
def inRange (lo hi v : Nat) : Bool := decide (lo ≤ v ∧ v ≤ hi)

/-- v lies within [lo, hi]. -/
def inRangeI (lo hi v : Int) : Bool := decide (lo ≤ v ∧ v ≤ hi)

/-- CHANNEL TYPE as a channel type (R115). -/
def chTypeOf (v : Nat) : ChType :=
  match v with
  | 1 => .heat
  | 2 => .cool
  | 3 => .heatcool
  | 4 => .water
  | 5 => .gas
  | _ => .off

/-- The CHANNEL body of a channel. -/
def chanBody (l : List Sect) (ch : Nat) : Option (List Byte) := (bodies l 0x10).find? fun d => fieldAt d 0 1 == ch

/-- The type of a channel by its CHANNEL section; OFF without one. -/
def typeOf (l : List Sect) (ch : Nat) : ChType :=
  match chanBody l ch with
  | none => .off
  | some d => chTypeOf (fieldAt d 1 1)

/-- A heat, cool or heat/cool meter: both sensors. -/
def ChType.both (t : ChType) : Bool := t == .heat || t == .cool || t == .heatcool

/-- A CHANNEL body needs a TEMPCAL (R111). -/
def needsTempCal (d : List Byte) : Bool :=
  let t := chTypeOf (fieldAt d 1 1)
  t.both || t == .gas || (t == .water && Word.bit (fieldAt d 3 1) 1)

/-- CHANNEL (R115, R194, R219, R248, R594); OPTIONS bit 1 on a channel that is not WATER is refused. DEDUCED, log entry 84.
DESIGN CHOICE, log entry 156. -/
def channelOk (l : List Sect) (d : List Byte) : Bool :=
  let f (o n : Nat) := fieldAt d o n
  let i (o : Nat) := fieldInt d o 4
  let ch := f 0 1
  let t := chTypeOf (f 1 1)
  let opt := f 3 1
  let hc := t == .heatcool
  let valve := Word.bit opt 2
  let same := (bodies l 0x10).any fun e => decide (fieldAt e 0 1 < ch) && slice e 8 6 == slice d 8 6
  let module_ := (bodyOf l 0x01).any fun e => slice e 0 6 == slice d 8 6
  d.length == 72 && inRange 1 40 ch && t != .off && inRange 0 1 (f 2 1) && (f 2 1 == 0 || ch % 10 == 1) &&
    decide (opt < 32) && (!Word.bit opt 1 || t == .water) && (!Word.bit opt 0 || t.both) &&
    (if needsTempCal d then inRange 1 3 (f 4 1) else f 4 1 == 0) &&
    inRange 32 255 (f 5 1) && inRange 1 32 (f 6 1) && (if t == .gas then inRange 0 3 (f 7 1) else f 7 1 == 0) &&
    bcdOk (f 10 4) && inRange 1 0x80000000 (f 20 4) && inRange 64 1536 (f 28 2) && zeroAt d 30 2 &&
    (if t.both then inRange 1000 100000 (f 44 4) else f 44 4 == 0) &&
    (if hc then inRangeI 0 50000 (i 48) else f 48 4 == 0) && (if hc then inRangeI 20000 500000 (i 52) else f 52 4 == 0) &&
    decide (f 56 4 < 256) && (if valve then inRange 3600 12000 (f 64 2) else f 64 2 == 0) &&
    (if valve then inRange 1 120 (f 66 2) else f 66 2 == 0) && zeroAt d 68 4 && !same && !module_

/-- FLOWCAL (R116, R189): one per channel that is not OFF. -/
def flowCalOk (l : List Sect) (d : List Byte) : Bool :=
  let rising (o : Nat) : Bool := (List.range 15).all fun i => decide (fieldAt d (o + 8 * i) 4 < fieldAt d (o + 8 * i + 8) 4)
  d.length == 780 && typeOf l (fieldAt d 0 1) != .off && zeroAt d 1 3 && decide (fieldInt d 4 4 + 20000 ≤ fieldInt d 8 4) &&
    (List.range 6).all fun k => rising (12 + 128 * k)

/-- RES_AT_0 permitted for an RTD code (R218). -/
def resOk (rtd v : Nat) : Bool :=
  match rtd with
  | 1 => inRange 99000 101000 v
  | 2 => inRange 495000 505000 v
  | 3 => inRange 990000 1010000 v
  | _ => false

/-- A used sensor entry of a TEMPCAL (R218, R220). -/
def sensorOk (rtd : Nat) (d : List Byte) (o : Nat) : Bool :=
  let a := fieldInt d (o + 4) 4
  let b := fieldInt d (o + 8) 4
  resOk rtd (fieldAt d o 4) && inRangeI (380 * 2 ^ 38) (400 * 2 ^ 38) (a * 100000) &&
    inRangeI (-650 * 2 ^ 51) (-500 * 2 ^ 51) (b * 1000000000) && zeroAt d (o + 12) 4

/-- TEMPCAL (R117, R218, R220). -/
def tempCalOk (l : List Sect) (d : List Byte) : Bool :=
  match chanBody l (fieldAt d 0 1) with
  | none => false
  | some c =>
    let rtd := fieldAt c 4 1
    d.length == 40 && needsTempCal c && zeroAt d 1 3 && sensorOk rtd d 4 &&
      (if (chTypeOf (fieldAt c 1 1)).both then sensorOk rtd d 20 else zeroAt d 20 16) && inRangeI (-50000) 50000 (fieldInt d 36 4)

/-- GASDEF (R118, R251). -/
def gasDefOk (d : List Byte) : Bool :=
  d.length == 156 && inRange 0 3 (fieldAt d 0 1) && zeroAt d 1 3 && inRangeI 0 200000 (fieldInt d 4 4) &&
    inRange 0x20000000 0xFFFFFFFF (fieldAt d 8 4) && inRange 1000 20000 (fieldAt d 12 4)

/-- Whether every element is below the next by an order. -/
def ascending {α : Type} (lt : α → α → Bool) (l : List α) : Bool :=
  match l with
  | [] => true
  | x :: t => (match t with
    | [] => true
    | y :: _ => lt x y) && ascending lt t

/-- A date of a year. -/
def validDate (y m d : Nat) : Bool := inRange 1 12 m && inRange 1 (monthLen y m) d

/-- The switching slots of profile p: hour, minute, tariff, reserved. -/
def profileSlots (d : List Byte) (p : Nat) : List (Nat × Nat × Nat × Nat) :=
  (List.range 8).map fun m => let o := 52 + 32 * p + 4 * m
    (fieldAt d o 1, fieldAt d (o + 1) 1, fieldAt d (o + 2) 1, fieldAt d (o + 3) 1)

/-- A day profile (R283): used slots first, at strictly ascending times, and at least one. -/
def profileOk (l : List (Nat × Nat × Nat × Nat)) : Bool :=
  let used := l.filter fun s => s.1 != 0xFF
  l == used ++ List.replicate (8 - used.length) (0xFF, 0, 0, 0) && !used.isEmpty &&
    (used.all fun s => decide (s.1 < 24 ∧ s.2.1 < 60 ∧ s.2.2.2 = 0) && inRange 1 4 s.2.2.1) &&
    ascending (fun a b => decide (60 * a.1 + a.2.1 < 60 * b.1 + b.2.1)) used

/-- An unused profile: every byte 0, except the hours 0xFF of its unused slots (R283). -/
def profileUnused (l : List (Nat × Nat × Nat × Nat)) : Bool := l.all fun s => s == (0xFF, 0, 0, 0)

/-- TARIFF (R119, R283). -/
def tariffOk (d : List Byte) : Bool :=
  let f (o : Nat) := fieldAt d o 1
  let ns := f 0
  let np := f 1
  let nd := f 2
  let season (j : Nat) : Bool := let o := 4 + 12 * j
    if j < ns then validDate 2000 (f o) (f (o + 1)) && (List.range 7).all (fun k => decide (f (o + 2 + k) < np)) && zeroAt d (o + 9) 3
    else zeroAt d o 12
  let special (s : Nat) : Bool := let o := 308 + 8 * s
    let y := fieldAt d o 2
    if s < nd then (y == 0 || inRange 2000 2399 y) && validDate (if y = 0 then 2000 else y) (f (o + 2)) (f (o + 3)) &&
      decide (f (o + 4) < np) && zeroAt d (o + 5) 3
    else zeroAt d o 8
  d.length == 564 && inRange 1 4 ns && inRange 1 8 np && decide (nd ≤ 32) && f 3 == 0 && (List.range 4).all season &&
    ascending (fun a b => decide (a < b)) ((List.range ns).map fun j => 32 * f (4 + 12 * j) + f (5 + 12 * j)) &&
    ((List.range 8).all fun p => if p < np then profileOk (profileSlots d p) else profileUnused (profileSlots d p)) &&
    (List.range 32).all special

/-- BILLING (R120, R287). -/
def billingOk (d : List Byte) : Bool :=
  let f (o : Nat) := fieldAt d o 1
  let cond (c : Nat) : Bool := let o := 8 + 8 * c
    let lim := fieldInt d (o + 4) 4
    zeroAt d (o + 2) 2 && (match f o with
      | 0 => f (o + 1) == 0 && lim == 0
      | 1 => decide (f (o + 1) < 2) && inRangeI (-400000) 2000000 lim
      | 2 => decide (f (o + 1) < 2) && inRangeI (-2400000) 2400000 lim
      | 3 => decide (f (o + 1) < 2)
      | _ => false)
  d.length == 24 && inRange 1 12 (f 0) && inRange 1 31 (f 1) && decide (f 2 ≤ 31) && decide (f 3 < 2) && inRange 1 60 (f 4) &&
    (if f 3 = 0 then f 5 == 1 else inRange 1 15 (f 5) && f 4 % f 5 == 0) && 60 % (f 4 / f 5) == 0 && decide (f 6 < 2) &&
    f 7 == 0 && cond 0 && cond 1

/-- The key set of a KEYS body whose serial is the module's: its offset (R124). -/
def ownSet (serial : Nat) (d : List Byte) : Option Nat :=
  let size := 8 + 32 * fieldAt d 0 1
  ((List.range (fieldAt d 1 1)).map fun x => 4 + size * x).find? fun o => fieldAt d o 8 == serial

/-- The keys of a KEYS body, index and USE, by the module's own set; by the first one where it has none. DESIGN CHOICE, log entry 156. -/
def keyUses (serial : Nat) (l : List Sect) : List (Nat × Nat) :=
  match bodyOf l 0x32 with
  | none => []
  | some d =>
    let o := (ownSet serial d).getD 4
    (List.range (fieldAt d 0 1)).map fun k => (fieldAt d (o + 8 + 32 * k) 1, fieldAt d (o + 9 + 32 * k) 1)

/-- PREPAY (R121, R311). -/
def prepayOk (keys : List (Nat × Nat)) (l : List Sect) (d : List Byte) : Bool :=
  let f (o : Nat) := fieldAt d o 1
  let n := f 0
  let prot (w : Nat) : Bool := let o := 4 + 8 * w
    if w < f 1 then inRange 1 0x7F (f o) && decide (f (o + 1) < 24 ∧ f (o + 2) < 60 ∧ f (o + 3) < 24 ∧ f (o + 4) < 60) &&
      (f (o + 1) != f (o + 3) || f (o + 2) != f (o + 4)) && zeroAt d (o + 5) 3
    else zeroAt d o 8
  let entry (e : Nat) : Bool := let o := 36 + 24 * e
    let t := typeOf l (f o)
    t != .off && decide (f (o + 1) < 2) && (t != .water || f (o + 1) == 1) && keys.contains (f (o + 2), 4) && f (o + 3) == 0 &&
      inRangeI 0 (2 ^ 47 - 1) (fieldInt d (o + 16) 8)
  inRange 1 40 n && d.length == 36 + 24 * n && decide (f 1 ≤ 4) && zeroAt d 2 2 && (List.range 4).all prot &&
    (List.range n).all entry && ascending (fun a b => decide (a < b)) ((List.range n).map fun e => f (36 + 24 * e))

/-- N_CHAN names a channel (R359): a letter a, b or none in bits [3:0], and a channel to which the table of EN 13757-4 gives 2.4 or 4.8
kbit/s. -/
def nChanOk (c : Nat) : Bool :=
  [1, 2, 0xF].contains (c % 16) && (Config.nChannelRate c == 2400 || Config.nChannelRate c == 4800)

/-- RADIO (R122, R359): `a169` is the variant. -/
def radioOk (a169 : Bool) (d : List Byte) : Bool :=
  let f (o n : Nat) := fieldAt d o n
  let mode := f 0 1
  d.length == 16 && (if a169 then mode == 0x10 else inRange 1 6 mode) &&
    (if mode = 0x10 then nChanOk (f 1 1) else f 1 1 == 0) &&
    inRangeI (-10) (if a169 then 27 else 14) (fieldInt d 2 1) && decide (f 3 1 ≤ 25 ∧ f 4 2 ≤ 100 ∧ f 6 2 ≤ 10) &&
    (if mode = 0x10 then inRange 1 1000 (f 8 2) else f 8 2 == 0) && decide (f 10 1 < 4) &&
    (!Word.bit (f 10 1) 1 || mode == 2 || mode == 4 || mode == 6 || mode == 0x10) && zeroAt d 11 5

/-- RECORDS bits that a channel's type allows (R391). -/
def recordsFor (t : ChType) (prepaid : Bool) : Nat :=
  flag (t == .heat || t == .heatcool || t == .gas) 0 + flag (t == .cool || t == .heatcool) 1 + 0b110111001100 +
    flag (t == .gas) 4 + flag t.both 5 + flag t.both 9 + flag prepaid 12

/-- An entry of a TELEGRAM body. -/
def telegramAt (d : List Byte) (t : Nat) : TelegramEntry :=
  let o := 4 + 16 * t
  { kind := fieldAt d o 1, ch := fieldAt d (o + 1) 1, secMode := fieldAt d (o + 2) 1, key := fieldAt d (o + 3) 1,
    interval := fieldAt d (o + 4) 4, bkInterval := fieldAt d (o + 8) 4, records := fieldAt d (o + 12) 2 }

/-- An entry of the TELEGRAM section (R368, R388, R390). -/
def entryOk (keys : List (Nat × Nat)) (l : List Sect) (e : TelegramEntry) : Bool :=
  let t := typeOf l e.ch
  let channel := t != .off
  let prepaid := (bodyOf l 0x22).any fun d => (List.range (fieldAt d 0 1)).any fun k => fieldAt d (36 + 24 * k) 1 == e.ch
  let allowed := recordsFor t prepaid
  let within_ (mask : Nat) : Bool := e.records &&& (allowed &&& mask) == e.records
  let mode := if e.kind = 3 ∨ e.kind = 5 then e.secMode == 7 else e.secMode == 5 || e.secMode == 7
  mode && keys.contains (e.key, 1) && (e.interval == 0 || inRange 10 86400 e.interval) &&
    (if e.kind = 2 then e.bkInterval == 0 || inRange 60 86400 e.bkInterval else e.bkInterval == 0) &&
    (match e.kind with
      | 1 => channel && within_ 0x1FFF && e.records &&& 0b10111 != 0
      | 2 => channel && e.records == 0
      | 3 => if e.ch = 0 then e.records == 0 else channel && within_ 0x1CFF
      | 4 => e.ch == 0 && (bodyOf l 0x33).isSome && inRange 1 (if e.secMode = 7 then 11 else 12) e.records
      | 5 => (e.ch == 0 || channel) && e.records == 0
      | _ => false) &&
    decide (frameL e.secMode (entryLen e t) ≤ 251)

/-- TELEGRAM (R123). -/
def telegramOk (keys : List (Nat × Nat)) (l : List Sect) (d : List Byte) : Bool :=
  let n := fieldAt d 0 1
  inRange 1 128 n && d.length == 4 + 16 * n && zeroAt d 1 3 &&
    (List.range n).all fun t => zeroAt d (18 + 16 * t) 2 && entryOk keys l (telegramAt d t)

/-- The keys of the set at an offset, unwrapped; none where one fails its integrity check (R124). -/
def unwrapSet (unique : List Byte) (d : List Byte) (o : Nat) : Option (List KeyEntry) :=
  (List.range (fieldAt d 0 1)).foldr (fun k r => match r, keyUnwrap unique (slice d (o + 16 + 32 * k) 24) with
    | some l, some key => some ({ index := fieldAt d (o + 8 + 32 * k) 1, use := fieldAt d (o + 9 + 32 * k) 1, key := key } :: l)
    | _, _ => none) (some [])

/-- KEYS, but for the module's own set (R124): every set lists the same indices in the same order, none twice. -/
def keysOk (d : List Byte) : Bool :=
  let n := fieldAt d 0 1
  let sets := fieldAt d 1 1
  let size := 8 + 32 * n
  let indices (x : Nat) := (List.range n).map fun k => fieldAt d (12 + size * x + 32 * k) 1
  inRange 1 32 n && inRange 1 2 sets && zeroAt d 2 2 && d.length == 4 + size * sets &&
    ((List.range sets).all fun x => (indices x).eraseDups.length == n && indices x == indices 0 &&
      (List.range n).all fun k => let o := 12 + size * x + 32 * k
        decide (fieldAt d o 1 < 32) && inRange 1 6 (fieldAt d (o + 1) 1) && zeroAt d (o + 2) 6)

/-- ALLOCATORS (R125, R424): the allocators with their keys unwrapped. -/
def allocators (keys : List KeyEntry) (d : List Byte) : Option (List Allocator) :=
  match (keys.find? fun k => k.index == fieldAt d 2 1 && k.use == 5) with
  | none => none
  | some kek => (List.range (fieldAt d 0 2)).foldr (fun a r => match r, keyUnwrap kek.key (slice d (12 + 32 * a) 24) with
      | some l, some key => some ({ ident := slice d (4 + 32 * a) 8, key := some key } :: l)
      | _, _ => none) (some [])

/-- ALLOCATORS against its layout and the identities of the image (R125, R384, R424). -/
def allocatorsOk (l : List Sect) (keys : List KeyEntry) (d : List Byte) : Bool :=
  let n := fieldAt d 0 2
  let ids := (List.range n).map fun a => slice d (4 + 32 * a) 6
  let own := ((bodies l 0x01).map fun e => slice e 0 6) ++ (bodies l 0x10).map fun e => slice e 8 6
  decide (n ≤ 480) && d.length == 4 + 32 * n && fieldAt d 3 1 == 0 && ids.eraseDups.length == n &&
    (ids.all fun x => !own.contains x) && (allocators keys d).isSome

/-- A field of a DISPLAY body. -/
def fieldDefAt (d : List Byte) (o : Nat) : FieldDef :=
  { region := fieldAt d o 1, kind := fieldAt d (o + 1) 1, x := fieldAt d (o + 2) 2, y := fieldAt d (o + 4) 2,
    font := fieldAt d (o + 6) 1, format := fieldAt d (o + 7) 1, unit := fieldAt d (o + 8) 1, channel := fieldAt d (o + 9) 1,
    source := fieldAt d (o + 10) 2, text := slice d (o + 12) 8 }

/-- The parsed DISPLAY body (R126). -/
def displayOf (d : List Byte) : DisplayCfg :=
  let nr := fieldAt d 5 1
  let ns := fieldAt d 6 1
  let o := 12 + 12 * nr
  let F := o + 4 * ns
  { cols := fieldAt d 0 2, rows := fieldAt d 2 2, grey := fieldAt d 4 1, vcom := fieldAt d 8 2,
    regions := (List.range nr).map fun r => let p := 12 + 12 * r
      { x := fieldAt d p 2, y := fieldAt d (p + 2) 2, w := fieldAt d (p + 4) 2, h := fieldAt d (p + 6) 2, minimum := fieldAt d (p + 8) 2 },
    screens := (List.range ns).map fun k => (fieldAt d (o + 4 * k) 2, fieldAt d (o + 4 * k + 2) 2),
    fields := (List.range (fieldAt d F 2)).map fun i => fieldDefAt d (F + 4 + 20 * i) }

/-- A source is a channel's, the module's, or either's (R519). DEDUCED, log entry 87. -/
def sourceOk (l : List Sect) (ch src : Nat) : Bool :=
  let channel := inRange 1 6 src || inRange 0x10 0x1A src || inRange 0x20 0x28 src || inRange 0x30 0x32 src
  let own := src == 0x40 || src == 0x41 || src == 0x52 || src == 0x53
  let either := src == 0x50 || src == 0x51
  (channel && typeOf l ch != .off) || (own && ch == 0) || (either && (ch == 0 || typeOf l ch != .off))

/-- ASCII text, zero-padded, in the characters of its font (R518). -/
def textOk (font : Nat) (t : List Byte) : Bool :=
  let used := t.takeWhile (· != 0#8)
  let legal (b : Byte) : Bool := if font = 3 then (inRange 0x30 0x39 b.toNat || [0x20, 0x2E, 0x2D, 0x3A, 0x2F].contains b.toNat)
    else inRange 0x20 0x7E b.toNat
  used.all legal && (t.drop used.length).all (· == 0#8)

/-- A field of a DISPLAY body (R517 to R520). DEDUCED, log entry 87. -/
def displayFieldOk (l : List Sect) (c : DisplayCfg) (f : FieldDef) : Bool :=
  match c.regions[f.region]? with
  | none => false
  | some g =>
    let cell := fontCell f.font
    let box : Nat × Nat := if f.kind = 1 then ((f.text.takeWhile (· != 0#8)).length * cell.1, cell.2)
      else if f.kind = 2 then (f.format / 16 % 16 * cell.1, cell.2) else (16, 16)
    decide (f.font < 4) && decide (g.x ≤ f.x ∧ f.x + box.1 ≤ g.x + g.w ∧ g.y ≤ f.y ∧ f.y + box.2 ≤ g.y + g.h) &&
      (match f.kind with
        | 1 => f.format == 0 && f.unit == 0 && f.source == 0 && textOk f.font f.text
        | 2 => decide (f.format % 16 ≤ 6) && inRange 1 15 (f.format / 16) && sourceOk l f.channel f.source &&
            (unitFactor (srcUnit (typeOf l f.channel) f.source) f.unit).isSome
        | 3 => f.format == 0 && f.unit == 0 && (f.source == 0 || sourceOk l f.channel f.source) &&
            inRange 1 32 (fieldAt f.text 0 1) && zeroAt f.text 1 7
        | _ => false)

/-- DISPLAY (R126, R517). -/
def displayOk (l : List Sect) (d : List Byte) : Bool :=
  let nr := fieldAt d 5 1
  let ns := fieldAt d 6 1
  let F := 12 + 12 * nr + 4 * ns
  let nf := fieldAt d F 2
  let c := displayOf d
  inRange 1 16 nr && inRange 1 16 ns && inRange 1 256 nf && d.length == F + 4 + 20 * nf && inRange 8 320 c.cols &&
    c.cols % 4 == 0 && inRange 8 240 c.rows && inRange 1 2 c.grey && fieldAt d 7 1 == 0 && decide (c.vcom ≤ 300) && zeroAt d 10 2 &&
    zeroAt d (F + 2) 2 &&
    ((List.range nr).all fun r => zeroAt d (22 + 12 * r) 2) &&
    (c.regions.all fun g => g.x % 4 == 0 && g.w % 4 == 0 && decide (4 ≤ g.w ∧ 4 ≤ g.h ∧ g.x + g.w ≤ c.cols ∧ g.y + g.h ≤ c.rows) &&
      decide (g.minimum ≤ 3600)) &&
    (c.screens.all fun k => decide (k.1 + k.2 ≤ nf)) && c.fields.all (displayFieldOk l c)

/-- The waveform ranges of an EPDWAVE body (R127, R512). -/
def wavesOf (d : List Byte) : List WaveRange :=
  (List.range 8).map fun j =>
    let o := fieldAt d (8 + 8 * j) 4
    let nu := fieldAt d o 1
    { low := fieldInt d (4 + 8 * j) 2, high := fieldInt d (6 + 8 * j) 2,
      upd := (List.range nu).map fun f => fieldAt d (o + 4 + 4 * f) 4,
      clean := (List.range (fieldAt d (o + 1) 1)).map fun f => fieldAt d (o + 4 + 4 * (nu + f)) 4 }

/-- EPDWAVE (R127, R512, R513): the tables follow the eight range entries. -/
def epdWaveOk (d : List Byte) : Bool :=
  let w := wavesOf d
  let drive (v : Nat) : Bool := (List.range 16).all fun c => Word.bits v (2 * c) 2 != 3
  let table (j : Nat) : Bool :=
    let o := fieldAt d (8 + 8 * j) 4
    let nu := fieldAt d o 1
    let nc := fieldAt d (o + 1) 1
    decide (68 ≤ o) && o % 4 == 0 && inRange 1 60 nu && inRange 1 75 nc && zeroAt d (o + 2) 2 && decide (o + 4 + 4 * (nu + nc) ≤ d.length)
  fieldAt d 0 1 == 8 && decide (68 ≤ d.length) && zeroAt d 1 3 && (List.range 8).all table &&
    (w.all fun r => decide (r.low < r.high) && r.upd.all drive && r.clean.all drive) &&
    (List.range 7).all fun j => fieldInt d (6 + 8 * j) 2 == fieldInt d (12 + 8 * j) 2

/-! ### DMA programs (R128, R496) -/

/-- Instruction i of a program area: its four words. -/
def programWord (p : List Byte) (i : Nat) : List Nat := (List.range 4).map fun k => fieldAt p (16 * i + 4 * k) 4

/-- Index of a program address, none outside the area of n instructions. -/
def programIndex (n a : Nat) : Option Nat :=
  if 0x4A000 ≤ a ∧ a % 16 = 0 ∧ (a - 0x4A000) / 16 < n then some ((a - 0x4A000) / 16) else none

/-- The instructions that may follow instruction i of channel k's program; none where the instruction is not legal (R477 to
R487, R496). -/
def dmaNext (n k i : Nat) (w : List Nat) : Option (List Nat) :=
  let w0 := nth w 0 0
  let w1 := nth w 1 0
  let w2 := nth w 2 0
  let w3 := nth w 3 0
  let after := if i + 1 < n then some [i + 1] else none
  match w0 / 2 ^ 28 % 16 with
  | 1 =>
    let m := decodeMove none w
    let bytes := if Word.bit w0 23 then 4 else m.bytes
    let srcOk := Word.bit w0 25 || (m.src % 4 == 0 && dmaReads k m.src (spanOf m.srcFix bytes) m.srcFix)
    let dstOk := Word.bit w0 24 || (m.dst % 4 == 0 &&
      (dmaWrites k m.dst (spanOf m.dstFix bytes) m.dstFix || (k == 7 && Word.bit w0 23 && within 0x120000 0x188000 m.dst 256)))
    if moveIllegal k w ∨ !srcOk ∨ !dstOk then none else after
  | 2 =>
    if Word.bits w0 16 11 ≠ 0 ∨ w0 % 65536 = 0 ∨ 2 ^ 24 ≤ w1 ∨ w2 ≠ 0 ∨ w3 ≠ 0 then none
    else match programIndex n w1, after with
      | some t, some a => if t ≤ i then some (t :: a) else none
      | _, _ => none
  | 3 =>
    if Word.bits w0 0 21 ≠ 0 ∨ 2 ^ 16 ≤ w1 ∨ w2 ≠ 0 ∨ w3 ≠ 0 ∨ !mayWait k (Word.bit w0 27) (Word.bits w0 21 6) then none else after
  | 4 =>
    if Word.bits w0 0 20 ≠ 0 ∨ w1 ≠ 0 ∨ w2 ≠ 0 ∨ w3 ≠ 0 ∨ Word.bits w0 26 2 ≠ 0 ∨ 16 ≤ Word.bits w0 20 6 then none else after
  | 5 =>
    let chain := Word.bit w0 27
    let store := Word.bits w0 25 2
    let par := Word.bit w0 24
    if Word.bits w0 0 24 ≠ 0 ∨ store = 3 ∨ 2 ^ 24 ≤ w2 ∨ w3 ≠ 0 ∨ (!chain ∧ w1 ≠ 0) ∨ ((par ∨ store = 0) ∧ w2 ≠ 0) ∨
      (store ≠ 0 ∧ !par ∧ !(w2 % 4 == 0 && dmaWrites k w2 4 false)) then none
    else if chain then (programIndex n w1).map fun t => [t] else some []
  | _ => none

/-- Every instruction that channel k can reach from a list of indices is legal. DEDUCED, log entry 85. -/
def dmaReachOk (fuel n k : Nat) (p : List Byte) (seen todo : List Nat) : Bool :=
  match fuel with
  | 0 => todo.isEmpty
  | j + 1 =>
    match todo with
    | [] => true
    | i :: rest =>
      if seen.contains i then dmaReachOk j n k p seen rest
      else match dmaNext n k i (programWord p i) with
        | none => false
        | some l => dmaReachOk j n k p (i :: seen) (l ++ rest)

/-- DMAPROG (R128, R496). DEDUCED, log entry 85. -/
def dmaProgOk (d : List Byte) : Bool :=
  let n := (d.length - 64) / 16
  let p := d.drop 64
  decide (64 ≤ d.length ∧ d.length % 16 = 0 ∧ n ≤ 1536) && zeroAt d 48 16 &&
    (List.range 12).all fun c =>
      let start := fieldAt d (4 * c) 2
      let en := fieldAt d (4 * c + 3) 1
      decide (fieldAt d (4 * c + 2) 1 < 4 ∧ en < 2) &&
        (en == 0 || (decide (start < n) && dmaReachOk (3 * n + 2) n c p [] [start]))

/-! ### The other bodies -/

/-- IDENTITY (R113); any bytes pass as APPROVAL and MAKER_SERIAL. DESIGN CHOICE, log entry 156. -/
def identityOk (d : List Byte) : Bool := d.length == 56 && bcdOk (fieldAt d 2 4)

/-- PO_QTY allowed for a channel type (R267). -/
def pulseQtyOk (t : ChType) (qty : Nat) : Bool :=
  match qty with
  | 1 => t == .heat || t == .heatcool
  | 2 => t == .cool || t == .heatcool
  | 3 | 4 => t != .off
  | 5 | 6 => t == .gas
  | _ => false

/-- MODULE (R114, R267). -/
def moduleOk (l : List Sect) (d : List Byte) : Bool :=
  d.length == 100 && decide (fieldAt d 1 1 < 2) && zeroAt d 2 2 &&
    (List.range 8).all fun k => let o := 4 + 12 * k
      let t := typeOf l (fieldAt d o 1)
      if fieldAt d o 1 = 0 then zeroAt d o 12
      else t != .off && pulseQtyOk t (fieldAt d (o + 1) 1) && inRange 4 125 (fieldAt d (o + 2) 2) && fieldAt d (o + 4) 8 != 0

/-- MIRROR (R129): in a pair role the module's serial is a member. -/
def mirrorOk (role serial : Nat) (d : List Byte) : Bool :=
  d.length == 20 && zeroAt d 16 4 && (role == 0 || fieldAt d 0 8 == serial || fieldAt d 8 8 == serial)

/-- HOST (R130). -/
def hostOk (keys : List (Nat × Nat)) (d : List Byte) : Bool :=
  d.length == 8 && (fieldAt d 0 1 == 0xFF || keys.contains (fieldAt d 0 1, 3)) && decide (fieldAt d 1 1 < 4) &&
    inRange 1 3600 (fieldAt d 2 2) && zeroAt d 4 4

/-- REVERIFY (R131); any bytes pass as VERIFIER. DESIGN CHOICE, log entry 156. -/
def reverifyOk (d : List Byte) : Bool := d.length == 104 && zeroAt d 69 3

/-- What of the module the section checks depend on. -/
structure ImageEnv where
  a169   : Bool
  role   : Nat
  serial : Nat
  unique : List Byte
  deriving DecidableEq, Repr

/-- The module's own keys in a list of sections, none without a set or where one does not unwrap. -/
def imageKeys (v : ImageEnv) (l : List Sect) : Option (List KeyEntry) :=
  match bodyOf l 0x32 with
  | none => none
  | some d => match ownSet v.serial d with
    | none => none
    | some o => unwrapSet v.unique d o

/-- Check one section (R112): 0 good, 0x18 BAD_SECTION, 0x1A NO_KEY_SET. -/
def checkSection (v : ImageEnv) (l : List Sect) (prev : Option Sect) (s : Sect) : Nat :=
  let d := s.body
  let keys := keyUses v.serial l
  let good := s.framed && orderOk prev s && match s.type with
    | 0x01 => identityOk d
    | 0x02 => moduleOk l d
    | 0x10 => channelOk l d
    | 0x11 => flowCalOk l d
    | 0x12 => tempCalOk l d
    | 0x13 => gasDefOk d
    | 0x20 => tariffOk d
    | 0x21 => billingOk d
    | 0x22 => prepayOk keys l d
    | 0x30 => radioOk v.a169 d
    | 0x31 => telegramOk keys l d
    | 0x32 => keysOk d
    | 0x33 => allocatorsOk l ((imageKeys v l).getD []) d
    | 0x40 => displayOk l d
    | 0x41 => (bodyOf l 0x40).isSome && epdWaveOk d
    | 0x50 => dmaProgOk d
    | 0x60 => mirrorOk v.role v.serial d
    | 0x70 => hostOk keys d
    | 0xF0 => reverifyOk d
    | _ => false
  if !good then 0x18
  else if s.type = 0x32 then
    (match ownSet v.serial d with
      | none => 0x1A
      | some o => if (unwrapSet v.unique d o).isNone then 0x18 else 0)
  else 0

/-- Check the sections in image order: result and type of the first failing one. DEDUCED, log entry 83. -/
def checkEach (v : ImageEnv) (all : List Sect) (prev : Option Sect) (l : List Sect) : Option (Nat × Nat) :=
  match l with
  | [] => none
  | s :: t =>
    let r := checkSection v all prev s
    if r ≠ 0 then some (r, s.type) else checkEach v all (some s) t

/-- The type of the first mandatory section that is missing (R111). DEDUCED, log entries 83 and 84. -/
def missingSection (role : Nat) (l : List Sect) : Option Nat :=
  let has (type ch : Nat) : Bool := (bodies l type).any fun d => fieldAt d 0 1 == ch
  let chans := bodies l 0x10
  let want : List (Nat × Bool) := [
    (0x01, (bodyOf l 0x01).isSome), (0x02, (bodyOf l 0x02).isSome),
    (0x11, chans.all fun d => has 0x11 (fieldAt d 0 1)), (0x12, chans.all fun d => !needsTempCal d || has 0x12 (fieldAt d 0 1)),
    (0x13, chans.all fun d => chTypeOf (fieldAt d 1 1) != .gas || has 0x13 (fieldAt d 7 1)),
    (0x21, (bodyOf l 0x21).isSome), (0x30, (bodyOf l 0x30).isSome), (0x31, (bodyOf l 0x31).isSome),
    (0x32, (bodyOf l 0x32).isSome), (0x41, (bodyOf l 0x40).isNone || (bodyOf l 0x41).isSome),
    (0x50, (bodyOf l 0x50).isSome), (0x60, role == 0 || (bodyOf l 0x60).isSome)]
  (want.find? fun e => !e.2).map (·.1)

/-! ### The image as the module holds it -/

/-- A CHANNEL body as settings. -/
def chanCfgOf (d : List Byte) : ChanCfg :=
  let f (o n : Nat) := fieldAt d o n
  { type := chTypeOf (f 1 1), trunk := f 2 1 == 1, options := f 3 1, rtd := f 4 1, burstN := f 5 1, burstCyc := f 6 1,
    gasIdx := f 7 1, ident := slice d 8 8, pathL := f 16 4, cosPhi := f 20 4, area := f 24 4, window := f 28 2, tofInit := f 32 4,
    qCut := f 36 4, qHyst := f 40 4, dthetaMin := f 44 4, dthetaOn := fieldInt d 48 4, thetaCool := fieldInt d 52 4,
    sigqMin := f 56 4, qMax := f 60 4, valveMv := f 64 2, valveTmax := f 66 2 }

/-- A FLOWCAL body. -/
def flowCalOf (d : List Byte) : FlowCal :=
  { bandT1 := fieldInt d 4 4, bandT2 := fieldInt d 8 4,
    points := (List.range 96).map fun i => (fieldAt d (12 + 8 * i) 4, fieldAt d (16 + 8 * i) 4) }

/-- A TEMPCAL body. -/
def tempCalOf (d : List Byte) : TempCal :=
  let sensor (o : Nat) : SensorCal := { r0 := fieldAt d o 4, a := fieldInt d (o + 4) 4, b := fieldInt d (o + 8) 4 }
  { sup := sensor 4, ret := sensor 20, pairOffset := fieldInt d 36 4 }

/-- A GASDEF body. -/
def gasDefOf (d : List Byte) : GasDef :=
  { index := fieldAt d 0 1, tBase := fieldInt d 4 4, pFactor := fieldAt d 8 4, hs := fieldAt d 12 4, cSlope := fieldInt d 16 4,
    anomLimit := fieldAt d 20 4, cRef := (List.range 33).map fun i => fieldAt d (24 + 4 * i) 4 }

/-- A TARIFF body. -/
def tariffOf (d : List Byte) : Tariff :=
  { seasons := (List.range (fieldAt d 0 1)).map fun j => let o := 4 + 12 * j
      { month := fieldAt d o 1, day := fieldAt d (o + 1) 1, week := (List.range 7).map fun k => fieldAt d (o + 2 + k) 1 },
    profiles := (List.range (fieldAt d 1 1)).map fun p =>
      ((profileSlots d p).filter fun s => s.1 != 0xFF).map fun s => (60 * s.1 + s.2.1, s.2.2.1),
    special := (List.range (fieldAt d 2 1)).map fun s => let o := 308 + 8 * s
      { year := fieldAt d o 2, month := fieldAt d (o + 2) 1, day := fieldAt d (o + 3) 1, profile := fieldAt d (o + 4) 1 } }

/-- A BILLING body. -/
def billingOf (d : List Byte) : Billing :=
  let f (o : Nat) := fieldAt d o 1
  let cond (o : Nat) : CondDef := { qty := f o, cmp := f (o + 1), limit := fieldInt d (o + 4) 4 }
  { annualMonth := f 0, annualDay := f 1, monthlyDay := f 2, sliding := f 3 == 1, demandMin := f 4, demandSub := f 5,
    profileOn := f 6 == 1, cond1 := cond 8, cond2 := cond 16 }

/-- A PREPAY body. -/
def prepayOf (d : List Byte) : Prepay :=
  let f (o : Nat) := fieldAt d o 1
  { entries := (List.range (f 0)).map fun e => let o := 36 + 24 * e
      { ch := f o, unit := f (o + 1), tokenKey := f (o + 2), price := fieldAt d (o + 4) 4, initial := fieldInt d (o + 8) 8,
        grace := fieldInt d (o + 16) 8 },
    prot := (List.range (f 1)).map fun w => let o := 4 + 8 * w
      { mask := f o, start := 60 * f (o + 1) + f (o + 2), stop := 60 * f (o + 3) + f (o + 4) } }

/-- A RADIO body. -/
def radioOf (d : List Byte) : RadioCfg :=
  { mode := fieldAt d 0 1, nChan := fieldAt d 1 1, txDbm := fieldInt d 2 1, jitter := fieldAt d 3 1, dutyA := fieldAt d 4 2,
    dutyB := fieldAt d 6 2, dutyN := fieldAt d 8 2, rxEn := fieldAt d 10 1, last := slice d 0 3 }

/-- The class digest of a class (R133). -/
def classDigest (l : List Sect) (cls : Nat) : List Byte :=
  sha256 ((l.filter fun s => (sectKind s.type).1 == cls && s.type != 0xF0).flatMap (·.raw))

/-- The image that checked sections make. -/
def imageOf (v : ImageEnv) (seq : Nat) (digest : List Byte) (l : List Sect) : Image :=
  let one (type : Nat) : List Byte := (bodyOf l type).getD []
  let keys := (imageKeys v l).getD []
  let module_ := one 0x02
  let tel := one 0x31
  let dma := one 0x50
  { seq := seq, digest := digest, lDigest := classDigest l 0x4C, bDigest := classDigest l 0x42, oDigest := classDigest l 0x4F,
    identity := slice (one 0x01) 0 8, retBanks := fieldAt module_ 0 1, dst := fieldAt module_ 1 1 == 1,
    pulses := (List.range 8).map fun k => let o := 4 + 12 * k
      (fieldAt module_ o 1, fieldAt module_ (o + 1) 1, fieldAt module_ (o + 2) 2, fieldAt module_ (o + 4) 8),
    chans := (bodies l 0x10).foldl (fun c d => c.setIfInBounds (fieldAt d 0 1 - 1) (chanCfgOf d)) (Vector.replicate 40 ChanCfg.off),
    flowCals := (bodies l 0x11).map fun d => (fieldAt d 0 1, flowCalOf d),
    tempCals := (bodies l 0x12).map fun d => (fieldAt d 0 1, tempCalOf d), gasDefs := (bodies l 0x13).map gasDefOf,
    tariff := (bodyOf l 0x20).map tariffOf, billing := billingOf (one 0x21), prepay := (bodyOf l 0x22).map prepayOf,
    radio := radioOf (one 0x30), telegrams := (List.range (fieldAt tel 0 1)).map (telegramAt tel), keys := keys,
    allocs := (bodyOf l 0x33).map fun d => (allocators keys d).getD [], display := (bodyOf l 0x40).map displayOf,
    waves := match bodyOf l 0x41 with
      | none => []
      | some d => wavesOf d,
    dma := (List.range 12).map fun c =>
      { start := 0x4A000 + 16 * fieldAt dma (4 * c) 2, prio := fieldAt dma (4 * c + 2) 1, en := fieldAt dma (4 * c + 3) 1 == 1 },
    dmaProg := dma.drop 64, members := (bodyOf l 0x60).map fun d => (fieldAt d 0 8, fieldAt d 8 8),
    host := (bodyOf l 0x70).map fun d => { svcKey := fieldAt d 0 1, flags := fieldAt d 1 1, svcIdle := fieldAt d 2 2 },
    reverify := bodyOf l 0xF0 }

/-! ### Admission and decision (R134, R367) -/

/-- Frames per hour of an entry (R367): in NORMAL, or in BACKUP. -/
def framesPerHour (e : TelegramEntry) (backup : Bool) : Rat :=
  let per (i : Nat) : Rat := if i = 0 then 0 else 3600 / (i : Rat)
  if backup then (if e.kind = 2 then per e.bkInterval else 0)
  else per e.interval + (if e.kind = 5 then 6 else if e.kind = 3 then 2 else 0)

/-- The transmit schedule of an image is admissible (R367). -/
def State.admissible (im : Image) (s : State) : Bool :=
  let t := { s with img := { s.img with image := some im }, pwr := { s.pwr with mode := .normal } }
  let demand (backup : Bool) : Rat := (im.telegrams.map fun e =>
    (airtime im.radio.mode im.radio.nChan (t.maxLen e) : Rat) * framesPerHour e backup).foldl (· + ·) 0
  let limit : Rat := (t.budget : Rat) * 3 / 4
  decide (demand false ≤ limit) && decide (demand true ≤ limit)

/-- What a card read leads to: the code of R151, the failing section, the digest and IMG_SEQ that count for it, the classes that
differ (R150), and the image where its sections are good. -/
structure Verdict where
  result   : Nat
  section_ : Nat
  digest   : List Byte
  seq      : Nat
  classes  : Nat
  image    : Option Image
  deriving DecidableEq, Repr

/-- A refusal for which no digest of the image exists (R137). -/
def refusedEarly (code : Nat) : Verdict :=
  { result := code, section_ := 0, digest := le 1 code ++ zeros 31, seq := 0, classes := 0, image := none }

/-- The environment of the section checks. -/
def State.imageEnv (s : State) : ImageEnv :=
  { a169 := s.otp.a169, role := s.pwr.strapRole, serial := s.otp.serial, unique := s.otp.uniqueKey }

/-- The re-verification of an L change holds (R131, R134). -/
def reverified (key accepted lDigest : List Byte) (d : List Byte) : Bool :=
  slice d 88 16 == cmac key (ascii ['E', 'T', 'Y', 'V'] ++ d.take 88) && slice d 0 32 == accepted && slice d 32 32 == lDigest

/-- Classes of an image that differ from the accepted one (R140, R150): all, where none has been accepted. -/
def ModuleRec.changes (m : ModuleRec) (im : Image) : Nat :=
  if m.acceptedSeq = 0 then 7
  else flag (im.lDigest != m.lDigest) 0 + flag (im.bDigest != m.bDigest) 1 + flag (im.oDigest != m.oDigest) 2

/-- The decision on an image whose sections and schedule are good (R134). DEDUCED, log entry 88. -/
def ModuleRec.decide (m : ModuleRec) (key : List Byte) (im : Image) : Nat :=
  if im.digest = m.digest then 0x01
  else if !m.commissioned then 0x02
  else if im.seq ≤ m.acceptedSeq then 0x1B
  else if im.lDigest = m.lDigest then 0x03
  else match im.reverify with
    | none => 0x1C
    | some d => if reverified key m.digest im.lDigest d then 0x04 else 0x1D

/-- Decide on image bytes (R134). A read that gives fewer bytes than LENGTH has failed. DEDUCED, log entry 88. -/
def State.decideImage (bytes : List Byte) (s : State) : Verdict :=
  let len := fieldAt bytes 8 4
  let head := bytes.take 0x30
  let body := slice bytes 0x40 (len - 0x40)
  if slice bytes 0 4 ≠ ascii ['E', 'T', 'Y', 'C'] then refusedEarly 0x12
  else if fieldAt bytes 4 2 ≠ 1 then refusedEarly 0x13
  else if fieldAt bytes 6 2 ≠ 0 then refusedEarly 0x15
  else if len % 4 ≠ 0 ∨ len < 0x40 ∨ 131072 < len then refusedEarly 0x14
  else if bytes.length < len then refusedEarly 0x11
  else
    let digest := sha256 body
    let refuse (code sect : Nat) : Verdict :=
      { result := code, section_ := sect % 256, digest := digest, seq := fieldAt bytes 0xC 4, classes := 0, image := none }
    match s.otp.customerKey with
    | none => refuse 0x1F 0
    | some key =>
      if slice bytes 0x30 16 ≠ cmac key (head ++ body) then refuse 0x17 0
      else if slice bytes 0x10 32 ≠ digest then refuse 0x16 0
      else
        let l := splitSections (body.length / 12 + 1) body
        match checkEach s.imageEnv l none l with
        | some (code, t) => refuse code t
        | none => match missingSection s.pwr.strapRole l with
          | some t => refuse 0x19 t
          | none =>
            let im := imageOf s.imageEnv (fieldAt bytes 0xC 4) digest l
            let m := s.img.module_
            let code := if s.admissible im then m.decide key im else 0x1E
            { result := code, section_ := 0, digest := digest, seq := im.seq,
              classes := if code = 0x01 then 0 else m.changes im, image := some im }

/-- Decide on a card read (R134). DEDUCED, log entry 82. -/
def State.decideCard (card : CardRead) (s : State) : Verdict :=
  match card with
  | .noCard => refusedEarly 0x10
  | .failed => refusedEarly 0x11
  | .image bytes => s.decideImage bytes

/-- A decision is an acceptance (R151). -/
def Verdict.accepts (v : Verdict) : Bool := inRange 1 4 v.result

end Sys2Proof.Machine
end

