-- ==== Sys2Proof/Machine/Power.lean ====
section
/-! DEFINITION. Supply supervision (R43 to R51), the power-fail sequence (R52 to R56), the transitions among NORMAL, BACKUP and
HOLD (R57 to R62), the cell (R66 to R69) and the SETT discipline (R75, R76). -/

namespace Sys2Proof.Machine

/-- What the supervisors show (R46, R50, R70): the fields of `PWR_SUPPLY` that follow the voltages, and VIO_HOST (R33).
DESIGN CHOICE, log entry 6. -/
def State.supplies (sup : Supplies) (s : State) : State := s.onPwr fun p => { p with
  vioHost := sup.vio, storeRdy := decide (26000 ≤ sup.store), storeV := Word.sat 255 (sup.store / 200),
  cellPresent := if p.cellPresent then decide (2000 ≤ sup.vbat) else decide (2100 ≤ sup.vbat),
  belowWarn := p.belowWarn && decide (sup.vbat < 2900), vbusOv := p.vbusOv && decide (32500 < sup.vbus) }

/-- Raise bits of `PWR_EVENTS` (R72). -/
def State.pwrRaise (mask : Nat) (s : State) : State := s.onPwr fun p => { p with events := setBits p.events mask }

/-- Count the charge of the power state that ends here, and enter another (R66). DESIGN CHOICE, log entry 9. -/
def State.enterState (st : PowerState) (ms : Nat) (s : State) : State :=
  s.onPwr fun p => { p.chargeTo ms with state := st }

/-! ### The power-fail sequence (R52, R53) -/

/-- The frame in progress at t0: finished if it ends within 50 ms of t0 with a good store, else cut (R51, R52, R54). The
telegrams that wait are discarded. -/
def State.pfRadio (ms : Nat) (storeBad : Bool) (s : State) : State :=
  let s1 := if ms < s.radio.txEnd ∧ (storeBad ∨ ms + 50 < s.radio.txEnd) then
      (s.onRadio fun r => { r with txEnd := ms }).pwrRaise 32
    else s
  s1.discardQueue.onRadio fun r => { r with window := none, winDue := false, answer := none }

/-- The measurement events that the tick still had are dropped: no pair in progress is kept (R52). -/
def State.dropPairs (s : State) : State :=
  s.forCh allCh fun n t => t.onCh n fun c => { c with
    flow := { c.flow with first := none }, temp := { c.temp with supConv := none } }

/-- t0 of the power-fail sequence. Step 2 of R52 ends here, and so does step 3 where the panel's rails are off: PF_STEP shows it.
DEDUCED, log entries 103 and 150. -/
def State.pfBegin (now : Now) (_sup : Supplies) (s : State) : State :=
  let bad := !s.pwr.storeRdy
  let s1 := (s.onPwr fun p => { p with
    vbusOk := false, pfActive := true, pfStep := if s.disp.railsOn || s.disp.ramping then 2 else 3, pfAt := s.grid now.cyc,
    pfStoreBad := bad, pfCommit := false, storeWaived := false,
    events := setBits p.events 1 }).event 0x10 0 (le 2 s.pwr.vbusMv)
  let s2 := ((s1.pfRadio now.ms bad).interruptMove now.ms 0).calAbort
  let s3 := ((s2.dispPowerFail now.ms bad).onRtc Rtc.dropHalt).abandonSwitch 2
  s3.dropPairs

/-- VBUS is lost (R57). On the cell only a return is given up: one from HOLD goes back to Deep Sleep, with the signatures of the banks
that it has already checked (R90). DEDUCED, log entry 103. -/
def State.vbusLost (now : Now) (sup : Supplies) (s : State) : State :=
  if s.pwr.pfActive then s.onPwr fun p => { p with vbusOk := false }
  else if s.pwr.onCell then
    let s1 := s.onPwr fun p => { p with vbusOk := false, storeWaived := false, holdReturn := false }
    if s.pwr.holdReturn then ((s1.event 0x06 0 []).formSigs s.pwr.retSel).enterState .deepSleep now.ms else s1
  else s.pfBegin now sup

/-- VBUS_FAIL (R46, R52). -/
def execVbusFail (now : Now) (sup : Supplies) (s : State) : Out :=
  if !s.powered then .next s else .next (s.noteMode ((s.supplies sup).vbusLost now sup))

/-- VBUS_OV (R43): treated as a loss of VBUS. -/
def execVbusOv (now : Now) (sup : Supplies) (s : State) : Out :=
  if !s.powered then .next s
  else
    let s1 := ((s.supplies sup).pwrRaise 256).onPwr fun p => { p with vbusOv := true }
    .next (s.noteMode (s1.vbusLost now sup))

/-- Step 4 of R52 may start: steps 1 to 3 have ended, the radio frame in progress and the discharge of the rails with them; with the
store faulted, 1 ms after t0 (R51). -/
def State.pfMayCommit (now : Now) (s : State) : Bool :=
  s.pwr.pfActive && !s.pwr.pfCommit &&
    (if s.pwr.pfStoreBad then decide (s.pwr.pfAt + 9600 ≤ s.grid now.cyc) else decide (s.radio.txEnd ≤ now.ms ∧ s.disp.darkAt ≤ now.ms))

/-- PF_FINAL_COMMIT (R53): step 4 closes the step in progress of every channel at the commit instant and commits every channel's
record, the valve state with it. -/
def execPfFinalCommit (now : Now) (upsets : List (Nat × Upset)) (s : State) : Out :=
  if !s.pfMayCommit now then .next s
  else
    let stop := s.grid now.cyc
    let idle := (s.activeCh.filter s.integrates).filter fun n => decide (stop ≤ (s.ch n).stepStart)
    let s1 := s.closeAll now.cyc true false upsets
    let s2 := if s.normal then s1.forCh idle fun n t => t.commitStep n true [] else s1
    .next (s2.onPwr fun p => { p with pfCommit := true, pfStep := if p.pfStoreBad then p.pfStep else 3 })

/-- Hand every commit that is held to the queue (R168). DEDUCED, log entry 24. -/
def State.handOwed (s : State) : State :=
  s.forCh (allCh.filter fun n => (s.ch n).owed) fun n t => t.commitStep n true []

/-- A held or merged commit that has landed is held no more (R168, R172). DEDUCED, log entry 24. -/
def State.clearHeld (s : State) : State :=
  s.forCh (allCh.filter fun n => (s.ch n).heldTick.isSome && !(s.ch n).owed &&
      !(s.mem.queue.any fun r => r.addr == totalsAddr n)) fun n t => t.onCh n fun c => { c with heldTick := none }

/-- HOLD, or the Deep Sleep of R62, is entered: reported and logged once (R61, R62, R72). DEDUCED, log entry 92. -/
def State.holdMark (s : State) : State :=
  if s.pwr.holdLogged then s
  else ((s.pwrRaise 4).onset 0x12 0 0 (le 2 s.pwr.vbatMv)).onPwr fun p => { p with holdLogged := true }

/-- The mode that a grid belongs to has ended: a catch-up that waits is not made (R370). -/
def State.gridsEnd (s : State) : State := s.onRadio fun r => { r with catchUps := [] }

/-- Enter HOLD (R57, R39): the pulse outputs open, waiting pulses are lost, the telegrams that wait are discarded, and the HOLD alarm is
due (R372). -/
def State.enterHold (s : State) : State :=
  let s1 := (s.onPwr fun p => { p with mode := .hold }).holdMark
  (s1.dropPulses true).discardQueue.gridsEnd.onRadio fun r => { r with
    window := none, winDue := false, answer := none, alarmAt := some (1000 * s.rtc.count) }

/-- The end of what `holdMark` logged. -/
def State.holdEnd (s : State) : State :=
  if s.pwr.holdLogged then (s.ending 0x12 0 0 (le 2 s.pwr.vbatMv)).onPwr fun p => { p with holdLogged := false } else s

/-- Step 5 of R52: POWER_FAIL goes to a paired peer ahead of the mirrored records of the final commit; a READY peer on VBUS takes
over (R554). -/
def State.pfHandOver (ms : Nat) (s : State) : State :=
  if s.pair.phase < 2 ∨ !s.active then s
  else
    let s1 := s.onPair fun p => ({ p with waiting := { seq := 0, type := 7, payload := [] } :: p.waiting } : Pair).flush
    if s.pair.ready ∧ s.pair.phase = 3 ∧ !s.pair.peerOnCell then s1.demote ms else s1

/-- Step 6 of R52 with a usable cell: BACKUP, or HOLD below VBAT_WARN; an UNCONFIGURED module stays so (R57, R62). A passive member is
not READY on its cell (R555).
DEDUCED, log entry 112. -/
def State.toCell (ms : Nat) (s : State) : State :=
  let s1 := (s.onPwr fun p => { p with onCell := true, chargeMs := ms, pfActive := false, pfStep := 6, rootStopped := true }).onPair
    fun p => { p with ready := p.ready && p.active }
  if s1.pwr.mode = .normal then
    if s1.pwr.belowWarn ∧ s1.pwr.phase = .running then s1.endTest.enterHold
    else s1.endTest.gridsEnd.onPwr fun p => { p with mode := .backup }
  else if s1.pwr.belowWarn ∧ s1.pwr.phase = .running then s1.holdMark else s1

/-- PF_COMMIT_LANDED (R52): the final commit has landed; steps 5 and 6. Without a usable cell the module runs on the store until it is
spent (R45, R57): step 6 is not made, so PF_ACTIVE stays 1 and PF_STEP 5 until then. DESIGN CHOICE, log entry 151. -/
def execPfCommitLanded (now : Now) (sup : Supplies) (s : State) : Out :=
  if !s.pwr.pfActive ∨ !s.pwr.pfCommit ∨ !s.canLand then .next s
  else
    let s1 := ((s.supplies sup).drain.handOwed).drain.clearHeld.pfHandOver now.ms
    .next (s.noteMode (if s1.pwr.cellPresent then s1.toCell now.ms else s1.onPwr fun p => { p with pfStep := 5 }))

/-- Power is gone: SETT keeps power from a cell that is present (R45, R55). -/
def State.unpower (s : State) : State :=
  let s1 := s.onPwr fun p => { p with
    state := .unpowered, phase := .inReset, pfActive := false, onCell := false, vbusOk := false, rootOk := false,
    settRun := p.settRun && p.cellPresent, rootStopped := true, peerOkOut := false, warmCause := none, warmGap := false,
    storeWaived := false, holdReturn := false, wakes := [] }
  let s2 := { s1 with outs := Vector.replicate 8 PulseOut.reset, disp := { s1.disp with panel := .off, railsOn := false, ramping := false } }
  (s2.onBridge fun b => { b with moving := none }).onRtc fun r => { r with settLost := r.settLost || !s.pwr.cellPresent }

/-- STORE_SPENT (R45, R51): the words of the record being written that had landed stay, what waited is lost.
DEDUCED, log entry 114. -/
def execStoreSpent (landed : Nat) (s : State) : Out :=
  if !s.pwr.pfActive then .next s
  else
    let cut (m : Mem) : Mem := match m.queue with
      | [] => m
      | r :: _ => ((m.recWrites r).take (if s.pwr.nvInhibit then 0 else landed)).foldl Mem.writeWord { m with queue := [] }
    .next (s.noteMode ((s.onMem cut).unpower))

/-! ### VBUS returns (R46, R51, R58, R60) -/

/-- VBUS_OK (R46): noted; it wakes a module that sleeps (R83), and SETT runs again where the cell had let it stop (R57). TRIM and
MEAS_AGE stay as they were. DESIGN CHOICE, log entry 152. -/
def execVbusOk (_now : Now) (sup : Supplies) (s : State) : Out :=
  if s.pwr.state = .off then .next s
  else
    let s1 := (s.supplies sup).onPwr fun p => { p with vbusOk := !p.vbusOv }
    let asleep := decide (s.pwr.state = .sleep ∨ s.pwr.state = .deepSleep)
    let s2 := if s.pwr.onCell ∧ s.rtc.settLost then
        ((s1.onRtc fun r => { r with settLost := false }).setOsf 3).onPwr fun p => { p with settRun := true, trimValid := false }
      else s1
    .next (if asleep ∧ !s2.pwr.wakes.contains .vbusReturn then
      s2.onPwr fun p => { p with wakes := p.wakes ++ [.vbusReturn] } else s2)

/-- STORE_FAULT (R51): the store is not ready two seconds after VBUS_OK. -/
def execStoreFault (_now : Now) (sup : Supplies) (s : State) : Out :=
  let s1 := s.supplies sup
  if !s.powered then .next s
  else if !s1.pwr.vbusOk ∨ s1.pwr.storeRdy ∨ s1.pwr.storeWaived then .next s1
  else .next (((s1.pwrRaise 64).event 0x15 0 (le 1 s1.pwr.storeV)).onPwr fun p => { p with storeWaived := true })

/-- Whether NORMAL ticks may begin: VBUS_OK and a store that is ready, or waived after two seconds (R51).
DEDUCED, log entry 107. -/
def Pwr.vbusReady (p : Pwr) : Bool := p.vbusOk && (p.storeRdy || p.storeWaived) && !p.pfActive

/-- Leave the cell for VBUS: PF_STEP becomes 0, also for a module that goes on as UNCONFIGURED. DESIGN CHOICE, log entry 151. -/
def State.offCell (ms : Nat) (s : State) : State := s.onPwr fun p => { p.chargeTo ms with onCell := false, pfStep := 0 }

/-- NORMAL resumes, after BACKUP (1) or HOLD (2): `PWR_EVENTS`, event 0x0011, valves and display (R58, R60, R280, R527); the alarm
triggers that wait are merged into an offer at this tick (R371); a passive member pairs again (R555). -/
def State.normalResumed (left : Nat) (s : State) : State :=
  let s0 := ((s.gridsEnd.onPwr fun p => { p with mode := .normal }).pwrRaise 2).event 0x11 0 (le 1 left)
  let s1 := s0.onRadio fun r => { r with
    alarmAt := none, alarms := r.alarms.map fun a => { a with due := a.due.map fun _ => 1000 * s.rtc.count } }
  let s2 := s1.resumeValves
  let s3 := if s2.disp.dirty ≠ 0 then s2.onDisp fun d => { d with want := some 3 } else s2
  if s3.standby then s3.unpair else s3

/-- VBUS_RETURN (R58): at the tick edge just timed a DEGRADED step closes and NORMAL begins; an UNCONFIGURED module goes on, on
VBUS (R62). HOLD ends at the first NORMAL tick (R60). -/
def execVbusReturn (now : Now) (sup : Supplies) (upsets : List (Nat × Upset)) (s : State) : Out :=
  let s1 := s.supplies sup
  if !s.powered then .next s
  else if !s1.pwr.onCell ∨ !s1.pwr.vbusReady ∨ s1.pwr.state ≠ .run ∨ s1.pwr.phase ≠ .running then .next s1
  else if s1.pwr.mode = .backup then
    .next (s.noteMode (((s1.closeAll 0 false false upsets).offCell now.ms).dropPairs.normalResumed 1))
  else if s1.pwr.mode = .unconfigured then .next (s.noteMode ((s1.offCell now.ms).holdEnd))
  else .next s1

/-! ### The cell -/

/-- What the module does on the cell below VBAT_WARN (R57, R62): from BACKUP the final commit and HOLD; UNCONFIGURED is marked for
Deep Sleep. DEDUCED, log entry 92. -/
def State.warnActs (cyc : Nat) (upsets : List (Nat × Upset)) (s : State) : State :=
  if !s.pwr.onCell ∨ s.pwr.pfActive ∨ s.pwr.phase ≠ .running ∨ !s.pwr.belowWarn then s
  else if s.pwr.mode = .backup then (s.discardQueue.closeAll cyc false true upsets).enterHold
  else if s.pwr.mode = .unconfigured then s.holdMark
  else s

/-- Report a weak cell (R47, R67). -/
def State.cellWeak (s : State) : State := (s.pwrRaise 8).event 0x13 0 (le 2 s.pwr.vbatMv ++ le 2 s.pwr.loadMv)

/-- VBAT_WARN (R46, R47, R57): on VBUS only reported; on the cell it is acted on, after a wake from Sleep (R83). -/
def execVbatWarn (now : Now) (sup : Supplies) (upsets : List (Nat × Upset)) (s : State) : Out :=
  if !s.powered then .next s
  else
    let s1 := (s.supplies sup).onPwr fun p => { p with belowWarn := true }
    if s.pwr.pfActive then .next s1
    else if !s.pwr.onCell then .next s1.cellWeak
    else if s.pwr.state = .sleep then
      .next (s1.onPwr fun p => { p with wakes := if p.wakes.contains .vbatWarn then p.wakes else p.wakes ++ [.vbatWarn] })
    else .next (s.noteMode (s1.warnActs now.cyc upsets))

/-- VBAT_NVW_INHIBIT (R48, R72). -/
def execVbatNvwInhibit (s : State) : Out :=
  if s.pwr.nvInhibit then .next s
  else
    let s1 := s.onPwr fun p => { p with nvInhibit := true, events := setBits p.events 16 }
    .next (if s.powered then s1.onset 0x16 0 0 [] else s1)

/-- VBAT_NVW_RELEASE (R48): the queue may drain again. -/
def execVbatNvwRelease (s : State) : Out :=
  if !s.pwr.nvInhibit then .next s
  else
    let s1 := s.onPwr fun p => { p with nvInhibit := false }
    .next (if s.powered then s1.ending 0x16 0 0 [] else s1)

/-- VBAT_SETT_LOSS (R46, R47): without VBUS SETT stops; on VBUS the cell is reported absent, and low where VBAT_WARN has not reported
it. DEDUCED, log entry 98. -/
def execVbatSettLoss (_now : Now) (s : State) : Out :=
  let s1 := s.onPwr fun p => { p with cellPresent := false }
  if s.powered ∧ !s.pwr.onCell then
    let s2 := s1.onPwr fun p => { p with belowWarn := true }
    .next (if s.pwr.belowWarn ∨ s.pwr.pfActive then s2 else s2.cellWeak)
  else .next ((s1.onRtc fun r => { r with settLost := true }).onPwr fun p => { p with settRun := false })

/-- The cell counts as replaced (R68): at a COLD start (flag bit 0) or on VBUS. -/
def State.cellReplaced (atStart : Bool) (s : State) : State :=
  (((s.event 0x14 0 (le 4 s.pwr.chargeUah)).pwrRaise 128).onPwr fun p => { p with
    chargeUah := 0, remNc := 0, replaced := s.rtc.count, chgFlags := Word.ofBool atStart, cellCheck := false })

/-- CELL_LOAD_TEST (R67, R68, R348): once a day at the first NORMAL tick after 03:00 local time, never again for a local date on which
it has run or for an earlier one; and where a replacement is to be confirmed. The test draws 0.5 mC. -/
def execCellLoadTest (loadMv : Nat) (s : State) : Out :=
  let l := localTime s.dst s.rtc.count
  let due := decide (10800 ≤ l % 86400 ∧ s.rtc.loadDay < l / 86400 + 1)
  if !s.normal ∨ !(due || s.pwr.cellCheck) then .next s
  else
    let s1 := (s.onPwr fun p => { p.addCharge 500000 with loadMv := Word.sat 65535 loadMv }).onRtc fun r => { r with
      loadDay := if due then l / 86400 + 1 else r.loadDay }
    let new := s.pwr.cellCheck && decide (3000 ≤ s.pwr.vbatMv ∧ 3000 ≤ loadMv)
    let s2 := if loadMv < 3000 then s1.cellWeak else s1
    .next (if new then s2.cellReplaced true else s2.onPwr fun p => { p with cellCheck := false })

/-- CELL_CHARGE_COMMIT (R69). -/
def execCellChargeCommit (now : Now) (sup : Supplies) (s : State) : Out :=
  if !s.powered then .next s
  else
    let s1 := (s.supplies sup).onPwr (Pwr.chargeTo now.ms)
    .next (s1.enqueue (chargeRec s1.pwr))

/-! ### Waking (R79, R83, R88) -/

/-- The code of a source (R83). -/
def WakeSource.code (w : WakeSource) : Nat :=
  match w with
  | .schedule => 1
  | .hostMatch => 2
  | .uartActivity => 3
  | .uartPattern => 4
  | .mbusStart => 5
  | .tamper => 6
  | .vbusReturn => 7
  | .movor => 8
  | .vbatWarn => 9

/-- The source that LAST_WAKE reports when several fire together (R83). -/
def firstWake (l : List WakeSource) : Nat :=
  ([WakeSource.vbusReturn, .vbatWarn, .tamper, .schedule, .movor, .mbusStart, .hostMatch, .uartPattern, .uartActivity].find?
    l.contains).elim 0 WakeSource.code

/-- A frame of the host woke the module. -/
def hostWoke (l : List WakeSource) : Bool := l.contains .hostMatch || l.contains .uartActivity || l.contains .uartPattern

/-- The state after an exit: Run, with `PWR_STATE` (R99); the frame that woke the module counts as its host's or its bus's last one
(R81, R87, R88). -/
def State.wakeTo (left ms : Nat) (sources : List WakeSource) (exit10us : Nat) (s : State) : State :=
  (s.enterState .run ms).onPwr fun p => { p with
    lastState := left, lastWake := firstWake sources, lastExit := Word.sat 65535 exit10us, wakes := [],
    lastHostMs := if hostWoke sources then ms else p.lastHostMs,
    lastBusMs := if sources.contains .mbusStart then ms else p.lastBusMs }

/-- What every wake serves: the SETT latch, an OSF entry that is due, and in HOLD and UNCONFIGURED the cell's reading (R71, R88,
R346). -/
def State.wakeServe (sup : Supplies) (s : State) : State :=
  let s1 := s.transferLatch.logOsf
  if s1.pwr.mode = .backup then s1 else s1.onPwr fun p => { p with vbatMv := Word.sat 65535 sup.vbat }

/-- A wake that the expired VBAT_WARN filter raised is acted on (R57, R62, R83). -/
def State.wakeWarn (cyc : Nat) (sources : List WakeSource) (s : State) : State :=
  if sources.contains .vbatWarn then (s.onPwr fun p => { p with belowWarn := true }).warnActs cyc [] else s

/-! ### SETT discipline -/

/-- ROOT cycles of a window that is exact (R75). -/
def trimNominal : Nat := 2457600000

/-- SETT_TRIM_WINDOW (R75, R76, R102): a window in which ROOT stopped is discarded, an error beyond ±500 ppm refused; each ages the
last measurement. -/
def execSettTrimWindow (rootCycles : Nat) (s : State) : Out :=
  if !s.pwr.settRun then .next s
  else
    let aged := s.onPwr fun p => { p with
      measAge := Word.sat 255 (p.measAge + 1), rootStopped := p.onCell || !p.rootOk }
    if s.pwr.rootStopped ∨ !s.pwr.rootOk ∨ rootCycles = 0 then .next aged
    else
      let d : Int := (trimNominal : Int) - rootCycles
      let t := divNear (d * 2 ^ 25) rootCycles
      if rootCycles < 2000 * d.natAbs then
        .next ((aged.onPwr fun p => { p with trimLimit := true }).event 0x20 0 (leInt 4 t))
      else .next (aged.onPwr fun p => { p with trim := t, trimValid := true, trimLimit := false, measAge := 0 })

end Sys2Proof.Machine
end

