-- ==== Sys2Proof/Machine/Start.lean ====
section
/-! DEFINITION. Resets and starts: causes of a WARM reset (R35, R77, R95, R96), what a COLD and a WARM reset keep (R95, R97), the COLD
start (R107, R347), the card read (R105), the image decision (R134 to R137) and Off (R82). -/

namespace Sys2Proof.Machine

/-! ### Taking a WARM cause (R95, R97 step 1) -/

/-- A WARM cause takes effect: the field pins go to the states of R39, the HOARD queue drains, PEER_OK_OUT is deasserted, and the
module stays in reset until its restart. Held and merged commits are handed to the queue (R168). `cause` is its bit of `RESET_CAUSE`, and the reset counts in WARM_COUNT (R103).
DEDUCED, log entries 94 and 109. -/
def State.warmBegin (cause ms : Nat) (s : State) : State :=
  let gap := s.pwr.warmGap ||
    (decide (s.pwr.phase = .running ∧ s.pwr.strapRole ≠ 2 ∧ (s.pwr.mode = .normal ∨ s.pwr.mode = .backup)) && s.active)
  let cut := if s.meas.calPhase ≠ 0 then s.meas.calChans else if s.pwr.phase = .inReset then s.meas.calCut else []
  let s1 := (((s.interruptMove ms 1).calAbort.dropPulses true).dispStop ms).onMeas fun m => { m with calCut := cut }
  let s2 := (s1.unpair.enterState .run ms).onPwr fun p => { p with
    warmGap := gap, warmTick := s.meas.tick, warmCause := some cause, phase := .inReset, peerOkOut := false,
    warmCount := Word.sat 255 (p.warmCount + 1),
    pfCommit := p.pfCommit || p.pfActive, wakes := [] }
  let s3 := s2.endTest.handOwed
  if s3.canLand then s3.drain else s3

/-- RESET_PIN_ASSERT (R35): low for at least 10 µs. While the module is in the reset that RESET_N has caused, the level causes no
further one. DEDUCED, log entry 91. -/
def execResetPinAssert (now : Now) (lowUs : Nat) (s : State) : Out :=
  if !s.powered ∨ lowUs < 10 ∨ s.pwr.phase = .rootDead ∨ s.pwr.warmCause = some 3 then .next s
  else .next (s.warmBegin 3 now.ms)

/-- WATCHDOG_EXPIRY (R96): a WARM reset in SOLO, fail-silent in a pair. -/
def execWatchdogExpiry (now : Now) (s : State) : Out :=
  if !s.running ∨ s.pwr.state ≠ .run then .next s
  else .next (s.noteMode (if s.paired then s.goFailSilent 3 now.ms else s.warmBegin 4 now.ms))

/-- ROOT has failed to start once more: after three in a row the module stays in reset (R77). -/
def Pwr.rootFailed (p : Pwr) : Pwr :=
  { p with rootOk := false, rootStopped := true, rootFails := p.rootFails + 1,
           phase := if 3 ≤ p.rootFails + 1 then .rootDead else p.phase }

/-! ### What a reset keeps (R95, R346, R347, R365, R454, R578 to R583) -/

/-- The RTC after a reset at which SETT kept power: HALT and what it held are gone, and so are its W1C bits and the latch.
DEDUCED, log entry 143. -/
def Rtc.afterReset (r : Rtc) : Rtc :=
  { r.dropHalt with latched := false, latch := [0, 0, 0, 0], badWrite := false, slewRefused := false, autoRelease := false,
                    stepped := false }

/-- The groups of the state after a reset: `sett` where SETT kept its power. The supply group and the queue are the caller's.
DEDUCED, log entries 101 and 104 and 105. -/
def State.resetGroups (sett : Bool) (s : State) : State :=
  let r := State.reset
  { r with
    pending := s.pending, otp := s.otp, free := s.free, pwr := s.pwr,
    meas := { r.meas with calCut := if s.meas.calPhase ≠ 0 then s.meas.calChans
      else if s.pwr.phase = .reading then s.meas.calCut else [] },
    mem := { s.mem with sram := [], parity := [] },
    flt := if sett then { r.flt with
        uncorr := s.flt.uncorr, parCount := s.flt.parCount, parBanks := s.flt.parBanks, dmrCount := s.flt.dmrCount,
        dmrCh := s.flt.dmrCh, dmrWord := s.flt.dmrWord, lastAddr := s.flt.lastAddr, lastKind := s.flt.lastKind,
        lastReader := s.flt.lastReader } else r.flt,
    rtc := if sett then s.rtc.afterReset else { r.rtc with settLost := false },
    tamper := if sett then { r.tamper with
        latch := s.tamper.latch, coverOpen := s.tamper.coverOpen, tcoverOpen := s.tamper.tcoverOpen } else r.tamper,
    pair := { r.pair with cableOpen := s.pair.cableOpen },
    radio := if sett then { r.radio with bins := s.radio.bins } else r.radio,
    hl := if sett then { r.hl with fails := s.hl.fails, lockedOut := s.hl.lockedOut, lockUntil := s.hl.lockUntil, chalCount := s.hl.chalCount } else r.hl }

/-! ### The COLD start (R107) -/

/-- The latest time among the valid TOTALS records and the valid entries of the event log (R347). -/
def Mem.latestTime (m : Mem) : Option Nat :=
  let steps := allCh.filterMap fun n => match m.totals n with
    | .body d => some (Work.ofBytes d).stepTime
    | .absent | .lost => none
  let events := (List.range 4096).filterMap fun i =>
    let a := 0x210000 + 32 * i
    if m.hoard.readLE a 4 ≠ 0 ∧ m.hoard.readLE (a + 28) 4 = (crc32 (m.hoard.readBytes a 28)).toNat ∧ !m.badIn a 32 then
      some (m.hoard.readLE (a + 4) 5)
    else none
  (steps ++ events).foldl (fun b t => match b with
    | none => some t
    | some x => some (max x t)) none

/-- The supply as a start finds it (R46, R70). -/
def State.startSupply (sup : Supplies) (s : State) : State :=
  (s.supplies sup).onPwr fun p => { p with vbusOk := decide (11300 ≤ sup.vbus ∧ sup.vbus ≤ 33000), vbusOv := false }

/-- Where SETT had lost its power the RTC starts again with OSF set, above every recorded time (R346, R347).
DEDUCED, log entries 104 and 143. -/
def State.settFirst (s : State) : State :=
  let t := match s.mem.latestTime with
    | none => 0
    | some x => x + 1
  (s.onRtc fun r => { r with count := t }).setOsf (if s.mem.newestEntry 0x210000 32 4096 = 0 then 1 else 3)

/-- Begin a COLD start with the given bits of `RESET_CAUSE`: ROOT starts, the straps are sampled and the card is read (R107 steps 1
to 3). DEDUCED, log entry 95. -/
def State.coldStart (cause : Nat) (straps : StrapLevels) (sup : Supplies) (s : State) : State :=
  let lost := s.rtc.settLost
  let s1 := (s.resetGroups (!lost)).onMem fun m => { m with queue := [] }
  let r := Pwr.reset
  let s2 := s1.onPwr fun p =>
    let base := { r with
      mode := .unconfigured, state := .run, phase := .reading, nvInhibit := p.nvInhibit, cellPresent := p.cellPresent, belowWarn := p.belowWarn,
      settRun := true, rootOk := true, straps := straps, strapRole := roleOf straps, cause := cause + flag lost 2, settNew := lost }
    if lost then base
    else { base with trim := p.trim, trimValid := p.trimValid, trimLimit := p.trimLimit, measAge := p.measAge,
                     chargeMs := p.chargeMs }
  let s3 := (s2.startSupply sup).onPwr fun p => { p with onCell := !p.vbusOk }
  let s4 := s3.onRtc fun r => { r with adjLog := [] }
  if lost then s4.settFirst else s4

/-- A COLD start that ROOT's failure makes the monitor repeat (R77): a COLD reset of its own, which samples the straps anew and whose
`RESET_CAUSE` is ROOT_FAIL, with SETT_LOST where the start that it repeats found SETT without power. DEDUCED, log entry 91. -/
def State.coldRepeat (straps : StrapLevels) (sup : Supplies) (s : State) : State :=
  (s.coldStart 128 straps sup).onPwr fun p => { p with
    cause := p.cause ||| flag s.pwr.settNew 2, settNew := p.settNew || s.pwr.settNew, rootFails := s.pwr.rootFails }

/-- ROOT_FAIL (R77): ROOT stopped, or did not start. A COLD start in which ROOT does not start is repeated; anything else is a WARM
reset. DEDUCED, log entry 91. -/
def execRootFail (now : Now) (atStart : Bool) (straps : StrapLevels) (sup : Supplies) (s : State) : Out :=
  if !s.powered ∨ s.pwr.phase = .rootDead then .next s
  else if s.pwr.phase = .reading ∧ atStart then .next ((s.coldRepeat straps sup).onPwr Pwr.rootFailed)
  else
    let s1 := if s.pwr.phase = .inReset then s.onPwr fun p => { p with
        warmCause := some 7, warmCount := Word.sat 255 (p.warmCount + 1) }
      else s.warmBegin 7 now.ms
    .next (s1.onPwr fun p => if atStart then p.rootFailed else { p with rootOk := false, rootStopped := true })

/-- ROOT_START_RETRY (R77): every 10 s; the start goes on once ROOT runs, a COLD one as a repeated COLD start.
DEDUCED, log entry 91. -/
def execRootStartRetry (started : Bool) (straps : StrapLevels) (sup : Supplies) (s : State) : Out :=
  if s.pwr.phase ≠ .rootDead ∨ !started then .next s
  else if s.pwr.warmCause.isSome then .next (s.onPwr fun p => { p with rootOk := true, rootFails := 0, phase := .inReset })
  else .next ((s.coldRepeat straps sup).onPwr fun p => { p with rootFails := 0 })

/-- The WAKE detector answers an edge (R24): low for at least 100 ms of the time for which it has had power, then high for at least
10 ms. -/
def wakeAnswered (lowMs poweredMs highMs : Nat) : Bool := decide (100 ≤ min lowMs poweredMs) && decide (10 ≤ highMs)

/-- WAKE_PIN_EDGE (R24, R25): it wakes a module in Off; during the entry to Off it is held. DEDUCED, log entry 115. -/
def execWakePinEdge (lowMs poweredMs highMs : Nat) (straps : StrapLevels) (sup : Supplies) (s : State) : Out :=
  if !wakeAnswered lowMs poweredMs highMs then .next s
  else if s.pwr.state = .off then .next (s.coldStart 2 straps sup)
  else if s.pwr.shipping then .next ((s.startSupply sup).onPwr fun p => { p with wakeHeld := true })
  else .next s

/-- POWER_ON (R107, R55): VBUS_OK first holds on a module that had no power. A module in Off is left only by WAKE (R23, R83).
DEDUCED, log entry 97. -/
def execPowerOn (straps : StrapLevels) (sup : Supplies) (s : State) : Out :=
  let dead := decide (s.pwr.state = .unpowered) || (s.pwr.onCell && s.rtc.settLost)
  if !dead ∨ sup.vbus < 11300 ∨ 33000 < sup.vbus then .next s else .next (s.coldStart 1 straps sup)

/-- OFF_ENTRY (R82): once every queued record has landed, power is removed from every domain. A WAKE edge that came meanwhile starts
the module at once, by a COLD start that samples the straps (R25, R36). DESIGN CHOICE, log entry 9. DEDUCED, log entry 115. -/
def execOffEntry (straps : StrapLevels) (sup : Supplies) (s : State) : Out :=
  if !s.pwr.shipping ∨ !s.powered ∨ !s.canLand then .next s
  else
    let s1 := (s.drain.handOwed).drain
    let off := { (State.reset) with
      pending := s1.pending, otp := s1.otp, free := s1.free, mem := { s1.mem with sram := [], parity := [] },
      pwr := { Pwr.reset with nvInhibit := s1.pwr.nvInhibit } }
    .next (if s.pwr.wakeHeld then off.coldStart 2 straps sup else off)

/-- CARD_READ_RETRY (R105): up to three restarts in one read; a fourth missing acknowledge ends it. -/
def execCardReadRetry (byteIndex : Nat) (s : State) : Out :=
  if s.pwr.phase ≠ .reading ∧ s.pwr.phase ≠ .inReset then .next s
  else if s.img.restarts < 3 then .next (s.onImg fun i => { i with restarts := i.restarts + 1, failByte := byteIndex })
  else .next (s.onImg fun i => { i with failByte := byteIndex, unreadable := true })

/-! ### The decision (R134 to R137) -/

/-- The audit kind of a decision (R140). -/
def auditKind (result : Nat) : Nat := if result = 2 then 2 else if result = 3 then 3 else if result = 4 then 4 else 5

/-- Take an acceptance into the MODULE record (R135, R138, R144). -/
def ModuleRec.accept (m : ModuleRec) (result time : Nat) (im : Image) : ModuleRec :=
  { m with
    pcc := if result = 4 then m.pcc + 1 else m.pcc, acceptedSeq := im.seq, digest := im.digest, lDigest := im.lDigest,
    bDigest := im.bDigest, oDigest := im.oDigest, lastLTime := if result = 4 then time else m.lastLTime,
    moduleIdent := im.identity,
    chIdent := im.chans.toList.flatMap fun c => if c.type = .off then zeros 8 else padTo 8 c.ident,
    radioLast := im.radio.last }

/-- What a decision writes: an audit entry, then the MODULE record; nothing for ACCEPTED_SAME or a repeated refusal (R135 to R137). -/
def State.recordVerdict (v : Verdict) (s : State) : State :=
  let m := s.img.module_
  match v.accepts, v.image with
  | true, some im =>
    if v.result = 1 then s
    else
      let n := m.accept v.result s.rtc.count im
      let detail := match v.result == 4, im.reverify with
        | true, some d => slice d 72 4
        | _, _ => zeros 4
      let s1 := s.auditOnce (auditKind v.result) v.classes m.acceptedSeq v.seq m.digest v.digest n.pcc detail
      (s1.onImg fun i => { i with module_ := n }).commitModule
  | _, _ =>
    if m.refused = v.digest then s
    else
      let s1 := s.auditOnce 5 v.classes m.acceptedSeq v.seq m.digest v.digest m.pcc (le 4 v.result)
      (s1.onImg fun i => { i with module_ := { m with refused := v.digest } }).commitModule

/-- `IMG_STATUS` and the image in force after a decision (R150). -/
def State.putVerdict (v : Verdict) (s : State) : State := s.onImg fun i => { i with
  image := if v.accepts then v.image else none, accepted := v.accepts, result := v.result, section_ := v.section_,
  chgL := Word.bit v.classes 0, chgB := Word.bit v.classes 1, chgO := Word.bit v.classes 2 }

/-- Load the DMA programs of the accepted image into B4 (R92, R128). -/
def State.loadProgram (s : State) : State :=
  match s.img.image with
  | none => s
  | some im => s.onMem fun m => { m with sram := m.sram.writeBytes 0x4A000 im.dmaProg }

/-- UNCONFIGURED is logged at entry (R141), once. DEDUCED, log entry 100. -/
def State.unconfMark (s : State) : State :=
  if s.img.unconfLogged then s
  else (s.onset 0x04 0 0 (le 1 s.img.result ++ le 1 s.img.section_)).onImg fun i => { i with unconfLogged := true }

/-- The end of what `unconfMark` logged. DEDUCED, log entry 100. -/
def State.unconfEnd (s : State) : State :=
  if s.img.unconfLogged then
    (s.ending 0x04 0 0 (le 1 s.img.result ++ le 1 s.img.section_)).onImg fun i => { i with unconfLogged := false }
  else s

/-- Decide on the card and restore what a start restores (R107 steps 4 and 5, R97 steps 3 and 4). A module whose MODULE record is lost
makes no decision (R570). The alarm of UNCONFIGURED is due 5 s later (R372). `logged` writes the entry of the start itself. -/
def State.decideStart (card : CardRead) (logged : State → State) (s : State) : State :=
  let card := if s.img.unreadable ∧ card ≠ .noCard then .failed else card
  let s1 := logged (s.loadLog.onImg fun i => { i with cardPresent := decide (card ≠ .noCard) })
  let s2 := if s1.pwr.straps.role1 ∨ s1.pwr.straps.role0 then s1 else s1.event 0x03 0 (zeros 2)
  let s3 := s2.loadModule.loadCharge
  let s4 := if s3.flt.moduleLost then s3
    else
      let v := s3.decideCard card
      (s3.recordVerdict v).putVerdict v
  let s5 := s4.loadRecords.loadChans.startTariffs.loadProgram
  let ready := s5.img.accepted && s5.img.module_.commissioned
  let s6 := (s5.onImg fun i => { i with restarts := 0, unreadable := false }).onPwr fun p => { p with
    phase := .waiting, rootFails := 0, rootOk := true,
    mode := if !ready then .unconfigured else if p.onCell then .backup else .normal }
  let s7 := if s5.img.result = 4 then s6.onDisp fun d => { d with rom := 1, auditHold := true } else s6
  if ready then s7.unconfEnd
  else (s7.unconfMark).onRadio fun r => { r with alarmAt := some (1000 * (s.rtc.count + 5)) }

/-- A member of a pair with a lost TOTALS record goes fail-silent (R556), unless the reset came out of that state: the record is then
restored by synchronisation (R570). DEDUCED, log entry 106. -/
def State.lostTotals (was ms : Nat) (s : State) : State :=
  if s.paired ∧ !s.flt.totalsLost.isEmpty ∧ was ≠ 2 then s.goFailSilent 2 ms else s

/-- IMAGE_DECISION (R134): step 5 of a COLD start. -/
def execImageDecision (now : Now) (card : CardRead) (sup : Supplies) (s : State) : Out :=
  if s.pwr.phase ≠ .reading then .next s
  else
    let s1 := s.supplies sup
    let s1 := s1.onImg fun i => { i with unconfLogged := s1.mem.unconfOpen }
    let s2 := (s1.decideStart card fun t => t.event 0x01 0 (le 4 t.resetCause)).onPair fun p => { p with heardMs := now.ms }
    .next (s.noteMode (s2.lostTotals 0 now.ms))

/-- WARM_RESTART (R97): the state that the reset leaves, the straps and the card anew, and the records restored. TRIM, TRIM_VALID,
TRIM_LIMIT and MEAS_AGE stay. DEDUCED, log entry 89. DESIGN CHOICE, log entry 152. -/
def execWarmRestart (now : Now) (straps : StrapLevels) (card : CardRead) (sup : Supplies) (s : State) : Out :=
  match s.pwr.phase, s.pwr.warmCause with
  | .inReset, some c =>
    let was := s.pwr.failCause
    let s1 := s.resetGroups true
    let s2 := { s1 with
      meas := { s1.meas with tick := s.meas.tick, started := s.meas.started, calCut := s.meas.calCut },
      img := { s1.img with restarts := s.img.restarts, unreadable := s.img.unreadable, failByte := s.img.failByte,
                           unconfLogged := s.img.unconfLogged } }
    let s3 := s2.onPwr fun p => { p with
      events := 0#32, vbusMv := 0, vbatMv := 0, loadMv := 0, lastState := 0, lastWake := 0, lastExit := 0, retSel := 0,
      retFail := 0, rebuilt := 0, cardReread := false, sigs := [], wakes := [], rootStopped := true, cause := 2 ^ c,
      warmCause := none, shipping := false, wakeHeld := false,
      straps := straps, strapRole := roleOf straps, peerOkOut := false, lastHostMs := 0, lastBusMs := 0,
      failSilent := false, failCause := 0 }
    let charge := (s3.pwr.chargeUah, s3.pwr.remNc, s3.pwr.replaced, s3.pwr.chgFlags)
    let s4 := (s3.supplies sup).decideStart card id
    let s5 := s4.onPwr fun p => { p with
      chargeUah := charge.1, remNc := charge.2.1, replaced := charge.2.2.1, chgFlags := charge.2.2.2 }
    .next (s.noteMode ((s5.onPair fun p => { p with heardMs := now.ms }).lostTotals was now.ms))
  | _, _ => .next s

end Sys2Proof.Machine
end

