-- ==== Sys2Proof/Machine/Tick.lean ====
section
/-! DEFINITION. The tick (R153): the first tick of a start (R107, R596), what every tick edge does, the tick grid that SETT keeps while
ROOT is stopped (R161) and the DEGRADED measurement ticks (R160). -/

namespace Sys2Proof.Machine

/-- The module begins to measure in the mode that the supply gives (R596): NORMAL on VBUS, on the cell BACKUP, or HOLD below
VBAT_WARN. -/
def State.measureMode (s : State) : State :=
  if !s.pwr.onCell then (s.onPwr fun p => { p with mode := .normal, pfStep := 0 }).holdEnd
  else if s.pwr.belowWarn then s.enterHold
  else (s.onPwr fun p => { p with mode := .backup }).holdEnd

/-- The first step of each channel begins at this edge; a SOLO module has its restart gap to substitute (R258). -/
def State.beginSteps (s : State) : State :=
  let on := s.pwr.strapRole == 0 && decide (s.pwr.mode = .normal ∨ s.pwr.mode = .backup)
  let s1 := s.forCh s.activeCh fun n t => t.onCh n fun c => { c with
    stepStart := s.edge, acc := .reset, late := .reset, carry := none, gap := if on then s.restartGap n else none }
  if on ∨ (s.pwr.mode ≠ .normal ∧ s.pwr.mode ≠ .backup) then s1.onPwr fun p => { p with warmGap := false } else s1

/-- The latest reset was a COLD one: a WARM reset counts, and a COLD one begins the count (R103). -/
def Pwr.coldStarted (p : Pwr) : Bool := p.warmCount == 0

/-- The first tick after a start, at the edge just timed (R107 step 6, R97 step 5): count 0 after a COLD start, the mode of R596, the
entries of a WARM restart and of R327, a lost Movor cable (R32), the display refresh, the DMA channels, PEER_OK_OUT.
DEDUCED, log entries 90 and 107. -/
def State.firstTick (pins : TickPins) (s : State) : State :=
  let s1 := (s.onMeas fun m => { m with started := true, tick := if m.started then (m.tick + 1) % 2 ^ 32 else 0 }).onPwr fun p => { p with
    phase := .running, cellCheck := p.cellCheck || p.settNew, settNew := false }
  let s2 := s1.onHl fun h => { h with events := setBits h.events (2 ^ 18) }
  let s3 := if s.pwr.coldStarted then s2 else s2.event 0x02 0 (le 4 s2.resetCause ++ le 4 (s2.meas.tick - s2.pwr.warmTick))
  let s4 := (if s.pwr.settNew then s3.firstTamper pins.coverOpen pins.tcoverOpen else s3).reportCable
  let s5 := if s4.pwr.mode = .unconfigured then (if s4.pwr.onCell ∧ s4.pwr.belowWarn then s4.holdMark else s4) else s4.measureMode
  let s6 := s5.beginSteps.onDisp fun d => { d with want := some 1 }
  let s7 := s6.dmaStartAll.onPwr fun p => { p with peerOkOut := decide (p.mode ≠ .unconfigured) && !p.failSilent }
  if s7.normal ∧ s7.active then s7.resumeValves else s7

/-- A COMMISSION has reached step 4, or the peer's commissioned state has been taken over: the module leaves UNCONFIGURED at this edge, in
the mode of R596, on VBUS not before the store is ready (R51), and TEST ends (R62, R142, R148, R149). DEDUCED, log entry 79. -/
def State.leaveUnconfigured (s : State) : State :=
  if s.pwr.mode = .unconfigured ∧ s.img.accepted ∧ s.img.module_.commissioned ∧ !s.pwr.pfActive ∧
    (s.pwr.onCell ∨ s.pwr.vbusReady) then
    let s1 := ((s.onImg fun i => { i with commissioning := false }).unconfEnd).onRadio fun r => { r with alarmAt := none }
    let s2 := (s1.endTest).measureMode
    let s3 := s2.beginSteps.onPwr fun p => { p with peerOkOut := !p.failSilent }
    if s3.normal ∧ s3.active then (s3.dispActive true).resumeValves else s3
  else s

/-- After HOLD the sliding ring of every channel holds zeros (R291). -/
def State.zeroRings (s : State) : State := s.forCh s.activeCh fun n t => t.onCh n fun c => { c with ring := [] }

/-- HOLD ends at the first NORMAL tick after the wake of R60: nothing is substituted (R61). DEDUCED, log entry 108. -/
def State.leaveHold (s : State) : State :=
  if s.pwr.mode = .hold ∧ s.pwr.holdReturn ∧ s.pwr.vbusReady then
    let s1 := (s.onPwr fun p => { p with holdReturn := false, onCell := false, pfStep := 0, warmGap := false }).holdEnd
    (s1.normalResumed 2).zeroRings.beginSteps.dmaStartAll
  else s

/-- A cell that read below VBAT_SETT for a second on VBUS and then reads 3.00 V or more has been replaced (R68).
DEDUCED, log entry 93. -/
def State.cellWatch (vbat : Nat) (s : State) : State :=
  let g := s.pwr.cellGone
  if vbat < 2000 then s.onPwr fun p => { p with cellGone := min 5 (g + 1) }
  else if g < 5 then s.onPwr fun p => { p with cellGone := 0 }
  else if 3000 ≤ vbat then (s.cellReplaced false).onPwr fun p => { p with cellGone := 0 }
  else s

/-- EV36, and EV37 at the edge itself where no step ends there; the EV37 of an edge whose commits have not landed comes at the end of
its budget (R167, R486). DEDUCED, log entry 110. -/
def State.tickEvents (s : State) : State :=
  let s1 := if s.meas.commitsDue then s.dmaEvent 37 else s
  let due := s.activeCh.any fun n => s.integrates n && s.stepDue n
  let s2 := (s1.dmaEvent 36).onMeas fun m => { m with commitsDue := due }
  if due then s2 else s2.dmaEvent 37

/-- The readings of VBUS, at every tick while ROOT runs, and of the cell, at the first tick of a start and every 64 s while VBUS_OK
holds (R71). -/
def State.readSupplies (sup : Supplies) (first : Bool) (s : State) : State := s.onPwr fun p => { p with
  vbusMv := if p.state = .run then Word.sat 65535 sup.vbus else p.vbusMv,
  vbatMv := if first || (p.vbusOk && s.meas.tick % 256 == 0) then Word.sat 65535 sup.vbat else p.vbatMv }

/-- The levels that every tick samples (R150, R328, R548, R562). -/
def State.samplePins (pins : TickPins) (s : State) : State :=
  (s.sampleCard pins.cardOut).onPair fun p => { p with peerOkIn := pins.peerOkIn, harness := pins.harness }

/-- R_REF of every converter for the module's internal temperature (R223). DESIGN CHOICE, log entry 16. -/
def State.correctRefs (internalTemp : Int) (s : State) : State :=
  (List.range 8).foldl (fun t k =>
    let f := nth s.otp.converters k (0, 0, 0, 0, 0)
    t.setTc (k + 1) { t.tc (k + 1) with
      ref100 := Config.refCorrected k 0 f.1 internalTemp, ref1k := Config.refCorrected k 1 f.2.1 internalTemp }) s

/-- What every tick edge on VBUS does once ticks run: supply readings (R71), levels (R150, R548, R562), the SETT latch (R89), time trust
(R346), the references (R223), a zero calibration that waits (R195), the DMA events and the pair. -/
def State.tickWork (sup : Supplies) (pins : TickPins) (internalTemp : Int) (first : Bool) (s : State) : State :=
  let s1 := (s.readSupplies sup first).cellWatch sup.vbat
  let s2 := ((s1.samplePins pins).transferLatch).logOsf
  let s3 := if s.meas.tick % 4 = 0 then s2.correctRefs internalTemp else s2
  ((s3.leaveHold.leaveUnconfigured.calBegin).tickEvents).pairTick

/-- One tick of the count. DEDUCED, log entry 89. -/
def State.countTick (s : State) : State := s.onMeas fun m => { m with tick := (m.tick + 1) % 2 ^ 32 }

/-- TICK (R153): an edge that ROOT times, on VBUS. Before the first tick of a start only the count of a WARM restart goes on; the first
tick waits for the store (R51). DESIGN CHOICE, log entry 6. -/
def execTick (sup : Supplies) (pins : TickPins) (internalTemp : Int) (s : State) : Out :=
  let s1 := s.supplies sup
  let returning := decide (s1.pwr.mode = .hold) && s1.pwr.holdReturn && s1.pwr.vbusReady
  if s.pwr.state ≠ .run ∨ !s.pwr.rootOk ∨ (s.pwr.onCell ∧ !returning) then .next s
  else match s.pwr.phase with
    | .rootDead | .reading => .next s1
    | .inReset => .next (if s.meas.started then s1.countTick else s1)
    | .waiting =>
      if s1.pwr.vbusReady then
        .next (s.noteMode ((s1.firstTick pins).tickWork sup pins internalTemp true))
      else .next (if s.meas.started then s1.countTick else s1)
    | .running => .next (s.noteMode (s1.countTick.tickWork sup pins internalTemp false))

/-- What a tick edge of the SETT grid does in a module that is in Run (R71, R89, R150, R223). -/
def State.settWork (sup : Supplies) (pins : TickPins) (internalTemp : Int) (first : Bool) (s : State) : State :=
  (((s.readSupplies sup first).samplePins pins).correctRefs internalTemp).transferLatch.logOsf

/-- SETT_TICK_EDGE (R161): an edge of the grid that SETT keeps on the cell. It can be the first tick of a start (R596), or the edge at
which a COMMISSION takes the module out of UNCONFIGURED (R62). -/
def execSettTickEdge (sup : Supplies) (pins : TickPins) (internalTemp : Int) (s : State) : Out :=
  if !s.powered ∨ !s.pwr.onCell ∨ s.rtc.settLost then .next s
  else match s.pwr.phase with
    | .rootDead | .reading => .next s
    | .inReset => .next (if s.meas.started then s.countTick else s)
    | .waiting => .next (s.noteMode (((s.supplies sup).firstTick pins).settWork sup pins internalTemp true).pairTick)
    | .running =>
      if s.pwr.state ≠ .run then .next s.countTick
      else .next (s.noteMode ((s.supplies sup).countTick.settWork sup pins internalTemp false).leaveUnconfigured.pairTick)

/-- The measurement tick at or after a tick count (R158). -/
def nextMeasTick (tick : Nat) (served : Option Nat) : Nat :=
  if tick % 32 = 0 ∧ served ≠ some tick then tick else (tick / 32 + 1) * 32

/-- DEGRADED_TICK_WAKE (R160): the next measurement tick of BACKUP; a sleeping module wakes for it and serves with it every source that
has fired (R83). A measurement draws 0.375 mC (R587). DEDUCED, log entry 96. -/
def execDegradedTickWake (now : Now) (sup : Supplies) (pins : TickPins) (internalTemp : Int) (exit10us : Nat) (s : State) : Out :=
  if !s.backup ∨ !s.pwr.onCell ∨ s.rtc.settLost ∨ (s.pwr.state ≠ .run ∧ s.pwr.state ≠ .sleep) then .next s
  else
    let t := nextMeasTick s.meas.tick s.meas.degAt
    let sources := .schedule :: s.pwr.wakes
    let s1 := s.supplies sup
    let s2 := if s.pwr.state = .sleep then (s1.wakeTo 1 now.ms sources exit10us).wakeWarn now.cyc sources else s1.enterState .run now.ms
    if !s2.backup then .next (s.noteMode ((s2.samplePins pins).wakeServe sup))
    else
      let s3 := (s2.onPwr fun p => { p with vbatMv := Word.sat 65535 sup.vbat, vbusMv := Word.sat 65535 sup.vbus }).onMeas
        fun m => { m with tick := t, degAt := some t }
      let s4 := if s.active then s3.onPwr (Pwr.addCharge 375000) else s3
      .next (s.noteMode ((((s4.samplePins pins).correctRefs internalTemp).transferLatch.logOsf.tickEvents).pairTick))

end Sys2Proof.Machine
end

