-- ==== Sys2Proof/Machine/Wake.lean ====
section
/-! DEFINITION. Sleep and Deep Sleep (R78 to R84, R91 to R94), their wakes (R85 to R88), and what a LINK reset gives the host partition
(R98). -/

namespace Sys2Proof.Machine

/-! ### The host partition after a LINK reset (R94, R98) -/

/-- Host-visible W1C event registers and RC counters read zero (R98). -/
def State.clearHostCounts (s : State) : State :=
  let s1 := { s with
    pwr := { s.pwr with events := 0#32 },
    rtc := { s.rtc with badWrite := false, slewRefused := false, autoRelease := false, stepped := false },
    meas := { s.meas with overrun := 0, window := updAt s.meas.window 2 fun _ => 0 },
    radio := { s.radio with events := 0#32, rejected := 0, discarded := 0, frames := 0, crcErr := 0, dropped := 0 },
    sess := { s.sess with evictions := 0, dups := 0, busy := 0, authFail := 0, replays := 0 },
    alc := { s.alc with refused := 0 }, mbus := { s.mbus with frameErr := 0, answered := 0 } }
  let s2 := { s1 with
    pair := { s.pair with events := 0#32, crcErrors := 0, resends := 0, resendFail := 0 },
    flt := { s.flt with events := 0#32, corr := 0, corrScrub := 0, uncorr := 0, parCount := 0, parBanks := 0, dmrCount := 0,
                        dmrCh := 0, dmrWord := 0 },
    tamper := { s.tamper with events := 0#32 }, disp := { s.disp with events := 0#32 },
    dma := { s.dma with events := 0#32, eventEn := 0#32, errBits := 0#32 } }
  s2.forCh allCh fun n t => t.onCh n fun c => { c with flow := { c.flow with events := 0#32 } }

/-- The host partition as a LINK reset leaves it: OBSERVE, no challenge, no command, no credit, the enables at their reset values;
FAILS and LOCKED_OUT are kept (R98, R454, R469). HALT is released (R342). -/
def State.linkState (s : State) : State :=
  let r := HostLink.reset
  let s1 := s.clearHostCounts.onHl fun h => { r with fails := h.fails, lockedOut := h.lockedOut, lockUntil := h.lockUntil, chalCount := h.chalCount }
  (s1.onRtc fun c => if c.halt then c.dropHalt else c).dmaLinkReset

/-! ### Domains and Idle (R78, R79) -/

/-- The power domains. -/
inductive Domain where
  | sett | nv | core | bus | afe | radio | disp | host
  deriving DecidableEq, Repr

/-- What a power state gives a domain: power and clocks, power with its clocks stopped, what its schedule or its updates ask for, power
with VIO_HOST present, the retained banks alone, or nothing. -/
inductive DomainPower where
  | on | kept | scheduled | withUpdates | withVio | retained | off
  deriving DecidableEq, Repr

/-- The table of R78. -/
def PowerState.domain (st : PowerState) (d : Domain) : DomainPower :=
  match st, d with
  | .unpowered, _ | .off, _ => .off
  | _, .sett => .on
  | .run, .nv | .run, .core | .run, .bus | .idle, .nv | .idle, .bus => .on
  | .idle, .core => .kept
  | .run, .afe | .run, .radio | .idle, .afe | .idle, .radio => .scheduled
  | .run, .disp | .idle, .disp => .withUpdates
  | .run, .host | .idle, .host => .withVio
  | .sleep, .nv | .sleep, .core | .sleep, .bus | .sleep, .host => .kept
  | .deepSleep, .bus => .retained
  | .sleep, .afe | .sleep, .radio | .sleep, .disp => .off
  | .deepSleep, .nv | .deepSleep, .core | .deepSleep, .afe | .deepSleep, .radio | .deepSleep, .disp | .deepSleep, .host => .off

/-- All tick work is done and no event is pending (R79): no step close is due or held, no record, posted write, request, received frame
or reaction waits, and no DMA channel works. DEDUCED, log entry 9. -/
def State.allDone (s : State) : Bool :=
  !s.meas.commitsDue && !s.commitsOpen &&
    s.mem.queue.isEmpty && s.hl.wbuf.isEmpty && s.sess.inbox.isEmpty && s.radio.rx.isEmpty && s.alc.run.isNone &&
    !s.flt.dmrPending && !s.pwr.pfActive && !(s.sess.ctxs.toList.any fun c => c.st == .running) &&
    (List.range 16).all fun k => !(s.dc k).run || s.dcWaiting k

/-- The power state of R79: a running module with nothing to do is in Idle. DEDUCED, log entry 9. -/
def State.powerState (s : State) : PowerState :=
  if s.pwr.state = .run ∧ s.pwr.phase = .running ∧ s.allDone then .idle else s.pwr.state

/-! ### Sleep (R79, R81) -/

/-- The next measurement tick and the pulse events lie more than 5 ms ahead, and no measurement tick is in progress (R81). -/
def State.nothingDue (cyc : Nat) (s : State) : Bool :=
  let near := 48000
  let tick := s.meas.tick
  let measuring := decide (tick % 32 = 0 ∧ s.meas.degAt = some tick ∧ cyc < tickCycles)
  let toNext := (nextMeasTick tick s.meas.degAt - tick) * tickCycles - cyc
  let pulse (k : Nat) : Bool :=
    let p := s.out k
    let now := s.grid cyc
    (match p.waiting.head? with
      | none => true
      | some t => decide (now + near < t)) &&
    (!p.closed || decide (now + near < p.last.getD 0 + 9600 * (s.pulseCfg k).2.2.1))
  (decide (s.pwr.mode ≠ .backup) || (!measuring && decide (near < toNext))) && ((List.range 8).map (· + 1)).all pulse

/-- No radio frame is in progress, no host frame has come for 200 ms, and every queued record has landed (R81, R88). -/
def State.quiet (ms : Nat) (s : State) : Bool :=
  decide (s.radio.txEnd ≤ ms ∧ s.pwr.lastHostMs + 200 ≤ ms) && s.mem.queue.isEmpty && s.alc.run.isNone

/-- The module runs on the cell with no return of VBUS in sight. -/
def State.onCellRun (s : State) : Bool :=
  s.running && s.pwr.onCell && !s.pwr.vbusOk && !s.pwr.pfActive && decide (s.pwr.state = .run)

/-- Every running DMA channel stands at a boundary point (R500). -/
def State.dmaQuiet (s : State) : Bool := (List.range 16).all fun k => !(s.dc k).run || s.atBoundary k

/-- SLEEP_ENTRY (R81, R62). -/
def execSleepEntry (now : Now) (s : State) : Out :=
  let mode := decide (s.pwr.mode = .backup) || (decide (s.pwr.mode = .unconfigured) && !s.pwr.belowWarn)
  if s.onCellRun && mode && s.nothingDue now.cyc && s.quiet now.ms && decide (s.pwr.lastBusMs + 1000 ≤ now.ms) && s.dmaQuiet then
    .next (s.enterState .sleep now.ms)
  else .next s

/-! ### Deep Sleep (R79, R88, R91) -/

/-- HOLD, or UNCONFIGURED on a cell below VBAT_WARN (R62). -/
def State.deepMode (s : State) : Bool :=
  decide (s.pwr.mode = .hold) || (decide (s.pwr.mode = .unconfigured) && s.pwr.onCell && s.pwr.belowWarn)

/-- Enter Deep Sleep once everything that was being served is done: the signatures are formed and every DMA channel stops (R91,
R500). -/
def State.deepEnter (ms : Nat) (s : State) : State :=
  if s.onCellRun && s.deepMode && s.quiet ms && s.hl.wbuf.isEmpty then
    let sel := match s.img.image with
      | none => 7
      | some im => im.retBanks
    ((s.dmaStopAll.onPwr fun p => { p with retSel := sel }).formSigs sel).enterState .deepSleep ms
  else s

/-- DEEP_SLEEP_ENTRY (R91). DESIGN CHOICE, log entry 9. -/
def execDeepSleepEntry (now : Now) (s : State) : Out := .next (s.deepEnter now.ms)

/-- HOLD_HOST_IDLE (R88): 200 ms after the last frame of the host. -/
def execHoldHostIdle (now : Now) (s : State) : Out := .next (s.deepEnter now.ms)

/-! ### Wake sources (R83, R85 to R87) -/

/-- Sources that wake from Deep Sleep (R83). -/
def WakeSource.deep (w : WakeSource) : Bool :=
  match w with
  | .schedule | .hostMatch | .uartPattern | .tamper | .vbusReturn => true
  | .uartActivity | .mbusStart | .movor | .vbatWarn => false

/-- Whether VIO_HOST is present, as the host pins show it (R33). -/
def State.seeVio (vio : Bool) (s : State) : State := s.onPwr fun p => { p with vioHost := vio }

/-- HOST_ADDRESS_MATCH (R85, R444): answered with WAKING, and raised as a wake; a frame with another address is ignored. With VIO_HOST
absent the pins are isolated (R33). -/
def execHostAddressMatch (hdr : Byte) (vio : Bool) (s : State) : Out :=
  if s.asleep ∧ vio ∧ s.pwr.straps.hostmode ∧ hdr.toNat / 2 = 0x48 + s.pwr.straps.haddr.toNat then
    .next (((s.seeVio vio).onHl fun h => { h with out := [0x3C#8] }).raiseWake .hostMatch)
  else .next (s.seeVio vio)

/-- The wake pattern of R86: HOST_SDI low for at least 1 ms, then at least 20 falling edges within 2 ms after its return high. -/
def wakePattern (lowUs : Nat) (edges : List Nat) : Bool :=
  decide (1000 ≤ lowUs) && decide (20 ≤ (edges.filter fun t => decide (t ≤ 2000)).length)

/-- UART_WAKE (R86): any activity wakes from Sleep, only the wake pattern from Deep Sleep. -/
def execUartWake (lowUs : Nat) (edges : List Nat) (vio : Bool) (s : State) : Out :=
  let pattern := wakePattern lowUs edges
  let s1 := s.seeVio vio
  if !s.asleep ∨ !vio ∨ s.pwr.straps.hostmode ∨ (s.pwr.state = .deepSleep ∧ !pattern) then .next s1
  else .next (s1.raiseWake (if pattern then .uartPattern else .uartActivity))

/-- MBUS_START_BIT_WAKE (R87): Sleep only; the frame is not answered. -/
def execMbusStartBitWake (s : State) : Out := if s.pwr.state = .sleep then .next (s.raiseWake .mbusStart) else .next s

/-! ### Exits (R79, R83, R92, R93) -/

/-- SLEEP_WAKE (R83, R57): served from Run; the expired VBAT_WARN filter is acted on. DESIGN CHOICE, log entry 7. -/
def execSleepWake (now : Now) (sources : List WakeSource) (exit10us : Nat) (cardOut : Bool) (sup : Supplies) (s : State) : Out :=
  let all := sources ++ s.pwr.wakes
  if s.pwr.state ≠ .sleep ∨ all.isEmpty then .next s
  else
    let s1 := (((s.supplies sup).wakeTo 1 now.ms all exit10us).sampleCard cardOut).wakeServe sup
    .next (s.noteMode (s1.wakeWarn now.cyc all))

/-- Whether a bank is in a list of banks; B0 and B1 are rebuilt together (R92). -/
def rebuildSet (l : List Nat) : List Nat := if l.contains 0 ∨ l.contains 1 then 0 :: 1 :: l.filter (1 < ·) else l

/-- Bits of banks. -/
def bankMask (l : List Nat) : Nat := (l.map (2 ^ ·)).foldl (· ||| ·) 0

/-- Clear a bank. -/
def Mem.clearBank (m : Mem) (k : Nat) : Mem :=
  { m with sram := m.sram.clear (65536 * k) 65536, parity := m.parity.filter fun a => decide (a / 65536 ≠ k) }

/-- Rebuild one bank (R92); B0 and B1 come from the card, by the caller. -/
def State.rebuildBank (k : Nat) (s : State) : State :=
  let s1 := s.onMem fun m => m.clearBank k
  match k with
  | 2 => s1.loadChans
  | 3 => (((s1.discardQueue).freeCtxs).onRadio fun r => { r with rx := [], snaps := [], catchUps := [] }).onAlc fun c =>
      { c with strangers := [] }
  | 4 => (s1.loadProgram).onDisp fun d => { d with want := some 4, texts := [] }
  | _ => s1

/-- The exit from Deep Sleep (R92 to R94): signatures checked, banks rebuilt, the host partition as after a LINK reset. A card re-read that
does not end in ACCEPTED_SAME leads to a WARM reset. DEDUCED, log entry 113. -/
def State.deepExit (now : Now) (sources : List WakeSource) (exit10us : Nat) (failedBanks : List Nat) (card : CardRead)
    (cardOut : Bool) (sup : Supplies) (s : State) : State :=
  let sel := (List.range 8).filter (Word.bit s.pwr.retSel)
  let failed := sel.filter fun k =>
    failedBanks.contains k || (s.mem.parity.any fun a => a / 65536 == k) || !s.pwr.sigs.contains (k, s.mem.bankSig k)
  let rebuilt := rebuildSet ((List.range 8).filter fun k => !sel.contains k || failed.contains k)
  let s1 := ((s.supplies sup).wakeTo 2 now.ms sources exit10us).onPwr fun p => { p with
    retFail := bankMask failed, rebuilt := bankMask rebuilt, cardReread := rebuilt.contains 0, sigs := [] }
  let s2 := (s1.linkState).onRtc fun r => { r with latched := false }
  let s3 := if failed.isEmpty then s2 else s2.event 0x05 0 (le 4 s2.pwrRet)
  let v := s3.decideCard card
  let s4 := if rebuilt.contains 0 then s3.onImg fun i => { i with image := v.image } else s3
  let s5 := ((rebuilt.foldl (fun t k => t.rebuildBank k) s4).sampleCard cardOut).wakeServe sup
  if rebuilt.contains 0 ∧ v.result ≠ 1 then s5.warmBegin 8 now.ms
  else if sources.contains .vbusReturn ∧ s5.pwr.mode = .hold then s5.onPwr fun p => { p with holdReturn := p.vbusOk }
  else s5

/-- DEEP_SLEEP_WAKE (R83, R92). -/
def execDeepSleepWake (now : Now) (sources : List WakeSource) (exit10us : Nat) (failedBanks : List Nat) (card : CardRead)
    (cardOut : Bool) (sup : Supplies) (s : State) : Out :=
  let all := (sources ++ s.pwr.wakes).filter WakeSource.deep
  if s.pwr.state ≠ .deepSleep ∨ all.isEmpty then .next s
  else .next (s.noteMode (s.deepExit now all exit10us failedBanks card cardOut sup))

/-- HOLD_EXIT (R60): on VBUS_OK the module wakes, checks its retention signatures and waits for its first NORMAL tick. -/
def execHoldExit (now : Now) (sup : Supplies) (exit10us : Nat) (failedBanks : List Nat) (card : CardRead) (cardOut : Bool)
    (s : State) : Out :=
  if s.pwr.mode ≠ .hold ∨ !s.pwr.vbusOk ∨ s.pwr.phase ≠ .running then .next s
  else if s.pwr.state = .deepSleep then
    .next (s.noteMode (s.deepExit now (.vbusReturn :: s.pwr.wakes) exit10us failedBanks card cardOut sup))
  else .next ((s.supplies sup).onPwr fun p => { p with holdReturn := true })

/-! ### Due dates in HOLD (R88, R297) -/

/-- The due-date snapshots of channel n from the totals committed at HOLD entry, behind a commit of the maxima they reset (R292,
R298). DEDUCED, log entries 102 and 111. -/
def State.holdSnaps (n : Nat) (s : State) : State :=
  let c := s.ch n
  let fault := Word.ofBool (c.flow.flowFault || s.tempFaulted n)
  let r := s.snapshots n (4 + 16 * fault) c.a
  if r.2.2.isEmpty then r.1
  else
    let s1 := r.1.onCh n fun c => { c with a := r.2.1, b := r.2.1 }
    r.2.2.foldl (fun t e => t.enqueue e) (s1.enqueue (totalsRec n r.2.1))

/-- HOLD_DUE_DATE_WAKE (R88): it wakes the module from Deep Sleep, and once awake the freeze and the snapshots that are due are
taken. DEDUCED, log entry 102. -/
def execHoldDueDateWake (_now : Now) (s : State) : Out :=
  if s.pwr.mode ≠ .hold ∨ !s.running then .next s
  else if s.pwr.state = .deepSleep then .next (s.raiseWake .schedule)
  else if !s.active then .next s
  else .next ((s.freeze true).forCh (s.activeCh.filter fun n => !(s.ch n).lost) State.holdSnaps).pumpAlc

end Sys2Proof.Machine
end

