-- ==== Sys2Proof/Machine/Hoard.lean ====
section
/-! DEFINITION. The HOARD controller at work: record writes (R63, R168), the scrub (R568), and the reaction to a datapath mismatch that
waits for them (R257). -/

namespace Sys2Proof.Machine

/-- Hand over the held commits for which the queue now has space (R168); a merged one waits for its channel's next commit. -/
def State.handHeld (s : State) : State :=
  s.forCh (allCh.filter fun n => (s.ch n).owed && !(s.ch n).merged) fun n t =>
    if t.mem.queue.length < queueBound then t.commitStep n false [] else t

/-- EV37 once every step that ended at the last edge has closed and its TOTALS commit has landed (R486). -/
def State.commitsLanded (s : State) : State :=
  let queued := s.mem.queue.any fun r => decide (0x110000 ≤ r.addr ∧ r.addr < 0x11A000)
  if s.meas.commitsDue && !s.commitsOpen && !queued then (s.dmaEvent 37).onMeas fun m => { m with commitsDue := false } else s

/-- HOARD_RECORD_WRITE (R63): the record at the head of the queue is written, in Run (R78), unless the VBAT_NVW inhibit
holds (R48). -/
def execHoardRecordWrite (s : State) : Out :=
  if s.pwr.state ≠ .run ∨ s.pwr.nvInhibit ∨ s.mem.queue.isEmpty then .next s
  else .next (((s.onMem Mem.writeHead).handHeld.clearHeld).pumpAlc.commitsLanded)

/-- Whether the scrub reads a word (R568). DESIGN CHOICE, log entry 17. -/
def scrubbed (a : Nat) : Bool := decide (0x100000 ≤ a ∧ a < 0x270000)

/-- HOARD_SCRUB (R568): a complete pass corrects single-bit errors and reports uncorrectable words. -/
def execHoardScrub (s : State) : Out :=
  if !s.powered ∨ s.pwr.state ≠ .run then .next s
  else
    let s1 := (s.mem.soft.filter scrubbed).foldl (fun t _ => t.hoardCorr true) s
    let s2 := (s.mem.bad.filter scrubbed).foldl (fun t w => t.hoardUncorr w 4) s1
    .next ((s2.onMem fun m => { m with soft := m.soft.filter fun w => !scrubbed w }).onFlt fun f => { f with scrubAge := 0 })

/-- DMR_MISMATCH_REACTION (R257, R556): once the commits that agreed have landed, and after a power-fail sequence, a SOLO module makes a
WARM reset and a member of a pair goes fail-silent. -/
def execDmrMismatchReaction (now : Now) (s : State) : Out :=
  if !s.flt.dmrPending ∨ s.pwr.pfActive ∨ !s.canLand then .next s
  else
    let s1 := s.drain.onFlt fun f => { f with dmrPending := false }
    .next (s.noteMode (if s.paired then s1.goFailSilent 1 now.ms else s1.warmBegin 5 now.ms))

end Sys2Proof.Machine
end

