-- ==== Sys2Proof/Machine/Commission.lean ====
section
/-! DEFINITION. The host's commands (R456 to R459): how `MOD_COMMAND` is decided, and what COMMISSION (R147, R148), ENTER_SHIPPING (R80),
WARM_RESET, START_ZERO_CAL (R145), ENTER_TEST, EXIT_TEST (R459), DISPLAY_FULL_REFRESH (R527) and PLANNED_SWITCHOVER (R557) do. Results
are the codes of R409: 0 OK, 1 BUSY, 2 NOT_IN_STATE, 3 NOT_AUTHORISED, 4 BAD_ARG. -/

namespace Sys2Proof.Machine

/-- Set the result of the command that runs: RUNNING falls and CMD_DONE is raised (R456). -/
def State.setResult (code : Nat) (s : State) : State :=
  s.onHl fun h => { h with result := code, running := false, events := setBits h.events (2 ^ 16) }

/-! ### COMMISSION (R147 to R149, R559) -/

/-- Every channel that is not OFF has a valid calibration record learned under the accepted IMG_SEQ (R147). -/
def State.calsReady (s : State) : Bool :=
  s.activeCh.all fun n => match (s.ch n).flow.cal with
    | none => false
    | some k => Word.bit k.flags 0 && k.imgSeq == s.img.module_.acceptedSeq

/-- The conditions of R147 and R559. DEDUCED, log entry 134. -/
def State.mayCommission (ms : Nat) (s : State) : Bool :=
  !s.img.module_.commissioned && s.img.accepted && s.pwr.strapRole != 2 && !s.rtc.osf && s.meas.calPhase == 0 && s.calsReady &&
    (!s.paired || decide (2 ≤ s.pair.phase ∨ s.pair.heardMs + 60000 ≤ ms))

/-- The working state of a channel at commissioning (R148, R263): zero totals, FLAGS bit 7, TARIFF 1, no temperature, the INITIAL credit.
DEDUCED, log entry 133. -/
def commissionWork (e : Option PrepayEntry) : Work :=
  match e with
  | none => { Work.absent with flags := 128 }
  | some e => { Work.absent with
      flags := 128, credit := ({ CreditState.zero with credit := e.initial } : CreditState).become (creditState e.grace e.initial) }

/-- Clear the totals, demand state and ring areas of channel n and commit its TOTALS record (R148 steps 1 and 2).
DEDUCED, log entry 133. -/
def State.clearTotals (n : Nat) (s : State) : State :=
  let w := commissionWork (s.prepay n)
  let t := s.onCh n fun c => { c with
    a := w, b := w, ring := [], snap := .reset, subFresh := false, lost := false,
    temp := { c.temp with thetaS := none, thetaR := none },
    valve := .reset,
    shown := { c.shown with totals := shownTotals (s.cfg n).type w, maxima := maximaWords w.bill,
                            tariff := tariffWord w (0, 0, false, false) false,
                            credit := creditWord (s.prepay n).isSome w.credit } }
  (t.evalRange n true).enqueue (totalsRec n w)

/-- Accept COMMISSION (R148): the totals, the cleared sequence words, the audit entry and the MODULE record are handed to the HOARD
queue in the order of its steps. The module itself is commissioned once they have landed. DEDUCED, log entries 132 and 139. -/
def State.beginCommission (s : State) : State :=
  let s1 := (s.forCh allCh State.clearTotals).enqueue { kind := .clear, body := [] }
  let m := s1.img.module_
  let s2 := s1.auditOnce 1 0 m.acceptedSeq m.acceptedSeq m.digest m.digest 0 []
  let s3 := s2.onImg fun i => { i with
    commissioning := true, module_ := { i.module_ with commissionTime := s.rtc.count, pcc := 0 } }
  s3.enqueue (moduleRec { s3.img.module_ with commissioned := true })

/-- COMMISSION (R148): no result is set before step 4 has landed. A COMMISSION that a LINK reset has taken the result from still runs:
another one is answered BUSY. -/
def State.cmdCommission (ms : Nat) (s : State) : Option Nat × State :=
  if s.img.commissioning ∧ !s.img.module_.commissioned then (some 1, s)
  else if s.mayCommission ms then (none, s.beginCommission)
  else (some 2, s)

/-- The PRIMARY of a pair becomes active with EPOCH 1 at the next tick, and synchronises a paired peer afresh (R559).
DEDUCED, log entry 135. -/
def State.commissionPair (s : State) : State :=
  if !s.paired then s
  else
    let s1 := (s.onPair fun p => { p with record := { p.record with epoch := 0 } }).declare 0
    if s1.pair.phase < 2 then s1
    else s1.onPair fun p => { p with phase := 2, ready := false, syncTodo := [], syncTotal := 0, syncEnd := none }

/-- COMMISSION_COMPLETE (R148): the records of COMMISSION have landed; COMMISSIONED is set at once. The module leaves UNCONFIGURED at the
next tick boundary. DEDUCED, log entry 132. -/
def execCommissionComplete (_now : Now) (s : State) : Out :=
  if !s.powered ∨ !s.img.commissioning ∨ s.img.module_.commissioned ∨ !s.canLand then .next s
  else
    let s1 := s.drain.onImg fun i => { i with module_ := { i.module_ with commissioned := true } }
    let s2 := s1.commissionPair
    .next (if s2.hl.running then s2.setResult 0 else s2)

/-! ### The other commands (R145, R458, R459, R527, R557) -/

/-- ENTER_SHIPPING (R80, R82): the radio goes off and the panel is parked; Off follows once the HOARD queue has drained. -/
def State.cmdShipping (ms : Nat) (s : State) : Option Nat × State :=
  if s.img.module_.commissioned then (some 2, s)
  else (some 0, (s.silence.dispStop ms).onPwr fun p => { p with shipping := true })

/-- START_ZERO_CAL (R145, R149): the channels and the duration of the argument. The run begins at the next tick.
DEDUCED, log entry 130. -/
def State.cmdZeroCal (arg : Nat) (s : State) : Option Nat × State :=
  let ch := Word.bits arg 0 8
  let dur := Word.bits arg 8 16
  let standby := if s.img.module_.commissioned then !s.active else s.pwr.strapRole == 2
  if 2 ^ 24 ≤ arg ∨ 40 < ch ∨ (dur ≠ 0 ∧ (dur < 30 ∨ 600 < dur)) then (some 4, s)
  else if !s.img.accepted ∨ (s.img.module_.commissioned ∧ !s.meas.test) ∨ standby then (some 2, s)
  else if ch ≠ 0 ∧ (s.cfg ch).type = .off then (some 4, s)
  else if s.meas.calPhase ≠ 0 then (some 1, s)
  else (some 0, s.onMeas fun m => { m with
    calChans := if ch = 0 then s.activeCh else [ch], calPhase := 1, calDur := if dur = 0 then 120 else dur, calTick := none })

/-- ENTER_TEST (R459). -/
def State.cmdEnterTest (s : State) : Option Nat × State :=
  let place := s.normal || (s.running && decide (s.pwr.mode = .unconfigured) && !s.img.module_.commissioned)
  if s.meas.test ∨ !s.active ∨ !place then (some 2, s)
  else (some 0, s.onMeas fun m => { m with test := true, testTick := m.tick, testOver := false })

/-- EXIT_TEST (R458). -/
def State.cmdExitTest (s : State) : Option Nat × State :=
  if !s.meas.test then (some 2, s)
  else if s.meas.calPhase ≠ 0 then (some 1, s)
  else (some 0, s.endTest)

/-- DISPLAY_FULL_REFRESH (R458, R527). DEDUCED, log entry 131. -/
def State.cmdRefresh (ms : Nat) (s : State) : Option Nat × State :=
  match s.dispCfg with
  | none => (some 2, s)
  | some c =>
    if !s.dispNormal then (some 2, s)
    else (some 0, (s.ask (.ask (.refresh 2) .screen false true)).decideIfOff c ms)

/-- The conditions of R557. -/
def State.maySwitch (s : State) : Bool :=
  s.paired && s.active && s.normal && !s.meas.test && s.meas.calPhase == 0 && !s.pair.switching && s.pair.phase == 3 &&
    s.pair.ready && s.pair.peerVbus

/-- PLANNED_SWITCHOVER (R557, R558 step 1). -/
def State.cmdSwitchover (ms : Nat) (s : State) : Option Nat × State :=
  if s.maySwitch then (some 0, s.onPair fun p => { p with switching := true, handTick := none, switchAt := ms }) else (some 2, s)

/-! ### Deciding a write to MOD_COMMAND (R456, R457) -/

/-- The answer that R457 gives before a command's own conditions; 0 where it gives none. DEDUCED, log entry 50. -/
def State.cmdCheck (code arg : Nat) (s : State) : Nat :=
  if s.pwr.pfActive then 1
  else if s.deepMode then 2
  else if !s.serviceHeld then 3
  else if code = 0 ∨ 9 < code ∨ (code ≠ 5 ∧ arg ≠ 0) then 4
  else 0

/-- A command's own conditions and effect: its result, none while it runs on. -/
def State.ownCommand (code arg : Nat) (now : Now) (s : State) : Option Nat × State :=
  match code with
  | 1 => s.cmdCommission now.ms
  | 2 => s.cmdShipping now.ms
  | 3 => (some 0, s)
  | 5 => s.cmdZeroCal arg
  | 6 => s.cmdEnterTest
  | 7 => s.cmdExitTest
  | 8 => s.cmdRefresh now.ms
  | 9 => s.cmdSwitchover now.ms
  | _ => (some 4, s)

/-- Carry out a command that has been taken, other than LINK_RESET. WARM_RESET sets its result and resets 1 ms later (R458). -/
def State.answerCommand (code arg : Nat) (now : Now) (s : State) : State :=
  let c := s.cmdCheck code arg
  if c ≠ 0 then s.setResult c
  else
    let r := s.ownCommand code arg now
    match r.1 with
    | none => r.2
    | some v =>
      let t := r.2.setResult v
      if code = 3 then t.warmBegin 6 now.ms else t

/-- A write to `MOD_COMMAND` executes (R456): a repetition of the last command, a write while one runs, or a command that is taken;
`link` is what a LINK_RESET does. DEDUCED, log entry 123. -/
def State.runCommand (link : State → State) (code tag : Nat) (now : Now) (s : State) : State :=
  if s.hl.taken = some (code, tag) then
    s.onHl fun h => { h with
      duplicate := true, events := if h.running then h.events else setBits h.events (2 ^ 16) }
  else if s.hl.running then s.onHl fun h => { h with discarded := true }
  else
    let t := s.onHl fun h => { h with taken := some (code, tag), running := true }
    if code = 4 then link t else t.answerCommand code t.hl.arg now

end Sys2Proof.Machine
end

