-- ==== Sys2Proof/Machine/HostRegs.lean ====
section
/-! DEFINITION. The register file (R475): what each register reads, what a read clears (R8, R10), and what a write does, the SERVICE
unlock (R454) and the LINK reset (R98) included. -/

namespace Sys2Proof.Machine

/-! ### Reading registers -/

/-- The module's registers, 0x000 to 0x04C. -/
def State.moduleRegs (s : State) : List (Nat × Nat) :=
  let m := s.img.module_
  [(0x000, s.idPart), (0x004, s.idRev), (0x008, s.otp.serial % 2 ^ 32), (0x00C, s.otp.serial / 2 ^ 32 % 2 ^ 32),
   (0x010, s.modMode), (0x014, s.modStatus), (0x018, s.modEvents), (0x01C, s.hl.eventEn.toNat), (0x024, s.cmdStatusWord),
   (0x028, s.hl.arg % 2 ^ 32), (0x02C, s.resetCause), (0x030, s.imgStatus), (0x034, m.acceptedSeq), (0x038, m.pcc),
   (0x040, fieldAt m.digest 0 4), (0x044, fieldAt m.digest 4 4), (0x048, fieldAt m.digest 8 4), (0x04C, fieldAt m.digest 12 4)]

/-- Supply, clocks and the RTC's registers that a read does not latch, 0x080 to 0x0DC. -/
def State.supplyRegs (s : State) : List (Nat × Nat) :=
  [(0x080, s.pwrState), (0x084, s.pwrSupply), (0x088, s.pwr.vbusMv % 65536), (0x08C, s.pwrVbat), (0x090, s.pwr.events.toNat),
   (0x094, s.pwrRet), (0x098, s.clkStatus), (0x09C, s.settTrim), (0x0A0, s.pwr.chargeUah), (0x0C0, flag s.rtc.halt 0),
   (0x0C4, s.rtcStatus), (0x0D8, Word.ofInt 20 s.rtc.slew), (0x0DC, s.rtc.adjWord)]

/-- The sequencer's registers and the channel window, 0x100 to 0x1BC. -/
def State.measRegs (s : State) : List (Nat × Nat) :=
  [(0x100, s.measStatus), (0x104, s.meas.tick), (0x108, s.meas.overrun + 2 ^ 16 * (s.meas.lastCh % 64)),
   (0x10C, s.faultBits % 2 ^ 32), (0x110, s.faultBits / 2 ^ 32), (0x11C, s.meas.chsel)] ++
  (List.range 32).map fun i => (0x140 + 4 * i, nth s.meas.window i 0)

/-- The DMA engine's registers, 0x200 to 0x258. -/
def State.dmaRegs (s : State) : List (Nat × Nat) :=
  [(0x200, s.dmaStatus), (0x204, s.dma.events.toNat), (0x208, s.dma.errBits.toNat), (0x20C, s.dmaErrInfo),
   (0x214, s.dma.eventEn.toNat)] ++
  [12, 13, 14, 15].flatMap fun k =>
    let a := 0x220 + 16 * (k - 12)
    let c := s.dc k
    [(a, c.stagePc), (a + 4, flag c.armed.isSome 0 + 2 * c.stagePrio), (a + 8, s.dmaHStatus k)]

/-- Display, radio, sessions, collector and bus, 0x280 to 0x2E0, at a SETT instant. -/
def State.commsRegs (s : State) (ms : Nat) : List (Nat × Nat) :=
  [(0x280, s.dspStatus), (0x284, s.disp.events.toNat), (0x288, s.dspBusy), (0x28C, s.dspRefresh ms), (0x290, s.dspTemp),
   (0x2C0, s.radStatus ms), (0x2C4, s.radio.events.toNat), (0x2C8, s.radDuty ms), (0x2CC, s.radTxq), (0x2D0, s.radRx),
   (0x2D4, s.sesActive), (0x2D8, s.sesBusy), (0x2DC, s.alcStatus), (0x2E0, s.mbusStatus)]

/-- Pair, faults, tamper and host link, 0x300 to 0x394. -/
def State.faultRegs (s : State) : List (Nat × Nat) :=
  [(0x300, s.mirStatus), (0x304, s.pair.events.toNat), (0x308, s.pair.rxSeq), (0x30C, s.mirErrors), (0x310, s.mirGap),
   (0x340, s.fltStatus), (0x344, s.flt.events.toNat), (0x348, s.fltCorr), (0x34C, s.flt.uncorr), (0x350, s.fltPar),
   (0x354, s.fltDmr), (0x358, s.fltLast), (0x35C, s.tamperStatus), (0x360, s.tamper.events.toNat), (0x384, s.hlStatus),
   (0x388, s.hlErrors), (0x390, 2 ^ 16 * s.hl.credit), (0x394, s.hlStream)]

/-- What the register at an address holds, before any effect of the read; 0 at an address that no register occupies and at a
write-only one (R8, R11). -/
def State.regWord (s : State) (a ms : Nat) : Nat :=
  let l := if a < 0x80 then s.moduleRegs else if a < 0x100 then s.supplyRegs else if a < 0x200 then s.measRegs
    else if a < 0x280 then s.dmaRegs else if a < 0x300 then s.commsRegs ms else s.faultRegs
  ((l.find? fun e => e.1 == a).map (·.2)).getD 0

/-- What a read of a register clears (R8, R10). -/
def State.readClears (a : Nat) (s : State) : State :=
  match a with
  | 0x108 => s.onMeas fun m => { m with overrun := 0 }
  | 0x2CC => s.onRadio fun r => { r with rejected := 0, discarded := 0 }
  | 0x2D0 => s.onRadio fun r => { r with frames := 0, crcErr := 0, dropped := 0 }
  | 0x2D4 => s.onSess fun c => { c with evictions := 0, dups := 0 }
  | 0x2D8 => s.onSess fun c => { c with busy := 0, authFail := 0, replays := 0 }
  | 0x2DC => s.onAlc fun c => { c with refused := 0 }
  | 0x2E0 => s.onMBus fun m => { m with frameErr := 0, answered := 0 }
  | 0x30C => s.onPair fun p => { p with crcErrors := 0, resends := 0, resendFail := 0 }
  | 0x348 => s.onFlt fun f => { f with corr := 0, corrScrub := 0 }
  | 0x34C => s.onFlt fun f => { f with uncorr := 0 }
  | 0x350 => s.onFlt fun f => { f with parCount := 0, parBanks := 0 }
  | 0x354 => s.onFlt fun f => { f with dmrCount := 0, dmrCh := 0, dmrWord := 0 }
  | 0x388 => s.onHl fun h => { h with crcErr := 0, aborted := 0, malformed := 0 }
  | 0x394 => s.onHl fun h => { h with dropped := 0 }
  | _ => s

/-- Read one register: its word, and the state that the read leaves (R349 for the RTC). -/
def State.readReg (a : Nat) (now : Now) (s : State) : Nat × State :=
  match a with
  | 0x0C8 => s.rtcRead 0 now
  | 0x0CC => s.rtcRead 1 now
  | 0x0D0 => s.rtcRead 2 now
  | 0x0D4 => s.rtcRead 3 now
  | _ => (s.regWord a now.ms, s.readClears a)

/-- Read n registers from an address on, in ascending order (R450). -/
def State.readRegs (n a : Nat) (now : Now) (s : State) : List Byte × State :=
  match n with
  | 0 => ([], s)
  | k + 1 =>
    let r := s.readReg a now
    let t := State.readRegs k (a + 4) now r.2
    (le 4 r.1 ++ t.1, t.2)

/-! ### Writing registers: the channel window (R175, R212, R216) -/

/-- Write `CHSEL` (R175): a value from 1 to 40 latches that channel's window. DEDUCED, log entry 127. -/
def State.chselWrite (v : Nat) (s : State) : State :=
  if 1 ≤ v ∧ v ≤ 40 then s.onMeas fun m => { m with chsel := v, window := s.windowOf v } else s

/-- Write `CHW_EVENTS` (R212): the bits clear in the live latch of the channel and in the window. -/
def State.chwEventsWrite (v : Word) (s : State) : State :=
  let t := s.onCh s.meas.chsel fun c => { c with flow := { c.flow with events := clearBits c.flow.events v } }
  t.onMeas fun m => { m with window := updAt m.window 2 fun w => (clearBits (BitVec.ofNat 32 w) v).toNat }

/-- Write `CHW_CAPTURE_CTRL` (R216, R464): EN stays 0 where the channel may not export, and on the UART link. -/
def State.captureWrite (v : Nat) (s : State) : State :=
  let n := s.meas.chsel
  let en := Word.bit v 0 && s.mayExport n && s.pwr.straps.hostmode
  let w := flag en 0 + 2 * Word.bits v 1 2 + 16 * Word.bits v 4 4
  (s.onCh n fun c => { c with flow := { c.flow with capCtrl := w } }).onMeas fun m =>
    { m with window := updAt m.window 30 fun _ => w }

/-! ### Writing registers: SERVICE, doorbells and credits (R451, R454, R455, R461) -/

/-- The service key that the HOST section names (R130). -/
def State.serviceKey (s : State) : Option (List Byte) :=
  match s.img.image with
  | none => none
  | some im => match im.host with
    | none => none
    | some h => if h.svcKey = 0xFF then none else im.keyOf h.svcKey 3

/-- Raise a bit of `HL_STATUS`. -/
def State.hlRaise (bit : Nat) (s : State) : State := s.onHl fun h => { h with status := setBits h.status (2 ^ bit) }

/-- Request a challenge (R454 steps 1 and 2). DEDUCED, log entry 128. -/
def State.challenge (ms : Nat) (s : State) : State :=
  if s.hl.lockedOut ∨ s.serviceKey.isNone then s.hlRaise 17
  else
    let c := aesEncrypt s.otp.uniqueKey
      (ascii ['E', 'T', 'Y', 'N'] ++ le 5 s.rtc.count ++ le 4 s.meas.tick ++ le 3 s.hl.chalCount)
    (s.sramWrite 0x5FFE0 c).onHl fun h => { h with challenge := some (c, ms), chalCount := (h.chalCount + 1) % 2 ^ 24 }

/-- The tag that unlocks (R454 step 3). -/
def State.unlockTag (key c : List Byte) (s : State) : List Byte := cmac key (ascii ['E', 'T', 'Y', 'S'] ++ le 8 s.otp.serial ++ c)

/-- The tag in B5 answers the pending challenge within its 60 s. -/
def State.tagOk (ms : Nat) (s : State) : Bool :=
  match s.hl.challenge, s.serviceKey with
  | some (c, t0), some key => decide (ms ≤ t0 + 60000) && s.mem.sram.readBytes 0x5FFF0 16 == s.unlockTag key c
  | _, _ => false

/-- Check the tag (R454 step 4): SERVICE, or one more failure and the lockout after three. -/
def State.unlockWrite (ms : Nat) (s : State) : State :=
  if s.tagOk ms then
    (s.onHl fun h => { h with challenge := none, service := true, fails := 0, goodMs := ms }).hlRaise 16
  else
    let n := min 3 (s.hl.fails + 1)
    (s.onHl fun h => { h with
      challenge := none, fails := n, lockedOut := h.lockedOut || n == 3,
      lockUntil := if h.lockedOut ∨ n ≠ 3 then h.lockUntil else ms + 60000 }).hlRaise 17

/-- Return to OBSERVE (R455). -/
def State.lockWrite (s : State) : State := s.onHl fun h => { h with service := false }

/-- Write `HL_CTRL` (R470): more than one of its bits set is ignored. -/
def State.hlCtrlWrite (v ms : Nat) (s : State) : State :=
  match v % 8 with
  | 1 => s.challenge ms
  | 2 => s.unlockWrite ms
  | 4 => s.lockWrite
  | _ => s

/-- Write `HL_DOORBELL` (R451, R473). -/
def State.doorbell (v : Nat) (s : State) : State :=
  [0, 1, 2, 3].foldl (fun t k => if Word.bit v k then t.dmaEvent (32 + k) else t) s

/-- Write `HL_STREAM_CREDIT` (R461): ignored on the UART link. -/
def State.creditWrite (v : Nat) (s : State) : State :=
  let n := s.hl.credit + v % 256
  if !s.pwr.straps.hostmode then s
  else
    let t := s.onHl fun h => { h with credit := min 42 n }
    if 42 < n then t.hlRaise 20 else t

/-! ### Writing any register (R8, R475) -/

/-- Write the staging address of host channel k (R505). -/
def State.dmaProgWrite (k v : Nat) (s : State) : State := s.setDc k { s.dc k with stagePc := v % 2 ^ 24 }

/-- Write the W1C bits of `RTC_STATUS` (R351). -/
def State.rtcClear (v : Nat) (s : State) : State := s.onRtc fun r => { r with
  badWrite := r.badWrite && !Word.bit v 4, slewRefused := r.slewRefused && !Word.bit v 6,
  autoRelease := r.autoRelease && !Word.bit v 8, stepped := r.stepped && !Word.bit v 9 }

/-- Write the W1C bits of `MOD_CMD_STATUS` (R469). DEDUCED, log entry 122. -/
def State.cmdClear (v : Nat) (s : State) : State := s.onHl fun h => { h with
  discarded := h.discarded && !Word.bit v 25, duplicate := h.duplicate && !Word.bit v 26 }

/-- A word write to the register at an address, as the write buffer executes it; RO fields, reserved bits and unoccupied addresses
ignore it (R8, R11). `link` is what a LINK_RESET does. -/
def State.writeReg (link : State → State) (a : Nat) (w : Word) (now : Now) (s : State) : State :=
  let v := w.toNat
  match a with
  | 0x018 => s.onHl fun h => { h with events := clearBits h.events w }
  | 0x01C => s.onHl fun h => { h with eventEn := w &&& 0xF03FF#32 }
  | 0x020 => s.noteMode (s.runCommand link (v % 256) (v / 256 % 256) now)
  | 0x024 => s.cmdClear v
  | 0x028 => s.onHl fun h => { h with arg := v }
  | 0x090 => s.onPwr fun p => { p with events := clearBits p.events w }
  | 0x0C0 => if Word.bit v 0 then s.haltWrite now else s.haltClear now
  | 0x0C4 => s.rtcClear v
  | 0x0C8 => s.dateWrite v
  | 0x0CC => s.timeWrite v
  | 0x0D8 => s.slewWrite v
  | 0x11C => s.chselWrite v
  | 0x148 => s.chwEventsWrite w
  | 0x1B8 => s.captureWrite v
  | 0x204 => s.onDma fun d => { d with events := clearBits d.events w }
  | 0x208 => s.onDma fun d => { d with errBits := clearBits d.errBits w }
  | 0x210 => s.dmaStopWrite v
  | 0x214 => s.onDma fun d => { d with eventEn := w &&& 0xF1FFFF#32 }
  | 0x220 => s.dmaProgWrite 12 v
  | 0x224 => s.dmaCtrlWrite 12 v
  | 0x230 => s.dmaProgWrite 13 v
  | 0x234 => s.dmaCtrlWrite 13 v
  | 0x240 => s.dmaProgWrite 14 v
  | 0x244 => s.dmaCtrlWrite 14 v
  | 0x250 => s.dmaProgWrite 15 v
  | 0x254 => s.dmaCtrlWrite 15 v
  | 0x284 => s.onDisp fun d => { d with events := clearBits d.events w }
  | 0x2C4 => s.onRadio fun r => { r with events := clearBits r.events w }
  | 0x304 => s.onPair fun p => { p with events := clearBits p.events w }
  | 0x344 => s.onFlt fun f => { f with events := clearBits f.events w }
  | 0x360 => s.onTamper fun t => { t with events := clearBits t.events w }
  | 0x380 => s.hlCtrlWrite v now.ms
  | 0x384 => s.onHl fun h => { h with status := clearBits h.status w }
  | 0x38C => s.doorbell v
  | 0x390 => s.creditWrite v
  | _ => s

/-- The words of a write to n registers, in ascending address order (R449). -/
def State.writeRegs (link : State → State) (n a : Nat) (bs : List Byte) (now : Now) (s : State) : State :=
  match n with
  | 0 => s
  | k + 1 => State.writeRegs link k (a + 4) (bs.drop 4) now (s.writeReg link a (BitVec.ofNat 32 (fieldAt bs 0 4)) now)

/-! ### The write buffer and the LINK reset (R98, R449) -/

/-- Execute an entry of the write buffer: registers, B5, HOST_SCRATCH. -/
def State.runEntry (link : State → State) (e : PostedWrite) (now : Now) (s : State) : State :=
  if 0x400000 ≤ e.addr then s.writeRegs link (e.data.length / 4) (e.addr - 0x400000) e.data now
  else if e.addr < 0x80000 then s.sramWrite e.addr e.data
  else s.scratchWrite e.addr e.data

/-- The entry at the head of the buffer can execute: a HOST_SCRATCH write waits behind queued records and under the VBAT_NVW inhibit
(R48, R449). -/
def State.entryReady (e : PostedWrite) (s : State) : Bool :=
  !(decide (0x2F0000 ≤ e.addr ∧ e.addr < 0x300000)) || (s.mem.queue.isEmpty && !s.pwr.nvInhibit)

/-- The LINK reset itself, once no posted write is left; the mask holds its bits of `RESET_CAUSE` (R98, R103).
DESIGN CHOICE, log entry 124. -/
def State.linkDone (causes : Nat) (s : State) : State :=
  s.linkState.onPwr fun p => { p with cause := p.cause ||| causes ||| s.hl.linkDue }

/-- Execute up to n entries of the write buffer, then reset the host partition; `cause` is the bit of `RESET_CAUSE`. An entry that
cannot execute yet makes the reset wait for it (R48, R98). DEDUCED, log entry 121. -/
def State.linkN (n cause : Nat) (now : Now) (s : State) : State :=
  match n with
  | 0 => s.linkDone (2 ^ cause)
  | k + 1 =>
    match s.hl.wbuf with
    | [] => s.linkDone (2 ^ cause)
    | e :: t =>
      if s.entryReady e then
        State.linkN k cause now ((s.onHl fun h => { h with wbuf := t }).runEntry (State.linkN k 16 now) e now)
      else s.onHl fun h => { h with linkDue := h.linkDue ||| 2 ^ cause }

/-- A LINK reset that waited takes effect once the last posted write has executed (R98). DEDUCED, log entry 121. -/
def State.linkFinish (s : State) : State := if s.linkBusy && s.hl.wbuf.isEmpty then s.linkDone 0 else s

/-- A LINK reset (R98). DESIGN CHOICE, log entry 46. DEDUCED, log entries 116 and 121. -/
def State.linkReset (cause : Nat) (now : Now) (s : State) : State := s.linkN s.hl.wbuf.length cause now

/-- A LINK reset by LINK_RESET (R458). DESIGN CHOICE, log entry 46. DEDUCED, log entry 122. -/
def State.linkCmd (now : Now) (s : State) : State := s.linkReset 16 now

/-- Execute the head entry. DEDUCED, log entry 117. -/
def State.runHead (now : Now) (s : State) : State :=
  match s.hl.wbuf with
  | [] => s
  | e :: t => if s.entryReady e then (s.onHl fun h => { h with wbuf := t }).runEntry (State.linkCmd now) e now else s

/-- Execute entries, up to n, as long as the head can execute. DEDUCED, log entry 120. -/
def State.runBuffer (n : Nat) (now : Now) (s : State) : State :=
  match n with
  | 0 => s
  | k + 1 => State.runBuffer k now (s.runHead now)

end Sys2Proof.Machine
end

