-- ==== Sys2Proof/Machine/HostLink.lean ====
section
/-! DEFINITION. The host link (R436 to R464): frames and their checks, reads, posted writes, the resets of the link, the register rows
of the table, and the host's commands as rows. -/

namespace Sys2Proof.Machine

/-! ### Responses -/

/-- A CRC of the host link (R438). -/
def hostCrc (bs : List Byte) : List Byte := le 2 (crc16 0x1021#16 0xFFFF#16 bs).toNat

/-- Send a response (R440): the start byte, STATUS, the data and the CRC. -/
def State.sendResponse (status : Nat) (data : List Byte) (s : State) : State :=
  let b := [0x5A#8, BitVec.ofNat 8 status] ++ data
  s.onHl fun h => { h with out := b ++ hostCrc b }

/-! ### Addresses and ranges (R439, R446, R475) -/

/-- The rows of the internal map that a host may read: first address and the end. -/
def hostRows : List (Nat × Nat) :=
  [(0, 0x50000), (0x50000, 0x60000), (0x60000, 0x80000), (0x100000, 0x2F0000), (0x2F0000, 0x300000), (0x400000, 0x400800),
   (0x500000, 0x510000)]

/-- Whether n bytes at a lie in a row. -/
def inRow (r : Nat × Nat) (a n : Nat) : Bool := decide (r.1 ≤ a ∧ a + n ≤ r.2)

/-- The blocks of the register file that registers occupy: first and last address (R475). -/
def regBlocks : List (Nat × Nat) :=
  [(0x000, 0x038), (0x040, 0x04C), (0x080, 0x0A0), (0x0C0, 0x0DC), (0x100, 0x110), (0x11C, 0x11C), (0x140, 0x1BC), (0x200, 0x214),
   (0x220, 0x228), (0x230, 0x238), (0x240, 0x248), (0x250, 0x258), (0x280, 0x290), (0x2C0, 0x2E0), (0x300, 0x310), (0x340, 0x360),
   (0x380, 0x394)]

/-- A register occupies the address. -/
def occupied (a : Nat) : Bool := regBlocks.any fun b => decide (b.1 ≤ a ∧ a ≤ b.2)

/-- Registers with an RW, W1C or WO field (R475). -/
def writableRegs : List Nat :=
  [0x018, 0x01C, 0x020, 0x024, 0x028, 0x090, 0x0C0, 0x0C4, 0x0C8, 0x0CC, 0x0D8, 0x11C, 0x148, 0x1B8, 0x204, 0x208, 0x210, 0x214,
   0x220, 0x224, 0x230, 0x234, 0x240, 0x244, 0x250, 0x254, 0x284, 0x2C4, 0x304, 0x344, 0x360, 0x380, 0x384, 0x38C, 0x390]

/-- The word addresses of n bytes of registers from a on. -/
def regsOf (a n : Nat) : List Nat := (List.range (n / 4)).map fun i => a + 4 * i

/-- A range of registers within R439, at most `most` bytes. -/
def regRange (a n most : Nat) : Bool := decide (a % 4 = 0 ∧ n % 4 = 0 ∧ 4 ≤ n ∧ n ≤ most ∧ a + n ≤ 0x800)

/-- A range that a host may write: no occupied register without a writable field (R442 check 5). -/
def regWriteRange (a n : Nat) : Bool :=
  regRange a n 64 && (regsOf a n).all fun x => !occupied x || writableRegs.contains x

/-- The most bytes of one read (R439, R464). -/
def State.readLimit (s : State) (most : Nat) : Nat := if s.pwr.straps.hostmode then most else 256

/-- ADDR and LEN lie within R439 for a command of R437: 1 REG_READ, 2 REG_WRITE, 3 MEM_READ, 4 MEM_WRITE. -/
def State.rangeOk (cmd a n : Nat) (s : State) : Bool :=
  match cmd with
  | 1 => regRange a n 256
  | 2 => regWriteRange a n
  | 3 =>
    if 0x400000 ≤ a ∧ a < 0x400800 then regRange (a - 0x400000) n 256
    else decide (1 ≤ n ∧ n ≤ s.readLimit 4096) && hostRows.any fun r => inRow r a n
  | 4 =>
    if 0x400000 ≤ a ∧ a < 0x400800 then regWriteRange (a - 0x400000) n
    else decide (1 ≤ n ∧ n ≤ 256) && (inRow (0x50000, 0x60000) a n || inRow (0x2F0000, 0x300000) a n)
  | _ => false

/-! ### Checks (R442) -/

/-- The module's SPI address (R34). -/
def State.hostAddress (s : State) : Nat := 0x48 + s.pwr.straps.haddr.toNat

/-- The frame names this module: HDR on the SPI link; the UART link carries no address (R442, R463). -/
def State.namesModule (hdr : Byte) (s : State) : Bool := !s.pwr.straps.hostmode || hdr.toNat / 2 == s.hostAddress

/-- The bytes of DATA that CMD implies (R437). -/
def frameDataLen (cmd : Nat) (f : HostFrame) : Nat := if cmd = 2 ∨ cmd = 4 then f.len % 65536 else 0

/-- The bytes that the CRC covers: HDR to DATA, without HDR on the UART link (R437, R463). -/
def State.crcBytes (cmd : Nat) (f : HostFrame) (data : List Byte) (s : State) : List Byte :=
  (if s.pwr.straps.hostmode then [f.hdr] else []) ++ [BitVec.ofNat 8 cmd] ++ le 3 f.addr ++ le 2 f.len ++ data

/-- The registers that a write reaches. -/
def writtenRegs (cmd a n : Nat) : List Nat :=
  if cmd = 2 then regsOf a n else if 0x400000 ≤ a ∧ a < 0x400800 then regsOf (a - 0x400000) n else []

/-- A frame that arrives while the module sleeps: WAKING, or on the UART link nothing, and a wake (R85, R86, R444). -/
def State.wakeByFrame (s : State) : State :=
  if s.pwr.straps.hostmode then (s.onHl fun h => { h with out := [0x3C#8] }).raiseWake .hostMatch
  else if s.pwr.state = .sleep then s.raiseWake .uartActivity else s

/-- Count a discarded request (R443, R463). -/
def State.countAborted (s : State) : State := s.onHl fun h => { h with aborted := Word.sat 255 (h.aborted + 1) }

/-- The CMD byte of a frame of a row (R437). -/
def frameCmd (row : Nat) (f : HostFrame) : Nat :=
  match f.unknown with
  | none => row
  | some b => if [1, 2, 3, 4, 0xFF].contains b.toNat then row else b.toNat

/-- Checks 1 to 5 of R442, which every frame passes; `body` is what follows them, with the data.
DEDUCED, log entries 125 and 138. -/
def State.takeFrame (row : Nat) (now : Now) (f : HostFrame) (body : List Byte → State → State) (s : State) : State :=
  if !s.namesModule f.hdr || !s.pwr.vioHost then s
  else if s.asleep then s.wakeByFrame
  else if !s.hostServed then s
  else
    let s1 := s.onPwr fun p => { p with lastHostMs := now.ms }
    let cmd := frameCmd row f
    let sent := f.data ++ le 2 f.crc.toNat
    let n := frameDataLen cmd f
    if sent.length < n + 2 then s1.countAborted
    else if s1.linkBusy then s1.sendResponse 1 []
    else
      let data := sent.take n
      if hostCrc (s1.crcBytes cmd f data) ≠ slice sent n 2 then
        (s1.onHl fun h => { h with crcErr := Word.sat 65535 (h.crcErr + 1) }).sendResponse 0x11 []
      else
        let s2 := s1.onHl fun h => { h with goodMs := now.ms }
        let rw := s2.pwr.straps.hostmode && (f.hdr.getLsbD 0 != (cmd == 1 || cmd == 3))
        if rw ∨ !s2.rangeOk cmd (f.addr % 2 ^ 24) (f.len % 65536) then
          (s2.onHl fun h => { h with malformed := Word.sat 255 (h.malformed + 1) }).sendResponse 4 []
        else body data s2

/-- Checks 6 to 8 of R442, and the entry in the write buffer (R449). -/
def State.postWrite (cmd a : Nat) (data : List Byte) (s : State) : State :=
  let refused := (writtenRegs cmd a data.length).filter fun x => !s.mayWrite x
  if !refused.isEmpty then
    (if refused.any rtcSetReg then s.badWrite else s).sendResponse 3 []
  else if s.pwr.pfActive then s.sendResponse 1 []
  else if 16 ≤ s.hl.wbuf.length then (s.hlRaise 19).sendResponse 1 []
  else
    let e : PostedWrite := { addr := if cmd = 2 then 0x400000 + a else a, data := data }
    (s.onHl fun h => { h with wbuf := h.wbuf ++ [e] }).sendResponse 0 []

/-- A read of n bytes at an address of the map: the bytes, and the errors met (R447, R567, R569). DEDUCED, log entry 137. -/
def State.hostRead (a n : Nat) (now : Now) (s : State) : List Byte × State :=
  if 0x400000 ≤ a ∧ a < 0x400800 then s.readRegs (n / 4) (a - 0x400000) now
  else
    let r := s.mapRead a n 3
    (r.1, if s.mem.faultIn a n then r.2.onFlt fun f => { f with events := setBits f.events 32 } else r.2)

/-- A read behind the writes accepted before it (R450): BUSY where one of them cannot execute now. DEDUCED, log entry 120. -/
def State.readBehind (a n : Nat) (now : Now) (s : State) : State :=
  let t := s.runBuffer s.hl.wbuf.length now
  if !t.hostServed then t
  else if !t.hl.wbuf.isEmpty then t.sendResponse 1 []
  else
    let r := t.hostRead a n now
    r.2.sendResponse 0 r.1

/-! ### Frames (R439, R447 to R450) -/

/-- REG_READ (R439). -/
def execRegRead (now : Now) (frame : HostFrame) (s : State) : Out :=
  .next (s.takeFrame 1 now frame (fun _ t => t.readBehind (0x400000 + frame.addr % 2 ^ 24) (frame.len % 65536) now))

/-- REG_WRITE (R449). -/
def execRegWrite (now : Now) (frame : HostFrame) (s : State) : Out :=
  .next (s.takeFrame 2 now frame (State.postWrite 2 (frame.addr % 2 ^ 24)))

/-- MEM_READ (R447). -/
def execMemRead (now : Now) (frame : HostFrame) (s : State) : Out :=
  .next (s.takeFrame 3 now frame (fun _ t => t.readBehind (frame.addr % 2 ^ 24) (frame.len % 65536) now))

/-- MEM_WRITE (R448, R449). -/
def execMemWrite (now : Now) (frame : HostFrame) (s : State) : Out :=
  .next (s.takeFrame 4 now frame (State.postWrite 4 (frame.addr % 2 ^ 24)))

/-- WRITE_BUFFER_EXECUTE (R449): the head entry executes, unless it waits for the HOARD controller; a LINK reset that waits for the
posted writes follows the last of them (R98). -/
def execWriteBufferExecute (now : Now) (s : State) : Out :=
  if s.hostServed then .next (s.runHead now).linkFinish else .next s

/-! ### Resets and discarded frames (R443, R445, R463, R464) -/

/-- PROTOCOL_RESET (R445): fewer than six bytes of 0xFF are a frame cut short. DEDUCED, log entry 126. -/
def execProtocolReset (now : Now) (hdr : Byte) (ffBytes : Nat) (s : State) : Out :=
  if !s.pwr.straps.hostmode ∨ !s.namesModule hdr ∨ !s.pwr.vioHost then .next s
  else if s.asleep then .next s.wakeByFrame
  else if !s.hostServed then .next s
  else
    let s1 := s.onPwr fun p => { p with lastHostMs := now.ms }
    .next (if 6 ≤ ffBytes then s1.linkReset 17 now else s1.countAborted)

/-- HOST_FRAME_ABORT (R443): a frame that carries the module's address and ends before its last CRC byte. -/
def execHostFrameAbort (s : State) : Out :=
  .next (if s.hostServed ∧ s.pwr.straps.hostmode then s.countAborted else s)

/-- UART_BREAK (R464): 10 ms or longer in Run or Idle. -/
def execUartBreak (now : Now) (lenMs : Nat) (s : State) : Out :=
  if s.pwr.straps.hostmode ∨ lenMs < 10 ∨ !s.hostServed then .next s else .next (s.linkReset 17 now)

/-- UART_GAP_ABORT (R463): a gap of more than 2 ms inside a request. -/
def execUartGapAbort (gapUs : Nat) (s : State) : Out :=
  .next (if s.hostServed ∧ !s.pwr.straps.hostmode ∧ 2000 < gapUs then s.countAborted else s)

/-! ### Register writes as rows (R8) -/

/-- REGISTER_WRITE (R8). DEDUCED, log entry 117. -/
def execRegisterWrite (now : Now) (address : Nat) (value : Word) (s : State) : Out :=
  .next (s.asWrite address (fun t => t.writeReg (State.linkCmd now) address value now))

/-- CHSEL_WRITE (R175). -/
def execChselWrite (value : Word) (s : State) : Out := .next (s.asWrite 0x11C (State.chselWrite value.toNat))

/-- CHW_EVENTS_WRITE (R212). -/
def execChwEventsWrite (value : Word) (s : State) : Out := .next (s.asWrite 0x148 (State.chwEventsWrite value))

/-- CHW_CAPTURE_CTRL_WRITE (R216). -/
def execChwCaptureCtrlWrite (value : Word) (s : State) : Out := .next (s.asWrite 0x1B8 (State.captureWrite value.toNat))

/-- HL_DOORBELL (R451). -/
def execHlDoorbell (value : Word) (s : State) : Out := .next (s.asWrite 0x38C (State.doorbell value.toNat))

/-- CREDIT_RETURN (R461). -/
def execCreditReturn (value : Word) (s : State) : Out := .next (s.asWrite 0x390 (State.creditWrite value.toNat))

/-- CHAL (R454). -/
def execChal (now : Now) (s : State) : Out := .next (s.asWrite 0x380 (State.challenge now.ms))

/-- UNLOCK (R454). -/
def execUnlock (now : Now) (s : State) : Out := .next (s.asWrite 0x380 (State.unlockWrite now.ms))

/-- LOCK (R455). -/
def execLock (s : State) : Out := .next (s.asWrite 0x380 State.lockWrite)

/-- The seconds after which SERVICE relocks (R130). DEDUCED, log entry 129. -/
def State.svcIdle (s : State) : Nat :=
  match s.img.image with
  | none => 1
  | some im => match im.host with
    | none => 1
    | some h => h.svcIdle

/-- SERVICE_IDLE_RELOCK (R455): SVC_IDLE seconds without a good frame. -/
def execServiceIdleRelock (now : Now) (s : State) : Out :=
  if s.hl.service ∧ s.hl.goodMs + 1000 * s.svcIdle ≤ now.ms then .next (s.lockWrite.hlRaise 18) else .next s

/-- LOCKOUT_END (R454): 60 s after the third failure. -/
def execLockoutEnd (now : Now) (s : State) : Out :=
  if s.hl.lockedOut ∧ s.hl.lockUntil ≤ now.ms then .next (s.onHl fun h => { h with lockedOut := false, fails := 0 }) else .next s

/-- DMA_STOP (R498, R504). -/
def execDmaStop (value : Word) (s : State) : Out := .next (s.asWrite 0x210 (State.dmaStopWrite value.toNat))

/-- DMA_ARM (R497): the CTRL register of a host channel is written. -/
def execDmaArm (ch : Nat) (value : Word) (s : State) : Out :=
  if ch < 12 ∨ 16 ≤ ch then .refused .illFormed
  else .next (s.asWrite (0x224 + 16 * (ch - 12)) (State.dmaCtrlWrite ch value.toNat))

/-! ### Register reads as rows (R8, R10, R349) -/

/-- A read of one register as a command of its own, answered as a REG_READ of it is. DEDUCED, log entry 119. -/
def State.readRow (a : Nat) (now : Now) (s : State) : State :=
  if !s.hostServed then s
  else if s.linkBusy then s.sendResponse 1 []
  else
    let r := s.readReg a now
    r.2.sendResponse 0 (le 4 r.1)

/-- A read whose word no instant enters. -/
def State.readStill (a : Nat) (s : State) : State := s.readRow a { cyc := 0, sub := 0, ms := 0 }

/-- RTC_DATE_READ (R349). -/
def execRtcDateRead (now : Now) (s : State) : Out := .next (s.readRow 0xC8 now)

/-- RTC_TIME_READ (R349). -/
def execRtcTimeRead (now : Now) (s : State) : Out := .next (s.readRow 0xCC now)

/-- RTC_SECONDS_HI_READ (R349). -/
def execRtcSecondsHiRead (now : Now) (s : State) : Out := .next (s.readRow 0xD0 now)

/-- RTC_SECONDS_LO_READ (R349). -/
def execRtcSecondsLoRead (now : Now) (s : State) : Out := .next (s.readRow 0xD4 now)

/-- MEAS_OVERRUN_READ (R173). -/
def execMeasOverrunRead (s : State) : Out := .next (s.readStill 0x108)

/-- RAD_TXQ_READ (R381). -/
def execRadTxqRead (s : State) : Out := .next (s.readStill 0x2CC)

/-- RAD_RX_STATS_READ (R382). -/
def execRadRxStatsRead (s : State) : Out := .next (s.readStill 0x2D0)

/-- SES_ACTIVE_READ (R413). -/
def execSesActiveRead (s : State) : Out := .next (s.readStill 0x2D4)

/-- SES_BUSY_REJECTS_READ (R414). -/
def execSesBusyRejectsRead (s : State) : Out := .next (s.readStill 0x2D8)

/-- ALC_STATUS_READ (R434). -/
def execAlcStatusRead (s : State) : Out := .next (s.readStill 0x2DC)

/-- MBUS_STATUS_READ (R435). -/
def execMbusStatusRead (s : State) : Out := .next (s.readStill 0x2E0)

/-- HL_CRC_ERRORS_READ (R472). -/
def execHlCrcErrorsRead (s : State) : Out := .next (s.readStill 0x388)

/-- HL_STREAM_STATUS_READ (R474). -/
def execHlStreamStatusRead (s : State) : Out := .next (s.readStill 0x394)

/-- MIR_CRC_ERRORS_READ (R564). -/
def execMirCrcErrorsRead (s : State) : Out := .next (s.readStill 0x30C)

/-- FLT_HOARD_CORR_READ (R580). -/
def execFltHoardCorrRead (s : State) : Out := .next (s.readStill 0x348)

/-- FLT_HOARD_UNCORR_READ (R580). -/
def execFltHoardUncorrRead (s : State) : Out := .next (s.readStill 0x34C)

/-- FLT_SRAM_PAR_READ (R581). -/
def execFltSramParRead (s : State) : Out := .next (s.readStill 0x350)

/-- FLT_DMR_MISMATCH_READ (R582). -/
def execFltDmrMismatchRead (s : State) : Out := .next (s.readStill 0x354)

/-! ### The host's commands as rows (R456, R458) -/

/-- The host writes `MOD_CMD_ARG`, then `MOD_COMMAND` with a code and a tag (R456). DEDUCED, log entry 118. -/
def State.hostCommand (code tag arg : Nat) (now : Now) (s : State) : State :=
  if !s.hostServed || s.linkBusy then s
  else s.noteMode ((s.onHl fun h => { h with arg := arg % 2 ^ 32 }).runCommand (State.linkCmd now) code (tag % 256) now)

/-- COMMISSION (R148). -/
def execCommission (now : Now) (tag arg : Nat) (s : State) : Out := .next (s.hostCommand 1 tag arg now)

/-- ENTER_SHIPPING (R80). -/
def execEnterShipping (now : Now) (tag arg : Nat) (s : State) : Out := .next (s.hostCommand 2 tag arg now)

/-- WARM_RESET (R458). -/
def execWarmReset (now : Now) (tag arg : Nat) (s : State) : Out := .next (s.hostCommand 3 tag arg now)

/-- LINK_RESET (R98). -/
def execLinkReset (now : Now) (tag arg : Nat) (s : State) : Out := .next (s.hostCommand 4 tag arg now)

/-- START_ZERO_CAL (R145). -/
def execStartZeroCal (now : Now) (tag arg : Nat) (s : State) : Out := .next (s.hostCommand 5 tag arg now)

/-- ENTER_TEST (R459). -/
def execEnterTest (now : Now) (tag arg : Nat) (s : State) : Out := .next (s.hostCommand 6 tag arg now)

/-- EXIT_TEST (R458). -/
def execExitTest (now : Now) (tag arg : Nat) (s : State) : Out := .next (s.hostCommand 7 tag arg now)

/-- DISPLAY_FULL_REFRESH (R527). -/
def execDisplayFullRefresh (now : Now) (tag arg : Nat) (s : State) : Out := .next (s.hostCommand 8 tag arg now)

/-- PLANNED_SWITCHOVER (R557). -/
def execPlannedSwitchover (now : Now) (tag arg : Nat) (s : State) : Out := .next (s.hostCommand 9 tag arg now)

end Sys2Proof.Machine
end

