-- ==== Sys2Proof/Machine/Dispatch.lean ====
section
/-! DEFINITION. The meaning of each command: one arm per constructor of Instr. -/

namespace Sys2Proof.Machine

def exec (i : Instr) (s : State) : Host.Outcome State Fault Refusal :=
  match i with
  | .vbusFail now sup => Sys2Proof.Machine.execVbusFail now sup s
  | .vbusOv now sup => Sys2Proof.Machine.execVbusOv now sup s
  | .pfFinalCommit now upsets => Sys2Proof.Machine.execPfFinalCommit now upsets s
  | .pfCommitLanded now sup => Sys2Proof.Machine.execPfCommitLanded now sup s
  | .vbusOk now sup => Sys2Proof.Machine.execVbusOk now sup s
  | .vbusReturn now sup upsets => Sys2Proof.Machine.execVbusReturn now sup upsets s
  | .holdExit now sup exit10us failedBanks card cardOut => Sys2Proof.Machine.execHoldExit now sup exit10us failedBanks card cardOut s
  | .storeFault now sup => Sys2Proof.Machine.execStoreFault now sup s
  | .vbatWarn now sup upsets => Sys2Proof.Machine.execVbatWarn now sup upsets s
  | .vbatNvwInhibit => Sys2Proof.Machine.execVbatNvwInhibit s
  | .vbatNvwRelease => Sys2Proof.Machine.execVbatNvwRelease s
  | .vbatSettLoss now => Sys2Proof.Machine.execVbatSettLoss now s
  | .cellLoadTest loadMv => Sys2Proof.Machine.execCellLoadTest loadMv s
  | .cellChargeCommit now sup => Sys2Proof.Machine.execCellChargeCommit now sup s
  | .hoardRecordWrite => Sys2Proof.Machine.execHoardRecordWrite s
  | .hoardScrub => Sys2Proof.Machine.execHoardScrub s
  | .settTrimWindow rootCycles => Sys2Proof.Machine.execSettTrimWindow rootCycles s
  | .rootFail now atStart straps sup => Sys2Proof.Machine.execRootFail now atStart straps sup s
  | .rootStartRetry started straps sup => Sys2Proof.Machine.execRootStartRetry started straps sup s
  | .watchdogExpiry now => Sys2Proof.Machine.execWatchdogExpiry now s
  | .sleepEntry now => Sys2Proof.Machine.execSleepEntry now s
  | .deepSleepEntry now => Sys2Proof.Machine.execDeepSleepEntry now s
  | .sleepWake now sources exit10us cardOut sup => Sys2Proof.Machine.execSleepWake now sources exit10us cardOut sup s
  | .deepSleepWake now sources exit10us failedBanks card cardOut sup => Sys2Proof.Machine.execDeepSleepWake now sources exit10us failedBanks card cardOut sup s
  | .hostAddressMatch hdr vio => Sys2Proof.Machine.execHostAddressMatch hdr vio s
  | .uartWake lowUs edges vio => Sys2Proof.Machine.execUartWake lowUs edges vio s
  | .mbusStartBitWake => Sys2Proof.Machine.execMbusStartBitWake s
  | .holdHostIdle now => Sys2Proof.Machine.execHoldHostIdle now s
  | .holdDueDateWake now => Sys2Proof.Machine.execHoldDueDateWake now s
  | .wakePinEdge lowMs poweredMs highMs straps sup => Sys2Proof.Machine.execWakePinEdge lowMs poweredMs highMs straps sup s
  | .offEntry straps sup => Sys2Proof.Machine.execOffEntry straps sup s
  | .powerOn straps sup => Sys2Proof.Machine.execPowerOn straps sup s
  | .cardReadRetry byteIndex => Sys2Proof.Machine.execCardReadRetry byteIndex s
  | .imageDecision now card sup => Sys2Proof.Machine.execImageDecision now card sup s
  | .resetPinAssert now lowUs => Sys2Proof.Machine.execResetPinAssert now lowUs s
  | .warmRestart now straps card sup => Sys2Proof.Machine.execWarmRestart now straps card sup s
  | .tick sup pins internalTemp => Sys2Proof.Machine.execTick sup pins internalTemp s
  | .settTickEdge sup pins internalTemp => Sys2Proof.Machine.execSettTickEdge sup pins internalTemp s
  | .degradedTickWake now sup pins internalTemp exit10us => Sys2Proof.Machine.execDegradedTickWake now sup pins internalTemp exit10us s
  | .tofSlot ch slot shot => Sys2Proof.Machine.execTofSlot ch slot shot s
  | .tdShortStopEnd ch => Sys2Proof.Machine.execTdShortStopEnd ch s
  | .lowQRecovery ch => Sys2Proof.Machine.execLowQRecovery ch s
  | .rtdSlot tc slot conv => Sys2Proof.Machine.execRtdSlot tc slot conv s
  | .stepClose ch upset => Sys2Proof.Machine.execStepClose ch upset s
  | .dmrMismatchReaction now => Sys2Proof.Machine.execDmrMismatchReaction now s
  | .stepOverrun ch => Sys2Proof.Machine.execStepOverrun ch s
  | .zeroTrackWindow ch => Sys2Proof.Machine.execZeroTrackWindow ch s
  | .calTrackCommit ch => Sys2Proof.Machine.execCalTrackCommit ch s
  | .pulseStart po now => Sys2Proof.Machine.execPulseStart po now s
  | .pulseEnd po now => Sys2Proof.Machine.execPulseEnd po now s
  | .valveMoveStart now => Sys2Proof.Machine.execValveMoveStart now s
  | .valveFeedbackSample now ch fbOpen fbClosed => Sys2Proof.Machine.execValveFeedbackSample now ch fbOpen fbClosed s
  | .valveTimeout now => Sys2Proof.Machine.execValveTimeout now s
  | .valveOvercurrent now => Sys2Proof.Machine.execValveOvercurrent now s
  | .valveOpenCoil now => Sys2Proof.Machine.execValveOpenCoil now s
  | .allocatorFreeze => Sys2Proof.Machine.execAllocatorFreeze s
  | .tamperEdge input opened => Sys2Proof.Machine.execTamperEdge input opened s
  | .movorCableLoss highMs => Sys2Proof.Machine.execMovorCableLoss highMs s
  | .rtcSecond => Sys2Proof.Machine.execRtcSecond s
  | .oscillatorStop => Sys2Proof.Machine.execOscillatorStop s
  | .halt now => Sys2Proof.Machine.execHalt now s
  | .haltRelease now => Sys2Proof.Machine.execHaltRelease now s
  | .haltAutoRelease now => Sys2Proof.Machine.execHaltAutoRelease now s
  | .rtcDateWrite value => Sys2Proof.Machine.execRtcDateWrite value s
  | .rtcTimeWrite value => Sys2Proof.Machine.execRtcTimeWrite value s
  | .rtcSlewWrite value => Sys2Proof.Machine.execRtcSlewWrite value s
  | .rtcTimeRead now => Sys2Proof.Machine.execRtcTimeRead now s
  | .rtcSecondsLoRead now => Sys2Proof.Machine.execRtcSecondsLoRead now s
  | .rtcDateRead now => Sys2Proof.Machine.execRtcDateRead now s
  | .rtcSecondsHiRead now => Sys2Proof.Machine.execRtcSecondsHiRead now s
  | .telegramOffer now offer => Sys2Proof.Machine.execTelegramOffer now offer s
  | .frameTransmit now => Sys2Proof.Machine.execFrameTransmit now s
  | .responseWindow now => Sys2Proof.Machine.execResponseWindow now s
  | .radioFrameReceived now since crcOk frame => Sys2Proof.Machine.execRadioFrameReceived now since crcOk frame s
  | .dutyBinAdvance now => Sys2Proof.Machine.execDutyBinAdvance now s
  | .sessionRequest now partner frame => Sys2Proof.Machine.execSessionRequest now partner frame s
  | .commandExecutionEnd now ctx => Sys2Proof.Machine.execCommandExecutionEnd now ctx s
  | .sessionReadyTimeout now ctx => Sys2Proof.Machine.execSessionReadyTimeout now ctx s
  | .sessionIdleTimeout now ctx => Sys2Proof.Machine.execSessionIdleTimeout now ctx s
  | .cmdStatus ctx => Sys2Proof.Machine.execCmdStatus ctx s
  | .cmdReadHoard ctx => Sys2Proof.Machine.execCmdReadHoard ctx s
  | .cmdValve now ctx => Sys2Proof.Machine.execCmdValve now ctx s
  | .cmdTopup now ctx => Sys2Proof.Machine.execCmdTopup now ctx s
  | .topupAnswer now ctx => Sys2Proof.Machine.execTopupAnswer now ctx s
  | .cmdSetTime now ctx => Sys2Proof.Machine.execCmdSetTime now ctx s
  | .cmdAdjustTime now ctx => Sys2Proof.Machine.execCmdAdjustTime now ctx s
  | .allocatorParse => Sys2Proof.Machine.execAllocatorParse s
  | .sndNke now address baud => Sys2Proof.Machine.execSndNke now address baud s
  | .secondarySelect now data baud => Sys2Proof.Machine.execSecondarySelect now data baud s
  | .reqUd1 now baud => Sys2Proof.Machine.execReqUd1 now baud s
  | .reqUd2 now fcv fcb baud => Sys2Proof.Machine.execReqUd2 now fcv fcb baud s
  | .sndUdRequest now frame baud => Sys2Proof.Machine.execSndUdRequest now frame baud s
  | .sndUdOther now baud => Sys2Proof.Machine.execSndUdOther now baud s
  | .baudSwitch now ci baud => Sys2Proof.Machine.execBaudSwitch now ci baud s
  | .mbusFrameError now => Sys2Proof.Machine.execMbusFrameError now s
  | .regRead now frame => Sys2Proof.Machine.execRegRead now frame s
  | .regWrite now frame => Sys2Proof.Machine.execRegWrite now frame s
  | .memRead now frame => Sys2Proof.Machine.execMemRead now frame s
  | .memWrite now frame => Sys2Proof.Machine.execMemWrite now frame s
  | .protocolReset now hdr ffBytes => Sys2Proof.Machine.execProtocolReset now hdr ffBytes s
  | .hostFrameAbort => Sys2Proof.Machine.execHostFrameAbort s
  | .writeBufferExecute now => Sys2Proof.Machine.execWriteBufferExecute now s
  | .uartBreak now lenMs => Sys2Proof.Machine.execUartBreak now lenMs s
  | .uartGapAbort gapUs => Sys2Proof.Machine.execUartGapAbort gapUs s
  | .registerWrite now address value => Sys2Proof.Machine.execRegisterWrite now address value s
  | .chselWrite value => Sys2Proof.Machine.execChselWrite value s
  | .chwEventsWrite value => Sys2Proof.Machine.execChwEventsWrite value s
  | .chwCaptureCtrlWrite value => Sys2Proof.Machine.execChwCaptureCtrlWrite value s
  | .hlDoorbell value => Sys2Proof.Machine.execHlDoorbell value s
  | .creditReturn value => Sys2Proof.Machine.execCreditReturn value s
  | .chal now => Sys2Proof.Machine.execChal now s
  | .unlock now => Sys2Proof.Machine.execUnlock now s
  | .lock => Sys2Proof.Machine.execLock s
  | .serviceIdleRelock now => Sys2Proof.Machine.execServiceIdleRelock now s
  | .lockoutEnd now => Sys2Proof.Machine.execLockoutEnd now s
  | .dmaStop value => Sys2Proof.Machine.execDmaStop value s
  | .dmaArm ch value => Sys2Proof.Machine.execDmaArm ch value s
  | .measOverrunRead => Sys2Proof.Machine.execMeasOverrunRead s
  | .radTxqRead => Sys2Proof.Machine.execRadTxqRead s
  | .radRxStatsRead => Sys2Proof.Machine.execRadRxStatsRead s
  | .sesActiveRead => Sys2Proof.Machine.execSesActiveRead s
  | .sesBusyRejectsRead => Sys2Proof.Machine.execSesBusyRejectsRead s
  | .alcStatusRead => Sys2Proof.Machine.execAlcStatusRead s
  | .mbusStatusRead => Sys2Proof.Machine.execMbusStatusRead s
  | .hlCrcErrorsRead => Sys2Proof.Machine.execHlCrcErrorsRead s
  | .hlStreamStatusRead => Sys2Proof.Machine.execHlStreamStatusRead s
  | .mirCrcErrorsRead => Sys2Proof.Machine.execMirCrcErrorsRead s
  | .fltHoardCorrRead => Sys2Proof.Machine.execFltHoardCorrRead s
  | .fltHoardUncorrRead => Sys2Proof.Machine.execFltHoardUncorrRead s
  | .fltSramParRead => Sys2Proof.Machine.execFltSramParRead s
  | .fltDmrMismatchRead => Sys2Proof.Machine.execFltDmrMismatchRead s
  | .commission now tag arg => Sys2Proof.Machine.execCommission now tag arg s
  | .commissionComplete now => Sys2Proof.Machine.execCommissionComplete now s
  | .enterShipping now tag arg => Sys2Proof.Machine.execEnterShipping now tag arg s
  | .warmReset now tag arg => Sys2Proof.Machine.execWarmReset now tag arg s
  | .linkReset now tag arg => Sys2Proof.Machine.execLinkReset now tag arg s
  | .startZeroCal now tag arg => Sys2Proof.Machine.execStartZeroCal now tag arg s
  | .zeroCalPhase => Sys2Proof.Machine.execZeroCalPhase s
  | .zeroCalEnd now => Sys2Proof.Machine.execZeroCalEnd now s
  | .enterTest now tag arg => Sys2Proof.Machine.execEnterTest now tag arg s
  | .exitTest now tag arg => Sys2Proof.Machine.execExitTest now tag arg s
  | .testTimeout => Sys2Proof.Machine.execTestTimeout s
  | .displayFullRefresh now tag arg => Sys2Proof.Machine.execDisplayFullRefresh now tag arg s
  | .plannedSwitchover now tag arg => Sys2Proof.Machine.execPlannedSwitchover now tag arg s
  | .dmaMove ch => Sys2Proof.Machine.execDmaMove ch s
  | .dmaLoop ch => Sys2Proof.Machine.execDmaLoop ch s
  | .dmaWait ch => Sys2Proof.Machine.execDmaWait ch s
  | .dmaSignal ch ack => Sys2Proof.Machine.execDmaSignal ch ack s
  | .dmaEnd ch ack => Sys2Proof.Machine.execDmaEnd ch ack s
  | .dmaBurst => Sys2Proof.Machine.execDmaBurst s
  | .dmaWaitComplete ch => Sys2Proof.Machine.execDmaWaitComplete ch s
  | .dmaWaitTimeout ch => Sys2Proof.Machine.execDmaWaitTimeout ch s
  | .dmaImageRestart ch sinceUs => Sys2Proof.Machine.execDmaImageRestart ch sinceUs s
  | .dmaDomainHoldTimeout ch heldUs => Sys2Proof.Machine.execDmaDomainHoldTimeout ch heldUs s
  | .displayEvaluation now => Sys2Proof.Machine.execDisplayEvaluation now s
  | .keyPress now lowMs => Sys2Proof.Machine.execKeyPress now lowMs s
  | .screenTimeout now => Sys2Proof.Machine.execScreenTimeout now s
  | .displayFrameBoundary now missedRows => Sys2Proof.Machine.execDisplayFrameBoundary now missedRows s
  | .railCheck now rails => Sys2Proof.Machine.execRailCheck now rails s
  | .railLockoutEnd now => Sys2Proof.Machine.execRailLockoutEnd now s
  | .panelTempMeasure ntc internal => Sys2Proof.Machine.execPanelTempMeasure ntc internal s
  | .heartbeatTimer now => Sys2Proof.Machine.execHeartbeatTimer now s
  | .hello now frame => Sys2Proof.Machine.execHello now frame s
  | .heartbeat now frame => Sys2Proof.Machine.execHeartbeat now frame s
  | .record now frame => Sys2Proof.Machine.execRecord now frame s
  | .ring now frame => Sys2Proof.Machine.execRing now frame s
  | .ack now frame => Sys2Proof.Machine.execAck now frame s
  | .resend now frame => Sys2Proof.Machine.execResend now frame s
  | .movorFrameError now seenSeq => Sys2Proof.Machine.execMovorFrameError now seenSeq s
  | .powerFail now frame => Sys2Proof.Machine.execPowerFail now frame s
  | .pfHandoverTimeout now => Sys2Proof.Machine.execPfHandoverTimeout now s
  | .failed now frame => Sys2Proof.Machine.execFailed now frame s
  | .switchFrame now frame => Sys2Proof.Machine.execSwitchFrame now frame s
  | .switchDone now frame => Sys2Proof.Machine.execSwitchDone now frame s
  | .peerEvent now frame => Sys2Proof.Machine.execPeerEvent now frame s
  | .syncEnd now frame => Sys2Proof.Machine.execSyncEnd now frame s
  | .movorLinkFault cause ageMs => Sys2Proof.Machine.execMovorLinkFault cause ageMs s
  | .peerLost now peerOkLowMs quietMs => Sys2Proof.Machine.execPeerLost now peerOkLowMs quietMs s
  | .unmirroredActivation now peerOkLowMs quietMs runMs => Sys2Proof.Machine.execUnmirroredActivation now peerOkLowMs quietMs runMs s
  | .switchoverHandover now upsets => Sys2Proof.Machine.execSwitchoverHandover now upsets s
  | .switchoverAbandoned now => Sys2Proof.Machine.execSwitchoverAbandoned now s
  | .movorCableRestored => Sys2Proof.Machine.execMovorCableRestored s
  | .framesStopped now => Sys2Proof.Machine.execFramesStopped now s
  | .storeSpent landed => Sys2Proof.Machine.execStoreSpent landed s

end Sys2Proof.Machine
end

