-- ==== Sys2Proof/Safety.lean ====
section
/-! DEFINITION. The terms in which claims speak of a run: which groups of the state a command leaves as they were, and that the
memories keep their canonical form. -/

namespace Sys2Proof.Machine

/-- The groups of the state: one name for each field of State, and four for the memories (HOARD, SRAM, the HOARD write queue, the
error marks). -/
inductive Group where
  | pending | otp | hoard | sram | queue | marks | flt | log | pwr | img | meas | chans | tcs | outs | bridge | tamper | rtc | pair
  | radio | sec | sess | mbus | alc | hl | dma | disp | free
  deriving DecidableEq, Repr

/-- Two states agree on a group. -/
def Group.same (g : Group) (s t : State) : Prop :=
  match g with
  | .pending => t.pending = s.pending
  | .otp => t.otp = s.otp
  | .hoard => t.mem.hoard = s.mem.hoard
  | .sram => t.mem.sram = s.mem.sram
  | .queue => t.mem.queue = s.mem.queue
  | .marks => t.mem.soft = s.mem.soft ∧ t.mem.bad = s.mem.bad ∧ t.mem.parity = s.mem.parity
  | .flt => t.flt = s.flt
  | .log => t.log = s.log
  | .pwr => t.pwr = s.pwr
  | .img => t.img = s.img
  | .meas => t.meas = s.meas
  | .chans => t.chans = s.chans
  | .tcs => t.tcs = s.tcs
  | .outs => t.outs = s.outs
  | .bridge => t.bridge = s.bridge
  | .tamper => t.tamper = s.tamper
  | .rtc => t.rtc = s.rtc
  | .pair => t.pair = s.pair
  | .radio => t.radio = s.radio
  | .sec => t.sec = s.sec
  | .sess => t.sess = s.sess
  | .mbus => t.mbus = s.mbus
  | .alc => t.alc = s.alc
  | .hl => t.hl = s.hl
  | .dma => t.dma = s.dma
  | .disp => t.disp = s.disp
  | .free => t.free = s.free

/-- t differs from s in the listed groups at most. -/
def Keeps (gs : List Group) (s t : State) : Prop := ∀ g, g ∉ gs → g.same s t

/-- The groups that writing an event entry can touch: the HOARD queue, the log, the alarm onsets, the Movor store (R306, R371,
R546). -/
def logGroups : List Group := [.queue, .log, .radio, .pair]

/-- HOARD and SRAM are in canonical form. -/
abbrev State.MemOk (s : State) : Prop := s.mem.hoard.wf = true ∧ s.mem.sram.wf = true

/-- t differs from s in the listed groups at most, and its memories are in canonical form if those of s are. -/
def Moves (gs : List Group) (s t : State) : Prop := Keeps gs s t ∧ (s.MemOk → t.MemOk)

/-- A write to the register at an address takes effect: the host link is served, the level and the HOST section allow it, no
power-fail sequence runs and no LINK reset waits (R98, R442, R453). -/
def State.takesWrite (s : State) (a : Nat) : Bool := s.hostServed && s.mayWrite a && !s.pwr.pfActive && !s.linkBusy

/-- A frame of command cmd passes checks 1 to 5 of R442: it names the module, which is in Run and served with no LINK reset waiting,
its CMD byte is cmd, it carries the data that LEN implies and the right CRC, and HDR bit 0, ADDR and LEN are those of R439. -/
def State.goodFrame (cmd : Nat) (f : HostFrame) (s : State) : Bool :=
  s.namesModule f.hdr && s.hostServed && !s.linkBusy && decide (frameCmd cmd f = cmd ∧ f.data.length = frameDataLen cmd f) &&
    decide (le 2 f.crc.toNat = hostCrc (s.crcBytes cmd f f.data)) &&
    (!s.pwr.straps.hostmode || f.hdr.getLsbD 0 == (cmd == 1 || cmd == 3)) &&
    s.rangeOk cmd (f.addr % 2 ^ 24) (f.len % 65536)

/-- A command other than LINK_RESET is taken and passes the checks of R457: the host link is served, no LINK reset waits, no command
runs, code and tag differ from those of the last one taken, no power-fail sequence runs, the module is not in HOLD, and SERVICE holds. -/
def State.takesCommand (s : State) (code tag arg : Nat) : Bool :=
  s.hostServed && !s.linkBusy && decide (tag < 256 ∧ arg < 2 ^ 32) && !s.hl.running && !s.pwr.pfActive && !s.deepMode && s.serviceHeld &&
    decide (s.hl.taken ≠ some (code, tag))

/-- The host link after a command that is taken and has its result at once (R456). -/
def HostLink.answered (h : HostLink) (code tag arg result : Nat) : HostLink :=
  { h with arg := arg, taken := some (code, tag), running := false, result := result, events := h.events ||| 0x10000#32 }

/-- The host's last instant, as a frame that passes check 4 leaves it (R81, R455). -/
def State.heard (s : State) (now : Now) : State :=
  { s with pwr := { s.pwr with lastHostMs := now.ms }, hl := { s.hl with goodMs := now.ms } }

/-- The channels other than n agree. -/
def OthersSame (n : Nat) (s t : State) : Prop := ∀ m, 1 ≤ m → m ≤ 40 → m ≠ n → t.ch m = s.ch m

end Sys2Proof.Machine

namespace Sys2Proof

/-- The groups of the state that a command can change; it leaves every other group as it was. Writing an event entry, where a
command logs one, counts with it. -/
def Instr.touches (i : Instr) : List Machine.Group :=
  match i with
  | .vbusFail _ _ | .vbusOv _ _ =>
    [.sram, .queue, .marks, .log, .pwr, .meas, .chans, .bridge, .tamper, .rtc, .pair, .radio, .hl, .disp]
  | .pfFinalCommit _ _ => [.queue, .flt, .log, .pwr, .chans, .outs, .bridge, .tamper, .pair, .radio]
  | .pfCommitLanded _ _ =>
    [.hoard, .queue, .marks, .log, .pwr, .meas, .chans, .outs, .bridge, .tamper, .pair, .radio, .sess, .mbus, .hl, .disp]
  | .vbusOk _ _ | .oscillatorStop => [.pwr, .rtc]
  | .vbatSettLoss _ => [.queue, .log, .pwr, .rtc, .pair, .radio]
  | .vbusReturn _ _ _ => [.queue, .flt, .log, .pwr, .chans, .outs, .bridge, .tamper, .pair, .radio, .hl, .disp]
  | .holdExit _ _ _ _ _ _ | .deepSleepWake _ _ _ _ _ _ _ | .protocolReset _ _ _ | .writeBufferExecute _ | .uartBreak _ _
  | .registerWrite _ _ _ | .linkReset _ _ _ =>
    [.hoard, .sram, .queue, .marks, .flt, .log, .pwr, .img, .meas, .chans, .outs, .bridge, .tamper, .rtc, .pair, .radio, .sess,
    .mbus, .alc, .hl, .dma, .disp]
  | .storeFault _ _ | .vbatNvwInhibit | .settTrimWindow _ => [.queue, .log, .pwr, .pair, .radio]
  | .vbatWarn _ _ _ => [.queue, .flt, .log, .pwr, .chans, .outs, .bridge, .tamper, .pair, .radio, .hl]
  | .vbatNvwRelease => [.queue, .log, .pwr, .pair]
  | .cellLoadTest _ => [.queue, .log, .pwr, .rtc, .pair, .radio]
  | .cellChargeCommit _ _ => [.queue, .pwr, .pair]
  | .hoardRecordWrite => [.hoard, .queue, .marks, .meas, .chans, .pair, .alc, .dma]
  | .hoardScrub => [.marks, .flt]
  | .resetPinAssert _ _ =>
    [.hoard, .queue, .marks, .log, .pwr, .meas, .chans, .outs, .bridge, .tamper, .pair, .radio, .disp]
  | .sleepEntry _ | .uartWake _ _ _ | .mbusStartBitWake => [.pwr]
  | .watchdogExpiry _ =>
    [.hoard, .queue, .marks, .log, .pwr, .meas, .chans, .outs, .bridge, .tamper, .pair, .radio, .mbus, .hl, .disp]
  | .deepSleepEntry _ | .holdHostIdle _ => [.pwr, .dma]
  | .sleepWake _ _ _ _ _ => [.queue, .flt, .log, .pwr, .img, .chans, .outs, .bridge, .tamper, .rtc, .pair, .radio, .hl]
  | .hostAddressMatch _ _ => [.pwr, .hl]
  | .holdDueDateWake _ => [.queue, .log, .pwr, .chans, .pair, .radio, .alc]
  | .wakePinEdge _ _ _ _ _ | .powerOn _ _ | .rootStartRetry _ _ _ =>
    [.sram, .queue, .marks, .flt, .log, .pwr, .img, .meas, .chans, .tcs, .outs, .bridge, .tamper, .rtc, .pair, .radio, .sec,
    .sess, .mbus, .alc, .hl, .dma, .disp]
  | .offEntry _ _ | .warmRestart _ _ _ _ | .rootFail _ _ _ _ =>
    [.hoard, .sram, .queue, .marks, .flt, .log, .pwr, .img, .meas, .chans, .tcs, .outs, .bridge, .tamper, .rtc, .pair, .radio,
    .sec, .sess, .mbus, .alc, .hl, .dma, .disp]
  | .cardReadRetry _ => [.img]
  | .imageDecision _ _ _ =>
    [.hoard, .sram, .queue, .marks, .flt, .log, .pwr, .img, .meas, .chans, .outs, .bridge, .tamper, .pair, .radio, .sec, .mbus,
    .hl, .disp]
  | .tick _ _ _ =>
    [.hoard, .queue, .marks, .log, .pwr, .img, .meas, .chans, .tcs, .outs, .bridge, .tamper, .rtc, .pair, .radio, .sec, .sess,
    .mbus, .hl, .dma, .disp]
  | .settTickEdge _ _ _ =>
    [.hoard, .queue, .marks, .log, .pwr, .img, .meas, .chans, .tcs, .outs, .bridge, .tamper, .rtc, .pair, .radio, .sec, .sess,
    .mbus, .hl, .dma, .disp]
  | .degradedTickWake _ _ _ _ _ =>
    [.hoard, .queue, .marks, .flt, .log, .pwr, .img, .meas, .chans, .tcs, .outs, .bridge, .tamper, .rtc, .pair, .radio, .sec,
    .sess, .mbus, .hl, .dma, .disp]
  | .tofSlot _ _ _ => [.queue, .log, .chans, .tamper, .pair, .radio, .hl, .dma]
  | .tdShortStopEnd _ => [.chans]
  | .lowQRecovery _ | .zeroTrackWindow _ => [.queue, .log, .chans, .tamper, .pair, .radio]
  | .rtdSlot _ _ _ => [.queue, .log, .chans, .tcs, .tamper, .pair, .radio]
  | .stepClose _ _ => [.queue, .flt, .log, .chans, .outs, .bridge, .tamper, .pair, .radio]
  | .dmrMismatchReaction _ =>
    [.hoard, .queue, .marks, .flt, .log, .pwr, .meas, .chans, .outs, .bridge, .tamper, .pair, .radio, .mbus, .hl, .disp]
  | .stepOverrun _ => [.queue, .log, .meas, .chans, .pair, .radio]
  | .calTrackCommit _ => [.queue, .chans, .pair]
  | .pulseStart _ _ | .pulseEnd _ _ => [.outs]
  | .valveMoveStart _ => [.chans, .bridge]
  | .valveFeedbackSample _ _ _ _ => [.queue, .log, .chans, .bridge, .tamper, .pair, .radio]
  | .valveTimeout _ | .valveOvercurrent _ | .valveOpenCoil _ => [.queue, .log, .chans, .bridge, .pair, .radio]
  | .allocatorFreeze => [.queue, .pair, .alc]
  | .tamperEdge _ _ | .movorCableLoss _ => [.queue, .log, .tamper, .pair, .radio]
  | .rtcSecond => [.flt, .pwr, .rtc]
  | .halt _ | .rtcDateWrite _ | .rtcTimeWrite _ | .rtcSlewWrite _ => [.rtc]
  | .haltRelease _ => [.queue, .log, .chans, .rtc, .pair, .radio]
  | .haltAutoRelease _ => [.queue, .log, .rtc, .pair, .radio]
  | .rtcTimeRead _ | .rtcSecondsLoRead _ | .rtcDateRead _ | .rtcSecondsHiRead _ => [.rtc, .hl]
  | .telegramOffer _ _ => [.queue, .pwr, .pair, .radio, .sec, .alc]
  | .frameTransmit _ => [.flt, .pwr, .radio]
  | .responseWindow _ => [.queue, .flt, .pwr, .pair, .radio, .sec, .sess]
  | .radioFrameReceived _ _ _ _ | .dutyBinAdvance _ => [.radio]
  | .sessionRequest _ _ _ => [.queue, .flt, .marks, .pair, .radio, .sec, .sess, .mbus]
  | .commandExecutionEnd _ _ => [.queue, .pair, .radio, .sec, .sess]
  | .sessionReadyTimeout _ _ => [.radio, .sess, .mbus]
  | .sessionIdleTimeout _ _ | .cmdStatus _ => [.sess]
  | .cmdReadHoard _ => [.flt, .sess]
  | .cmdValve _ _ | .topupAnswer _ _ => [.hoard, .queue, .marks, .log, .chans, .bridge, .pair, .radio, .sess]
  | .cmdTopup _ _ => [.queue, .log, .chans, .pair, .radio, .sess]
  | .cmdSetTime _ _ => [.hoard, .queue, .marks, .log, .chans, .rtc, .pair, .radio, .sess]
  | .cmdAdjustTime _ _ => [.hoard, .queue, .marks, .rtc, .sess]
  | .allocatorParse => [.queue, .flt, .marks, .pair, .radio, .alc]
  | .sndNke _ _ _ | .secondarySelect _ _ _ | .reqUd1 _ _ | .sndUdOther _ _ | .baudSwitch _ _ _ | .mbusFrameError _ =>
    [.pwr, .mbus]
  | .reqUd2 _ _ _ _ => [.queue, .pwr, .pair, .radio, .sec, .sess, .mbus]
  | .sndUdRequest _ _ _ => [.pwr, .sess, .mbus]
  | .regRead _ _ | .memRead _ _ =>
    [.hoard, .sram, .queue, .marks, .flt, .log, .pwr, .img, .meas, .chans, .outs, .bridge, .tamper, .rtc, .pair, .radio, .sess,
    .mbus, .alc, .hl, .dma, .disp, .free]
  | .regWrite _ _ | .memWrite _ _ => [.pwr, .rtc, .hl]
  | .hostFrameAbort | .uartGapAbort _ | .creditReturn _ | .unlock _ | .lock | .serviceIdleRelock _ | .lockoutEnd _
  | .hlCrcErrorsRead | .hlStreamStatusRead => [.hl]
  | .chselWrite _ => [.meas]
  | .chwEventsWrite _ | .chwCaptureCtrlWrite _ => [.meas, .chans]
  | .hlDoorbell _ | .dmaStop _ | .dmaArm _ _ | .dmaWaitComplete _ | .dmaWaitTimeout _ | .dmaImageRestart _ _
  | .dmaDomainHoldTimeout _ _ => [.dma]
  | .chal _ => [.sram, .marks, .hl]
  | .measOverrunRead | .startZeroCal _ _ _ | .enterTest _ _ _ | .exitTest _ _ _ | .testTimeout => [.meas, .hl]
  | .radTxqRead | .radRxStatsRead => [.radio, .hl]
  | .sesActiveRead | .sesBusyRejectsRead => [.sess, .hl]
  | .alcStatusRead => [.alc, .hl]
  | .mbusStatusRead => [.mbus, .hl]
  | .mirCrcErrorsRead | .plannedSwitchover _ _ _ => [.pair, .hl]
  | .fltHoardCorrRead | .fltHoardUncorrRead | .fltSramParRead | .fltDmrMismatchRead => [.flt, .hl]
  | .commission _ _ _ => [.queue, .log, .img, .chans, .pair, .radio, .hl]
  | .commissionComplete _ => [.hoard, .queue, .marks, .img, .rtc, .pair, .radio, .sess, .mbus, .hl]
  | .enterShipping _ _ _ => [.queue, .pwr, .pair, .radio, .mbus, .disp, .hl]
  | .warmReset _ _ _ => [.hoard, .queue, .marks, .log, .pwr, .meas, .chans, .outs, .bridge, .tamper, .pair, .radio, .hl, .disp]
  | .zeroCalPhase => [.meas, .chans, .free]
  | .zeroCalEnd _ => [.queue, .log, .img, .meas, .chans, .tamper, .pair, .radio, .hl]
  | .displayFullRefresh _ _ _ => [.sram, .marks, .disp, .hl]
  | .dmaMove _ | .dmaLoop _ | .dmaWait _ => [.flt, .dma]
  | .dmaSignal _ _ => [.flt, .chans, .hl, .dma]
  | .dmaEnd _ _ => [.hoard, .sram, .marks, .flt, .chans, .hl, .dma]
  | .dmaBurst => [.hoard, .sram, .queue, .marks, .flt, .pair, .dma, .free]
  | .displayEvaluation _ => [.sram, .flt, .marks, .disp]
  | .keyPress _ _ | .screenTimeout _ | .railLockoutEnd _ => [.sram, .marks, .disp]
  | .displayFrameBoundary _ _ => [.sram, .queue, .marks, .pair, .dma, .disp]
  | .railCheck _ _ => [.queue, .pair, .disp]
  | .panelTempMeasure _ _ => [.disp]
  | .heartbeatTimer _ => [.pair]
  | .movorFrameError _ _ => [.pwr, .pair]
  | .hello _ _ => [.queue, .log, .pwr, .rtc, .pair, .radio, .sess, .mbus]
  | .peerLost _ _ _ => [.queue, .log, .rtc, .pair, .radio, .sess, .mbus]
  | .heartbeat _ _ =>
    [.hoard, .queue, .marks, .log, .pwr, .img, .meas, .chans, .outs, .bridge, .tamper, .rtc, .pair, .radio, .sec, .sess, .mbus,
    .hl, .disp]
  | .record _ _ | .ring _ _ | .powerFail _ _ | .switchFrame _ _ | .switchDone _ _ | .peerEvent _ _ | .syncEnd _ _ =>
    [.hoard, .queue, .marks, .log, .pwr, .img, .meas, .chans, .rtc, .pair, .radio, .sec]
  | .ack _ _ | .resend _ _ => [.queue, .log, .pwr, .pair, .radio, .sec]
  | .pfHandoverTimeout _ => [.queue, .rtc, .pair, .radio, .sess, .mbus]
  | .failed _ _ => [.queue, .log, .pwr, .pair, .radio]
  | .movorLinkFault _ _ | .switchoverAbandoned _ | .framesStopped _ => [.queue, .log, .pair, .radio]
  | .unmirroredActivation _ _ _ _ => [.queue, .log, .chans, .rtc, .pair, .radio, .sec, .sess, .mbus]
  | .switchoverHandover _ _ => [.queue, .flt, .log, .meas, .chans, .outs, .bridge, .tamper, .pair, .radio, .sess, .mbus, .hl, .disp]
  | .movorCableRestored => [.queue, .log, .tamper, .pair]
  | .storeSpent _ => [.hoard, .queue, .marks, .pwr, .outs, .bridge, .rtc, .hl, .disp]

end Sys2Proof
end

