-- ==== Sys2Proof/WellFormed.lean ====
section
/-! DEFINITION. Which commands can occur: operands that name a part of the module (R15, R157, R268, R403, R475). -/

namespace Sys2Proof

/-- Channels 1 to 40 (R15). -/
def chOk (ch : Nat) : Bool := decide (1 ≤ ch ∧ ch ≤ 40)

/-- Converters 1 to 8 (R218). -/
def tcOk (tc : Nat) : Bool := decide (1 ≤ tc ∧ tc ≤ 8)

/-- RTD slots 0 to 5 (R157). -/
def rtdSlotOk (slot : Nat) : Bool := decide (slot ≤ 5)

/-- Pulse outputs 1 to 8 (R267). -/
def poOk (po : Nat) : Bool := decide (1 ≤ po ∧ po ≤ 8)

/-- DMA channels 0 to 15 (R475). -/
def dmaOk (ch : Nat) : Bool := decide (ch < 16)

/-- DMA channels of the host's domain, 12 to 15 (R476). -/
def dmaHostOk (ch : Nat) : Bool := decide (12 ≤ ch ∧ ch < 16)

/-- Session contexts 0 to 23 (R403). -/
def ctxOk (ctx : Nat) : Bool := decide (ctx < 24)

/-- Whether a command's operands name parts of the module. DESIGN CHOICE, log entry 8. -/
def Instr.wf (i : Instr) : Bool :=
  match i with
  | .tofSlot ch _ _ | .tdShortStopEnd ch | .lowQRecovery ch | .stepClose ch _ | .stepOverrun ch | .zeroTrackWindow ch
  | .calTrackCommit ch | .valveFeedbackSample _ ch _ _ => chOk ch
  | .rtdSlot tc slot _ => tcOk tc && rtdSlotOk slot
  | .pulseStart po _ | .pulseEnd po _ => poOk po
  | .dmaArm ch _ => dmaHostOk ch
  | .dmaMove ch | .dmaLoop ch | .dmaWait ch | .dmaSignal ch _ | .dmaEnd ch _ | .dmaWaitComplete ch | .dmaWaitTimeout ch
  | .dmaImageRestart ch _ | .dmaDomainHoldTimeout ch _ => dmaOk ch
  | .commandExecutionEnd _ ctx | .sessionReadyTimeout _ ctx | .sessionIdleTimeout _ ctx | .cmdStatus ctx | .cmdReadHoard ctx
  | .cmdValve _ ctx | .cmdTopup _ ctx | .topupAnswer _ ctx | .cmdSetTime _ ctx | .cmdAdjustTime _ ctx => ctxOk ctx
  | _ => true

end Sys2Proof
end

