-- ==== Sys2Proof/Certificates/Slice0/Obligations.lean ====
section
/-! DEFINITION. The statements for the provers, from the numbered rules of the spec. -/

open Sys2Proof Sys2Proof.Machine

/-- For every command and every state with that command at the front of its queue, the step is exec of the command on
the same state with the rest of the queue. (Scope and overview: R4, What each step holds) -/
def Obligations.StepRunsTheFrontCommand : Prop :=
  ∀ (c : Instr) (rest : List Instr) (s : State),
    step { s with pending := c :: rest } = exec c { s with pending := rest }

/-- With no command waiting, the step answers the state itself. The spec gives the block no tick of its own:
everything that time drives is a row of the command table. This is the model's choice of log entry 1. (What each step
holds) -/
def Obligations.EmptyQueueIdles : Prop :=
  ∀ s : State, s.pending = [] → step s = .next s

/-- exec answers a next state for every command whose operands name parts of the module, in every state; a command
that names a channel, converter, pulse output, DMA channel or context that does not exist is refused as ill-formed. No
command faults. (Scope and overview: R12, Host link and register map: R442, What each step holds) -/
def Obligations.WellFormedCommandsComplete : Prop :=
  ∀ (i : Instr) (s : State),
    (i.wf = true → ∃ t, exec i s = .next t) ∧ (i.wf = false → exec i s = .refused .illFormed)

/-- Whenever a command answers a next state, each of the 27 groups of the state that its entry in Instr.touches does
not list, and the queue of waiting commands in every case, agrees with the state before. (Scope and overview: R4, R12,
What each step holds) -/
def Obligations.EveryCommandKeepsWhatItDoesNotTouch : Prop :=
  ∀ (i : Instr) (s t : State), exec i s = .next t → Keeps i.touches s t

/-- If in a state the lists of HOARD and of SRAM cells are in canonical form (addresses strictly rising, no cell equal
to what an unlisted address reads as), they are so in every state that a step from it answers, whatever command is at
the front of the queue. (Host link and register map: R446, R447, Integrity, faults and coinciding events: R565, R595)
-/
def Obligations.EveryStepKeepsMemoriesCanonical : Prop :=
  ∀ s t : State, s.MemOk → step s = .next t → t.MemOk

/-- The state after reset is in SHIPPING and in Off, with no command waiting, its host link at OBSERVE, its memories
canonical with no cell listed, no DMA channel running, no image accepted and the module uncommissioned; CHSEL reads 1,
MOD_EVENT_EN 0x40000, FLT_STATUS has SCRUB_AGE 255 and no other bit, and DMA_STATUS reads 0. (Scope and overview: R4,
Supply, backup cell and hold-up: R71, Measurement cycle: R175, Host link and register map: R453, R468, DMA engine:
R501, Integrity, faults and coinciding events: R578, R595) -/
def Obligations.ResetIsTheFactoryModule : Prop :=
  State.reset.pwr.mode = .shipping ∧ State.reset.pwr.state = .off ∧ State.reset.pending = [] ∧
    State.reset.hl.service = false ∧ State.reset.MemOk ∧ State.reset.mem.hoard = [] ∧ State.reset.mem.sram = [] ∧
    (∀ k, k < 16 → (State.reset.dc k).run = false) ∧ State.reset.img.accepted = false ∧
    State.reset.img.module_.commissioned = false ∧
    (∀ now : Now, (State.reset.readReg 0x11C now).1 = 1 ∧ (State.reset.readReg 0x01C now).1 = 0x40000 ∧
      (State.reset.readReg 0x340 now).1 = 0xFF000000 ∧ (State.reset.readReg 0x200 now).1 = 0)

/-- TOF_SLOT, TD_SHORT_STOP_END, LOW_Q_RECOVERY, STEP_CLOSE, STEP_OVERRUN, ZERO_TRACK_WINDOW, CAL_TRACK_COMMIT of a
channel leave every field of every other channel as it was. (Ultrasonic flow measurement, Quantity integration,
Measurement cycle) -/
def Obligations.CommandsOfOneChannelLeaveTheOthers : Prop :=
  ∀ (i : Instr) (s t : State) (n : Nat) (shot : Shot) (slot : Nat) (upset : Upset), 1 ≤ n → n ≤ 40 →
    i ∈ [Instr.tofSlot n slot shot, .tdShortStopEnd n, .lowQRecovery n, .stepClose n upset, .stepOverrun n,
      .zeroTrackWindow n, .calTrackCommit n] →
    exec i s = .next t → OthersSame n s t

/-- While SETT has power, RTC_SECOND below 12,622,780,798 answers a next state whose count is one higher; it sets SETT
running and otherwise changes only the slew, its phase, the place of the prescaler that a slew moves and, at a whole
hour, the age of the last scrub, which saturates at 255. When the count reaches 12,622,780,799 it is held there and
OSF is set with cause 2, also where it holds, with a log entry due for that count; later seconds hold the count there.
OSCILLATOR_STOP sets OSF with cause 2, with a log entry due for the present count, keeps the count, and marks SETT
stopped and its trim invalid; nothing else changes. (R335) -/
def Obligations.RtcSecondAdvancesTheCount : Prop :=
  (∀ s : State, s.rtc.settLost = false → s.rtc.count < 12622780798 →
    ∃ t, exec .rtcSecond s = .next t ∧
      t.rtc = { s.rtc with
        count := s.rtc.count + 1, slew := t.rtc.slew, slewPhase := t.rtc.slewPhase, subBase := t.rtc.subBase } ∧
      t.pwr = { s.pwr with settRun := true } ∧
      t.flt = (if (s.rtc.count + 1) % 3600 = 0 then { s.flt with scrubAge := min 255 (s.flt.scrubAge + 1) } else s.flt) ∧
      Keeps [.rtc, .pwr, .flt] s t) ∧
  (∀ s : State, s.rtc.settLost = false → s.rtc.count = 12622780798 →
    ∃ t, exec .rtcSecond s = .next t ∧ t.rtc.count = 12622780799 ∧ t.rtc.osf = true ∧ t.rtc.osfCause = 2 ∧
      t.rtc.osfPend = s.rtc.osfPend ++ [(2, 12622780799)] ∧
      t.pwr = { s.pwr with settRun := true } ∧ Keeps [.rtc, .pwr] s t) ∧
  (∀ s : State, s.rtc.settLost = false → s.rtc.count = 12622780799 →
    ∃ t, exec .rtcSecond s = .next t ∧ t.rtc.count = 12622780799 ∧ t.rtc.osf = s.rtc.osf ∧
      t.pwr = { s.pwr with settRun := true } ∧ Keeps [.rtc, .pwr] s t) ∧
  (∀ s : State, s.rtc.settLost = false →
    exec .oscillatorStop s = .next { s with
      rtc := { s.rtc with osf := true, osfCause := 2, osfPend := s.rtc.osfPend ++ [(2, s.rtc.count)] },
      pwr := { s.pwr with settRun := false, trimValid := false } })

/-- Where the write takes effect and the time may be changed, RTC_SLEW_WRITE of a 20-bit signed value A: A not 0, at
most 262,144 in size, OSF clear, no slew in progress and A with the slews accepted on the same day of the count at
most 262,144: the slew is A, the day's account grows by the size of A, RTC_ADJ_LOG holds kind 3, source 0 and A div
32,768 truncated toward zero, and nothing else changes; a value of 0 cancels the rest of the slew; any other value
sets SLEW_REFUSED only. While SETT has power, RTC_SECOND takes from a slew in progress (32,768 + phase) div 10,000
cycles toward zero, at most what is left, and keeps the remainder as the phase. (12 Real-time clock: R343, R355) -/
def Obligations.SlewMovesOneCycleInTenThousand : Prop :=
  (∀ (s : State) (v : Word), s.takesWrite 0xD8 = true → s.timeChanges = true →
    let a : Int := if v.toNat % 1048576 < 524288 then (v.toNat % 1048576 : Nat) else ((v.toNat % 1048576 : Nat) : Int) - 1048576
    let used : Nat := if s.rtc.slewDay = s.rtc.count / 86400 then s.rtc.slewUsed else 0
    exec (.rtcSlewWrite v) s =
      if a = 0 then .next { s with rtc := { s.rtc with slew := 0, slewPhase := 0 } }
      else if a.natAbs ≤ 262144 ∧ s.rtc.osf = false ∧ s.rtc.slew = 0 ∧ a.natAbs + used ≤ 262144 then
        .next { s with rtc := { s.rtc with
          slew := a, slewPhase := 0, slewUsed := used + a.natAbs, slewDay := s.rtc.count / 86400,
          adjLog := [3, 0, (a.tdiv 32768 % 16777216).toNat] } }
      else .next { s with rtc := { s.rtc with slewRefused := true } }) ∧
  (∀ s : State, s.rtc.settLost = false → s.rtc.slew ≠ 0 →
    ∃ t, exec .rtcSecond s = .next t ∧ t.rtc.slewPhase = (s.rtc.slewPhase + 32768) % 10000 ∧
      t.rtc.slew.natAbs = s.rtc.slew.natAbs - (s.rtc.slewPhase + 32768) / 10000 ∧
      (0 < s.rtc.slew → 0 ≤ t.rtc.slew) ∧ (s.rtc.slew < 0 → t.rtc.slew ≤ 0))

/-- Where the write takes effect and the time may be changed, HALT sets HALT and holds the count, the sub-second
prescaler and the instant of the write, or has no effect while HALT holds; where the time may not be changed it sets
BADWRITE only. HALT_RELEASE with nothing written clears HALT and nothing else. HALT_AUTO_RELEASE under HALT, 2 s after
the HALT write or later, clears HALT and both pending writes, sets AUTO_RELEASE, leaves the count, and in a SOLO
module, within the hour of the log's counts and with fewer than 8 onsets of the code, appends the entry of event
0x0024 to the HOARD queue as number NEXT of the log; earlier, or without HALT, it changes nothing. Under HALT,
RTC_SECOND leaves the held values as they were. (12 Real-time clock: R338, R339, R341, R342, R349) -/
def Obligations.HaltHoldsTheRegistersAndNotTheCount : Prop :=
  (∀ (s : State) (now : Now), s.takesWrite 0xC0 = true →
    exec (.halt now) s = .next (
      if s.timeChanges = false then { s with rtc := { s.rtc with badWrite := true } }
      else if s.rtc.halt = true then s
      else { s with rtc := { s.rtc with
        halt := true, heldCount := s.rtc.count, haltMs := now.ms,
        heldSub := (now.sub % 32768 + 32768 - s.rtc.subBase % 32768) % 32768 } })) ∧
  (∀ (s : State) (now : Now), s.takesWrite 0xC0 = true → s.timeChanges = true → s.rtc.halt = true →
    s.rtc.pendDate = none → s.rtc.pendTime = none →
    exec (.haltRelease now) s = .next { s with rtc := { s.rtc with halt := false } }) ∧
  (∀ (s : State) (now : Now), s.rtc.halt = false ∨ now.ms < s.rtc.haltMs + 2000 →
    exec (.haltAutoRelease now) s = .next s) ∧
  (∀ (s : State) (now : Now), s.rtc.halt = true → s.rtc.haltMs + 2000 ≤ now.ms →
    ∃ t, exec (.haltAutoRelease now) s = .next t ∧
      t.rtc = { s.rtc with halt := false, pendDate := none, pendTime := none, autoRelease := true } ∧
      Keeps [.rtc, .queue, .log, .radio, .pair] s t ∧
      (s.pair.phase = 0 → s.log.hour = s.rtc.count / 3600 → onsets 0x24 0 s.log.counts < 8 →
        t.mem.queue = s.mem.queue ++ [{
          kind := .entry (0x210000 + 32 * ((s.log.next - 1) % 4096)),
          body := eventBytes s.log.next s.rtc.count (if s.rtc.osf then 1 else 0) 0x24 0 [] }] ∧
        t.log.next = s.log.next + 1)) ∧
  (∀ s t : State, exec .rtcSecond s = .next t →
    t.rtc.halt = s.rtc.halt ∧ t.rtc.heldCount = s.rtc.heldCount ∧ t.rtc.heldSub = s.rtc.heldSub)

/-- Where the write takes effect, RTC_DATE_WRITE in a module that may change its time and under HALT leaves the word
as the pending date where DAY, MONTH and YEAR name a day of 2000 to 2399 and WEEKDAY, bit 31 and the reserved bits are
0; RTC_TIME_WRITE likewise where HOUR is at most 23, MINUTE and SECOND at most 59 and SUBSEC is 0. In every other case
BADWRITE is set. Nothing else changes. (A date cannot be wrong by the pending time nor the reverse, so that part of
the check never refuses.) (12 Real-time clock: R340, R352) -/
def Obligations.DateAndTimeWritesAreCheckedAsAWhole : Prop :=
  (∀ (s : State) (v : Word), s.takesWrite 0xC8 = true →
    exec (.rtcDateWrite v) s = .next (
      if s.timeChanges = true ∧ s.rtc.halt = true ∧ v.toNat < 2 ^ 28 ∧
          2000 ≤ v.toNat / 65536 ∧ v.toNat / 65536 ≤ 2399 ∧
          1 ≤ v.toNat / 256 % 256 ∧ v.toNat / 256 % 256 ≤ 12 ∧
          1 ≤ v.toNat % 256 ∧ v.toNat % 256 ≤ monthLen (v.toNat / 65536) (v.toNat / 256 % 256)
      then { s with rtc := { s.rtc with pendDate := some v.toNat } }
      else { s with rtc := { s.rtc with badWrite := true } })) ∧
  (∀ (s : State) (v : Word), s.takesWrite 0xCC = true →
    exec (.rtcTimeWrite v) s = .next (
      if s.timeChanges = true ∧ s.rtc.halt = true ∧ v.toNat < 2 ^ 24 ∧
          v.toNat / 65536 ≤ 23 ∧ v.toNat / 256 % 256 ≤ 59 ∧ v.toNat % 256 ≤ 59
      then { s with rtc := { s.rtc with pendTime := some v.toNat } }
      else { s with rtc := { s.rtc with badWrite := true } })) ∧
  (∀ y, monthLen y 2 = (if (y % 4 = 0 ∧ y % 100 ≠ 0) ∨ y % 400 = 0 then 29 else 28)) ∧
  (∀ y m, m = 4 ∨ m = 6 ∨ m = 9 ∨ m = 11 → monthLen y m = 30) ∧
  (∀ y m, m = 1 ∨ m = 3 ∨ m = 5 ∨ m = 7 ∨ m = 8 ∨ m = 10 ∨ m = 12 → monthLen y m = 31)

/-- Where the write takes effect and the time may be changed, HALT_RELEASE under HALT with a written date or time
answers a state whose count is that of the written date and time, the part not written taken from the held value, with
the sub-second prescaler at 0 and HALT and both pending writes clear. Where OSF was clear and the count is the
shadow's, nothing else changes. Otherwise, for a count below the highest, OSF is clear, STEPPED is set, RTC_ADJ_LOG
holds kind 2 where OSF was set and 1 where not, source 0 and the signed change, saturated to 8,388,607 in size, every
channel is marked as stepped and is otherwise as it was, and MEAS_TICK and HOARD are as they were. In a SOLO module,
within the hour of the log's counts and with fewer than 8 onsets of the code counted, event 0x0022 or 0x0021 with both
counts is appended to the HOARD queue. A set to 12,622,780,799 sets OSF with cause 2 again. (12 Real-time clock: R335,
R339, R341, R344, R345, R355) -/
def Obligations.ReleaseSetsTheTime : Prop :=
  ∀ (s : State) (now : Now), s.takesWrite 0xC0 = true → s.timeChanges = true → s.rtc.halt = true →
    (s.rtc.pendDate.isSome = true ∨ s.rtc.pendTime.isSome = true) →
    let new := wordsCount (s.rtc.pendDate.getD (dateWord s.rtc.heldCount)) (s.rtc.pendTime.getD (timeWord s.rtc.heldCount))
    let d : Int := (new : Int) - s.rtc.count
    ∃ t, exec (.haltRelease now) s = .next t ∧
      t.rtc.count = new ∧ t.rtc.halt = false ∧ t.rtc.pendDate = none ∧ t.rtc.pendTime = none ∧
      t.rtc.subBase = now.sub % 32768 ∧
      (s.rtc.osf = false → new = s.rtc.count →
        t = { s with rtc := { s.rtc with halt := false, pendDate := none, pendTime := none, subBase := now.sub % 32768 } }) ∧
      (s.rtc.osf = true ∨ new ≠ s.rtc.count → 12622780799 ≤ new → t.rtc.osf = true ∧ t.rtc.osfCause = 2 ∧ t.rtc.stepped = true) ∧
      (s.rtc.osf = true ∨ new ≠ s.rtc.count → new < 12622780799 →
        t.rtc = { s.rtc with
          count := new, subBase := now.sub % 32768, halt := false, pendDate := none, pendTime := none, osf := false, stepped := true,
          adjLog := [if s.rtc.osf = true then 2 else 1, 0, ((max (-8388607) (min 8388607 d)) % 16777216).toNat] } ∧
        (∀ n, 1 ≤ n → n ≤ 40 → t.ch n = { s.ch n with stepped := true }) ∧
        Keeps [.rtc, .chans, .queue, .log, .radio, .pair] s t ∧
        (s.pair.phase = 0 → s.log.hour = new / 3600 →
          onsets (if s.rtc.osf = true then 0x22 else 0x21) 0 s.log.counts < 8 →
          t.mem.queue = s.mem.queue ++ [{
            kind := .entry (0x210000 + 32 * ((s.log.next - 1) % 4096)),
            body := eventBytes s.log.next new 0 (if s.rtc.osf = true then 0x22 else 0x21) 0
              (le 5 s.rtc.count ++ le 5 new) }]))

/-- While the host link is served, no LINK reset waits and HALT is 0: RTC_TIME_READ and RTC_SECONDS_LO_READ latch
date, time, high and low seconds of the present count, the sub-second from the prescaler, and answer the time or the
low word. RTC_DATE_READ and RTC_SECONDS_HI_READ answer the latched date or high word and change nothing else; where
nothing has been latched they latch all four from their own instant first. The answer is 5A, status 0, the four bytes
of the word and the CRC. (12 Real-time clock: R349, R352, R353, 16 Host link and register map: R440) -/
def Obligations.RtcReadsLatchOneInstant : Prop :=
  (∀ (s : State) (now : Now), s.hostServed = true → s.linkBusy = false → s.rtc.halt = false → s.rtc.pendDate = none →
    s.rtc.pendTime = none →
    let c := s.rtc.count
    let prescaler := (now.sub % 32768 + 32768 - s.rtc.subBase % 32768) % 32768
    let time := timeWord c + 2 ^ 24 * (prescaler / 128 % 256)
    let rows := [dateWord c, time, c / 2 ^ 32 % 256, c % 2 ^ 32]
    let latched : State := { s with rtc := { s.rtc with latched := true, latch := rows } }
    exec (.rtcTimeRead now) s = .next (latched.sendResponse 0 (le 4 time)) ∧
    exec (.rtcSecondsLoRead now) s = .next (latched.sendResponse 0 (le 4 (c % 2 ^ 32))) ∧
    (s.rtc.latched = false →
      exec (.rtcDateRead now) s = .next (latched.sendResponse 0 (le 4 (dateWord c))) ∧
      exec (.rtcSecondsHiRead now) s = .next (latched.sendResponse 0 (le 4 (c / 2 ^ 32 % 256))))) ∧
  (∀ (s : State) (now : Now) (d u h l : Nat), s.hostServed = true → s.linkBusy = false → s.rtc.halt = false → s.rtc.latched = true →
    s.rtc.latch = [d, u, h, l] →
    exec (.rtcDateRead now) s = .next (s.sendResponse 0 (le 4 d)) ∧
    exec (.rtcSecondsHiRead now) s = .next (s.sendResponse 0 (le 4 h))) ∧
  (∀ (s : State) (status : Nat) (data : List Byte), s.sendResponse status data = { s with hl := { s.hl with
    out := [0x5A#8, BitVec.ofNat 8 status] ++ data ++ le 2 (crc16 0x1021#16 0xFFFF#16 ([0x5A#8, BitVec.ofNat 8 status] ++ data)).toNat } })

/-- While the host link is served and no LINK reset waits, each of the fourteen reads of a register with RC fields
answers 5A, status 0, the four bytes of the word that the register held, and the CRC, and clears the RC fields of that
register; every other field of the state, the RO fields of the same register included, is as it was. (Scope and
overview: R8, R10, Host link and register map: R440, R472, R474, R173, R381, R382, R413, R414, R434, R435, R564, R580,
R581, R582) -/
def Obligations.CounterReadsAnswerAndClear : Prop :=
  ∀ s : State, s.hostServed = true → s.linkBusy = false →
    exec .measOverrunRead s = .next (({ s with meas := { s.meas with overrun := 0 } } : State).sendResponse 0
      (le 4 (s.meas.overrun + 65536 * (s.meas.lastCh % 64)))) ∧
    exec .radTxqRead s = .next (({ s with radio := { s.radio with rejected := 0, discarded := 0 } } : State).sendResponse 0
      (le 4 (s.radio.queue.length + 256 * s.radio.rejected + 65536 * s.radio.discarded +
        16777216 * (s.radio.lastCause % 8)))) ∧
    exec .radRxStatsRead s = .next (({ s with radio := { s.radio with frames := 0, crcErr := 0, dropped := 0 } } : State).sendResponse
      0 (le 4 (s.radio.frames + 65536 * s.radio.crcErr + 16777216 * s.radio.dropped))) ∧
    exec .sesActiveRead s = .next (({ s with sess := { s.sess with evictions := 0, dups := 0 } } : State).sendResponse 0
      (le 4 ((s.sess.ctxs.toList.filter fun c => c.st != .free).length +
        256 * (s.sess.ctxs.toList.filter fun c => c.st == .running || c.st == .ready).length +
        65536 * s.sess.evictions + 16777216 * s.sess.dups))) ∧
    exec .sesBusyRejectsRead s = .next (({ s with sess := { s.sess with busy := 0, authFail := 0, replays := 0 } } :
      State).sendResponse 0 (le 4 (s.sess.busy + 65536 * s.sess.authFail + 16777216 * s.sess.replays))) ∧
    exec .alcStatusRead s = .next (({ s with alc := { s.alc with refused := 0 } } : State).sendResponse 0 (le 4 s.alcStatus)) ∧
    exec .mbusStatusRead s = .next (({ s with mbus := { s.mbus with frameErr := 0, answered := 0 } } : State).sendResponse 0
      (le 4 s.mbusStatus)) ∧
    exec .hlCrcErrorsRead s = .next (({ s with hl := { s.hl with crcErr := 0, aborted := 0, malformed := 0 } } : State).sendResponse
      0 (le 4 (s.hl.crcErr + 65536 * s.hl.aborted + 16777216 * s.hl.malformed))) ∧
    exec .hlStreamStatusRead s = .next (({ s with hl := { s.hl with dropped := 0 } } : State).sendResponse 0
      (le 4 (s.hl.next + 256 * (s.hl.count % 65536) + 16777216 * s.hl.dropped))) ∧
    exec .mirCrcErrorsRead s = .next (({ s with pair := { s.pair with crcErrors := 0, resends := 0, resendFail := 0 } } :
      State).sendResponse 0
      (le 4 (s.pair.crcErrors % 65536 + 65536 * (s.pair.resends % 256) + 16777216 * (s.pair.resendFail % 256)))) ∧
    exec .fltHoardCorrRead s = .next (({ s with flt := { s.flt with corr := 0, corrScrub := 0 } } : State).sendResponse 0
      (le 4 (s.flt.corr + 65536 * s.flt.corrScrub))) ∧
    exec .fltHoardUncorrRead s = .next (({ s with flt := { s.flt with uncorr := 0 } } : State).sendResponse 0
      (le 4 s.flt.uncorr)) ∧
    exec .fltSramParRead s = .next (({ s with flt := { s.flt with parCount := 0, parBanks := 0 } } : State).sendResponse 0
      (le 4 (s.flt.parCount + 65536 * (s.flt.parBanks % 256)))) ∧
    exec .fltDmrMismatchRead s = .next (({ s with flt := { s.flt with dmrCount := 0, dmrCh := 0, dmrWord := 0 } } :
      State).sendResponse 0
      (le 4 (s.flt.dmrCount + 65536 * (s.flt.dmrCh % 64) + 16777216 * (s.flt.dmrWord % 256))))

/-- Where the write takes effect, CHSEL_WRITE of 1 to 40, also of the value held, sets CH to it and the 32 window
words to those of that channel at that instant, and changes nothing else; 0 and every value above 40, as a whole word,
leave the state as it was. At reset CH is 1 and the 32 words are 0. CHSEL reads CH, and the addresses 0x140 to 0x1BC
read the latched words, whatever the channel has done since; reading them changes nothing. (R175) -/
def Obligations.ChselLatchesTheChannelWindow : Prop :=
  (∀ (s : State) (v : Word), s.takesWrite 0x11C = true →
    exec (.chselWrite v) s = .next (
      if 1 ≤ v.toNat ∧ v.toNat ≤ 40 then { s with meas := { s.meas with chsel := v.toNat, window := s.windowOf v.toNat } }
      else s)) ∧
  (State.reset.meas.chsel = 1 ∧ ∀ i, i < 32 → nth State.reset.meas.window i 0 = 0) ∧
  (∀ (s : State) (n : Nat), (s.windowOf n).length = 32) ∧
  (∀ (s : State) (now : Now), (s.readReg 0x11C now).1 = s.meas.chsel ∧ (s.readReg 0x11C now).2 = s) ∧
  (∀ (s : State) (now : Now) (i : Nat), i < 32 →
    (s.readReg (0x140 + 4 * i) now).1 = nth s.meas.window i 0 ∧ (s.readReg (0x140 + 4 * i) now).2 = s)

/-- Where the write takes effect and CHSEL is 1 to 40, CHW_EVENTS_WRITE clears in the live latch of the channel in
CHSEL the bits that the word sets, and in word 2 of the window likewise; CHW_CAPTURE_CTRL_WRITE sets that channel's
register and word 30 of the window to DIR and DECIM as written and to EN only where EN is written, the channel may
export and the host link is SPI. Every other field of that channel, every other channel and everything else is as it
was. (Ultrasonic flow measurement: R212, R216, R166, R464) -/
def Obligations.ChannelEventAndCaptureWrites : Prop :=
  (∀ (s : State) (v : Word), s.takesWrite 0x148 = true → 1 ≤ s.meas.chsel → s.meas.chsel ≤ 40 →
    ∃ t, exec (.chwEventsWrite v) s = .next t ∧
      t.ch s.meas.chsel = { s.ch s.meas.chsel with
        flow := { (s.ch s.meas.chsel).flow with events := (s.ch s.meas.chsel).flow.events &&& ~~~v } } ∧
      t.meas = { s.meas with
        window := updAt s.meas.window 2 fun w => (BitVec.ofNat 32 w &&& ~~~v).toNat } ∧
      OthersSame s.meas.chsel s t ∧ Keeps [.chans, .meas] s t) ∧
  (∀ (s : State) (v : Word), s.takesWrite 0x1B8 = true → 1 ≤ s.meas.chsel → s.meas.chsel ≤ 40 →
    let en := v.toNat % 2 = 1 ∧ s.mayExport s.meas.chsel = true ∧ s.pwr.straps.hostmode = true
    let w := (if en then 1 else 0) + 2 * (v.toNat / 2 % 4) + 16 * (v.toNat / 16 % 16)
    ∃ t, exec (.chwCaptureCtrlWrite v) s = .next t ∧
      t.ch s.meas.chsel = { s.ch s.meas.chsel with flow := { (s.ch s.meas.chsel).flow with capCtrl := w } } ∧
      t.meas = { s.meas with window := updAt s.meas.window 30 fun _ => w } ∧
      OthersSame s.meas.chsel s t ∧ Keeps [.chans, .meas] s t)

/-- For a REG_WRITE or MEM_WRITE frame that passes checks 1 to 5 of R442, outside the register file in the second
case: where a register it reaches may not be written, the answer has status 3, BADWRITE is set where one of them sets
the RTC, and no entry is made; else while the power-fail sequence runs the answer has status 1; else with 16 entries
waiting it has status 1 and WBUF_FULL is raised; else the entry, its address in the internal map and its bytes, is
appended to the buffer and the answer has status 0. Nothing else changes but the instants of the last host frame.
(Host link and register map: R440, R442, R449, R453) -/
def Obligations.PostedWritesWaitInTheWriteBuffer : Prop :=
  (∀ (s : State) (now : Now) (f : HostFrame), s.goodFrame 2 f = true →
    let a := f.addr % 2 ^ 24
    let u := s.heard now
    exec (.regWrite now f) s = .next (
      if (regsOf a f.data.length).any (fun x => !s.mayWrite x) then
        (if (regsOf a f.data.length).any (fun x => !s.mayWrite x && rtcSetReg x) then
          ({ u with rtc := { u.rtc with badWrite := true } } : State) else u).sendResponse 3 []
      else if s.pwr.pfActive then u.sendResponse 1 []
      else if 16 ≤ s.hl.wbuf.length then
        ({ u with hl := { u.hl with status := u.hl.status ||| 0x80000#32 } } : State).sendResponse 1 []
      else ({ u with hl := { u.hl with wbuf := s.hl.wbuf ++ [{ addr := 0x400000 + a, data := f.data }] } } :
        State).sendResponse 0 [])) ∧
  (∀ (s : State) (now : Now) (f : HostFrame), s.goodFrame 4 f = true →
    (f.addr % 2 ^ 24 < 0x400000 ∨ 0x400800 ≤ f.addr % 2 ^ 24) →
    let u := s.heard now
    exec (.memWrite now f) s = .next (
      if s.pwr.pfActive then u.sendResponse 1 []
      else if 16 ≤ s.hl.wbuf.length then
        ({ u with hl := { u.hl with status := u.hl.status ||| 0x80000#32 } } : State).sendResponse 1 []
      else ({ u with hl := { u.hl with wbuf := s.hl.wbuf ++ [{ addr := f.addr % 2 ^ 24, data := f.data }] } } :
        State).sendResponse 0 []))

/-- While the host link is served and no LINK reset waits, WRITE_BUFFER_EXECUTE with an empty buffer changes nothing.
An entry of one word for the register file is taken from the head and written as the register at its address is
written, and a LINK reset that this leaves waiting follows the last entry. An entry for B5 is taken, each of its bytes
is read at its place afterwards, every other byte of SRAM and all of HOARD read as before. An entry for HOST_SCRATCH
stays at the head while records wait in the HOARD queue or the VBAT_NVW inhibit holds; otherwise it is taken, each of
its bytes is read at its place in HOARD, every other byte of HOARD and all of SRAM read as before. Memories in
canonical form stand as the premise, an invariant of the model. (Host link and register map: R448, R449, R11) -/
def Obligations.BufferedWritesExecuteInOrder : Prop :=
  ∀ (s : State) (now : Now), s.hostServed = true → s.linkBusy = false → s.MemOk →
    (s.hl.wbuf = [] → exec (.writeBufferExecute now) s = .next s) ∧
    (∀ e rest, s.hl.wbuf = e :: rest →
      let u : State := { s with hl := { s.hl with wbuf := rest } }
      (0x400000 ≤ e.addr → e.data.length = 4 →
        exec (.writeBufferExecute now) s =
          .next (u.writeReg (State.linkCmd now) (e.addr - 0x400000) (BitVec.ofNat 32 (fieldAt e.data 0 4)) now).linkFinish) ∧
      (0x50000 ≤ e.addr → e.addr < 0x60000 →
        ∃ t, exec (.writeBufferExecute now) s = .next t ∧ t.hl = u.hl ∧ t.mem.hoard = s.mem.hoard ∧
          (∀ i, (h : i < e.data.length) → t.mem.sram.read (e.addr + i) = e.data[i]) ∧
          (∀ x, x < e.addr ∨ e.addr + e.data.length ≤ x → t.mem.sram.read x = s.mem.sram.read x) ∧
          Keeps [.hl, .sram, .marks] s t) ∧
      (0x2F0000 ≤ e.addr → e.addr < 0x300000 →
        (s.mem.queue ≠ [] ∨ s.pwr.nvInhibit = true → exec (.writeBufferExecute now) s = .next s) ∧
        (s.mem.queue = [] → s.pwr.nvInhibit = false →
          ∃ t, exec (.writeBufferExecute now) s = .next t ∧ t.hl = u.hl ∧ t.mem.sram = s.mem.sram ∧
            (∀ i, (h : i < e.data.length) → t.mem.hoard.read (e.addr + i) = e.data[i]) ∧
            (∀ x, x < e.addr ∨ e.addr + e.data.length ≤ x → t.mem.hoard.read x = s.mem.hoard.read x) ∧
            Keeps [.hl, .hoard, .marks] s t)))

/-- For a frame that passes checks 1 to 5 of R442 while the write buffer is empty: REG_READ of one register answers
status 0 and the four bytes of the word it reads, with what that read clears or latches cleared or latched. MEM_READ
inside B5 or inside HOARD below HOST_SCRATCH, where no byte carries an error mark, answers status 0 and the bytes that
are read there one by one, and changes nothing else but the instants of the last host frame. MEM_READ of one register
answers as REG_READ does. (Host link and register map: R440, R442, R447, R450) -/
def Obligations.ReadFramesAnswerWhatIsHeld : Prop :=
  (∀ (s : State) (now : Now) (f : HostFrame), s.goodFrame 1 f = true → s.hl.wbuf = [] → f.len % 65536 = 4 →
    let r := (s.heard now).readReg (f.addr % 2 ^ 24) now
    exec (.regRead now f) s = .next (r.2.sendResponse 0 (le 4 r.1))) ∧
  (∀ (s : State) (now : Now) (f : HostFrame), s.goodFrame 3 f = true → s.hl.wbuf = [] →
    let a := f.addr % 2 ^ 24
    let n := f.len % 65536
    (0x400000 ≤ a → a < 0x400800 → n = 4 →
      let r := (s.heard now).readReg (a - 0x400000) now
      exec (.memRead now f) s = .next (r.2.sendResponse 0 (le 4 r.1))) ∧
    (0x50000 ≤ a → a + n ≤ 0x60000 → s.mem.soft = [] → s.mem.bad = [] → s.mem.parity = [] →
      exec (.memRead now f) s =
        .next ((s.heard now).sendResponse 0 ((List.range n).map fun i => s.mem.sram.read (a + i)))) ∧
    (0x100000 ≤ a → a + n ≤ 0x2F0000 → s.mem.soft = [] → s.mem.bad = [] → s.mem.parity = [] →
      exec (.memRead now f) s =
        .next ((s.heard now).sendResponse 0 ((List.range n).map fun i => s.mem.hoard.read (a + i)))))

/-- For a frame of any of the four commands that names the module, in Run with the host link served, no LINK reset
waiting and the data that LEN implies: with a wrong CRC the answer has status 0x11 and the CRC count rises by 1 up to
65,535; with the right CRC and an HDR bit 0 that does not fit or an ADDR or LEN outside R439 the answer has status 4
and the count of malformed frames rises by 1 up to 255. Nothing else changes but the instants of the last host frame.
HOST_FRAME_ABORT on the SPI link and UART_GAP_ABORT of more than 2 ms on the UART link raise the count of aborted
frames by 1 up to 255 and change nothing else. (Host link and register map: R442, R443, R463, R472) -/
def Obligations.DiscardedFramesAreOnlyCounted : Prop :=
  (∀ (s : State) (now : Now) (f : HostFrame) (cmd : Nat) (c : Instr),
    (cmd, c) ∈ [(1, Instr.regRead now f), (2, Instr.regWrite now f), (3, Instr.memRead now f), (4, Instr.memWrite now f)] →
    s.namesModule f.hdr = true → s.hostServed = true → s.linkBusy = false → f.unknown = none → f.data.length = frameDataLen cmd f →
    (le 2 f.crc.toNat ≠ hostCrc (s.crcBytes cmd f f.data) →
      exec c s = .next (({ s with
        pwr := { s.pwr with lastHostMs := now.ms },
        hl := { s.hl with crcErr := min 65535 (s.hl.crcErr + 1) } } : State).sendResponse 0x11 [])) ∧
    (le 2 f.crc.toNat = hostCrc (s.crcBytes cmd f f.data) → s.goodFrame cmd f = false →
      exec c s = .next (({ s with
        pwr := { s.pwr with lastHostMs := now.ms },
        hl := { s.hl with goodMs := now.ms, malformed := min 255 (s.hl.malformed + 1) } } : State).sendResponse 4 []))) ∧
  (∀ s : State, s.hostServed = true →
    exec .hostFrameAbort s = .next (if s.pwr.straps.hostmode then
      { s with hl := { s.hl with aborted := min 255 (s.hl.aborted + 1) } } else s) ∧
    ∀ gapUs, exec (.uartGapAbort gapUs) s = .next (if s.pwr.straps.hostmode = true ∨ gapUs ≤ 2000 then s else
      { s with hl := { s.hl with aborted := min 255 (s.hl.aborted + 1) } }))

/-- Where the write takes effect, REGISTER_WRITE to MOD_EVENTS, PWR_EVENTS, DMA_EVENTS, DMA_ERR_STATUS, DSP_EVENTS,
RAD_EVENTS, MIR_EVENTS, FLT_EVENTS, TAMPER_EVENTS or HL_STATUS clears exactly the bits written as 1 in that event
latch; to MOD_EVENT_EN sets bits [9:0] and [19:16] to the bits written and the rest to 0; to DMA_EVENT_EN sets bits
[16:0] and [23:20]; to MOD_CMD_ARG sets the argument. A write to an address that no register occupies, or to one of
ten registers without a writable field, changes nothing. Nothing else changes in any of these. (Scope and overview:
R8, R11, Host link and register map: R453, R468, R475) -/
def Obligations.RegisterWritesClearSetOrAreIgnored : Prop :=
  ∀ (s : State) (now : Now) (v : Word),
    (s.takesWrite 0x018 = true → exec (.registerWrite now 0x018 v) s = .next { s with hl := { s.hl with events := s.hl.events &&& ~~~v } }) ∧
    (s.takesWrite 0x01C = true → exec (.registerWrite now 0x01C v) s = .next { s with hl := { s.hl with eventEn := v &&& 0xF03FF#32 } }) ∧
    (s.takesWrite 0x028 = true → exec (.registerWrite now 0x028 v) s = .next { s with hl := { s.hl with arg := v.toNat } }) ∧
    (s.takesWrite 0x090 = true → exec (.registerWrite now 0x090 v) s = .next { s with pwr := { s.pwr with events := s.pwr.events &&& ~~~v } }) ∧
    (s.takesWrite 0x204 = true → exec (.registerWrite now 0x204 v) s = .next { s with dma := { s.dma with events := s.dma.events &&& ~~~v } }) ∧
    (s.takesWrite 0x208 = true → exec (.registerWrite now 0x208 v) s = .next { s with dma := { s.dma with errBits := s.dma.errBits &&& ~~~v } }) ∧
    (s.takesWrite 0x214 = true → exec (.registerWrite now 0x214 v) s = .next { s with dma := { s.dma with eventEn := v &&& 0xF1FFFF#32 } }) ∧
    (s.takesWrite 0x284 = true → exec (.registerWrite now 0x284 v) s = .next { s with disp := { s.disp with events := s.disp.events &&& ~~~v } }) ∧
    (s.takesWrite 0x2C4 = true → exec (.registerWrite now 0x2C4 v) s = .next { s with radio := { s.radio with events := s.radio.events &&& ~~~v } }) ∧
    (s.takesWrite 0x304 = true → exec (.registerWrite now 0x304 v) s = .next { s with pair := { s.pair with events := s.pair.events &&& ~~~v } }) ∧
    (s.takesWrite 0x344 = true → exec (.registerWrite now 0x344 v) s = .next { s with flt := { s.flt with events := s.flt.events &&& ~~~v } }) ∧
    (s.takesWrite 0x360 = true → exec (.registerWrite now 0x360 v) s = .next { s with tamper := { s.tamper with events := s.tamper.events &&& ~~~v } }) ∧
    (s.takesWrite 0x384 = true → exec (.registerWrite now 0x384 v) s = .next { s with hl := { s.hl with status := s.hl.status &&& ~~~v } }) ∧
    (∀ a ∈ [0x000, 0x010, 0x02C, 0x030, 0x080, 0x100, 0x2C0, 0x300, 0x340, 0x394, 0x03C, 0x054, 0x0E0, 0x260, 0x7FC],
      s.takesWrite a = true → exec (.registerWrite now a v) s = .next s)

/-- Where the write takes effect: HL_DOORBELL latches event 32 + k for every bit k of 0 to 3 that it sets, in each of
DC12 to DC15 that runs, and changes nothing else; DC0 to DC11 keep every latch. CREDIT_RETURN on the SPI link raises
the credit count by the low byte written to at most 42 and raises CREDIT_OVF where the sum is above 42; on the UART
link it is ignored; nothing else changes. (Host link and register map: R451, R461, R473, DMA engine: R486) -/
def Obligations.DoorbellsRaiseEventsAndCreditsSaturate : Prop :=
  (∀ (s : State) (v : Word), s.takesWrite 0x38C = true →
    ∃ t, exec (.hlDoorbell v) s = .next t ∧
      t.dma = { s.dma with chs := t.dma.chs } ∧
      (∀ k, k < 16 → t.dc k = if (s.dc k).run = true ∧ 12 ≤ k
        then { s.dc k with latches := (s.dc k).latches ||| (v.toNat % 16 * 2 ^ 32) } else s.dc k) ∧
      Keeps [.dma] s t) ∧
  (∀ (s : State) (v : Word), s.takesWrite 0x390 = true →
    exec (.creditReturn v) s = .next (
      if s.pwr.straps.hostmode = false then s
      else { s with hl := { s.hl with
        credit := min 42 (s.hl.credit + v.toNat % 256),
        status := if 42 < s.hl.credit + v.toNat % 256 then s.hl.status ||| 0x100000#32 else s.hl.status } }))

/-- Where the write takes effect: CHAL without LOCKED_OUT and with a service key writes the AES-128 encryption under
the module unique key of the text ETYN, the RTC count, MEAS_TICK and the challenge count at 0x05_FFE0, keeps it with
the instant as the pending challenge and counts it; with LOCKED_OUT or without a service key it raises AUTH_FAIL only.
UNLOCK with a pending challenge at most 60 s old and the AES-CMAC under the service key over the text ETYS, the serial
and the challenge at 0x05_FFF0 sets SERVICE and FAILS 0 and raises UNLOCKED; otherwise FAILS rises to at most 3,
LOCKED_OUT holds at 3 for 60 s, and AUTH_FAIL is raised, with the level as it was; the challenge goes in both cases.
LOCK ends SERVICE. SERVICE_IDLE_RELOCK after SVC_IDLE seconds without a good frame ends SERVICE and raises RELOCKED;
earlier it changes nothing. LOCKOUT_END once that time is over clears LOCKED_OUT and FAILS. (Host link and register
map: R454, R455, Configuration card, image format and commissioning: R130) -/
def Obligations.ServiceIsUnlockedByTheTagOnly : Prop :=
  (∀ (s : State) (now : Now), s.takesWrite 0x380 = true →
    (s.hl.lockedOut = true ∨ s.serviceKey = none →
      exec (.chal now) s = .next { s with hl := { s.hl with status := s.hl.status ||| 0x20000#32 } }) ∧
    (s.hl.lockedOut = false → s.serviceKey ≠ none →
      let c := aesEncrypt s.otp.uniqueKey
        (ascii ['E', 'T', 'Y', 'N'] ++ le 5 s.rtc.count ++ le 4 s.meas.tick ++ le 3 s.hl.chalCount)
      ∃ t, exec (.chal now) s = .next t ∧
        t.hl = { s.hl with challenge := some (c, now.ms), chalCount := (s.hl.chalCount + 1) % 2 ^ 24 } ∧
        t.mem.sram = s.mem.sram.writeBytes 0x5FFE0 c ∧
        Keeps [.hl, .sram, .marks] s t)) ∧
  (∀ (s : State) (now : Now), s.takesWrite 0x380 = true →
    let ok := ∃ c t0 key, s.hl.challenge = some (c, t0) ∧ s.serviceKey = some key ∧ now.ms ≤ t0 + 60000 ∧
      s.mem.sram.readBytes 0x5FFF0 16 = cmac key (ascii ['E', 'T', 'Y', 'S'] ++ le 8 s.otp.serial ++ c)
    (ok → exec (.unlock now) s = .next { s with hl := { s.hl with
      challenge := none, service := true, fails := 0, goodMs := now.ms, status := s.hl.status ||| 0x10000#32 } }) ∧
    (¬ ok → exec (.unlock now) s = .next { s with hl := { s.hl with
      challenge := none, fails := min 3 (s.hl.fails + 1),
      lockedOut := s.hl.lockedOut || decide (3 ≤ s.hl.fails + 1), status := s.hl.status ||| 0x20000#32,
      lockUntil := if s.hl.lockedOut = false ∧ 3 ≤ s.hl.fails + 1 then now.ms + 60000 else s.hl.lockUntil } })) ∧
  (∀ s : State, s.takesWrite 0x380 = true → exec .lock s = .next { s with hl := { s.hl with service := false } }) ∧
  (∀ (s : State) (now : Now), s.hl.service = true →
    exec (.serviceIdleRelock now) s = .next (
      if s.hl.goodMs + 1000 * s.svcIdle ≤ now.ms then
        { s with hl := { s.hl with service := false, status := s.hl.status ||| 0x40000#32 } } else s)) ∧
  (∀ (s : State) (now : Now), s.hl.lockedOut = true →
    exec (.lockoutEnd now) s = .next (
      if s.hl.lockUntil ≤ now.ms then { s with hl := { s.hl with lockedOut := false, fails := 0 } } else s))

/-- With an empty write buffer, the host link served and no LINK reset waiting, LINK_RESET as a new command while none
runs, PROTOCOL_RESET with the module's address and at least six 0xFF bytes on the SPI link, and UART_BREAK of at least
10 ms on the UART link answer a state in which: the host link is as at reset but for FAILS, LOCKED_OUT with its end
and the challenge count; RESET_CAUSE has bit 16 set by the command and bit 17 by the others; every W1C event register,
the event window and every RC counter of the other units is 0, and the event latch of every channel; HALT and both
pending writes are gone and the count stands; DC12 to DC15 have no staged or armed set and are stopped or asked to
stop; DC4 to DC11 are as they were; each channel, the sequencer, the accepted image, the pulse outputs, the bridge,
the counters, HOARD and its queue, SRAM and the log are as they were in everything else. With a HOST_SCRATCH write at
the head of the buffer that waits for the HOARD controller, UART_BREAK only marks the reset as waiting, and the
WRITE_BUFFER_EXECUTE that carries out the last such write makes it (log entry 121). (Clocks, power states and wake:
R98, R103, Host link and register map: R445, R449, R454, R461, R464, R469, Real-time clock: R342) -/
def Obligations.LinkResetLeavesMetrologyAlone : Prop :=
  let after (s t : State) (bit : Nat) : Prop :=
    t.hl = { HostLink.reset with
      fails := s.hl.fails, lockedOut := s.hl.lockedOut, lockUntil := s.hl.lockUntil, chalCount := s.hl.chalCount } ∧
    t.pwr.cause = s.pwr.cause ||| 2 ^ bit ∧ t.pwr.events = 0#32 ∧ t.pwr.mode = s.pwr.mode ∧ t.pwr.state = s.pwr.state ∧
    t.rtc.count = s.rtc.count ∧ t.rtc.halt = false ∧
    t.rtc.badWrite = false ∧ t.rtc.slewRefused = false ∧ t.rtc.autoRelease = false ∧ t.rtc.stepped = false ∧
    t.meas = { s.meas with overrun := 0, window := updAt s.meas.window 2 fun _ => 0 } ∧
    t.radio = { s.radio with
      events := 0#32, rejected := 0, discarded := 0, frames := 0, crcErr := 0, dropped := 0 } ∧
    t.sess = { s.sess with evictions := 0, dups := 0, busy := 0, authFail := 0, replays := 0 } ∧
    t.alc = { s.alc with refused := 0 } ∧ t.mbus = { s.mbus with frameErr := 0, answered := 0 } ∧
    t.pair = { s.pair with events := 0#32, crcErrors := 0, resends := 0, resendFail := 0 } ∧
    t.flt = { s.flt with
      events := 0#32, corr := 0, corrScrub := 0, uncorr := 0, parCount := 0, parBanks := 0, dmrCount := 0, dmrCh := 0,
      dmrWord := 0 } ∧
    t.tamper = { s.tamper with events := 0#32 } ∧ t.disp = { s.disp with events := 0#32 } ∧
    t.dma.events = 0#32 ∧ t.dma.errBits = 0#32 ∧ t.dma.eventEn = 0#32 ∧
    (∀ k, 4 ≤ k → k < 12 → t.dc k = s.dc k) ∧
    (∀ k, 12 ≤ k → k < 16 → (t.dc k).armed = none ∧ (t.dc k).stagePc = 0 ∧ (t.dc k).stagePrio = 0 ∧
      ((t.dc k).run = true → (t.dc k).stop = true)) ∧
    (∀ n, 1 ≤ n → n ≤ 40 → t.ch n = { s.ch n with flow := { (s.ch n).flow with events := 0#32 } }) ∧
    Keeps [.hl, .pwr, .rtc, .meas, .radio, .sess, .alc, .mbus, .pair, .flt, .tamper, .disp, .dma, .chans] s t
  (∀ (s : State) (now : Now), s.hostServed = true → s.hl.wbuf = [] → s.linkBusy = false →
    (∀ tag arg, s.hl.running = false → s.hl.taken ≠ some (4, tag % 256) →
      ∃ t, exec (.linkReset now tag arg) s = .next t ∧ after s t 16) ∧
    (∀ hdr n, s.pwr.straps.hostmode = true → s.namesModule hdr = true → 6 ≤ n →
      ∃ t, exec (.protocolReset now hdr n) s = .next t ∧ after s t 17) ∧
    (∀ ms, s.pwr.straps.hostmode = false → 10 ≤ ms → ∃ t, exec (.uartBreak now ms) s = .next t ∧ after s t 17)) ∧
  (∀ (s : State) (now : Now) (e : PostedWrite) (rest : List PostedWrite), s.hostServed = true → s.hl.wbuf = e :: rest →
    0x2F0000 ≤ e.addr → e.addr < 0x300000 → e.addr + e.data.length ≤ 0x300000 →
    (∀ ms, s.pwr.straps.hostmode = false → 10 ≤ ms → s.mem.queue ≠ [] ∨ s.pwr.nvInhibit = true →
      exec (.uartBreak now ms) s = .next { s with hl := { s.hl with linkDue := s.hl.linkDue ||| 2 ^ 17 } }) ∧
    (rest = [] → s.linkBusy = true → s.mem.queue = [] → s.pwr.nvInhibit = false →
      ∃ t, exec (.writeBufferExecute now) s = .next t ∧ t.hl.wbuf = [] ∧ t.linkBusy = false ∧ t.hl.service = false ∧
        t.hl.taken = none ∧ t.pwr.cause = s.pwr.cause ||| s.hl.linkDue ∧ t.rtc.halt = false ∧ t.pwr.events = 0#32 ∧
        t.mem.hoard = (s.scratchWrite e.addr e.data).mem.hoard ∧ t.outs = s.outs ∧ t.bridge = s.bridge))

/-- For the eight command rows other than LINK_RESET, with their codes, while the host link is served and no LINK
reset waits (while one waits, the row changes nothing): a code and tag equal to those of the last command taken set
DUPLICATE, and CMD_DONE where none runs; any other while one runs sets DISCARDED; otherwise the command is taken, and
while the power-fail sequence runs its result is 1, else in HOLD 2, else at OBSERVE on a commissioned module 3, else
with an argument that is not 0, where the command takes none, 4, with CMD_DONE raised and RUNNING 0. In all of these
the argument register holds the argument and nothing else changes. (Host link and register map: R456, R457, R469) -/
def Obligations.HostCommandsAreDecidedOnce : Prop :=
  ∀ (s : State) (now : Now) (code tag arg : Nat) (c : Instr),
    (code, c) ∈ [(1, Instr.commission now tag arg), (2, Instr.enterShipping now tag arg), (3, Instr.warmReset now tag arg),
      (5, Instr.startZeroCal now tag arg), (6, Instr.enterTest now tag arg), (7, Instr.exitTest now tag arg),
      (8, Instr.displayFullRefresh now tag arg), (9, Instr.plannedSwitchover now tag arg)] →
    s.hostServed = true → arg < 2 ^ 32 → tag < 256 → (s.linkBusy = true → exec c s = .next s) ∧ (s.linkBusy = false →
    let refusal (r : Nat) : State := { s with hl := { s.hl with
      arg := arg, taken := some (code, tag), result := r, running := false, events := s.hl.events ||| 0x10000#32 } }
    (s.hl.taken = some (code, tag) →
      exec c s = .next { s with hl := { s.hl with
        arg := arg, duplicate := true,
        events := if s.hl.running then s.hl.events else s.hl.events ||| 0x10000#32 } }) ∧
    (s.hl.taken ≠ some (code, tag) → s.hl.running = true →
      exec c s = .next { s with hl := { s.hl with arg := arg, discarded := true } }) ∧
    (s.hl.taken ≠ some (code, tag) → s.hl.running = false →
      (s.pwr.pfActive = true → exec c s = .next (refusal 1)) ∧
      (s.pwr.pfActive = false → s.pwr.mode = .hold → exec c s = .next (refusal 2)) ∧
      (s.pwr.pfActive = false → s.deepMode = false → s.serviceHeld = false → exec c s = .next (refusal 3)) ∧
      (s.pwr.pfActive = false → s.deepMode = false → s.serviceHeld = true → code ≠ 5 → arg ≠ 0 →
        exec c s = .next (refusal 4))))

/-- For a new command with argument 0 that R457 does not refuse: ENTER_TEST on an active member without TEST, in
NORMAL or in UNCONFIGURED before commissioning with ticks running, sets TEST, result 0 and the MODE event; anywhere
else its result is 2 and TEST stands. EXIT_TEST without TEST has result 2; with TEST while a zero calibration runs
result 1; otherwise it clears TEST with result 0 and the MODE event. TEST_TIMEOUT under TEST, 4 h or more after its
entry, clears TEST with the MODE event, or while a zero calibration runs marks TEST to end with it; earlier, or
without TEST, it changes nothing. Nothing else changes. (Host link and register map: R458, R459, R468) -/
def Obligations.TestIsEnteredAndLeft : Prop :=
  let done (s : State) (code tag result events : Nat) : HostLink := { s.hl with
    arg := 0, taken := some (code, tag), result := result, running := false,
    events := s.hl.events ||| BitVec.ofNat 32 events }
  (∀ (s : State) (now : Now) (tag : Nat), s.hostServed = true → s.linkBusy = false → tag < 256 → s.hl.running = false →
    s.pwr.pfActive = false → s.deepMode = false → s.serviceHeld = true →
    (s.hl.taken ≠ some (6, tag) →
      let allowed := s.meas.test = false ∧ s.active = true ∧
        (s.normal = true ∨ (s.running = true ∧ s.pwr.mode = .unconfigured ∧ s.img.module_.commissioned = false))
      (allowed → exec (.enterTest now tag 0) s = .next { s with
        meas := { s.meas with test := true, testTick := s.meas.tick, testOver := false }, hl := done s 6 tag 0 0x30000 }) ∧
      (¬ allowed → exec (.enterTest now tag 0) s = .next { s with hl := done s 6 tag 2 0x10000 })) ∧
    (s.hl.taken ≠ some (7, tag) →
      (s.meas.test = false → exec (.exitTest now tag 0) s = .next { s with hl := done s 7 tag 2 0x10000 }) ∧
      (s.meas.test = true → s.meas.calPhase ≠ 0 →
        exec (.exitTest now tag 0) s = .next { s with hl := done s 7 tag 1 0x10000 }) ∧
      (s.meas.test = true → s.meas.calPhase = 0 → exec (.exitTest now tag 0) s = .next { s with
        meas := { s.meas with test := false, testOver := false }, hl := done s 7 tag 0 0x30000 }))) ∧
  (∀ s : State, s.meas.test = false ∨ s.meas.tick < s.meas.testTick + 57600 → exec .testTimeout s = .next s) ∧
  (∀ s : State, s.meas.test = true → s.meas.testTick + 57600 ≤ s.meas.tick →
    exec .testTimeout s = .next (
      if s.meas.calPhase = 0 then { s with
        meas := { s.meas with test := false }, hl := { s.hl with events := s.hl.events ||| 0x20000#32 } }
      else { s with meas := { s.meas with testOver := true } }))

/-- For a command that is taken and that R457 does not refuse. ENTER_SHIPPING on a commissioned module is answered 2;
else 0, the entry to Off begins, no telegram waits, the radio is silent and no display request is held. START_ZERO_CAL
with a channel above 40, a duration other than 0 and 30 to 600 or a bit above 23 set is answered 4; without an
accepted image, on a commissioned module without TEST or on a STANDBY 2; for an OFF channel 4; while a run is under
way 1; else 0 and the run of the channel, or of every channel that is not OFF, waits for the next tick with its
duration, 0 meaning 120 s. DISPLAY_FULL_REFRESH without a panel or where the display is not driven is answered 2, else
0, and with the rails on a full refresh is held or accepted. PLANNED_SWITCHOVER is answered 0, and the switchover is
pending, where R557 allows it, else 2. A refused command changes nothing but its answer. (Clocks, power states and
wake: R80, R82, Configuration card, image format and commissioning: R145, R149, Host link and register map: R456,
R458, Redundant pair and state mirroring: R557, R558) -/
def Obligations.ShippingCalibrationRefreshAndSwitchoverCommands : Prop :=
  (∀ (s : State) (now : Now) (tag : Nat), s.takesCommand 2 tag 0 = true →
    (s.img.module_.commissioned = true →
      exec (.enterShipping now tag 0) s = .next { s with hl := s.hl.answered 2 tag 0 2 }) ∧
    (s.img.module_.commissioned = false →
      ∃ t, exec (.enterShipping now tag 0) s = .next t ∧ t.pwr = { s.pwr with shipping := true } ∧
        t.hl = s.hl.answered 2 tag 0 0 ∧ t.radio.queue = [] ∧ t.radio.window = none ∧ t.mbus.selected = none ∧
        t.disp.held = [] ∧ t.rtc = s.rtc ∧ t.chans = s.chans)) ∧
  (∀ (s : State) (now : Now) (tag arg : Nat), s.takesCommand 5 tag arg = true →
    let ch := arg % 256
    let dur := arg / 256 % 65536
    let result : Nat :=
      if 2 ^ 24 ≤ arg ∨ 40 < ch ∨ (dur ≠ 0 ∧ (dur < 30 ∨ 600 < dur)) then 4
      else if s.img.accepted = false ∨ (s.img.module_.commissioned = true ∧ s.meas.test = false) ∨
        (if s.img.module_.commissioned then s.active = false else s.pwr.strapRole = 2) then 2
      else if ch ≠ 0 ∧ (s.cfg ch).type = .off then 4
      else if s.meas.calPhase ≠ 0 then 1
      else 0
    exec (.startZeroCal now tag arg) s = .next { s with
      hl := s.hl.answered 5 tag arg result
      meas := if result = 0 then { s.meas with
          calChans := if ch = 0 then s.activeCh else [ch], calPhase := 1, calDur := if dur = 0 then 120 else dur,
          calTick := none }
        else s.meas }) ∧
  (∀ (s : State) (now : Now) (tag : Nat), s.takesCommand 8 tag 0 = true →
    ∃ t, exec (.displayFullRefresh now tag 0) s = .next t ∧ t.pwr = s.pwr ∧ t.meas = s.meas ∧ t.chans = s.chans ∧
      t.hl = s.hl.answered 8 tag 0 (if s.dispCfg.isSome && s.dispNormal then 0 else 2) ∧
      ((s.dispCfg.isSome && s.dispNormal) = false → t.disp = s.disp) ∧
      ((s.dispCfg.isSome && s.dispNormal) = true → s.disp.railsOn = true →
        ∃ u ∈ t.disp.held ++ t.disp.updates, u.isRefresh = true)) ∧
  (∀ (s : State) (now : Now) (tag : Nat), s.takesCommand 9 tag 0 = true →
    exec (.plannedSwitchover now tag 0) s = .next (
      if s.paired = true ∧ s.active = true ∧ s.normal = true ∧ s.meas.test = false ∧ s.meas.calPhase = 0 ∧
        s.pair.switching = false ∧ s.pair.phase = 3 ∧ s.pair.ready = true ∧ s.pair.peerVbus = true then
        { s with hl := s.hl.answered 9 tag 0 0
                 pair := { s.pair with switching := true, handTick := none, switchAt := now.ms } }
      else { s with hl := s.hl.answered 9 tag 0 2 }))

/-- For a COMMISSION that is taken and that R457 does not refuse: where the conditions of R147 and R559 do not hold it
is answered 2, and 1 while an earlier one still runs, with nothing else changed. Where they hold, no result is set,
PARAM_CHANGE_COUNT is 0, the commission time is the present time, the module is not yet commissioned, and on every
channel both datapaths hold the same cleared totals, of tariff 1 and with FLAGS bit 7 alone. COMMISSION_COMPLETE, when
writes to HOARD can land, leaves the HOARD queue empty and the module commissioned, and sets the result 0 with
CMD_DONE where the command still runs. (Configuration card, image format and commissioning: R138, R147, R148, Billing
registers and tariffs: R291, Redundant pair and state mirroring: R559) -/
def Obligations.CommissionClearsAndCommissions : Prop :=
  (∀ (s : State) (now : Now) (tag : Nat), s.takesCommand 1 tag 0 = true →
    (s.img.commissioning = true → s.img.module_.commissioned = false →
      exec (.commission now tag 0) s = .next { s with hl := s.hl.answered 1 tag 0 1 }) ∧
    ((s.img.commissioning = false ∨ s.img.module_.commissioned = true) → s.mayCommission now.ms = false →
      exec (.commission now tag 0) s = .next { s with hl := s.hl.answered 1 tag 0 2 }) ∧
    (s.img.commissioning = false → s.mayCommission now.ms = true →
      ∃ t, exec (.commission now tag 0) s = .next t ∧ t.hl.running = true ∧ t.hl.taken = some (1, tag) ∧
        t.hl.result = s.hl.result ∧ t.img.commissioning = true ∧ t.img.module_.commissioned = false ∧
        t.img.module_.pcc = 0 ∧ t.img.module_.commissionTime = s.rtc.count ∧ t.rtc = s.rtc ∧ t.pwr = s.pwr ∧
        ∀ n, 1 ≤ n → n ≤ 40 →
          let w := (t.ch n).a
          (t.ch n).b = w ∧ w.eHeat = 0 ∧ w.eCool = 0 ∧ w.vFwd = 0 ∧ w.vRev = 0 ∧ w.eSubst = 0 ∧ w.vSubst = 0 ∧ w.eGas = 0 ∧
          w.vBase = 0 ∧ w.tariff = 1 ∧ w.flags = 128 ∧ w.bill = .zero ∧ w.valve = .zero ∧ w.thetaS = none ∧ w.thetaR = none)) ∧
  (∀ (s : State) (ms : Nat), s.mayCommission ms = true →
    s.img.module_.commissioned = false ∧ s.img.accepted = true ∧ s.pwr.strapRole ≠ 2 ∧ s.rtc.osf = false ∧
      s.meas.calPhase = 0 ∧
      ∀ n ∈ s.activeCh, ∃ k, (s.ch n).flow.cal = some k ∧ k.imgSeq = s.img.module_.acceptedSeq) ∧
  (∀ (s : State) (now : Now), s.powered = true → s.img.commissioning = true → s.img.module_.commissioned = false →
    s.canLand = true →
    ∃ t, exec (.commissionComplete now) s = .next t ∧ t.mem.queue = [] ∧ t.img.module_.commissioned = true ∧
      t.hl = (if s.hl.running = true then
        { s.hl with result := 0, running := false, events := s.hl.events ||| 0x10000#32 } else s.hl) ∧
      t.pwr = s.pwr ∧ t.chans = s.chans)

/-- In phase 1, from 8 ticks after its first tick, ZERO_CAL_PHASE begins phase 2, and each channel of the run holds a
T_ELEC that the spec leaves open; in phase 2, from 72 ticks after it, it begins phase 3, and each channel's template
is the average of its captures scaled to 16,384. In phase 3, once the duration has passed, ZERO_CAL_END gives each
channel of the run the CAL_RESULT of its gathered values, ends the run, ends a TEST whose time has run out, and on a
commissioned module raises PARAM_CHANGE_COUNT by 1; other channels are as they were. The result is 2 for a mean
quality below 0.949, and 1 only where quality, SNR, stability, offset and span all meet their limits. (Ultrasonic flow
measurement: R195, R196, R197, Configuration card, image format and commissioning: R138, Host link and register map:
R459) -/
def Obligations.ZeroCalibrationRunsInItsPhases : Prop :=
  (∀ (s : State) (t0 : Nat), s.meas.calTick = some t0 → (∀ n ∈ s.meas.calChans, 1 ≤ n ∧ n ≤ 40) →
    (s.meas.calPhase = 1 → t0 + 8 ≤ s.meas.tick →
      ∃ t, exec .zeroCalPhase s = .next t ∧ t.meas = { s.meas with calPhase := 2 } ∧
        (∀ n ∈ s.meas.calChans, ∃ k, (t.ch n).zcal.tElec = (Config.loopbackDelay k).toNat) ∧ Keeps [.meas, .chans, .free] s t) ∧
    (s.meas.calPhase = 2 → t0 + 72 ≤ s.meas.tick →
      ∃ t, exec .zeroCalPhase s = .next t ∧ t.meas = { s.meas with calPhase := 3 } ∧
        (∀ n ∈ s.meas.calChans, (t.ch n).zcal.template =
          if (s.ch n).zcal.capN = 0 then [] else scaleTaps 16384 (padTaps (s.ch n).zcal.capSum)) ∧ Keeps [.meas, .chans] s t)) ∧
  (∀ (s : State) (now : Now) (t0 : Nat), s.meas.calTick = some t0 → (∀ n ∈ s.meas.calChans, 1 ≤ n ∧ n ≤ 40) →
    s.meas.calChans.Nodup → s.meas.calPhase = 3 → t0 + 4 * s.meas.calDur ≤ s.meas.tick →
    ∃ t, exec (.zeroCalEnd now) s = .next t ∧
      t.meas = { s.meas with
        calChans := [], calPhase := 0, calTick := none, test := s.meas.test && !s.meas.testOver, testOver := false } ∧
      (∀ n ∈ s.meas.calChans, (t.ch n).flow.calResult = (s.ch n).zcal.judge ∧ (t.ch n).zcal = .reset) ∧
      (∀ n, 1 ≤ n → n ≤ 40 → n ∉ s.meas.calChans → t.ch n = s.ch n) ∧
      t.img.module_.pcc = (if s.img.module_.commissioned then s.img.module_.pcc + 1 else s.img.module_.pcc)) ∧
  (∀ z : ZeroCal,
    (255 * z.sumRho < 242 * 65536 * z.shots → z.judge = 2) ∧
    (z.judge = 1 → 0 < z.shots ∧ 242 * 65536 * z.shots ≤ 255 * z.sumRho ∧ 30 * z.shots ≤ z.sumSnr ∧
      z.n1 ≠ 0 ∧ z.n2 ≠ 0 ∧ -(50 / 1000 : Rat) ≤ z.meanDt ∧ z.meanDt ≤ 50 / 1000 ∧ spanWidth z.vmin z.vmax ≤ 5000))

/-- For a powered module that is fed from VBUS with no power-fail sequence running, VBUS_FAIL and VBUS_OV begin the
sequence: PF_ACTIVE 1 with step 2, or 3 where the panel's rails are off (the model's choice of log entry 150), the
mode as it was, PWR_EVENTS bit 0 set, the store taken as faulted where STORE_RDY is below 26 V, the valve bridge idle,
HALT released with nothing written, the telegram queue empty, and no pair in progress on any channel. While the
sequence runs, and on the cell with no return of VBUS under way, they record the loss and change nothing outside the
supply group. (Supply, backup cell and hold-up: R43, R46, R51, R52, R57, Real-time clock: R342) -/
def Obligations.VbusLossStartsThePowerFailSequence : Prop :=
  ∀ (s : State) (now : Now) (sup : Supplies) (c : Instr), c ∈ [Instr.vbusFail now sup, .vbusOv now sup] → s.powered = true →
    (s.pwr.pfActive = false → s.pwr.onCell = false →
      ∃ t, exec c s = .next t ∧ t.pwr.vbusOk = false ∧ t.pwr.pfActive = true ∧
        t.pwr.pfStep = (if s.disp.railsOn || s.disp.ramping then 2 else 3) ∧ t.pwr.pfCommit = false ∧
        t.pwr.pfStoreBad = decide (sup.store < 26000) ∧ t.pwr.mode = s.pwr.mode ∧ t.pwr.events.getLsbD 0 = true ∧
        t.bridge.moving = none ∧ t.rtc = { s.rtc with halt := false, pendDate := none, pendTime := none } ∧
        t.radio.queue = [] ∧ t.radio.window = none ∧
        ∀ n, 1 ≤ n → n ≤ 40 → (t.ch n).flow.first = none ∧ (t.ch n).temp.supConv = none) ∧
    (s.pwr.pfActive = true →
      ∃ t, exec c s = .next t ∧ t.pwr.vbusOk = false ∧ t.pwr.pfActive = true ∧ t.pwr.pfStep = s.pwr.pfStep ∧
        t.pwr.mode = s.pwr.mode ∧ Keeps [.pwr] s t) ∧
    (s.pwr.pfActive = false → s.pwr.onCell = true → s.pwr.holdReturn = false →
      ∃ t, exec c s = .next t ∧ t.pwr.vbusOk = false ∧ t.pwr.mode = s.pwr.mode ∧ t.pwr.state = s.pwr.state ∧
        Keeps [.pwr] s t)

/-- While the power-fail sequence runs and its final commit is not made, PF_FINAL_COMMIT makes it once steps 1 to 3
have ended (no frame on the air, the panel dark), or with the store faulted from 1 ms after t0: the supply group
records it, with step 3 or, with the store faulted, the step it had, and nothing else of it changes; before, it
changes nothing. When it is made and can land, PF_COMMIT_LANDED with a usable cell clears PF_ACTIVE with step 6, feeds
the module from the cell and goes from NORMAL to HOLD where the running module's cell is below VBAT_WARN and to BACKUP
otherwise; an UNCONFIGURED module stays so. Without a usable cell only step 5 is reached. On a SOLO module in NORMAL
on which no channel has a step to close and none is held, the final commit hands every channel that is not OFF to the
HOARD queue. (Supply, backup cell and hold-up: R51, R52, R53, R57, R62) -/
def Obligations.PowerFailSequenceCommitsAndSwitches : Prop :=
  let ended (now : Now) (s : State) : Prop :=
    if s.pwr.pfStoreBad then s.pwr.pfAt + 9600 ≤ s.grid now.cyc else s.radio.txEnd ≤ now.ms ∧ s.disp.darkAt ≤ now.ms
  (∀ (s : State) (now : Now) (upsets : List (Nat × Upset)), s.pwr.pfActive = true → s.pwr.pfCommit = false →
    ¬ ended now s → exec (.pfFinalCommit now upsets) s = .next s) ∧
  (∀ (s : State) (now : Now) (upsets : List (Nat × Upset)), s.pwr.pfActive = true → s.pwr.pfCommit = false →
    ended now s →
    ∃ t, exec (.pfFinalCommit now upsets) s = .next t ∧
      t.pwr = { s.pwr with pfCommit := true, pfStep := if s.pwr.pfStoreBad then s.pwr.pfStep else 3 } ∧ t.rtc = s.rtc ∧ t.meas = s.meas ∧
      t.disp = s.disp ∧ t.mem.hoard = s.mem.hoard) ∧
  (∀ (s : State) (now : Now) (sup : Supplies), s.pwr.pfActive = true → s.pwr.pfCommit = true → s.canLand = true →
    s.pwr.cellPresent = true → 2000 ≤ sup.vbat →
    ∃ t, exec (.pfCommitLanded now sup) s = .next t ∧ t.pwr.pfActive = false ∧ t.pwr.pfStep = 6 ∧ t.pwr.onCell = true ∧
      t.pwr.chargeMs = now.ms ∧
      t.pwr.mode = (if s.pwr.mode = .normal then
        (if s.pwr.belowWarn = true ∧ sup.vbat < 2900 ∧ s.pwr.phase = .running then .hold else .backup) else s.pwr.mode)) ∧
  (∀ (s : State) (now : Now) (sup : Supplies), s.pwr.pfActive = true → s.pwr.pfCommit = true → s.canLand = true →
    sup.vbat < 2000 →
    ∃ t, exec (.pfCommitLanded now sup) s = .next t ∧ t.pwr.pfActive = true ∧ t.pwr.pfStep = 5 ∧ t.pwr.onCell = s.pwr.onCell ∧
      t.pwr.mode = s.pwr.mode) ∧
  (∀ (s : State) (now : Now) (upsets : List (Nat × Upset)) (n : Nat), s.pwr.pfActive = true → s.pwr.pfCommit = false →
    ended now s → s.pair.phase = 0 → s.normal = true → n ∈ s.activeCh → s.integrates n = true →
    (∀ m, 1 ≤ m → m ≤ 40 → s.grid now.cyc ≤ (s.ch m).stepStart ∧ (s.ch m).behind = []) →
    ∃ t, exec (.pfFinalCommit now upsets) s = .next t ∧ totalsRec n (s.ch n).a ∈ t.mem.queue)

/-- While the power-fail sequence runs, STORE_SPENT leaves the module unpowered and held in reset, fed neither from
VBUS nor from the cell, with ROOT stopped and no wake raised; SETT keeps running where it ran and the cell is present,
and otherwise the clock has lost its power. The HOARD queue is empty; where no word of the record at its head had
landed, or the VBAT_NVW inhibit holds, HOARD is as it was. Every pulse output is open with nothing waiting, the panel
rails are off and the bridge idle. (Supply, backup cell and hold-up: R45, R51, R57, Pulse outputs and valves: R271,
R280) -/
def Obligations.StoreSpentEndsPower : Prop :=
  ∀ (s : State) (landed : Nat), s.pwr.pfActive = true →
    ∃ t, exec (.storeSpent landed) s = .next t ∧ t.pwr.state = .unpowered ∧ t.pwr.phase = .inReset ∧ t.pwr.pfActive = false ∧
      t.pwr.vbusOk = false ∧ t.pwr.onCell = false ∧ t.pwr.rootOk = false ∧ t.pwr.wakes = [] ∧
      t.pwr.settRun = (s.pwr.settRun && s.pwr.cellPresent) ∧
      t.rtc = { s.rtc with settLost := s.rtc.settLost || !s.pwr.cellPresent } ∧ t.mem.queue = [] ∧
      ((landed = 0 ∨ s.pwr.nvInhibit = true) → t.mem.hoard = s.mem.hoard) ∧
      (∀ k, 1 ≤ k → k ≤ 8 → (t.out k).closed = false ∧ (t.out k).waiting = []) ∧
      t.disp = { s.disp with panel := .off, railsOn := false, ramping := false } ∧ t.bridge = { s.bridge with moving := none } ∧
      t.chans = s.chans ∧ t.img = s.img ∧ t.tamper = s.tamper

/-- Out of Off and with SETT in power, VBUS_OK sets the supply flags from the supervisors, VBUS_OK 1 unless VBUS_OV
holds, and raises the VBUS wake where the module sleeps; nothing else changes. STORE_FAULT with VBUS_OK and a store
below 26 V that is not yet waived sets PWR_EVENTS bit 6, logs event 0x0015 with STORE_V and waives the store; with the
store ready it changes the supply group only. VBUS_RETURN in BACKUP on the cell in Run, with VBUS_OK, the store ready
and no power-fail sequence, answers NORMAL on VBUS with PWR_EVENTS bit 1 set, and UNCONFIGURED stays UNCONFIGURED on
VBUS. (Supply, backup cell and hold-up: R46, R50, R51, R58, R62, Clocks, power states and wake: R83) -/
def Obligations.VbusReturnsThroughTheStore : Prop :=
  (∀ (s : State) (now : Now) (sup : Supplies), s.pwr.state ≠ .off → s.rtc.settLost = false →
    ∃ t, exec (.vbusOk now sup) s = .next t ∧ t.pwr.storeRdy = decide (26000 ≤ sup.store) ∧
      t.pwr.vbusOk = !(s.pwr.vbusOv && decide (32500 < sup.vbus)) ∧ t.pwr.mode = s.pwr.mode ∧ t.pwr.state = s.pwr.state ∧
      t.pwr.pfActive = s.pwr.pfActive ∧
      (s.asleep = true → WakeSource.vbusReturn ∈ t.pwr.wakes) ∧ (s.asleep = false → t.pwr.wakes = s.pwr.wakes) ∧
      Keeps [.pwr] s t) ∧
  (∀ (s : State) (now : Now) (sup : Supplies), s.powered = true → s.pwr.vbusOk = true → s.pwr.storeWaived = false →
    exec (.storeFault now sup) s = .next (
      if 26000 ≤ sup.store then s.supplies sup
      else ((((s.supplies sup).pwrRaise 64).event 0x15 0 (le 1 (s.supplies sup).pwr.storeV)).onPwr fun p =>
        { p with storeWaived := true })) ∧
    (s.supplies sup).pwr.storeV = min 255 (sup.store / 200)) ∧
  (∀ (s : State) (now : Now) (sup : Supplies) (upsets : List (Nat × Upset)), s.pwr.state = .run → s.pwr.phase = .running →
    s.pwr.onCell = true → s.pwr.vbusOk = true → s.pwr.pfActive = false → 26000 ≤ sup.store →
    (s.pwr.mode = .backup →
      ∃ t, exec (.vbusReturn now sup upsets) s = .next t ∧ t.pwr.mode = .normal ∧ t.pwr.onCell = false ∧ t.pwr.pfStep = 0 ∧
        t.pwr.events.getLsbD 1 = true ∧ t.rtc = s.rtc ∧ t.meas = s.meas) ∧
    (s.pwr.mode = .unconfigured →
      ∃ t, exec (.vbusReturn now sup upsets) s = .next t ∧ t.pwr.mode = .unconfigured ∧ t.pwr.onCell = false ∧
        t.rtc = s.rtc ∧ t.meas = s.meas ∧ t.chans = s.chans))

/-- VBAT_WARN outside the power-fail sequence: on VBUS the mode stays, PWR_EVENTS bit 3 is set and event 0x0013
logged; on the cell a running module in BACKUP that is awake goes to HOLD with the pulse outputs open and no telegram
waiting; in Sleep the wake is raised and the mode stays; during the sequence only the threshold is noted.
VBAT_NVW_INHIBIT sets the inhibit and PWR_EVENTS bit 4, its release ends it, each logged with event 0x0016 where the
module has power; a second one changes nothing. VBAT_SETT_LOSS on VBUS reports the cell absent and, where VBAT_WARN
had not, low, with PWR_EVENTS bit 3 and event 0x0013; without VBUS SETT stops. (Supply, backup cell and hold-up: R46,
R47, R48, R57, R72) -/
def Obligations.CellThresholdsAct : Prop :=
  (∀ (s : State) (now : Now) (sup : Supplies) (upsets : List (Nat × Upset)), s.powered = true → s.pwr.pfActive = false →
    (s.pwr.onCell = false →
      ∃ t, exec (.vbatWarn now sup upsets) s = .next t ∧ t.pwr.mode = s.pwr.mode ∧ t.pwr.state = s.pwr.state ∧
        t.pwr.belowWarn = true ∧ t.pwr.events.getLsbD 3 = true ∧ Keeps (.pwr :: logGroups) s t) ∧
    (s.pwr.onCell = true → s.pwr.state = .run → s.pwr.phase = .running → s.pwr.mode = .backup →
      ∃ t, exec (.vbatWarn now sup upsets) s = .next t ∧ t.pwr.mode = .hold ∧ t.pwr.belowWarn = true ∧
        t.radio.queue = [] ∧ t.radio.window = none ∧ (∀ k, 1 ≤ k → k ≤ 8 → (t.out k).closed = false ∧ (t.out k).waiting = [])) ∧
    (s.pwr.onCell = true → s.pwr.state = .sleep →
      ∃ t, exec (.vbatWarn now sup upsets) s = .next t ∧ t.pwr.mode = s.pwr.mode ∧ t.pwr.state = .sleep ∧
        WakeSource.vbatWarn ∈ t.pwr.wakes ∧ Keeps [.pwr] s t)) ∧
  (∀ (s : State) (now : Now) (sup : Supplies) (upsets : List (Nat × Upset)), s.powered = true → s.pwr.pfActive = true →
    ∃ t, exec (.vbatWarn now sup upsets) s = .next t ∧ t.pwr.belowWarn = true ∧ t.pwr.mode = s.pwr.mode ∧
      t.pwr.events = s.pwr.events ∧ Keeps [.pwr] s t) ∧
  (∀ s : State,
    (s.pwr.nvInhibit = true → exec .vbatNvwInhibit s = .next s) ∧ (s.pwr.nvInhibit = false → exec .vbatNvwRelease s = .next s) ∧
    (s.powered = false → s.pwr.nvInhibit = false → exec .vbatNvwInhibit s =
      .next { s with pwr := { s.pwr with nvInhibit := true, events := s.pwr.events ||| 16#32 } }) ∧
    (s.powered = false → s.pwr.nvInhibit = true → exec .vbatNvwRelease s =
      .next { s with pwr := { s.pwr with nvInhibit := false } })) ∧
  (∀ s : State, s.powered = true →
    (s.pwr.nvInhibit = false → exec .vbatNvwInhibit s =
      .next (({ s with pwr := { s.pwr with nvInhibit := true, events := s.pwr.events ||| 16#32 } } : State).onset 0x16 0 0 [])) ∧
    (s.pwr.nvInhibit = true → exec .vbatNvwRelease s =
      .next (({ s with pwr := { s.pwr with nvInhibit := false } } : State).ending 0x16 0 0 []))) ∧
  (∀ (s : State) (now : Now),
    (s.powered = true → s.pwr.onCell = false → s.pwr.belowWarn = true ∨ s.pwr.pfActive = true →
      exec (.vbatSettLoss now) s = .next { s with pwr := { s.pwr with cellPresent := false, belowWarn := true } }) ∧
    (s.powered = true → s.pwr.onCell = false → s.pwr.belowWarn = false → s.pwr.pfActive = false →
      ∃ t, exec (.vbatSettLoss now) s = .next t ∧
        t.pwr = { s.pwr with cellPresent := false, belowWarn := true, events := s.pwr.events ||| 8#32 } ∧
        Keeps (.pwr :: logGroups) s t) ∧
    (s.pwr.onCell = true ∨ s.powered = false →
      exec (.vbatSettLoss now) s = .next { s with
        pwr := { s.pwr with cellPresent := false, settRun := false }, rtc := { s.rtc with settLost := true } }))

/-- CELL_LOAD_TEST at a NORMAL tick at or after 03:00 local time of a day not yet tested, with no replacement to
confirm, stores the loaded voltage, adds 0.5 mC to the charge, marks the day tested, and below 3.00 V sets PWR_EVENTS
bit 3 and logs event 0x0013; where a replacement is to be confirmed and both readings are 3.00 V or more, the charge
is 0 again, the time of the replacement is the present count and PWR_EVENTS bit 7 is set; on a day already tested, or
outside NORMAL, it changes nothing. CELL_CHARGE_COMMIT on a powered module hands the record of the charge counted up
to its instant to the HOARD queue. SETT_TRIM_WINDOW over a window in which ROOT ran takes the trim, nearest 2^-25,
marks it valid and its age 0, when the error is at most 500 ppm; a larger error keeps the trim, sets TRIM_LIMIT and
logs event 0x0020; a window in which ROOT stopped only ages it. (Supply, backup cell and hold-up: R66, R67, R69,
Clocks, power states and wake: R75, R76, R102) -/
def Obligations.CellIsTestedCountedAndTrimmed : Prop :=
  (∀ (s : State) (loadMv : Nat), s.normal = true → s.pwr.cellCheck = false → loadMv ≤ 65535 →
    10800 ≤ localTime s.dst s.rtc.count % 86400 → s.rtc.loadDay < localTime s.dst s.rtc.count / 86400 + 1 →
    ∃ t, exec (.cellLoadTest loadMv) s = .next t ∧ t.pwr.loadMv = loadMv ∧
      3600000 * t.pwr.chargeUah + t.pwr.remNc =
        3600000 * ((s.pwr.chargeUah + (s.pwr.remNc + 500000) / 3600000) % 2 ^ 32) + (s.pwr.remNc + 500000) % 3600000 ∧
      t.rtc = { s.rtc with loadDay := localTime s.dst s.rtc.count / 86400 + 1 } ∧
      (loadMv < 3000 → t.pwr.events.getLsbD 3 = true) ∧
      (3000 ≤ loadMv → t.pwr.events = s.pwr.events ∧ t.mem.queue = s.mem.queue) ∧
      Keeps (.pwr :: .rtc :: logGroups) s t) ∧
  (∀ (s : State) (loadMv : Nat), s.normal = true → s.pwr.cellCheck = true → 3000 ≤ s.pwr.vbatMv → 3000 ≤ loadMv →
    ∃ t, exec (.cellLoadTest loadMv) s = .next t ∧ t.pwr.loadMv = min 65535 loadMv ∧ t.pwr.chargeUah = 0 ∧ t.pwr.remNc = 0 ∧
      t.pwr.replaced = s.rtc.count ∧ t.pwr.cellCheck = false ∧ t.pwr.events.getLsbD 7 = true ∧ t.rtc.count = s.rtc.count ∧
      Keeps (.pwr :: .rtc :: logGroups) s t) ∧
  (∀ (s : State) (loadMv : Nat), s.normal = false ∨ (s.pwr.cellCheck = false ∧
      (localTime s.dst s.rtc.count % 86400 < 10800 ∨ localTime s.dst s.rtc.count / 86400 + 1 ≤ s.rtc.loadDay)) →
    exec (.cellLoadTest loadMv) s = .next s) ∧
  (∀ (s : State) (now : Now) (sup : Supplies), s.powered = true → s.pair.phase = 0 →
    ∃ t, exec (.cellChargeCommit now sup) s = .next t ∧
      t.pwr.chargeUah = (s.pwr.chargeTo now.ms).chargeUah ∧ t.pwr.chargeMs = now.ms ∧
      t.mem.queue = s.mem.queue ++ [chargeRec (s.pwr.chargeTo now.ms)] ∧ t.mem.hoard = s.mem.hoard ∧ Keeps [.pwr, .queue] s t) ∧
  (∀ (s : State) (cycles : Nat), s.pwr.settRun = true → 0 < cycles →
    (s.pwr.rootStopped = false → s.pwr.rootOk = true →
      2000 * ((2457600000 : Int) - cycles).natAbs ≤ cycles →
      ∃ t, exec (.settTrimWindow cycles) s = .next t ∧ t.pwr.trimValid = true ∧ t.pwr.trimLimit = false ∧ t.pwr.measAge = 0 ∧
        2 * (t.pwr.trim * cycles - ((2457600000 : Int) - cycles) * 2 ^ 25).natAbs ≤ cycles ∧ Keeps [.pwr] s t) ∧
    (s.pwr.rootStopped = false → s.pwr.rootOk = true → cycles < 2000 * ((2457600000 : Int) - cycles).natAbs →
      ∃ t, exec (.settTrimWindow cycles) s = .next t ∧ t.pwr.trimLimit = true ∧ t.pwr.trim = s.pwr.trim ∧
        t.pwr.trimValid = s.pwr.trimValid ∧ t.pwr.measAge = min 255 (s.pwr.measAge + 1) ∧ Keeps (.pwr :: logGroups) s t) ∧
    (s.pwr.rootStopped = true →
      exec (.settTrimWindow cycles) s = .next { s with pwr := { s.pwr with
        measAge := min 255 (s.pwr.measAge + 1), rootStopped := s.pwr.onCell || !s.pwr.rootOk } }))

/-- HOARD_RECORD_WRITE on a powered module without the VBAT_NVW inhibit and with a record at the head of the queue
gives HOARD the words of that record in the order of R63; with the inhibit or an empty queue it changes nothing.
HOARD_SCRUB in Run sets SCRUB_AGE to 0, leaves HOARD and its uncorrectable words as they are, and leaves of the
correctable words only those outside the scrubbed areas, counting one correction in the scrub for each that it
corrects, as far as its counter goes. (Supply, backup cell and hold-up: R48, R63, Integrity, faults and coinciding
events: R566, R567, R568, R578) -/
def Obligations.HoardRecordsLandAndAreScrubbed : Prop :=
  (∀ (s : State) (r : HoardRec) (rest : List HoardRec), s.powered = true → s.pwr.nvInhibit = false → s.mem.queue = r :: rest →
    ∃ t, exec .hoardRecordWrite s = .next t ∧
      t.mem.hoard = ((s.mem.recWrites r).foldl Mem.writeWord { s.mem with queue := rest }).hoard ∧
      t.mem.sram = s.mem.sram ∧ t.rtc = s.rtc ∧ t.pwr = s.pwr) ∧
  (∀ s : State, s.pwr.nvInhibit = true ∨ s.mem.queue = [] → exec .hoardRecordWrite s = .next s) ∧
  (∀ s : State, s.pwr.state = .run →
    ∃ t, exec .hoardScrub s = .next t ∧ t.flt.scrubAge = 0 ∧ t.mem.hoard = s.mem.hoard ∧ t.mem.bad = s.mem.bad ∧
      t.mem.soft = s.mem.soft.filter (fun w => !decide (0x100000 ≤ w ∧ w < 0x270000)) ∧
      (s.mem.bad = [] → t.flt.uncorr = s.flt.uncorr ∧
        let n := (s.mem.soft.filter fun w => decide (0x100000 ≤ w ∧ w < 0x270000)).length
        t.flt.corrScrub = if n = 0 then s.flt.corrScrub else min 65535 (s.flt.corrScrub + n)) ∧ Keeps [.marks, .flt] s t)

/-- On the cell, running, awake, with no return of VBUS and no power-fail sequence, SLEEP_ENTRY in BACKUP enters
Sleep, and counts the charge up to then, when nothing is due, no frame is in progress, no host frame came for 200 ms
and no M-Bus frame for 1 s, the HOARD queue is empty and every DMA channel stands at a boundary; with a record queued,
or a host or bus frame more recent, it changes nothing. HOST_ADDRESS_MATCH of the module's SPI address while it
sleeps, with VIO_HOST present, answers WAKING and raises wake 2; of another address, or without VIO_HOST, it only
notes VIO_HOST. UART_WAKE in UART mode and MBUS_START_BIT_WAKE raise theirs, in Deep Sleep only the wake pattern, low
for 1 ms and then 20 falling edges within 2 ms. SLEEP_WAKE with a source other than the VBAT_WARN filter goes to Run,
reports the first source in the order of R83, clears the wakes, and counts a frame that woke the module as its host's
or its bus's last one. (Clocks, power states and wake: R81, R83, R85, R86, R87, R99) -/
def Obligations.SleepIsEnteredAndWoken : Prop :=
  (∀ (s : State) (now : Now), s.onCellRun = true → s.pwr.mode = .backup →
    (s.nothingDue now.cyc = true → s.radio.txEnd ≤ now.ms → s.pwr.lastHostMs + 200 ≤ now.ms → s.pwr.lastBusMs + 1000 ≤ now.ms →
      s.mem.queue = [] → s.alc.run = none → s.dmaQuiet = true →
      exec (.sleepEntry now) s = .next { s with pwr := { s.pwr.chargeTo now.ms with state := .sleep } }) ∧
    (s.mem.queue ≠ [] ∨ now.ms < s.radio.txEnd ∨ now.ms < s.pwr.lastHostMs + 200 ∨ now.ms < s.pwr.lastBusMs + 1000 →
      exec (.sleepEntry now) s = .next s)) ∧
  (∀ (s : State) (hdr : Byte) (vio : Bool), s.asleep = true → s.pwr.straps.hostmode = true →
    (hdr.toNat / 2 = 0x48 + s.pwr.straps.haddr.toNat → vio = true →
      ∃ t, exec (.hostAddressMatch hdr vio) s = .next t ∧ t.hl = { s.hl with out := [0x3C#8] } ∧
        WakeSource.hostMatch ∈ t.pwr.wakes ∧ t.pwr.state = s.pwr.state ∧ t.pwr.vioHost = true ∧ Keeps [.pwr, .hl] s t) ∧
    (hdr.toNat / 2 ≠ 0x48 + s.pwr.straps.haddr.toNat ∨ vio = false →
      exec (.hostAddressMatch hdr vio) s = .next { s with pwr := { s.pwr with vioHost := vio } }) ∧
    ∀ lowUs edges, exec (.uartWake lowUs edges vio) s = .next { s with pwr := { s.pwr with vioHost := vio } }) ∧
  (∀ (s : State) (lowUs : Nat) (edges : List Nat) (vio : Bool), s.asleep = true → s.pwr.straps.hostmode = false →
    let pattern := 1000 ≤ lowUs ∧ 20 ≤ (edges.filter fun t => decide (t ≤ 2000)).length
    (vio = true → pattern ∨ s.pwr.state = .sleep →
      ∃ t, exec (.uartWake lowUs edges vio) s = .next t ∧
        (if pattern then WakeSource.uartPattern else .uartActivity) ∈ t.pwr.wakes ∧ t.pwr.state = s.pwr.state ∧
        Keeps [.pwr] s t) ∧
    (vio = false ∨ (¬ pattern ∧ s.pwr.state = .deepSleep) →
      exec (.uartWake lowUs edges vio) s = .next { s with pwr := { s.pwr with vioHost := vio } })) ∧
  (∀ s : State,
    (s.pwr.state = .sleep → ∃ t, exec .mbusStartBitWake s = .next t ∧ WakeSource.mbusStart ∈ t.pwr.wakes ∧ Keeps [.pwr] s t) ∧
    (s.pwr.state = .deepSleep → exec .mbusStartBitWake s = .next s)) ∧
  (∀ (s : State) (now : Now) (sources : List WakeSource) (exit10us : Nat) (cardOut : Bool) (sup : Supplies),
    s.pwr.state = .sleep → sources ++ s.pwr.wakes ≠ [] → .vbatWarn ∉ sources ++ s.pwr.wakes →
    ∃ t, exec (.sleepWake now sources exit10us cardOut sup) s = .next t ∧ t.pwr.state = .run ∧ t.pwr.mode = s.pwr.mode ∧
      t.pwr.lastState = 1 ∧ t.pwr.wakes = [] ∧ t.pwr.lastExit = min 65535 exit10us ∧
      (.hostMatch ∈ sources ++ s.pwr.wakes → t.pwr.lastHostMs = now.ms) ∧
      (.mbusStart ∈ sources ++ s.pwr.wakes → t.pwr.lastBusMs = now.ms) ∧
      t.pwr.lastWake = (
        let all := sources ++ s.pwr.wakes
        if .vbusReturn ∈ all then 7 else if .tamper ∈ all then 6 else if .schedule ∈ all then 1 else if .movor ∈ all then 8
        else if .mbusStart ∈ all then 5 else if .hostMatch ∈ all then 2 else if .uartPattern ∈ all then 4 else 3))

/-- In HOLD on the cell with nothing in progress and no posted write, DEEP_SLEEP_ENTRY and HOLD_HOST_IDLE 200 ms after
the host's last frame enter Deep Sleep with a signature of each retained bank formed; with a record queued or a later
host frame they change nothing. DEEP_SLEEP_WAKE without a source that wakes from Deep Sleep changes nothing; with one,
in HOLD with every bank retained and sound, it goes to Run, reports the exit, clears the signatures and wakes, leaves
the mode, the clock and the image, and the host link at OBSERVE with FAILS and LOCKED_OUT kept. HOLD_EXIT with VBUS_OK
marks the return of an awake module, and takes a sleeping one with sound banks to Run with wake 7. HOLD_DUE_DATE_WAKE
raises wake 1 in Deep Sleep. (Supply, backup cell and hold-up: R60, R62, Clocks, power states and wake: R79, R83, R88,
R91, R92, R94, R98, R99) -/
def Obligations.DeepSleepHoldsAndWakes : Prop :=
  (∀ (s : State) (now : Now) (c : Instr), c ∈ [Instr.deepSleepEntry now, .holdHostIdle now] → s.onCellRun = true →
    s.pwr.mode = .hold →
    (s.radio.txEnd ≤ now.ms → s.pwr.lastHostMs + 200 ≤ now.ms → s.mem.queue = [] → s.alc.run = none → s.hl.wbuf = [] →
      ∃ t, exec c s = .next t ∧ t.pwr.state = .deepSleep ∧ t.pwr.mode = .hold ∧
        t.pwr.retSel = (match s.img.image with
          | none => 7
          | some im => im.retBanks) ∧
        (∀ k, k < 8 → Word.bit t.pwr.retSel k = true → (k, s.mem.bankSig k) ∈ t.pwr.sigs) ∧ Keeps [.pwr, .dma] s t) ∧
    (s.mem.queue ≠ [] ∨ now.ms < s.pwr.lastHostMs + 200 → exec c s = .next s)) ∧
  (∀ (s : State) (now : Now) (sources : List WakeSource) (exit10us : Nat) (card : CardRead) (cardOut : Bool)
      (sup : Supplies), s.pwr.state = .deepSleep →
    ((sources ++ s.pwr.wakes).all (fun w => w == .uartActivity || w == .mbusStart || w == .movor || w == .vbatWarn) = true →
      exec (.deepSleepWake now sources exit10us [] card cardOut sup) s = .next s) ∧
    (.hostMatch ∈ sources → s.pwr.mode = .hold → s.pwr.retSel = 255 → s.mem.parity = [] →
      (∀ k, k < 8 → (k, s.mem.bankSig k) ∈ s.pwr.sigs) →
      ∃ t, exec (.deepSleepWake now sources exit10us [] card cardOut sup) s = .next t ∧ t.pwr.state = .run ∧ t.pwr.mode = .hold ∧
        t.pwr.lastState = 2 ∧ t.pwr.lastExit = min 65535 exit10us ∧ t.pwr.retFail = 0 ∧ t.pwr.rebuilt = 0 ∧
        t.pwr.wakes = [] ∧ t.pwr.sigs = [] ∧ t.img.image = s.img.image ∧ t.rtc.count = s.rtc.count ∧
        t.hl.service = false ∧ t.hl.fails = s.hl.fails ∧ t.hl.lockedOut = s.hl.lockedOut ∧ t.hl.credit = 0)) ∧
  (∀ (s : State) (now : Now) (sup : Supplies) (exit10us : Nat) (banks : List Nat) (card : CardRead) (cardOut : Bool),
    s.pwr.mode = .hold → s.pwr.vbusOk = true → s.pwr.phase = .running →
    (s.pwr.state = .run →
      ∃ t, exec (.holdExit now sup exit10us banks card cardOut) s = .next t ∧ t.pwr.holdReturn = true ∧ t.pwr.mode = .hold ∧
        Keeps [.pwr] s t) ∧
    (s.pwr.state = .deepSleep → s.pwr.retSel = 255 → s.mem.parity = [] → banks = [] →
      (∀ k, k < 8 → (k, s.mem.bankSig k) ∈ s.pwr.sigs) →
      ∃ t, exec (.holdExit now sup exit10us banks card cardOut) s = .next t ∧ t.pwr.state = .run ∧ t.pwr.holdReturn = true ∧
        t.pwr.mode = .hold ∧ t.pwr.lastState = 2 ∧ t.pwr.lastWake = 7 ∧ t.pwr.lastExit = min 65535 exit10us)) ∧
  (∀ (s : State) (now : Now), s.pwr.mode = .hold → s.running = true → s.pwr.state = .deepSleep →
    ∃ t, exec (.holdDueDateWake now) s = .next t ∧ WakeSource.schedule ∈ t.pwr.wakes ∧ Keeps [.pwr] s t)

/-- RESET_N low for 10 us or more, and in SOLO a watchdog expiry in Run, the reaction to a datapath mismatch whose
commits can land, and WARM_RESET where R457 does not refuse it, and a ROOT failure outside a start, hold the module in
reset with the cause's bit remembered: PEER_OK_OUT deasserted, the pulse outputs open with nothing waiting, the valve
bridge idle, TEST ended, WARM_COUNT one more, the clock and the tick count as they were. In a pair the watchdog and
the mismatch make the member fail-silent with causes 3 and 1 instead. A shorter RESET_N, or one that goes on, changes
nothing. A failed start of ROOT in a COLD start is a COLD reset with ROOT_FAIL that samples the straps anew; the third
one in a row leaves the module dead until a start succeeds, a COLD start again beginning with its straps sampled.
(Module, connectors and wiring: R31, R35, R39, Clocks, power states and wake: R77, R95, R96, R97, R103, Quantity
integration: R257, Host link and register map: R458, Redundant pair and state mirroring: R556) -/
def Obligations.WarmCausesHoldTheModuleInReset : Prop :=
  let begun (c : Nat) (s t : State) : Prop :=
    t.pwr.phase = .inReset ∧ t.pwr.state = .run ∧ t.pwr.warmCause = some c ∧ t.pwr.warmTick = s.meas.tick ∧
    t.pwr.warmCount = min 255 (s.pwr.warmCount + 1) ∧ t.meas.tick = s.meas.tick ∧ t.meas.test = false ∧ t.pwr.peerOkOut = false ∧ t.bridge.moving = none ∧ t.rtc = s.rtc ∧
    ∀ k, 1 ≤ k → k ≤ 8 → (t.out k).closed = false ∧ (t.out k).waiting = []
  (∀ (s : State) (now : Now) (us : Nat), s.powered = true → s.pwr.phase ≠ .rootDead →
    (10 ≤ us → s.pwr.warmCause ≠ some 3 → ∃ t, exec (.resetPinAssert now us) s = .next t ∧ begun 3 s t) ∧
    (us < 10 ∨ s.pwr.warmCause = some 3 → exec (.resetPinAssert now us) s = .next s)) ∧
  (∀ (s : State) (now : Now), s.running = true → s.pwr.state = .run →
    (s.paired = false → ∃ t, exec (.watchdogExpiry now) s = .next t ∧ begun 4 s t) ∧
    (s.paired = true → ∃ t, exec (.watchdogExpiry now) s = .next t ∧ t.pwr.failSilent = true ∧ t.pwr.failCause = 3 ∧
      t.active = false ∧ t.pwr.peerOkOut = false ∧ t.bridge.moving = none)) ∧
  (∀ (s : State) (now : Now), s.flt.dmrPending = true → s.pwr.pfActive = false → s.canLand = true →
    (s.paired = false → ∃ t, exec (.dmrMismatchReaction now) s = .next t ∧ t.flt.dmrPending = false ∧ begun 5 s t) ∧
    (s.paired = true → s.pwr.failSilent = false → ∃ t, exec (.dmrMismatchReaction now) s = .next t ∧
      t.flt.dmrPending = false ∧ t.pwr.failSilent = true ∧ t.pwr.failCause = 1 ∧ t.active = false)) ∧
  (∀ (s : State) (now : Now) (tag : Nat), s.takesCommand 3 tag 0 = true →
    ∃ t, exec (.warmReset now tag 0) s = .next t ∧ begun 6 s t ∧ t.hl.result = 0 ∧ t.hl.running = false ∧
      t.hl.taken = some (3, tag)) ∧
  (∀ (s : State) (now : Now) (straps : StrapLevels) (sup : Supplies), s.powered = true →
    (s.pwr.phase = .running ∨ s.pwr.phase = .waiting ∨ s.pwr.phase = .reading →
      ∃ t, exec (.rootFail now false straps sup) s = .next t ∧ begun 7 s t ∧ t.pwr.rootOk = false) ∧
    (s.pwr.phase = .inReset → exec (.rootFail now false straps sup) s = .next { s with pwr := { s.pwr with
      warmCause := some 7, warmCount := min 255 (s.pwr.warmCount + 1), rootOk := false, rootStopped := true } })) ∧
  (∀ (s : State) (now : Now) (straps : StrapLevels) (sup : Supplies), s.powered = true → s.pwr.phase = .reading →
    ∃ t, exec (.rootFail now true straps sup) s = .next t ∧ t.pwr.rootFails = s.pwr.rootFails + 1 ∧ t.pwr.rootOk = false ∧
      t.pwr.cause = 128 + (if s.rtc.settLost || s.pwr.settNew then 4 else 0) ∧ t.pwr.straps = straps ∧
      t.pwr.mode = .unconfigured ∧ t.mem.hoard = s.mem.hoard ∧ t.mem.queue = [] ∧
      t.pwr.phase = (if 2 ≤ s.pwr.rootFails then .rootDead else .reading)) ∧
  (∀ (s : State) (straps : StrapLevels) (sup : Supplies), s.pwr.phase = .rootDead →
    exec (.rootStartRetry false straps sup) s = .next s ∧
    (s.pwr.warmCause.isSome = true → exec (.rootStartRetry true straps sup) s = .next { s with pwr := { s.pwr with
      rootOk := true, rootFails := 0, phase := .inReset } }) ∧
    (s.pwr.warmCause = none → ∃ t, exec (.rootStartRetry true straps sup) s = .next t ∧ t.pwr.rootOk = true ∧
      t.pwr.rootFails = 0 ∧ t.pwr.phase = .reading ∧ t.pwr.straps = straps ∧
      t.pwr.cause = 128 + (if s.rtc.settLost || s.pwr.settNew then 4 else 0) ∧ t.mem.hoard = s.mem.hoard))

/-- A module held in a WARM reset answers WARM_RESTART with the start awaiting its first tick: RESET_CAUSE holds the
cause alone, the count of WARM resets is that of the reset, the straps and the role are those sampled, the tick count,
the RTC count and the counted charge are kept, HALT is released, the host link is at OBSERVE with nothing in its write
buffer and with FAILS and LOCKED_OUT kept, CHSEL is 1, no DMA channel runs, and the mode is UNCONFIGURED unless an
image is accepted on a commissioned module, else BACKUP on the cell and NORMAL on VBUS. (Module, connectors and
wiring: R3, R36, Clocks, power states and wake: R95, R97, R103, Real-time clock: R342, Host link and register map:
R453, R454, Quantity integration: R596) -/
def Obligations.WarmRestartResumes : Prop :=
  ∀ (s : State) (now : Now) (straps : StrapLevels) (card : CardRead) (sup : Supplies) (c : Nat), s.pwr.phase = .inReset →
    s.pwr.warmCause = some c →
    ∃ t, exec (.warmRestart now straps card sup) s = .next t ∧ t.pwr.phase = .waiting ∧ t.pwr.warmCause = none ∧
      t.pwr.cause = 2 ^ c ∧ t.pwr.warmCount = s.pwr.warmCount ∧ t.pwr.straps = straps ∧
      t.pwr.strapRole = (if straps.role1 && straps.role0 then 0 else if straps.role1 then 1 else 2) ∧
      t.meas.tick = s.meas.tick ∧ t.rtc.count = s.rtc.count ∧ t.rtc.halt = false ∧ t.pwr.chargeUah = s.pwr.chargeUah ∧
      t.hl.service = false ∧ t.hl.wbuf = [] ∧ t.hl.fails = s.hl.fails ∧ t.hl.lockedOut = s.hl.lockedOut ∧
      t.meas.chsel = 1 ∧ (∀ k, k < 16 → (t.dc k).run = false) ∧
      t.pwr.mode = (if t.img.accepted && t.img.module_.commissioned then (if s.pwr.onCell then .backup else .normal)
        else .unconfigured)

/-- POWER_ON on a module without power, VBUS between 11.3 V and 33.0 V, and a WAKE edge in Off, low for 100 ms of the
time for which the detector has had power and high for 10 ms, begin a COLD start: the card is read in UNCONFIGURED in
Run, RESET_CAUSE holds bit 0 or 1, and bit 2 where SETT had lost power, in which case OSF is set; the straps are
sampled, HOARD is kept, its queue and SRAM are empty, CHSEL is 1, and the host link is at OBSERVE. A shorter WAKE
pulse, and POWER_ON in Off, change nothing; a WAKE edge during the entry to Off is held. OFF_ENTRY after an accepted
ENTER_SHIPPING, when HOARD writes can land, leaves the module in SHIPPING in Off with the queue empty and the clock
lost, or with a WAKE edge held begins the COLD start at once, with the straps sampled then. CARD_READ_RETRY restarts
the read up to three times and then ends it as unreadable. IMAGE_DECISION ends the start's card read, its restarts
counted no more, in the mode that the image, the commissioning and the supply give. (Module, connectors and wiring:
R24, R25, R36, Clocks, power states and wake: R82, R95, R103, Configuration card, image format and commissioning:
R105, R107, Real-time clock: R346, R347) -/
def Obligations.ColdStartsBeginAndOffIsEntered : Prop :=
  let cold (cause : Nat) (straps : StrapLevels) (s t : State) : Prop :=
    t.pwr.phase = .reading ∧ t.pwr.state = .run ∧ t.pwr.mode = .unconfigured ∧
    t.pwr.cause = cause + (if s.rtc.settLost then 4 else 0) ∧ t.pwr.straps = straps ∧ t.mem.hoard = s.mem.hoard ∧
    t.mem.queue = [] ∧ t.mem.sram = [] ∧ t.hl.service = false ∧ t.meas.chsel = 1 ∧ t.rtc.settLost = false ∧
    (s.rtc.settLost = true → t.rtc.osf = true) ∧ (s.rtc.settLost = false → t.rtc.count = s.rtc.count)
  (∀ (s : State) (straps : StrapLevels) (sup : Supplies), s.pwr.state = .unpowered → 11300 ≤ sup.vbus →
    sup.vbus ≤ 33000 → ∃ t, exec (.powerOn straps sup) s = .next t ∧ cold 1 straps s t ∧ t.pwr.onCell = false) ∧
  (∀ (s : State) (straps : StrapLevels) (sup : Supplies), s.pwr.state = .off → s.pwr.onCell = false →
    exec (.powerOn straps sup) s = .next s) ∧
  (∀ (s : State) (lowMs poweredMs highMs : Nat) (straps : StrapLevels) (sup : Supplies),
    (100 ≤ lowMs → 100 ≤ poweredMs → 10 ≤ highMs →
      (s.pwr.state = .off → ∃ t, exec (.wakePinEdge lowMs poweredMs highMs straps sup) s = .next t ∧ cold 2 straps s t ∧
        t.pwr.onCell = !decide (11300 ≤ sup.vbus ∧ sup.vbus ≤ 33000)) ∧
      (s.pwr.state ≠ .off → s.pwr.shipping = true → ∃ t, exec (.wakePinEdge lowMs poweredMs highMs straps sup) s = .next t ∧
        t.pwr.wakeHeld = true ∧ t.pwr.state = s.pwr.state ∧ t.pwr.mode = s.pwr.mode ∧ Keeps [.pwr] s t)) ∧
    (lowMs < 100 ∨ poweredMs < 100 ∨ highMs < 10 → exec (.wakePinEdge lowMs poweredMs highMs straps sup) s = .next s)) ∧
  (∀ (s : State) (straps : StrapLevels) (sup : Supplies), s.pwr.shipping = true → s.powered = true → s.canLand = true →
    (s.pwr.wakeHeld = false → ∃ t, exec (.offEntry straps sup) s = .next t ∧ t.pwr.state = .off ∧ t.pwr.mode = .shipping ∧ t.mem.queue = [] ∧
      t.mem.sram = [] ∧ t.rtc.settLost = true ∧ t.hl = HostLink.reset ∧ t.otp = s.otp) ∧
    (s.pwr.wakeHeld = true → ∃ t, exec (.offEntry straps sup) s = .next t ∧ t.pwr.phase = .reading ∧ t.pwr.state = .run ∧
      t.pwr.cause = 6 ∧ t.pwr.straps = straps ∧ t.rtc.osf = true)) ∧
  (∀ (s : State) (k : Nat), s.pwr.phase = .reading ∨ s.pwr.phase = .inReset →
    exec (.cardReadRetry k) s = .next { s with
      img := if s.img.restarts < 3 then { s.img with restarts := s.img.restarts + 1, failByte := k }
        else { s.img with failByte := k, unreadable := true } }) ∧
  (∀ (s : State) (now : Now) (card : CardRead) (sup : Supplies), s.pwr.phase = .reading →
    ∃ t, exec (.imageDecision now card sup) s = .next t ∧ t.pwr.phase = .waiting ∧ t.pwr.rootFails = 0 ∧
      t.img.restarts = 0 ∧ t.img.unreadable = false ∧ t.pair.heardMs = now.ms ∧ t.pwr.onCell = s.pwr.onCell ∧
      t.pwr.mode = (if t.img.accepted && t.img.module_.commissioned then (if s.pwr.onCell then .backup else .normal)
        else .unconfigured))

/-- A TICK on VBUS in Run with ticks running raises MEAS_TICK by 1, wrapping at 32 bits, and reads VBUS and the pair
pins; in NORMAL every running DMA channel has EV36 latched. The first TICK of a start, once VBUS_OK and the store or
its waiver hold, sets RESTARTED and the count, 0 where no tick has run since a COLD start and else one more; the mode
is NORMAL unless the module is UNCONFIGURED, and PEER_OK_OUT is asserted in NORMAL outside fail-silence.
SETT_TICK_EDGE on the cell in BACKUP or HOLD raises the count by 1, while the module sleeps without any other change,
in Run with the supplies read, and as the first tick of a configured module begins BACKUP, or HOLD below VBAT_WARN,
with both voltages read. DEGRADED_TICK_WAKE in BACKUP goes to Run at the next measurement tick, the next multiple of
32 that is not served yet, reporting the first source that has fired. (Measurement cycle: R153, R158, R160, R161,
Supply, backup cell and hold-up: R51, R71, Configuration card, image format and commissioning: R107, Clocks, power
states and wake: R97, Host link and register map: R468, DMA engine: R486, Quantity integration: R596) -/
def Obligations.TicksCountAndBegin : Prop :=
  (∀ (s : State) (sup : Supplies) (pins : TickPins) (temp : Int), s.pwr.state = .run → s.pwr.rootOk = true →
    s.pwr.onCell = false →
    (s.pwr.phase = .running →
      ∃ t, exec (.tick sup pins temp) s = .next t ∧ t.meas.tick = (s.meas.tick + 1) % 2 ^ 32 ∧
        t.pwr.vbusMv = min 65535 sup.vbus ∧ t.pair.peerOkIn = pins.peerOkIn ∧ t.pair.harness = pins.harness ∧
        (s.pwr.mode = .normal → t.pwr.mode = .normal ∧
          ∀ k, k < 16 → (s.dc k).run = true → (t.dc k).latches &&& 2 ^ 36 ≠ 0)) ∧
    (s.pwr.phase = .waiting → s.pwr.vbusOk = true → s.pwr.pfActive = false → 26000 ≤ sup.store ∨ s.pwr.storeWaived = true →
      s.pwr.mode ≠ .unconfigured ∨ s.img.accepted = false ∨ s.img.module_.commissioned = false →
      ∃ t, exec (.tick sup pins temp) s = .next t ∧ t.pwr.phase = .running ∧ t.meas.started = true ∧
        t.hl.events.getLsbD 18 = true ∧
        t.meas.tick = (if s.meas.started then (s.meas.tick + 1) % 2 ^ 32 else 0) ∧
        t.pwr.mode = (if s.pwr.mode = .unconfigured then .unconfigured else .normal) ∧
        t.pwr.peerOkOut = (decide (s.pwr.mode ≠ .unconfigured) && !s.pwr.failSilent))) ∧
  (∀ (s : State) (sup : Supplies) (pins : TickPins) (temp : Int), s.powered = true → s.pwr.onCell = true →
    s.rtc.settLost = false →
    (s.pwr.phase = .running → s.pwr.state ≠ .run →
      exec (.settTickEdge sup pins temp) s = .next { s with meas := { s.meas with tick := (s.meas.tick + 1) % 2 ^ 32 } }) ∧
    (s.pwr.phase = .running → s.pwr.state = .run → s.pwr.mode ≠ .unconfigured →
      ∃ t, exec (.settTickEdge sup pins temp) s = .next t ∧ t.meas = { s.meas with tick := (s.meas.tick + 1) % 2 ^ 32 } ∧
        t.pwr.mode = s.pwr.mode ∧ t.pwr.state = .run ∧ t.pwr.vbusMv = min 65535 sup.vbus) ∧
    (s.pwr.phase = .waiting → s.pwr.mode ≠ .unconfigured →
      ∃ t, exec (.settTickEdge sup pins temp) s = .next t ∧ t.pwr.phase = .running ∧ t.meas.started = true ∧
        t.pwr.vbatMv = min 65535 sup.vbat ∧
        t.pwr.mode = (if s.pwr.belowWarn && decide (sup.vbat < 2900) then .hold else .backup))) ∧
  (∀ (s : State) (now : Now) (sup : Supplies) (pins : TickPins) (temp : Int) (exit10us : Nat), s.backup = true →
    s.pwr.onCell = true → s.rtc.settLost = false → s.pwr.state = .run ∨ s.pwr.state = .sleep → .vbatWarn ∉ s.pwr.wakes →
    ∃ t, exec (.degradedTickWake now sup pins temp exit10us) s = .next t ∧ t.pwr.state = .run ∧ t.pwr.mode = .backup ∧
      t.meas.tick = (if s.meas.tick % 32 = 0 ∧ s.meas.degAt ≠ some s.meas.tick then s.meas.tick
        else (s.meas.tick / 32 + 1) * 32) ∧
      t.meas.degAt = some t.meas.tick ∧ t.pwr.vbatMv = min 65535 sup.vbat ∧
      (s.pwr.state = .sleep → t.pwr.lastState = 1 ∧ t.pwr.lastExit = min 65535 exit10us ∧
        t.pwr.lastWake = (if .vbusReturn ∈ s.pwr.wakes then 7 else if .tamper ∈ s.pwr.wakes then 6 else 1)))

/-- The slots of a channel outside TRUNK are 8(k - 1) + 4 and + 5 of its position k, and those of a TRUNK channel 8j
and 8j + 1 for j to 31; the even one sends from TA to TB. TOF_SLOT in another slot, or where the channel is not
driven, changes nothing. The first shot sends the channel's burst from TA, where no drive stop holds. Driven outside a
zero calibration, the first shot is kept for the pair; the second, with a first kept, drops it and adds exactly one
sample, at the pair's instant on the tick grid, to what the step in progress gathers, or to the next step's where that
close is due. A pair is VALID when both shots are good. TD_SHORT_STOP_END ends the drive stop 1 s after its tick and
not before. LOW_Q_RECOVERY ends LOW_Q 240 ticks after quality recovered and not before. Other channels are as they
were. (Measurement cycle: R154, R156, R158, R164, Ultrasonic flow measurement: R178, R180, R190, R193) -/
def Obligations.ShotsFillTheirSlots : Prop :=
  (∀ n rate slot pair dir : Nat, slotPair n rate slot = some (pair, dir) ↔
    (if rate = 1 then slot = 8 * pair + dir ∧ pair < 32 ∧ dir < 2
      else pair = 0 ∧ slot = 8 * ((n - 1) % 10) + 4 + dir ∧ dir < 2)) ∧
  (∀ (s : State) (n slot : Nat) (shot : Shot), 1 ≤ n → n ≤ 40 →
    (s.slotDriven n = false ∨ slotPair n (s.rate n) slot = none → exec (.tofSlot n slot shot) s = .next s) ∧
    (∀ pair, s.slotDriven n = true → slotPair n (s.rate n) slot = some (pair, 0) →
      ∃ t, exec (.tofSlot n slot shot) s = .next t ∧ (t.ch n).flow.first.isSome = true ∧
        ((s.ch n).flow.stop = false → (t.ch n).flow.burst = some ((s.cfg n).burst 0)) ∧
        (t.ch n).acc = (s.ch n).acc ∧ (t.ch n).late = (s.ch n).late ∧ (t.ch n).a = (s.ch n).a ∧
        OthersSame n s t ∧ t.meas = s.meas) ∧
    (∀ pair x, s.slotDriven n = true → slotPair n (s.rate n) slot = some (pair, 1) → s.calibrating n = false →
      (s.ch n).flow.first = some x →
      ∃ t sample, exec (.tofSlot n slot shot) s = .next t ∧ (t.ch n).flow.first = none ∧
        sample.at_ = s.meas.tick * 2400000 + 75000 * pair ∧
        (if s.stepDue n then (t.ch n).late.samples = sample :: (s.ch n).late.samples ∧ (t.ch n).acc = (s.ch n).acc
          else (t.ch n).acc.samples = sample :: (s.ch n).acc.samples ∧ (t.ch n).late = (s.ch n).late) ∧
        (t.ch n).a = (s.ch n).a ∧ OthersSame n s t ∧ t.meas = s.meas)) ∧
  (∀ (x y : ShotRes) (e : Nat) (z : Int), (pairTimes x y e z).valid = (x.good && y.good)) ∧
  (∀ (s : State) (n : Nat), 1 ≤ n → n ≤ 40 →
    (s.meas.tick < (s.ch n).flow.stopTick + 4 → exec (.tdShortStopEnd n) s = .next s) ∧
    ((s.ch n).flow.stopTick + 4 ≤ s.meas.tick → ∃ t, exec (.tdShortStopEnd n) s = .next t ∧
      t.ch n = { s.ch n with flow := { (s.ch n).flow with stop := false } } ∧ OthersSame n s t ∧ Keeps [.chans] s t) ∧
    (∀ k, (s.ch n).flow.goodSince = some k → (s.ch n).flow.lowQ = true →
      (k + 240 ≤ s.meas.tick → ∃ t, exec (.lowQRecovery n) s = .next t ∧ (t.ch n).flow.lowQ = false ∧
        (t.ch n).flow.lastQ = (s.ch n).flow.lastQ ∧ (t.ch n).a = (s.ch n).a ∧ OthersSame n s t) ∧
      (s.meas.tick < k + 240 → exec (.lowQRecovery n) s = .next s)))

/-- STEP_CLOSE of a channel that integrates, whose latest step end, after t0 of a power-fail sequence the latest at or
before t0, lies after the start of its step: where the two datapaths, each with the flow values that it formed itself,
agree, both hold the same record with the totals that datapath A formed, the next step starts at the end, there is no
gap left to substitute, and the record is in the HOARD queue or held for it; where they differ, the mismatch is
counted with its channel, the reaction is due, and the channel is as it was. A parity error in B0 to B2 is registered,
makes the reaction due and counts no mismatch; nothing of the step is applied. Where no step is due STEP_CLOSE changes
nothing. STEP_OVERRUN of a held close counts the overrun and its channel and merges the commit into the next; with
nothing held it changes nothing. (Measurement cycle: R158, R167, R168, Quantity integration: R53, R255, R256, R257,
Integrity, faults and coinciding events: R569, R575, R579, R582, R583) -/
def Obligations.StepsCloseOnAgreement : Prop :=
  (∀ (s : State) (n : Nat) (u : Upset), 1 ≤ n → n ≤ 40 →
    let stop := s.lastStepEnd n * 2400000
    let i := s.stepIn n stop (s.lastStepEnd n) false
    let a := datapath i (s.prepay n) (s.ch n).a
    let b := datapath i.sideB (s.prepay n) (s.ch n).b
    (s.integrates n = false ∨ stop ≤ (s.ch n).stepStart → exec (.stepClose n u) s = .next s) ∧
    (s.integrates n = true → (s.ch n).stepStart < stop → s.mem.parityIn 0 0x30000 = true →
      ∃ t, exec (.stepClose n u) s = .next t ∧ Keeps [.flt] s t ∧ t.flt.dmrPending = true ∧ t.flt.dmrCount = s.flt.dmrCount ∧
        (∀ x, s.mem.parity = [x] → t.flt.parCount = min 65535 (s.flt.parCount + 1) ∧ t.flt.lastAddr = x ∧ t.flt.lastKind = 2 ∧
          t.flt.lastReader = 1)) ∧
    (s.integrates n = true → (s.ch n).stepStart < stop → s.mem.parityIn 0 0x30000 = false →
      (compareDatapaths u a b = none →
        ∃ t, exec (.stepClose n u) s = .next t ∧ (t.ch n).a = (t.ch n).b ∧ (t.ch n).stepStart = stop ∧ (t.ch n).gap = none ∧
          (t.ch n).a.eHeat = a.1.eHeat ∧ (t.ch n).a.eCool = a.1.eCool ∧ (t.ch n).a.vFwd = a.1.vFwd ∧
          (t.ch n).a.vRev = a.1.vRev ∧ (t.ch n).a.stepTick = s.lastStepEnd n ∧ t.meas = s.meas ∧ t.rtc = s.rtc) ∧
      (∀ w, compareDatapaths u a b = some w →
        ∃ t, exec (.stepClose n u) s = .next t ∧ t.chans = s.chans ∧ t.flt.dmrPending = true ∧ t.flt.dmrCh = n ∧
          t.flt.dmrWord = w ∧ t.flt.dmrCount = min 65535 (s.flt.dmrCount + 1) ∧ t.meas = s.meas ∧ t.rtc = s.rtc))) ∧
  (∀ (s : State) (n : Nat), 1 ≤ n → n ≤ 40 →
    ((s.ch n).owed = true → (s.ch n).merged = false →
      ∃ t, exec (.stepOverrun n) s = .next t ∧ t.meas = { s.meas with overrun := min 65535 (s.meas.overrun + 1), lastCh := n } ∧
        t.ch n = { s.ch n with merged := true } ∧ OthersSame n s t) ∧
    ((s.ch n).owed = false ∨ (s.ch n).merged = true → exec (.stepOverrun n) s = .next s))

/-- ZERO_TRACK_WINDOW at a NORMAL tick that ends a window begins a new one, and moves the tracked zero by at most 6
units of 2^-16 ns from a tracked zero within 65 units of the learned one to one within 65 units of it.
CAL_TRACK_COMMIT at a whole hour of ticks, for a channel that integrates with changed values, hands the record,
stamped with the time, to the HOARD queue and marks it unchanged. RTD_SLOT: slot 0 with a reference due puts the ratio
in front of that reference's gain samples, at most 16; a sensor slot of a driven channel with that sensor runs its
conversion, which leaves the totals; an idle slot changes nothing. A conversion counts failing and good runs: two in a
row fault a sensor or clear it. A complete pair takes effect rounded down, the supply with the pair offset.
(Ultrasonic flow measurement: R199, R200, R201, Temperature measurement: R157, R222, R224, R225, R226, R227, R230) -/
def Obligations.ZeroAndTemperatureAreTracked : Prop :=
  (∀ (s : State) (n : Nat) (k : Cal), 1 ≤ n → n ≤ 40 → s.normal = true → s.meas.tick % 1200 = 0 → (s.ch n).flow.cal = some k →
    (k.zeroTracked - k.zeroLearned).natAbs ≤ 65 →
    ∃ t k', exec (.zeroTrackWindow n) s = .next t ∧ (t.ch n).track = .reset ∧ (t.ch n).flow.cal = some k' ∧
      k' = { k with zeroTracked := k'.zeroTracked } ∧ (k'.zeroTracked - k.zeroTracked).natAbs ≤ 6 ∧
      (k'.zeroTracked - k.zeroLearned).natAbs ≤ 65 ∧ OthersSame n s t) ∧
  (∀ (s : State) (n : Nat) (k : Cal), 1 ≤ n → n ≤ 40 → (s.ch n).flow.cal = some k → s.pair.phase = 0 →
    (s.integrates n = true → s.meas.tick % 14400 = 0 → (s.ch n).flow.calDirty = true →
      ∃ t, exec (.calTrackCommit n) s = .next t ∧ (t.ch n).flow.cal = some { k with trackTime := s.rtc.count } ∧
        (t.ch n).flow.calDirty = false ∧ t.mem.queue = s.mem.queue ++ [calRec n { k with trackTime := s.rtc.count }] ∧
        OthersSame n s t ∧ Keeps [.queue, .chans] s t) ∧
    (s.integrates n = false ∨ s.meas.tick % 14400 ≠ 0 ∨ (s.ch n).flow.calDirty = false → exec (.calTrackCommit n) s = .next s)) ∧
  (∀ (s : State) (k : Nat) (cv : Conversion), 1 ≤ k → k ≤ 8 → s.convDriven k = true → s.pwr.mode = .normal →
    (s.meas.tick % 4 = 0 → ∃ t, exec (.rtdSlot k 0 cv) s = .next t ∧ (t.tc k).gain100 = (cv.ratio :: (s.tc k).gain100).take 16 ∧
      (t.tc k).gain1k = (s.tc k).gain1k) ∧
    (s.meas.tick % 4 = 2 → ∃ t, exec (.rtdSlot k 0 cv) s = .next t ∧ (t.tc k).gain1k = (cv.ratio :: (s.tc k).gain1k).take 16 ∧
      (t.tc k).gain100 = (s.tc k).gain100) ∧
    (s.meas.tick % 2 = 1 → exec (.rtdSlot k 0 cv) s = .next s) ∧
    (∃ t, exec (.rtdSlot k 5 cv) s = .next t ∧ (t.tc k).gain100 = (s.tc k).gain100 ∧ t.meas = s.meas)) ∧
  (∀ (s : State) (k slot n side : Nat) (cv : Conversion), 1 ≤ k → k ≤ 8 → 1 ≤ slot → slot ≤ 4 →
    s.slotSensor k slot = some (n, side) → s.slotDriven n = true → (if side = 0 then (s.cfg n).hasSup else (s.cfg n).hasRet) = true →
    ∃ t, exec (.rtdSlot k slot cv) s = .next t ∧ t = s.sensorConversion n side cv ∧ t.tcs = s.tcs ∧
      (t.ch n).a = (s.ch n).a ∧ t.meas = s.meas) ∧
  (∀ (x : Sensor) (kind : Nat),
    (kind ≠ 0 → 1 ≤ x.failRun → (x.convert kind).faulted = true) ∧
    (kind = 0 → x.faulted = true → 1 ≤ x.goodRun → (x.convert kind).faulted = false) ∧
    (kind = 0 → x.faulted = false → (x.convert kind).faulted = false)) ∧
  (∀ (x : Temp) (tick : Nat) (off u v : Int), x.supConv = some (tick, some u) →
    x.pairStep 1 tick true off (some v) =
      ({ x with thetaS := some (thetaFloor u off), thetaR := some (thetaFloor v 0) }, true))

/-- PULSE_START on an output whose first waiting pulse is due, where the outputs are driven, closes it, records that
start and leaves the later pulses waiting in order; before that instant, with no pulse waiting, or where the outputs
are not driven, nothing changes. PULSE_END opens the output once PO_WIDTH has passed since the last start, and changes
nothing before. Other outputs and everything else are as they were. Queueing due pulses keeps every start at least the
gap after the one before it, on the same output, never more than 65,535 waiting, and every pulse either waits or
counts as discarded; the gap of a width in ms is twice that width in CLK_BUS cycles. (Pulse outputs and valve drive:
R268, R270, R271, R273, Module, connectors and wiring: R39) -/
def Obligations.PulsesStartInOrderAndEnd : Prop :=
  (∀ (s : State) (po : Nat) (now : Now), 1 ≤ po → po ≤ 8 →
    (∀ at_ rest, (s.out po).waiting = at_ :: rest →
      (s.pulsesDriven = true → at_ ≤ s.grid now.cyc →
        ∃ t, exec (.pulseStart po now) s = .next t ∧
          t.out po = { closed := true, waiting := rest, last := some at_, backlog := (s.out po).backlog && !rest.isEmpty } ∧
          (∀ k, 1 ≤ k → k ≤ 8 → k ≠ po → t.out k = s.out k) ∧ Keeps [.outs] s t) ∧
      (s.pulsesDriven = false ∨ s.grid now.cyc < at_ → exec (.pulseStart po now) s = .next s)) ∧
    ((s.out po).waiting = [] → exec (.pulseStart po now) s = .next s) ∧
    (∀ at_, (s.out po).last = some at_ →
      (at_ + (s.pulseCfg po).2.2.1 * 9600 ≤ s.grid now.cyc →
        ∃ t, exec (.pulseEnd po now) s = .next t ∧ t.out po = { s.out po with closed := false } ∧
          (∀ k, 1 ≤ k → k ≤ 8 → k ≠ po → t.out k = s.out k) ∧ Keeps [.outs] s t) ∧
      (s.grid now.cyc < at_ + (s.pulseCfg po).2.2.1 * 9600 → exec (.pulseEnd po now) s = .next s))) ∧
  (∀ width : Nat, pulseGap width = 2 * (width * 9600)) ∧
  (∀ (p : PulseOut) (gap : Nat) (due : List Nat), p.waiting.length ≤ 65535 →
    (p.last.toList ++ p.waiting).Pairwise (fun x y => x + gap ≤ y) →
    let r := p.queue gap due
    (r.1.last.toList ++ r.1.waiting).Pairwise (fun x y => x + gap ≤ y) ∧ r.1.waiting.length ≤ 65535 ∧
      r.1.last = p.last ∧ r.1.closed = p.closed ∧ r.1.waiting.length + r.2.1 = p.waiting.length + due.length ∧
      p.waiting <+: r.1.waiting)

/-- VALVE_MOVE_START of an active member in NORMAL with an idle bridge, rested for 0.2 s since its last move, drives
the oldest queued command whose valve is not at its position: it leaves the queue, and the valve shows moving, nothing
pending and the command's source, and the bridge drives it at the channel's voltage, VLV_A positive for OPEN; a lone
command whose valve already shows its position is dropped. Otherwise nothing starts. A second equal
VALVE_FEEDBACK_SAMPLE of the target stops the bridge and its drive, and the position is the target, no fault and the
time of the move; a first reading ends nothing. On an idle valve two equal readings of one end or of neither set the
position, unless a recorded move of it waits to be resumed. Without a valve, outside NORMAL or on a passive member a
sample changes nothing. (Pulse outputs and valve drive: R274, R275, R276, R278, R280, R281) -/
def Obligations.ValveMovesStartAndComplete : Prop :=
  (∀ (s : State) (now : Now) (c : ValveCmd) (q : List ValveCmd), 1 ≤ c.ch → c.ch ≤ 40 → s.normal = true → s.active = true →
    s.pwr.pfActive = false → s.pair.switching = false → s.bridge.moving = none → s.bridge.queue = c :: q →
    s.bridge.since = 0 ∨ s.bridge.since + 200 ≤ now.ms →
    ((s.ch c.ch).a.valve.position ≠ c.dir →
      ∃ t, exec (.valveMoveStart now) s = .next t ∧
        t.bridge = { s.bridge with moving := some c, since := now.ms, queue := q } ∧
        t.bridgeDrive = some { ch := c.ch, mV := (s.cfg c.ch).valveMv, positive := decide (c.dir = 1) } ∧
        (t.ch c.ch).a = { (s.ch c.ch).a with
          valve := { (s.ch c.ch).a.valve with position := 3 + c.dir, pending := 0, source := c.source, elapsed := 0, flags := 0 } } ∧
        OthersSame c.ch s t ∧ Keeps [.chans, .bridge] s t) ∧
    ((s.ch c.ch).a.valve.position = c.dir → q = [] →
      ∃ t, exec (.valveMoveStart now) s = .next t ∧ t.bridge = { s.bridge with queue := [] } ∧
        (t.ch c.ch).a.valve = { (s.ch c.ch).a.valve with pending := 0, elapsed := 0, flags := 0 } ∧
        OthersSame c.ch s t ∧ Keeps [.chans, .bridge] s t)) ∧
  (∀ (s : State) (now : Now),
    s.normal = false ∨ s.active = false ∨ s.pwr.pfActive = true ∨ s.pair.switching = true ∨ s.bridge.moving ≠ none ∨
      (s.bridge.since ≠ 0 ∧ now.ms < s.bridge.since + 200) →
    exec (.valveMoveStart now) s = .next s) ∧
  (∀ (s : State) (now : Now) (n : Nat) (fo fc : Bool), 1 ≤ n → n ≤ 40 →
    (s.normal = false ∨ s.active = false ∨ (s.cfg n).hasValve = false ∨ s.pwr.pfActive = true →
      exec (.valveFeedbackSample now n fo fc) s = .next s) ∧
    (s.normal = true → s.active = true → (s.cfg n).hasValve = true → s.pwr.pfActive = false →
      (∀ c x, s.bridge.moving = some c → c.ch = n → (s.ch n).valve.hist = [x] →
        (x = (fo, fc) → contactPos x = c.dir → c.dir ≠ 4 →
          ∃ t, exec (.valveFeedbackSample now n fo fc) s = .next t ∧
            t.bridge = { s.bridge with moving := none, since := now.ms } ∧
            t.bridgeDrive = none ∧
            (t.ch n).a.valve = { (s.ch n).a.valve with
              position := c.dir, fault := 0, elapsed := 0, flags := 0, lastMove := s.rtc.count } ∧
            OthersSame n s t ∧ Keeps [.chans, .bridge] s t) ∧
        (x ≠ (fo, fc) → now.ms < s.bridge.since + 2000 → c.dir = 1 ∨ c.dir = 2 →
          ∃ t, exec (.valveFeedbackSample now n fo fc) s = .next t ∧ (t.ch n).a = (s.ch n).a ∧
            (t.ch n).valve.hist = [(fo, fc), x] ∧ OthersSame n s t ∧ Keeps [.chans] s t)) ∧
      (s.bridge.moving = none →
        ∃ t, exec (.valveFeedbackSample now n fo fc) s = .next t ∧ t.bridge.moving = none ∧ OthersSame n s t ∧
          (∀ x r, (s.ch n).valve.hist = x :: r → x = (fo, fc) → contactPos x ≠ 4 →
            (s.ch n).a.valve.position < 4 ∨ s.bridge.queued n = none → (t.ch n).a.valve.position = contactPos x) ∧
          ((s.ch n).valve.hist = [] → (s.ch n).valve.movedRun < 2 → (t.ch n).a.valve.position = (s.ch n).a.valve.position)))) ∧
  (∀ fo fc : Bool, contactPos (fo, fc) = (if fo then (if fc then 4 else 1) else (if fc then 2 else 3)))

/-- With a move in progress, VALVE_TIMEOUT from VALVE_TMAX after its start faults it with code 1, VALVE_OVERCURRENT at
once with 5, and VALVE_OPEN_COIL from 1 s after its start with 6; before those times, or with no move, they change
nothing. A second sample with both contacts closed faults it with 3, and one of the opposite end, from 2 s after the
start and 2 s after that end was first read, with 2. A fault stops the bridge, which rests from then on; the valve's
fault is the code and its position the end that two equal readings show, or UNKNOWN; its other fields but the elapsed
time and flags, the queue and the other channels are as they were. (Pulse outputs and valve drive: R275, R279, R281,
Billing registers, tariffs and demand: R306) -/
def Obligations.ValveFaultsStopTheMove : Prop :=
  let faulted (s t : State) (n code : Nat) (h : List (Bool × Bool)) (now : Now) : Prop :=
    t.bridge = { s.bridge with moving := none, since := now.ms } ∧
    (t.ch n).a.valve = { (s.ch n).a.valve with
      position := (if countedPos h = 1 ∨ countedPos h = 2 then countedPos h else 3), elapsed := 0, flags := 0, fault := code } ∧
    OthersSame n s t ∧ Keeps (.chans :: .bridge :: logGroups) s t
  ∀ (s : State) (now : Now) (c : ValveCmd), s.bridge.moving = some c → 1 ≤ c.ch → c.ch ≤ 40 →
    let hist := (s.ch c.ch).valve.hist
    (s.bridge.since + 1000 * (s.cfg c.ch).valveTmax ≤ now.ms →
      ∃ t, exec (.valveTimeout now) s = .next t ∧ faulted s t c.ch 1 hist now) ∧
    (now.ms < s.bridge.since + 1000 * (s.cfg c.ch).valveTmax → exec (.valveTimeout now) s = .next s) ∧
    (∃ t, exec (.valveOvercurrent now) s = .next t ∧ faulted s t c.ch 5 hist now) ∧
    (s.bridge.since + 1000 ≤ now.ms → ∃ t, exec (.valveOpenCoil now) s = .next t ∧ faulted s t c.ch 6 hist now) ∧
    (now.ms < s.bridge.since + 1000 → exec (.valveOpenCoil now) s = .next s) ∧
    (s.normal = true → s.active = true → (s.cfg c.ch).hasValve = true → s.pwr.pfActive = false →
      (∀ r, hist = (true, true) :: r →
        ∃ t, exec (.valveFeedbackSample now c.ch true true) s = .next t ∧
          (t.ch c.ch).a.valve.fault = 3 ∧ (t.ch c.ch).a.valve.position = 3 ∧ t.bridge.moving = none ∧ OthersSame c.ch s t) ∧
      (∀ r t0, c.dir = 2 → hist = (true, false) :: r → (s.ch c.ch).valve.opposite = some t0 → t0 + 2000 ≤ now.ms →
        s.bridge.since + 2000 ≤ now.ms →
        ∃ t, exec (.valveFeedbackSample now c.ch true false) s = .next t ∧
          (t.ch c.ch).a.valve.fault = 2 ∧ (t.ch c.ch).a.valve.position = 1 ∧ t.bridge.moving = none ∧ OthersSame c.ch s t)) ∧
    (∀ u : State, u.bridge.moving = none → exec (.valveTimeout now) u = .next u ∧ exec (.valveOvercurrent now) u = .next u ∧
      exec (.valveOpenCoil now) u = .next u)

/-- TAMPER_EDGE with SETT powered sets the switch's level and, for an opening, its TAMPER_EVENTS bit. Outside Run it
adds the edge with its time to the latch; a ninth edge replaces the newest, marked, with LATCH_OVF. In Run the latch
is empty afterwards and its edges are logged: the edge of an empty latch becomes one entry with the SETT timestamp,
where its code has had fewer than 8 onsets in the hour. In Off, and with SETT unpowered, nothing changes.
MOVOR_CABLE_LOSS, high for 10 ms, of a running member of a pair that had the cable marks it lost with its
TAMPER_EVENTS bit and leaves the link unpaired and faulted; MOVOR_CABLE_RESTORED ends the condition. Otherwise the two
only note the level of LINK_DET, and a shorter level changes nothing. (Prepayment and tamper recording: R326, R328,
R332, Clocks, power states and wake: R89, Module, connectors and wiring: R32, R22, Redundant pair and state mirroring:
R542) -/
def Obligations.TamperEdgesAndCableLossAreRecorded : Prop :=
  (∀ (s : State) (i : TamperInput) (opened : Bool),
    (s.pwr.state = .off ∨ s.pwr.settRun = false → exec (.tamperEdge i opened) s = .next s) ∧
    (s.pwr.state ≠ .off → s.pwr.settRun = true →
      ∃ t, exec (.tamperEdge i opened) s = .next t ∧ Keeps (.tamper :: logGroups) s t ∧
        (i = .cover → t.tamper.coverOpen = opened ∧ t.tamper.tcoverOpen = s.tamper.tcoverOpen ∧
          (opened = true → t.tamper.events.getLsbD 0 = true)) ∧
        (i = .terminalCover → t.tamper.tcoverOpen = opened ∧ t.tamper.coverOpen = s.tamper.coverOpen ∧
          (opened = true → t.tamper.events.getLsbD 1 = true)) ∧
        (s.running = true ∧ s.pwr.state = .run → t.tamper.latch = [] ∧
          (s.tamper.latch = [] → s.pair.phase = 0 → opened = true → s.log.hour = s.rtc.count / 3600 →
            onsets (tamperCode i) 0 s.log.counts < 8 →
            t.mem.queue = s.mem.queue ++ [{ kind := .entry (0x210000 + 32 * ((s.log.next - 1) % 4096)), body := eventBytes s.log.next s.rtc.count 4 (tamperCode i) 0 [1#8, 1#8] }])) ∧
        (s.running = false ∨ s.pwr.state ≠ .run → Keeps [.tamper] s t ∧
          (s.tamper.latch.length < 8 → t.tamper.latch = s.tamper.latch ++ [(i, opened, s.rtc.count, false)]) ∧
          (8 ≤ s.tamper.latch.length → t.tamper.latch = s.tamper.latch.take 7 ++ [(i, opened, s.rtc.count, true)] ∧
            t.tamper.events.getLsbD 5 = true)))) ∧
  (∀ (s : State) (ms : Nat),
    let on := s.paired = true ∧ s.pwr.phase = .running ∧ s.powered = true
    (10 ≤ ms → on → s.pair.cableLost = false →
      ∃ t, exec (.movorCableLoss ms) s = .next t ∧ t.pair.cableLost = true ∧ t.pair.cableOpen = true ∧
        t.pair.linkFault = true ∧ t.pair.phase ≤ 1 ∧
        t.tamper = { s.tamper with linkLost := true, events := s.tamper.events ||| 16#32 } ∧ Keeps (.tamper :: logGroups) s t) ∧
    (10 ≤ ms → ¬ on ∨ s.pair.cableLost = true →
      exec (.movorCableLoss ms) s = .next { s with pair := { s.pair with cableOpen := true } }) ∧
    (ms < 10 → exec (.movorCableLoss ms) s = .next s) ∧
    (on → s.pair.cableLost = true →
      ∃ t, exec .movorCableRestored s = .next t ∧ t.pair.cableLost = false ∧ t.pair.cableOpen = false ∧
        t.tamper = { s.tamper with linkLost := false } ∧ Keeps [.queue, .log, .tamper, .pair] s t) ∧
    (¬ on ∨ s.pair.cableLost = false →
      exec .movorCableRestored s = .next { s with pair := { s.pair with cableOpen := false } }))

/-- ALLOCATOR_PARSE takes the oldest frame that is not addressed to the module; with none it changes nothing. Read
with a parity error in its buffers, it is discarded and the error registered. A frame that names no slot is counted in
the table of 64, where a new transmitter takes a free entry or replaces one with the oldest time. One with another CI,
or another mode, is only dropped. One that does not decrypt commits the record with FLAGS bit 1 and REJ_COUNT raised.
The rest is judged: a first reading is stored; the same ACC is a duplicate; an ACC 1 to 127 later is stored with
CURRENT not smaller, or, with FLAGS bit 4, with a later due date; all else is refused with FLAGS bit 2, the ninth in a
row stored with bit 5. ALLOCATOR_FREEZE, when due, hands every slot not yet frozen and then the freeze record to the
HOARD queue; while a step of the tick has not closed or its commit is held it only begins the freeze. (Wired M-Bus and
allocator collection: R426, R428, R429, R430, R431, R432, R433, Integrity, faults and coinciding events: R569) -/
def Obligations.AllocatorFramesAreJudgedAndFrozen : Prop :=
  (∀ s : State, (∀ f ∈ s.radio.rx, s.addressed f = true) → exec .allocatorParse s = .next s) ∧
  (∀ (s : State) (f : List Byte) (pre rest : List (List Byte)), s.radio.rx = pre ++ f :: rest →
    (∀ x ∈ pre, s.addressed x = true) → s.addressed f = false → s.mem.parityIn 0x30000 0xF000 = true →
    ∃ t, exec .allocatorParse s = .next t ∧ t.radio = { s.radio with rx := pre ++ rest } ∧
      Keeps [.radio, .flt, .marks] s t ∧ t.mem.parityIn 0x30000 0xF000 = false ∧ t.flt.lastKind = 2 ∧ t.flt.lastReader = 8) ∧
  (∀ (s : State) (f : List Byte) (pre rest : List (List Byte)), s.radio.rx = pre ++ f :: rest →
    (∀ x ∈ pre, s.addressed x = true) → s.addressed f = false → s.mem.parityIn 0x30000 0xF000 = false →
    let u := s.onRadio fun r => { r with rx := pre ++ rest }
    let id := slice f 2 8
    let fresh : Stranger := { ident := id, count := 1, last := s.rtc.count }
    ((∀ al ∈ s.allocs, al.ident ≠ id) →
      ∃ t, exec .allocatorParse s = .next t ∧ t.radio = u.radio ∧ Keeps [.radio, .alc] s t ∧
        t.alc = { s.alc with strangers := t.alc.strangers } ∧
        ((∀ e ∈ s.alc.strangers, e.ident ≠ id) → s.alc.strangers.length < 64 → t.alc.strangers = s.alc.strangers ++ [fresh]) ∧
        (∀ l e r, s.alc.strangers = l ++ e :: r → (∀ x ∈ l, x.ident ≠ id) → e.ident = id →
          t.alc.strangers = l ++ { e with count := min 65535 (e.count + 1), last := s.rtc.count } :: r) ∧
        (∀ l e r, s.alc.strangers = l ++ e :: r → (∀ x ∈ s.alc.strangers, x.ident ≠ id) → 64 ≤ s.alc.strangers.length →
          (∀ x ∈ l, e.last < x.last) → (∀ x ∈ r, e.last ≤ x.last) → t.alc.strangers = l ++ fresh :: r)) ∧
    (∀ (a : Nat) (al : Allocator), s.allocs[a]? = some al → al.ident = id → (∀ b < a, ∀ x, s.allocs[b]? = some x → x.ident ≠ id) →
      ((fieldAt f 10 1 ≠ 0x7A ∧ fieldAt f 10 1 ≠ 0x72) ∨ (fieldAt f 10 1 = 0x7A ∧ fieldAt f 13 2 / 256 % 32 ≠ 5) →
        exec .allocatorParse s = .next u) ∧
      (∀ k, al.key = some k → fieldAt f 10 1 = 0x7A → fieldAt f 13 2 / 256 % 32 = 5 →
        let n := fieldAt f 13 2 / 16 % 16
        let iv := id ++ List.replicate 8 (BitVec.ofNat 8 (fieldAt f 11 1))
        let plain := cbcDecrypt n k iv ((f.drop 15).take (16 * n))
        let r := (s.alcRec a).getD (AlcRec.start id)
        (plain.take 2 = [0x2F#8, 0x2F#8] →
          exec .allocatorParse s = .next (u.alcJudge a (fieldAt f 12 1) (fieldAt f 11 1) (telegramValues (plain.drop 2 ++ (f.drop 15).drop (16 * n))) r)) ∧
        (plain.take 2 ≠ [0x2F#8, 0x2F#8] → s.alc.run = none → s.pair.phase = 0 →
          ∃ t, exec .allocatorParse s = .next t ∧ t.radio = u.radio ∧ t.alc = { s.alc with refused := min 255 (s.alc.refused + 1) } ∧
            t.mem.queue = s.mem.queue ++ [{ kind := .slots (alcAddr a) (alcAddr a + 64), body :=
              ({ r with flags := r.flags ||| 2, rejCount := min 65535 (r.rejCount + 1) } : AlcRec).bytes }])))) ∧
  (∀ (s : State) (a sts acc cur due : Nat) (date : List Byte) (r : AlcRec), s.alc.run = none → s.pair.phase = 0 →
    let d := (acc + 256 - r.acc) % 256
    let stores (t : State) (more : Nat) : Prop :=
      t.mem.queue = s.mem.queue ++ [{ kind := .slots (alcAddr a) (alcAddr a + 64), body :=
        ({ r with rxTime := s.rtc.count, sts := sts, acc := acc, current := cur, due := due, dueDate := date,
                  flags := (r.flags &&& 0x30) ||| 1 ||| more ||| (if sts % 4 = 0 then 0 else 8),
                  rxCount := (r.rxCount + 1) % 2 ^ 32 } : AlcRec).bytes }] ∧ t.alc.runOf a = 0 ∧ t.alc.refused = s.alc.refused
    let refuses (t : State) : Prop :=
      t.mem.queue = s.mem.queue ++ [{ kind := .slots (alcAddr a) (alcAddr a + 64), body :=
        ({ r with flags := r.flags ||| 4, rejCount := min 65535 (r.rejCount + 1) } : AlcRec).bytes }] ∧
        t.alc.runOf a = s.alc.runOf a + 1 ∧ t.alc.refused = min 255 (s.alc.refused + 1)
    let t := s.alcJudge a sts acc (some (cur, due, date)) r
    (r.stored = false → stores t 0) ∧
    (r.stored = true → d = 0 → t = s) ∧
    (r.stored = true → 1 ≤ d → d ≤ 127 → r.current ≤ cur → stores t 0) ∧
    (r.stored = true → 1 ≤ d → d ≤ 127 → cur < r.current → dateRank r.dueDate < dateRank date → stores t 0x10) ∧
    (r.stored = true → 128 ≤ d ∨ (1 ≤ d ∧ cur < r.current ∧ dateRank date ≤ dateRank r.dueDate) →
      if s.alc.runOf a < 8 then refuses t else stores t 0x20) ∧
    refuses (s.alcJudge a sts acc none r)) ∧
  (∀ s : State,
    ((s.normal = false ∧ s.backup = false) ∨ s.active = false ∨ s.hasAllocs = false ∨ s.freezeDue = none →
      exec .allocatorFreeze s = .next s) ∧
    (∀ seq key, s.normal = true ∨ s.backup = true → s.active = true → s.hasAllocs = true → s.alc.run = none → s.pair.phase = 0 →
      s.freezeDue = some (seq, key) → s.allocs.length ≤ 480 → s.mem.queue.length + s.allocs.length < queueBound →
      s.commitsOpen = false →
      ∃ t, exec .allocatorFreeze s = .next t ∧ t.alc.run = none ∧ Keeps [.queue, .alc] s t ∧
        t.mem.queue.length = s.mem.queue.length + 1 + ((List.range s.allocs.length).filter fun a =>
          match s.alcRec a with
          | none => true
          | some r => r.freezeSeq != seq).length ∧
        s.mem.queue <+: t.mem.queue ∧
        ∃ body, t.mem.queue.getLast? = some { kind := .slots 0x24F000 0x24F040, body := body } ∧
          fieldAt body 0 4 = seq % 2 ^ 32 ∧ fieldAt body 4 2 = key % 65536 ∧ fieldAt body 8 5 = s.rtc.count % 2 ^ 40) ∧
    (∀ seq key, s.normal = true ∨ s.backup = true → s.active = true → s.hasAllocs = true → s.alc.run = none →
      s.freezeDue = some (seq, key) → s.commitsOpen = true →
      ∃ t run, exec .allocatorFreeze s = .next t ∧ t.alc = { s.alc with run := some run } ∧ run.seq = seq ∧ run.key = key ∧
        run.time = s.rtc.count ∧ Keeps [.alc] s t))

/-- TELEGRAM_OFFER of an entry at the scheduled instant of its grid, by the active member in NORMAL or BACKUP in Run
and in the order of the offers of that instant: where the module may not transmit it is refused with cause 4, with 32
telegrams waiting with 1, and where the end of the queue leaves no start within 4 s with 2. Where the first possible
start, 30 ms on and 5 ms after the queue's end, stays within nine tenths of the budget and the telegram can be
secured, it is queued last for that start, in the mode's frame format, with that frame's airtime. Every offer either
adds one telegram with a start 30 ms to 4 s on, or leaves the queue and counts one refusal with cause 1 to 4 and
TX_REJECT. In Sleep a due offer raises the wake of the schedule. Apart from such an instant, for an entry that is not
in the image, out of its order, or for an offer that does not wait, nothing changes. (Radio link and transmit
scheduling: R365, R366, R369, R371, R373, R374, R377) -/
def Obligations.OffersAreAcceptedOrRefused : Prop :=
  (∀ (s : State) (now : Now) (n nominal : Nat),
    (s.telegram n = none → exec (.telegramOffer now (.scheduled n nominal)) s = .next s) ∧
    (∀ e, s.telegram n = some e →
      let i := e.gridOf s.gridNow
      let c := s.radioCfg
      let a := airtime c.1 c.2.1 (s.maxLen e)
      let start := max (now.ms + 30) (s.tail now.ms + 5)
      let refused (t : State) (cause : Nat) : Prop :=
        t.radio.queue = s.radio.queue ∧ t.radio.rejected = min 255 (s.radio.rejected + 1) ∧ t.radio.lastCause = cause ∧
          t.radio.events.getLsbD 0 = true ∧ t.sec = s.sec ∧ t.alc = s.alc ∧ t.mem = s.mem
      (i = 0 ∨ (s.normal = false ∧ s.backup = false) ∨ s.active = false ∨ s.gridInstant n s.gridNow i nominal = false ∨
          s.inOrder now.ms (.scheduled n nominal) = false →
        exec (.telegramOffer now (.scheduled n nominal)) s = .next s) ∧
      (i ≠ 0 → s.normal = true ∨ s.backup = true → s.active = true → s.gridInstant n s.gridNow i nominal = true →
          s.inOrder now.ms (.scheduled n nominal) = true → s.asleep = true →
        ∃ t, exec (.telegramOffer now (.scheduled n nominal)) s = .next t ∧ WakeSource.schedule ∈ t.pwr.wakes ∧ Keeps [.pwr] s t) ∧
      (i ≠ 0 → s.normal = true ∨ s.backup = true → s.active = true → s.gridInstant n s.gridNow i nominal = true →
          s.inOrder now.ms (.scheduled n nominal) = true → s.pwr.state = .run →
        ∃ t, exec (.telegramOffer now (.scheduled n nominal)) s = .next t ∧ Keeps [.queue, .pair, .radio, .sec, .alc] s t ∧
          (∀ g k d, (n, g, k, d) ∈ t.radio.catchUps → g ≠ s.gridNow) ∧
          (s.offersAllowed = false → refused t 4) ∧
          (s.offersAllowed = true → 32 ≤ s.radio.queue.length → refused t 1) ∧
          (s.offersAllowed = true → s.radio.queue.length < 32 →
            (now.ms + 4000 < start → refused t 2) ∧
            (start ≤ now.ms + 4000 → 10 * (s.windowUse start + a) ≤ 9 * s.budget →
              ∀ body u, (s.clearOffer now (.scheduled n nominal)).build n e (s.newestSnap e.ch) = some (body, u) →
                t.radio.queue = s.radio.queue ++
                  [{ entry := n, start := start, air := airtime c.1 c.2.1 (onAir c.1 body).length, plan := a,
                     frame := onAir c.1 body }] ∧ t.radio.rejected = s.radio.rejected) ∧
            ((∃ x, t.radio.queue = s.radio.queue ++ [x] ∧ x.entry = n ∧ now.ms + 30 ≤ x.start ∧ s.tail now.ms + 5 ≤ x.start ∧
                x.start ≤ now.ms + 4000 ∧ t.radio.rejected = s.radio.rejected) ∨ refused t 2 ∨ refused t 3 ∨ refused t 4))))) ∧
  (∀ (s : State) (now : Now) (n k : Nat), (∀ d, (n, s.gridNow, k, d) ∉ s.radio.catchUps) →
    exec (.telegramOffer now (.catchUp n k)) s = .next s) ∧
  (∀ (s : State) (now : Now) (n ch key : Nat) (annual : Bool), (∀ d, (n, ch, key, annual, d) ∉ s.radio.snaps) →
    exec (.telegramOffer now (.snapshot n ch key annual)) s = .next s) ∧
  (∀ (s : State) (now : Now) (n : Nat), s.normal = false → exec (.telegramOffer now (.alarm n)) s = .next s) ∧
  (∀ (s : State) (now : Now), s.pwr.mode ≠ .hold → exec (.telegramOffer now .holdAlarm) s = .next s) ∧
  (∀ (s : State) (now : Now), s.pwr.mode ≠ .unconfigured → exec (.telegramOffer now .unconfAlarm) s = .next s)

/-- FRAME_TRANSMIT before the planned start or without a queued frame changes nothing; from then on, in Run, the first
frame leaves the queue and is sent at its planned start: it ends after its airtime, which its bin counts, and opens a
response window where the image says so, a parity error of its buffers being registered only; in Sleep the wake of the
schedule is raised. DUTY_BIN_ADVANCE drops only bins that no later window use counts. RESPONSE_WINDOW opens the window
of the last frame after its response delay where no answer is due; a due answer is sent within the budget once the
frame has ended, else it is skipped with RESP_SKIPPED. RADIO_FRAME_RECEIVED with nothing listening when it began
changes nothing; a frame that a transmission cut is counted as dropped; a wrong CRC is only counted; a right one is
counted and the frame waits, in a buffer of 8 that drops its oldest. (Radio link and transmit scheduling: R358, R361,
R362, R363, R365, R366, R375, Telegrams, sessions and security: R404, R407, Integrity, faults and coinciding events:
R569) -/
def Obligations.FramesAreSentAndReceivedWithinTheBudget : Prop :=
  (∀ (s : State) (now : Now),
    (s.radio.queue = [] → exec (.frameTransmit now) s = .next s) ∧
    (∀ x rest, s.radio.queue = x :: rest →
      (now.ms < x.start → exec (.frameTransmit now) s = .next s) ∧
      (x.start ≤ now.ms → s.asleep = true →
        ∃ t, exec (.frameTransmit now) s = .next t ∧ WakeSource.schedule ∈ t.pwr.wakes ∧ Keeps [.pwr] s t) ∧
      (x.start ≤ now.ms → s.pwr.state = .run →
        ∃ t, exec (.frameTransmit now) s = .next t ∧ Keeps [.flt, .pwr, .radio] s t ∧
          (s.mem.parityIn 0x30000 0xF000 = false → t.flt = s.flt) ∧
          (s.mem.parityIn 0x30000 0xF000 = true → t.flt.lastKind = 2 ∧ t.flt.lastReader = 6) ∧ t.radio.queue = rest ∧
          t.radio.lastFrame = x.frame ∧ t.radio.txStart = x.start ∧ t.radio.txEnd = x.start + msUp x.air ∧
          t.radio.window = none ∧ t.radio.rx = s.radio.rx ∧ t.radio.winDue = (s.opensWindow && decide (x.entry ≠ 128)) ∧
          t.binUse x.start = s.binUse x.start + x.air ∧ t.windowUse x.start = s.windowUse x.start ∧
          (s.pwr.onCell = false → t.pwr = s.pwr)))) ∧
  (∀ (s : State) (now : Now),
    ∃ t, exec (.dutyBinAdvance now) s = .next t ∧ Keeps [.radio] s t ∧ t.radio.queue = s.radio.queue ∧
      (∀ b ∈ t.radio.bins, now.ms < 60000 * (b.1 + 1) + 3600000) ∧
      ∀ at_, now.ms ≤ at_ → t.windowUse at_ = s.windowUse at_) ∧
  (∀ (s : State) (now : Now),
    (s.normal = false ∨ s.active = false ∨ s.pwr.pfActive = true ∨ now.ms < s.radio.txEnd ∨
        (s.radio.answer = none ∧ (s.radio.winDue = false ∨ now.ms < s.winFrom)) →
      exec (.responseWindow now) s = .next s) ∧
    (s.normal = true → s.active = true → s.pwr.pfActive = false → s.radio.txEnd ≤ now.ms →
      (s.radio.answer = none → s.radio.winDue = true → s.winFrom ≤ now.ms →
        exec (.responseWindow now) s = .next (s.onRadio fun r => { r with
          winDue := false, window := if now.ms ≤ s.winTo then some s.winTo else none })) ∧
      (∀ a k, s.radio.answer = some a → a.ctx = some k → k < 24 → (s.ctx k).st = .ready ∨ (s.ctx k).st = .idle →
        let frame := onAir s.radioCfg.1 ((s.ctx k).frame.drop 1)
        let air := airtime s.radioCfg.1 s.radioCfg.2.1 frame.length
        (s.windowUse now.ms + air ≤ s.budget →
          ∃ t, exec (.responseWindow now) s = .next t ∧ t.radio.answer = none ∧ t.radio.lastFrame = frame ∧
            t.radio.txEnd = now.ms + msUp air ∧ t.radio.queue = s.radio.queue ∧
            t.ctx k = (if (s.ctx k).st = .ready then { s.ctx k with st := .idle, since := now.ms } else s.ctx k) ∧
            t.sec = s.sec ∧ t.mem = s.mem) ∧
        (s.budget < s.windowUse now.ms + air →
          exec (.responseWindow now) s = .next (s.onRadio fun r => { r with
            answer := none, window := none, events := r.events ||| 16#32 }))))) ∧
  (∀ (s : State) (now : Now) (since : Nat) (good : Bool) (f : List Byte),
    let cut := s.receives = true ∧ s.rxEnable ≠ 0 ∧ since < s.radio.txStart ∧ s.radio.txStart ≤ now.ms
    (cut → exec (.radioFrameReceived now since good f) s =
      .next (s.onRadio fun r => { r with dropped := min 255 (r.dropped + 1) })) ∧
    (¬ cut → s.listening since = false → s.windowOpen since = false →
      exec (.radioFrameReceived now since good f) s = .next s) ∧
    (¬ cut → s.listening since = true ∨ s.windowOpen since = true →
      exec (.radioFrameReceived now since false f) s = .next (s.onRadio fun r => { r with crcErr := min 255 (r.crcErr + 1) }) ∧
      ∃ t, exec (.radioFrameReceived now since true f) s = .next t ∧ Keeps [.radio] s t ∧
        t.radio.frames = min 65535 (s.radio.frames + 1) ∧ t.radio.queue = s.radio.queue ∧
        (s.radio.rx.length < 8 → t.radio.rx = s.radio.rx ++ [f] ∧ t.radio.dropped = s.radio.dropped) ∧
        (8 ≤ s.radio.rx.length → t.radio.rx = s.radio.rx.tail ++ [f] ∧ t.radio.dropped = min 255 (s.radio.dropped + 1) ∧
          t.radio.events.getLsbD 2 = true)))

/-- SESSION_REQUEST of a frame that waits takes it off; read with a parity error it is discarded; where the medium is
not served that is all, and a frame that fails authentication is counted. Over radio an authentic one is answered
NOT_AUTHORISED under a key of another use, BUSY during a power failure, as a repetition without execution, which dates
the context anew unless it is RUNNING, where counter and access number are those the partner's context last took, BUSY
while that context is in a transaction, and otherwise taken into it, or into the first free context: RUNNING, with a
floor-bound counter at or below the floor refused, and above it made the new floor. With every context in a
transaction a new partner is turned away and counted. COMMAND_EXECUTION_END caches the response of an executed
command, using a counter, or skips it; READY of 60 s and IDLE of 900 s lead to IDLE and FREE, and not before. Nothing
else moves. (Telegrams, sessions and security: R401, R403, R404, R405, R406, R407, R408, R410, Radio link and transmit
scheduling: R362, R366, Integrity, faults and coinciding events: R569) -/
def Obligations.SessionRequestsTakeContextsAndAreAnswered : Prop :=
  (∀ (s : State) (p : Partner) (f : List Byte),
    (p = .busMaster → s.takeRequestFrame p f =
      if f ∈ s.sess.inbox then some (s.onSess fun e => { e with inbox := e.inbox.erase f }) else none) ∧
    (∀ a, p = .radio a →
      ((∀ x ∈ s.radio.rx, s.addressed x = false ∨ slice x 2 8 ≠ a ∨ x.drop 10 ≠ f) → s.takeRequestFrame p f = none) ∧
      (∀ pre x rest, s.radio.rx = pre ++ x :: rest → s.addressed x = true → slice x 2 8 = a → x.drop 10 = f →
        (∀ y ∈ pre, s.addressed y = false ∨ slice y 2 8 ≠ a ∨ y.drop 10 ≠ f) →
        s.takeRequestFrame p f = some (s.onRadio fun r => { r with rx := pre ++ rest })))) ∧
  (∀ (s : State) (now : Now) (p : Partner) (f : List Byte), s.takeRequestFrame p f = none →
    exec (.sessionRequest now p f) s = .next s) ∧
  (∀ (s u : State) (now : Now) (p : Partner) (f : List Byte), s.takeRequestFrame p f = some u →
    s.mem.parityIn 0x30000 0xF000 = true →
    ∃ t, exec (.sessionRequest now p f) s = .next t ∧ t.radio = u.radio ∧ t.sess = u.sess ∧
      Keeps [.radio, .sess, .flt, .marks] s t ∧ t.mem.parityIn 0x30000 0xF000 = false ∧ t.flt.lastKind = 2 ∧ t.flt.lastReader = 8) ∧
  (∀ (s u : State) (now : Now) (p : Partner) (f : List Byte), s.takeRequestFrame p f = some u →
    s.mem.parityIn 0x30000 0xF000 = false →
    (s.serves p = false → exec (.sessionRequest now p f) s = .next u) ∧
    (s.serves p = true → s.authenticate f = none →
      exec (.sessionRequest now p f) s = .next (u.onSess fun e => { e with authFail := min 255 (e.authFail + 1) }))) ∧
  (∀ (s u : State) (now : Now) (addr f : List Byte) (r : Request), s.takeRequestFrame (.radio addr) f = some u →
    s.mem.parityIn 0x30000 0xF000 = false → s.serves (.radio addr) = true → s.authenticate f = some r →
    let tells (t : State) (ctx : Option Nat) (result : Nat) : Prop :=
      t.radio.answer = some { ctx := ctx, identity := r.identity, key := r.key.index, acc := r.acc, cmd := r.cmd, result := result } ∧
        Keeps [.radio, .sess] s t
    let answered (t : State) (ctx : Option Nat) (result : Nat) : Prop := tells t ctx result ∧ t.sess.ctxs = s.sess.ctxs
    let taken (t : State) (k : Nat) : Prop :=
      (t.ctx k).st = .running ∧ (t.ctx k).partner = .radio addr ∧ (t.ctx k).identity = r.identity ∧ (t.ctx k).key = r.key.index ∧
        (t.ctx k).mcr = r.mcr ∧ (t.ctx k).acc = r.acc ∧ (t.ctx k).cmd = r.cmd ∧
        (∀ j, j < 24 → j ≠ k → t.ctx j = s.ctx j) ∧ Keeps [.queue, .radio, .sec, .sess, .mbus, .pair] s t ∧
        (∀ args, r.arguments = some args → (t.ctx k).args = args ∧
          (floorBound r.cmd = false → (t.ctx k).done = none ∧ t.sec = s.sec ∧ t.mem.queue = s.mem.queue) ∧
          (floorBound r.cmd = true → r.mcr ≤ nth s.sec.floor r.key.index 0 → (t.ctx k).done = some (5, []) ∧ t.sec = s.sec) ∧
          (floorBound r.cmd = true → nth s.sec.floor r.key.index 0 < r.mcr → (t.ctx k).done = none ∧
            t.sec = { s.sec with floor := updAt s.sec.floor r.key.index fun _ => r.mcr } ∧
            t.mem.queue = s.mem.queue ++ [{ kind := .slots 0x250000 0x250400, body := t.sec.bytes }])) ∧
        (r.arguments = none → (t.ctx k).done = some (4, []) ∧ t.sec = s.sec)
    ∃ t, exec (.sessionRequest now (.radio addr) f) s = .next t ∧ t.radio.rx = u.radio.rx ∧ t.sess.inbox = s.sess.inbox ∧
      (r.key.use ≠ 2 → answered t none 3) ∧
      (r.key.use = 2 → s.pwr.pfActive = true → answered t none 1) ∧
      (r.key.use = 2 → s.pwr.pfActive = false →
        (∀ k, s.ctxOf (.radio addr) = some k →
          ((s.ctx k).mcr = r.mcr → (s.ctx k).acc = r.acc → tells t (some k) 1 ∧ t.sess.dups = min 255 (s.sess.dups + 1) ∧
            (∀ j, j < 24 → j ≠ k → t.ctx j = s.ctx j) ∧ ((s.ctx k).st = .running → t.ctx k = s.ctx k) ∧
            ((s.ctx k).st ≠ .running → t.ctx k = { s.ctx k with order := s.sess.order + 1 })) ∧
          ((s.ctx k).mcr ≠ r.mcr ∨ (s.ctx k).acc ≠ r.acc →
            ((s.ctx k).st ≠ .idle → answered t none 1) ∧ ((s.ctx k).st = .idle → taken t k))) ∧
        (s.ctxOf (.radio addr) = none →
          (∀ k, k < 24 → (s.ctx k).st = .free → (∀ j, j < k → (s.ctx j).st ≠ .free) → taken t k) ∧
          ((∀ k, k < 24 → (s.ctx k).st = .running ∨ (s.ctx k).st = .ready) →
            answered t none 1 ∧ t.sess.busy = min 65535 (s.sess.busy + 1))))) ∧
  (∀ (s : State) (now : Now) (k : Nat), k < 24 →
    ((s.ctx k).st ≠ .running ∨ (s.ctx k).done = none → exec (.commandExecutionEnd now k) s = .next s) ∧
    (∀ result data, (s.ctx k).st = .running → (s.ctx k).done = some (result, data) →
      (s.keyEntry (s.ctx k).key = none ∨ s.counterFree (s.ctx k).identity = false →
        exec (.commandExecutionEnd now k) s = .next (s.onRadio fun r => { r with events := r.events ||| 16#32 })) ∧
      (∀ key, s.keyEntry (s.ctx k).key = some key → s.counterFree (s.ctx k).identity = true →
        ∃ t frame, exec (.commandExecutionEnd now k) s = .next t ∧
          t.ctx k = { s.ctx k with st := .ready, since := now.ms, frame := frame } ∧
          frame.length ≤ 252 ∧ (∀ j, j < 24 → j ≠ k → t.ctx j = s.ctx j) ∧
          t.sec.next = updAt s.sec.next (s.ctx k).identity (· + 1) ∧ t.radio = s.radio)) ∧
    ((s.ctx k).st = .ready → (s.ctx k).since + 60000 ≤ now.ms → ∃ t, exec (.sessionReadyTimeout now k) s = .next t ∧
      t.ctx k = { s.ctx k with st := .idle, since := now.ms } ∧ (∀ j, j < 24 → j ≠ k → t.ctx j = s.ctx j) ∧ Keeps [.radio, .sess, .mbus] s t ∧ ∀ a, t.radio.answer = some a → a.ctx ≠ some k) ∧
    ((s.ctx k).st ≠ .ready ∨ now.ms < (s.ctx k).since + 60000 → exec (.sessionReadyTimeout now k) s = .next s) ∧
    ((s.ctx k).st = .idle → (s.ctx k).since + 900000 ≤ now.ms → ∃ t, exec (.sessionIdleTimeout now k) s = .next t ∧ (t.ctx k).st = .free ∧
      (∀ j, j < 24 → j ≠ k → t.ctx j = s.ctx j) ∧ Keeps [.sess] s t) ∧
    ((s.ctx k).st ≠ .idle ∨ now.ms < (s.ctx k).since + 900000 → exec (.sessionIdleTimeout now k) s = .next s))

/-- A context that does not run the command, or has executed it, changes nothing. STATUS answers mode, role, status,
count and sequence numbers; READ_HOARD the bytes, or BAD_ARG outside its range. Once the floor can land, and the peer
has acknowledged its mirror, the link is faulted or 150 ms have passed: VALVE answers BAD_ARG without a channel, a
valve or a direction, NOT_IN_STATE outside NORMAL, BUSY during a power failure, and queues the command of an unmoved
valve without prepayment with its ticket; SET_TIME and ADJUST_TIME answer NOT_IN_STATE where the time may not change,
SET_TIME sets the count, the prescaler at 0, and answers the count before, ADJUST_TIME starts or cancels a slew. TOPUP
refused is answered with its reason; accepted, credit and token serial change in datapath A and B alike and the TOTALS
record is queued; TOPUP_ANSWER, once that has landed and its mirror waited for, answers OK. (Telegrams, sessions and
security: R401, R408, R410, Pulse outputs and valve drive: R276, Prepayment and tamper recording: R318, R319, R320,
Real-time clock and calendar: R337, R343) -/
def Obligations.RemoteCommandsExecuteInTheirContext : Prop :=
  let done (s t : State) (k result : Nat) (data : List Byte) : Prop :=
    t.ctx k = { s.ctx k with done := some (result, data) } ∧ ∀ j, j < 24 → j ≠ k → t.ctx j = s.ctx j
  (∀ (s : State) (now : Now) (k : Nat), k < 24 →
    (s.runs k 0x01 = false → exec (.cmdStatus k) s = .next s) ∧ (s.runs k 0x02 = false → exec (.cmdReadHoard k) s = .next s) ∧
    (s.runs k 0x10 = false → exec (.cmdValve now k) s = .next s) ∧
    (s.runs k 0x11 = false → exec (.cmdTopup now k) s = .next s ∧ exec (.topupAnswer now k) s = .next s) ∧
    (s.runs k 0x20 = false → exec (.cmdSetTime now k) s = .next s) ∧ (s.runs k 0x21 = false → exec (.cmdAdjustTime now k) s = .next s) ∧
    (s.canLand = false → exec (.topupAnswer now k) s = .next s) ∧
    (s.canLand = false ∨ s.mirrorDone 0x250000 (s.ctx k).since now.ms = false → exec (.cmdValve now k) s = .next s ∧
      exec (.cmdSetTime now k) s = .next s ∧ exec (.cmdAdjustTime now k) s = .next s)) ∧
  (∀ (s : State) (a t0 ms : Nat), s.mirrorDone a t0 ms = true ↔
    s.pair.phase < 2 ∨ s.pair.linkFault = true ∨ s.pair.unacked a = false ∨ t0 + 150 ≤ ms) ∧
  (∀ (s : State) (k : Nat), k < 24 →
    (s.runs k 0x01 = true → ∃ t, exec (.cmdStatus k) s = .next t ∧ Keeps [.sess] s t ∧
      done s t k 0 (le 1 s.modeCode ++ le 1 s.pwr.strapRole ++ le 4 s.modStatus ++ le 5 s.rtc.count ++
        le 4 s.img.module_.acceptedSeq ++ le 4 s.img.module_.pcc)) ∧
    (s.runs k 0x02 = true →
      let a := fieldAt (s.ctx k).args 0 3
      let n := fieldAt (s.ctx k).args 3 1
      (1 ≤ n → n ≤ 128 → 0x100000 ≤ a → a + n ≤ 0x250000 → ∃ t, exec (.cmdReadHoard k) s = .next t ∧ Keeps [.flt, .sess] s t ∧
        done s t k 0 (le 3 a ++ le 1 n ++ s.mem.hoard.readBytes a n)) ∧
      (n = 0 ∨ 128 < n ∨ a < 0x100000 ∨ 0x250000 < a + n → ∃ t, exec (.cmdReadHoard k) s = .next t ∧ Keeps [.sess] s t ∧
        done s t k 4 []))) ∧
  (∀ (s : State) (now : Now) (k : Nat), k < 24 → s.canLand = true →
    s.mirrorDone 0x250000 (s.ctx k).since now.ms = true → s.runs k 0x10 = true →
    let n := (s.ctx k).identity
    let dir := fieldAt (s.ctx k).args 0 1
    let v := (s.ch n).a.valve
    ∃ t, exec (.cmdValve now k) s = .next t ∧
      (n = 0 ∨ dir = 0 ∨ 2 < dir ∨ (s.cfg n).hasValve = false → done s t k 4 [] ∧ t.chans = s.chans ∧ t.bridge = s.bridge) ∧
      (1 ≤ n → n ≤ 40 → 1 ≤ dir → dir ≤ 2 → (s.cfg n).hasValve = true → s.prepay n = none →
        (s.normal = false ∨ s.active = false → done s t k 2 [] ∧ t.chans = s.chans ∧ t.bridge = s.bridge) ∧
        (s.normal = true → s.active = true → s.pwr.pfActive = true → done s t k 1 [] ∧ t.chans = s.chans ∧ t.bridge = s.bridge) ∧
        (s.normal = true → s.active = true → s.pwr.pfActive = false → (s.ch n).valve.showsBoth = false →
          (s.bridge.moves n = true → done s t k 1 [] ∧ t.chans = s.chans ∧ t.bridge = s.bridge) ∧
          (s.bridge.moving = none → s.bridge.queue = [] → v.position ≠ dir →
            done s t k 0 (le 4 s.bridge.next) ∧ OthersSame n s t ∧
            t.bridge = { s.bridge with
              queue := [{ ch := n, dir := dir, source := 1, ticket := s.bridge.next }]
              next := s.bridge.next + 1 } ∧
            (t.ch n).a.valve = { v with pending := dir, source := 1, ticket := s.bridge.next })))) ∧
  (∀ (s : State) (now : Now) (k : Nat), k < 24 → s.runs k 0x11 = true →
    let args := (s.ctx k).args
    let n := fieldAt args 4 1
    let serial := fieldAt args 0 4
    let amount := fieldInt args 8 8
    (∀ m, 1 ≤ m → m ≤ 40 → m = n → (s.ch m).token = none) →
    (s.checkToken (s.ctx k).identity args ≠ 0 → ∃ t, exec (.cmdTopup now k) s = .next t ∧ t.chans = s.chans ∧
      done s t k (s.checkToken (s.ctx k).identity args) []) ∧
    (s.checkToken (s.ctx k).identity args = 0 → 1 ≤ n → n ≤ 40 → ∃ t, exec (.cmdTopup now k) s = .next t ∧
      (t.ch n).a.credit.credit = (s.ch n).a.credit.credit + amount ∧ (t.ch n).b.credit.credit = (s.ch n).b.credit.credit + amount ∧
      (t.ch n).a.credit.topups = ((s.ch n).a.credit.topups + 1) % 2 ^ 32 ∧
      ((s.ch n).a.credit.tokenHigh < serial → (t.ch n).a.credit.tokenHigh = serial) ∧
      (t.ch n).a.credit.duplicate serial = true ∧
      (t.ch n).token = some (serial, amount, now.ms) ∧ OthersSame n s t ∧ t.sess = s.sess ∧
      (s.pair.phase = 0 → t.mem.queue = s.mem.queue ++ [totalsRec n (t.ch n).a]))) ∧
  (∀ (s : State) (now : Now) (k t0 : Nat) (amount : Int), k < 24 → s.canLand = true → s.runs k 0x11 = true →
    let n := fieldAt (s.ctx k).args 4 1
    1 ≤ n → n ≤ 40 → (s.ch n).token = some (fieldAt (s.ctx k).args 0 4, amount, t0) →
    (s.mirrorDone (totalsAddr n) t0 now.ms = false → exec (.topupAnswer now k) s = .next s) ∧
    (s.mirrorDone (totalsAddr n) t0 now.ms = true → ∃ t, exec (.topupAnswer now k) s = .next t ∧ done s t k 0 [] ∧ (t.ch n).token = none ∧ OthersSame n s t ∧
      (t.ch n).a.credit.credit = (s.ch n).a.credit.credit)) ∧
  (∀ (s : State) (now : Now) (k : Nat), k < 24 → s.canLand = true → s.mirrorDone 0x250000 (s.ctx k).since now.ms = true →
    (s.runs k 0x20 = true →
      let c := fieldAt (s.ctx k).args 0 5
      ∃ t, exec (.cmdSetTime now k) s = .next t ∧
        (s.timeChanges = false → done s t k 2 [] ∧ t.rtc = s.rtc) ∧
        (s.timeChanges = true → 12622780799 < c → done s t k 4 [] ∧ t.rtc = s.rtc) ∧
        (s.timeChanges = true → c ≤ 12622780799 → done s t k 0 (le 5 s.rtc.count) ∧ t.rtc.count = c ∧
          t.rtc.subBase = now.sub % 32768 ∧ (c < 12622780799 → t.rtc.osf = false) ∧
          (c = 12622780799 → s.rtc.count ≠ c → t.rtc.osf = true))) ∧
    (s.runs k 0x21 = true →
      let a := fieldInt (s.ctx k).args 0 4
      ∃ t, exec (.cmdAdjustTime now k) s = .next t ∧
        (s.timeChanges = false → done s t k 2 [] ∧ t.rtc = s.rtc) ∧
        (s.timeChanges = true →
          (a = 0 → done s t k 0 [] ∧ t.rtc = { s.rtc with slew := 0, slewPhase := 0 }) ∧
          (a ≠ 0 → s.rtc.osf = true ∨ s.rtc.slew ≠ 0 → done s t k 2 [] ∧ t.rtc = s.rtc) ∧
          (a ≠ 0 → s.rtc.osf = false → s.rtc.slew = 0 →
            (a.natAbs ≤ 262144 → a.natAbs + s.rtc.usedToday ≤ 262144 →
              done s t k 0 [] ∧ t.rtc.slew = a ∧ t.rtc.count = s.rtc.count) ∧
            (262144 < a.natAbs ∨ 262144 < a.natAbs + s.rtc.usedToday → done s t k 4 [] ∧ t.rtc = s.rtc)))))

/-- In Run every good frame at one of the six rates notes its rate and its instant, and a bad one is counted. Where
the module answers on the bus: SND_NKE to 0xFD clears the selection and the FCB state and is answered 0xE5, to 0xFF it
clears them without an answer, and other addresses are ignored. A selection clears both first; exactly one matching
identity is then selected and answered 0xE5, several give the collision marker, none and a wrong length no answer.
While an identity is selected, REQ_UD1, SND_UD and a rate switch are answered 0xE5, a request for that identity goes
to the session engine, and REQ_UD2 with FCV and the FCB of the last answer repeats that answer; a READY response of
the bus master's context is delivered once and its context goes IDLE; where there is nothing to answer none is given.
Not in Run, or at a rate that is none of the six, no frame changes anything; without a selection, or where the module
does not answer, only rate and instant change. (Wired M-Bus and allocator collection: R415, R416, R417, R418, R419,
R420, R421, R422, R435, Clocks, power states and wake: R81) -/
def Obligations.MBusFramesAreServedUnderTheSelection : Prop :=
  (∀ (s : State) (now : Now) (baud : Nat) (address ci : Byte) (data frame : List Byte) (fcv fcb : Bool),
    let u := s.busFrame now baud
    let sent (t : State) (bytes : List Byte) : Prop :=
      t.mbus.out = bytes ∧ t.mbus.collision = false ∧ t.mbus.answered = min 255 (s.mbus.answered + 1) ∧ t.mbus.baud = baud % 8 ∧
        t.pwr = u.pwr
    u.mbus = { s.mbus with baud := baud % 8 } ∧ u.pwr = { s.pwr with lastBusMs := now.ms } ∧ Keeps [.pwr, .mbus] s u ∧
    (s.pwr.state ≠ .run ∨ baud = 0 ∨ 6 < baud →
      exec (.sndNke now address baud) s = .next s ∧ exec (.secondarySelect now data baud) s = .next s ∧
      exec (.reqUd1 now baud) s = .next s ∧ exec (.reqUd2 now fcv fcb baud) s = .next s ∧
      exec (.sndUdRequest now frame baud) s = .next s ∧ exec (.sndUdOther now baud) s = .next s ∧
      exec (.baudSwitch now ci baud) s = .next s) ∧
    (s.pwr.state ≠ .run → exec (.mbusFrameError now) s = .next s) ∧
    (s.pwr.state = .run →
      ∃ t, exec (.mbusFrameError now) s = .next t ∧ t.mbus = { s.mbus with frameErr := min 255 (s.mbus.frameErr + 1) } ∧
        t.pwr = { s.pwr with lastBusMs := now.ms } ∧ Keeps [.pwr, .mbus] s t) ∧
    (s.pwr.state = .run → 1 ≤ baud → baud ≤ 6 →
      (s.onBus = false → exec (.sndNke now address baud) s = .next u ∧ exec (.secondarySelect now data baud) s = .next u) ∧
      (s.onBus = false ∨ s.mbus.selected = none →
        exec (.reqUd1 now baud) s = .next u ∧ exec (.reqUd2 now fcv fcb baud) s = .next u ∧
        exec (.sndUdRequest now frame baud) s = .next u ∧ exec (.sndUdOther now baud) s = .next u ∧
        exec (.baudSwitch now ci baud) s = .next u) ∧
      (s.onBus = true →
        (∃ t, exec (.sndNke now address baud) s = .next t ∧ Keeps [.pwr, .mbus] s t ∧
          (address = 0xFD#8 → sent t [0xE5#8] ∧ t.mbus.selected = none ∧ t.mbus.last = none) ∧
          (address = 0xFF#8 → t.mbus = { u.mbus with selected := none, last := none }) ∧
          (address ≠ 0xFD#8 → address ≠ 0xFF#8 → t = u)) ∧
        (∃ t, exec (.secondarySelect now data baud) s = .next t ∧ Keeps [.pwr, .mbus] s t ∧ t.mbus.last = none ∧
          (data.length ≠ 8 → t.mbus = { u.mbus with selected := none, last := none }) ∧
          (data.length = 8 →
            (∀ i, i ∈ s.busIdentities → matchesAddress data (longAddress (s.identity i)) = true →
              (∀ j ∈ s.busIdentities, j ≠ i → matchesAddress data (longAddress (s.identity j)) = false) →
              sent t [0xE5#8] ∧ t.mbus.selected = some i) ∧
            (∀ i j, i ∈ s.busIdentities → j ∈ s.busIdentities → i ≠ j →
              matchesAddress data (longAddress (s.identity i)) = true → matchesAddress data (longAddress (s.identity j)) = true →
              t.mbus.selected = none ∧ t.mbus.collision = true ∧ t.mbus.out = [0xE5#8]) ∧
            ((∀ i ∈ s.busIdentities, matchesAddress data (longAddress (s.identity i)) = false) →
              t.mbus = { u.mbus with selected := none, last := none }))) ∧
        (∀ i, s.mbus.selected = some i →
          (∃ t, exec (.reqUd1 now baud) s = .next t ∧ exec (.sndUdOther now baud) s = .next t ∧ sent t [0xE5#8] ∧
            t.mbus.selected = some i ∧ t.mbus.last = s.mbus.last ∧ Keeps [.pwr, .mbus] s t ∧
            (0xB8 ≤ ci.toNat → ci.toNat ≤ 0xBD → exec (.baudSwitch now ci baud) s = .next t)) ∧
          (∃ t, exec (.sndUdRequest now frame baud) s = .next t ∧ sent t [0xE5#8] ∧ t.mbus.selected = some i ∧
            Keeps [.pwr, .mbus, .sess] s t ∧
            (fieldAt frame 0 1 = 0x90 → fieldAt frame 17 1 = 0x5B → slice frame 18 8 = longAddress (s.identity i) →
              s.normal = true ∨ s.backup = true → t.sess = { s.sess with inbox := s.sess.inbox ++ [frame] }) ∧
            (fieldAt frame 0 1 ≠ 0x90 ∨ fieldAt frame 17 1 ≠ 0x5B ∨ slice frame 18 8 ≠ longAddress (s.identity i) ∨
              (s.normal = false ∧ s.backup = false) → t.sess = s.sess)) ∧
          (∀ f, s.mbus.last = some (fcb, f) →
            ∃ t, exec (.reqUd2 now true fcb baud) s = .next t ∧ sent t f ∧ t.mbus.selected = some i ∧ t.mbus.last = s.mbus.last ∧
              Keeps [.pwr, .mbus] s t) ∧
          (∀ k, fcv = false ∨ s.mbus.last = none → s.mbus.direct = none → k < 24 → s.ctxOf .busMaster = some k →
            (s.ctx k).identity = i → (s.ctx k).st = .ready →
            ∃ t, exec (.reqUd2 now fcv fcb baud) s = .next t ∧ sent t (longFrame ((s.ctx k).frame.drop 1)) ∧
              t.mbus.last = some (fcb, longFrame ((s.ctx k).frame.drop 1)) ∧
              t.ctx k = { s.ctx k with st := .idle, since := now.ms } ∧
              Keeps [.pwr, .mbus, .sess] s t) ∧
          (fcv = false ∨ s.mbus.last = none → s.mbus.direct = none → s.ctxOf .busMaster = none → s.pwr.mode ≠ .unconfigured →
            (∀ k, s.firstEntry k i = none) → exec (.reqUd2 now fcv fcb baud) s = .next u))))) ∧
  (∀ body : List Byte, 9 ≤ body.length → (longFrame body).length = body.length - 7 + 6 ∧ (longFrame body).getLast? = some 0x16#8)

/-- A row outside Run, for a stopped channel, one inside a MOVE or a WAIT, or one that stands at another legal
instruction changes nothing. An illegal opcode stops the channel with OPCODE and a parity error with DATA. With
nothing else due at its boundary: LOOP takes the counter of its level down and goes back, or idles it and goes on;
WAIT begins and its completion clears the latch and goes on, its timeout stops the channel with TIMEOUT; SIGNAL of a
host channel latches its event in every running host channel, or raises HALF; END stops it with DONE, or chains,
storing the running CRC; a MOVE within reach begins with all its words, one off a multiple of 4 stops with ALIGN, one
out of reach with ACCESS, one with a parameter of a host channel with PARAM, and no word has moved. (DMA engine: R476,
R477, R478, R479, R481, R482, R483, R484, R486, R489, R493, R494) -/
def Obligations.DmaInstructionsRunAsEncoded : Prop :=
  let stands (s : State) (k : Nat) (w : List Nat) : Prop :=
    k < 16 ∧ s.pwr.state = .run ∧ (s.dc k).run = true ∧ (s.dc k).move = none ∧ (s.dc k).wait = none ∧
      s.mem.faultIn (s.dc k).pc 16 = false ∧ s.dmaFetch k = w
  let free (s : State) (k : Nat) : Prop :=
    (s.dc k).stop = false ∧ (s.dc k).armed = none ∧ (s.dc k).down = false ∧ (s.dc k).wrote = none
  let others (s t : State) (k : Nat) : Prop := ∀ j, j < 16 → j ≠ k → t.dc j = s.dc j
  let stopped (s t : State) (k code insn : Nat) : Prop :=
    (t.dc k).run = false ∧ (t.dc k).err = code ∧ (t.dc k).latches = 0 ∧ (t.dc k).move = none ∧ (t.dc k).wait = none ∧
      (t.dc k).restart = (!dmaHost k || (s.dc k).restart) ∧ t.dma.errCh = k ∧ t.dma.errCode = code ∧ t.dma.errInsn = insn ∧
      t.dma.errBits.getLsbD k = true ∧ t.dma.events.getLsbD (if dmaHost k then k else 16) = true ∧ others s t k
  (∀ (s : State) (k : Nat) (ack : Bool), k < 16 →
    (s.pwr.state ≠ .run ∨ (s.dc k).run = false ∨ (s.dc k).move ≠ none ∨ (s.dc k).wait ≠ none →
      exec (.dmaMove k) s = .next s ∧ exec (.dmaLoop k) s = .next s ∧ exec (.dmaWait k) s = .next s ∧
        exec (.dmaSignal k ack) s = .next s ∧ exec (.dmaEnd k ack) s = .next s) ∧
    (s.pwr.state ≠ .run → exec (.dmaWaitComplete k) s = .next s ∧ exec (.dmaWaitTimeout k) s = .next s) ∧
    (s.pwr.state = .run → (s.dc k).run = true → (s.dc k).move = none → (s.dc k).wait = none → s.mem.faultIn (s.dc k).pc 16 = true →
      ∃ t, exec (.dmaLoop k) s = .next t ∧ stopped s t k 8 (s.dc k).pc)) ∧
  (∀ (s : State) (k w0 w1 w2 w3 : Nat) (ack : Bool), stands s k [w0, w1, w2, w3] →
    (w0 / 2 ^ 28 % 16 = 0 ∨ 5 < w0 / 2 ^ 28 % 16 → ∃ t, stopped s t k 1 (s.dc k).pc ∧ Keeps [.dma] s t ∧
      exec (.dmaMove k) s = .next t ∧ exec (.dmaLoop k) s = .next t ∧ exec (.dmaWait k) s = .next t ∧
        exec (.dmaSignal k ack) s = .next t ∧ exec (.dmaEnd k ack) s = .next t) ∧
    (w0 / 2 ^ 28 % 16 = 1 → exec (.dmaLoop k) s = .next s ∧ exec (.dmaEnd k ack) s = .next s) ∧
    (1 < w0 / 2 ^ 28 % 16 → w0 / 2 ^ 28 % 16 ≤ 5 → exec (.dmaMove k) s = .next s)) ∧
  (∀ (s : State) (k level rep target : Nat), stands s k [0x20000000 + 0x8000000 * level + rep, target, 0, 0] → free s k →
    level < 2 → 1 ≤ rep → rep < 65536 → target ≤ (s.dc k).pc → dmaPcOk k target = true → dmaPcOk k ((s.dc k).pc + 16) = true →
    let n := (if level = 1 then (s.dc k).ctr1 else (s.dc k).ctr0).getD (rep - 1)
    ∃ t, exec (.dmaLoop k) s = .next t ∧ Keeps [.dma] s t ∧ others s t k ∧
      t.dc k = { s.dc k with
        pc := if 0 < n then target else (s.dc k).pc + 16
        ctr0 := if level = 0 then (if 0 < n then some (n - 1) else none) else (s.dc k).ctr0
        ctr1 := if level = 1 then (if 0 < n then some (n - 1) else none) else (s.dc k).ctr1 }) ∧
  (∀ (s : State) (k num limit : Nat), stands s k [0x38000000 + 2 ^ 21 * num, limit, 0, 0] → free s k → num < 64 → limit < 65536 →
    (mayWait k true num = true → ∃ t, exec (.dmaWait k) s = .next t ∧ Keeps [.dma] s t ∧ others s t k ∧
      t.dc k = { s.dc k with wait := some (s.meas.tick, true, num, limit) }) ∧
    (mayWait k true num = false → ∃ t, exec (.dmaWait k) s = .next t ∧ stopped s t k 1 (s.dc k).pc)) ∧
  (∀ (s : State) (k since num limit : Nat), k < 16 → s.pwr.state = .run → (s.dc k).wait = some (since, true, num, limit) →
    (Word.bit (s.dc k).latches num = true →
      exec (.dmaWaitTimeout k) s = .next s ∧
      (free s k → dmaPcOk k ((s.dc k).pc + 16) = true → ∃ t, exec (.dmaWaitComplete k) s = .next t ∧ Keeps [.dma] s t ∧
        others s t k ∧
        t.dc k = { s.dc k with wait := none, latches := clearBit (s.dc k).latches num, pc := (s.dc k).pc + 16 })) ∧
    (Word.bit (s.dc k).latches num = false →
      exec (.dmaWaitComplete k) s = .next s ∧
      (limit ≠ 0 → since + limit ≤ s.meas.tick → ∃ t, exec (.dmaWaitTimeout k) s = .next t ∧ stopped s t k 5 (s.dc k).pc) ∧
      (limit = 0 ∨ s.meas.tick < since + limit → exec (.dmaWaitTimeout k) s = .next s))) ∧
  (∀ (s : State) (k ev : Nat) (ack : Bool), stands s k [0x40000000 + 2 ^ 20 * ev, 0, 0, 0] → free s k → 12 ≤ k → 16 ≤ ev → ev < 32 →
    dmaPcOk k ((s.dc k).pc + 16) = true →
    ∃ t, exec (.dmaSignal k ack) s = .next t ∧ t.mem = s.mem ∧ (t.dc k).pc = (s.dc k).pc + 16 ∧ (t.dc k).run = true ∧
      ∀ j, j < 16 → (t.dc j).latches =
        if (s.dc j).run = true ∧ 12 ≤ j then (s.dc j).latches ||| 2 ^ ev else (s.dc j).latches) ∧
  (∀ (s : State) (k : Nat) (ack : Bool), 12 ≤ k → free s k → dmaPcOk k ((s.dc k).pc + 16) = true →
    (stands s k [0x44000000, 0, 0, 0] → ∃ t, exec (.dmaSignal k ack) s = .next t ∧ t.dma.events.getLsbD (k - 8) = true ∧
      t.dc k = { s.dc k with pc := (s.dc k).pc + 16 } ∧ others s t k) ∧
    (stands s k [0x50000000, 0, 0, 0] → ∃ t, exec (.dmaEnd k ack) s = .next t ∧ t.dma.events.getLsbD (k - 12) = true ∧
      (t.dc k).run = false ∧ (t.dc k).latches = 0 ∧ (t.dc k).pc = (s.dc k).pc ∧ t.mem = s.mem ∧ others s t k) ∧
    (∀ next, stands s k [0x58000000, next, 0, 0] → next < 2 ^ 24 →
      (dmaPcOk k next = true → ∃ t, exec (.dmaEnd k ack) s = .next t ∧ others s t k ∧
        t.dc k = { s.dc k with pc := next, ctr0 := none, ctr1 := none, crc := none }) ∧
      (dmaPcOk k next = false → ∃ t, exec (.dmaEnd k ack) s = .next t ∧ stopped s t k 4 next)) ∧
    (∀ a, stands s k [0x52000000, 0, a, 0] → a % 4 = 0 → 0x50000 ≤ a → a + 4 ≤ 0x60000 →
      (∀ reg, reg < 2 ^ 32 → (s.dc k).crc = some (1, reg) → ∃ t, exec (.dmaEnd k ack) s = .next t ∧
        t.mem.sram.readLE a 4 = reg ^^^ 0xFFFFFFFF ∧ t.dma.events.getLsbD (k - 12) = true ∧
        ∀ x, x < a ∨ a + 4 ≤ x → t.mem.sram.read x = s.mem.sram.read x) ∧
      ((s.dc k).crc = none → ∃ t, exec (.dmaEnd k ack) s = .next t ∧ stopped s t k 9 (s.dc k).pc))) ∧
  (∀ (s : State) (k burst src dst n : Nat), stands s k [0x10000000 + 1024 * burst, src, dst, n] → 12 ≤ k → burst < 16 →
    src < 2 ^ 24 → dst < 2 ^ 24 → n < 4096 →
    (src % 4 = 0 → dst % 4 = 0 →
      (dmaReads k src (4 * (n + 1)) false = true → dmaWrites k dst (4 * (n + 1)) false = true →
        ∃ t, exec (.dmaMove k) s = .next t ∧ Keeps [.dma] s t ∧ others s t k ∧
          t.dc k = { s.dc k with move := some (.mk src dst (n + 1) false false 0 none (burst + 1) []) }) ∧
      (dmaReads k src (4 * (n + 1)) false = false ∨ dmaWrites k dst (4 * (n + 1)) false = false →
        ∃ t, exec (.dmaMove k) s = .next t ∧ stopped s t k 3 (s.dc k).pc ∧ t.mem = s.mem)) ∧
    (src % 4 ≠ 0 ∨ dst % 4 ≠ 0 → ∃ t, exec (.dmaMove k) s = .next t ∧ stopped s t k 2 (s.dc k).pc ∧ t.mem = s.mem)) ∧
  (∀ (s : State) (k n : Nat), stands s k [0x12000000, 0, 0x50000, n] → 12 ≤ k → n < 4096 →
    ∃ t, exec (.dmaMove k) s = .next t ∧ stopped s t k 10 (s.dc k).pc)

/-- DMA_BURST outside Run or with no burst ready changes nothing; otherwise it grants a ready channel of the highest
priority that has one, and the last word of a MOVE within bank B5 is copied: the destination reads as the source,
every other byte and memory is as it was, and the channel goes on. A burst into HOST_SCRATCH is not ready while the
VBAT_NVW inhibit holds. A DMA_STOP that takes effect stops a named running host channel at once where it stands at a
boundary, with STOPPED and without its armed set, and marks one inside an unpaced MOVE. A DMA_ARM with ARM starts a
stopped channel at its staged program; without it only the staged priority changes. DMA_IMAGE_RESTART in Run starts an
enabled channel that had failed 1 ms before. DMA_DOMAIN_HOLD_TIMEOUT marks a channel inside a MOVE after 2 ms and
stops one in a WAIT on a request line with TARGET_DOWN. (DMA engine: R490, R491, R492, R494, R497, R498, R499, R504,
R505, Supply, backup cell and hold-up: R48, Host link and register map: R442) -/
def Obligations.DmaBurstsStopsAndRestarts : Prop :=
  let others (s t : State) (k : Nat) : Prop := ∀ j, j < 16 → j ≠ k → t.dc j = s.dc j
  (∀ s : State, (s.grantNext = none → exec .dmaBurst s = .next s) ∧
    (∀ p k, s.grantNext = some (p, k) → k < 16 ∧ s.burstReady k = true ∧ (s.dc k).prio = p ∧
      ∀ j, j < 16 → s.burstReady j = true → (s.dc j).prio ≤ 3 → (s.dc j).prio ≤ p) ∧
    (∀ j, j < 16 → s.burstReady j = true → (s.dc j).prio ≤ 3 → s.grantNext ≠ none) ∧
    (∀ j m, (s.dc j).move = some m → s.pwr.nvInhibit = true → 0x2F0000 ≤ m.dst → m.dst < 0x300000 → s.burstReady j = false) ∧
    (s.pwr.state ≠ .run → exec .dmaBurst s = .next s)) ∧
  (∀ (s : State) (p k : Nat) (m : MoveRun), s.grantNext = some (p, k) → (s.dc k).move = some m → m.left = 1 → m.paced = none →
    m.crc = 0 → 1 ≤ m.burst → 0x50000 ≤ m.src → m.src + 4 ≤ 0x60000 → 0x50000 ≤ m.dst → m.dst + 4 ≤ 0x60000 →
    s.mem.faultIn m.src 4 = false → (s.dc k).down = false → (s.dc k).stop = false → (s.dc k).armed = none →
    dmaPcOk k ((s.dc k).pc + 16) = true →
    ∃ t, exec .dmaBurst s = .next t ∧ Keeps [.sram, .marks, .dma] s t ∧ others s t k ∧
      t.mem.sram.readLE m.dst 4 = s.mem.sram.readLE m.src 4 ∧
      (∀ a, a < m.dst ∨ m.dst + 4 ≤ a → t.mem.sram.read a = s.mem.sram.read a) ∧
      t.dc k = { s.dc k with
        move := none
        wrote := some (m.dst, s.mem.sram.readLE m.src 4)
        pc := (s.dc k).pc + 16 }) ∧
  (∀ (s : State) (v : Word),
    (s.takesWrite 0x210 = false → exec (.dmaStop v) s = .next s) ∧
    (s.takesWrite 0x210 = true → ∃ t, exec (.dmaStop v) s = .next t ∧ Keeps [.dma] s t ∧ (∀ k, k < 12 → t.dc k = s.dc k) ∧
      ∀ k, 12 ≤ k → k < 16 →
        (v.getLsbD k = false ∨ (s.dc k).run = false → t.dc k = s.dc k) ∧
        (v.getLsbD k = true → (s.dc k).run = true → (s.dc k).down = false →
          (s.atBoundary k = true → (t.dc k).run = false ∧ (t.dc k).armed = none ∧ (t.dc k).latches = 0 ∧
            t.dma.events.getLsbD (k + 8) = true) ∧
          (s.atBoundary k = false → t.dc k = { s.dc k with stop := true, quiet := false, armed := none })))) ∧
  (∀ (s : State) (k : Nat) (v : Word), 12 ≤ k → k < 16 →
    (s.takesWrite (0x224 + 16 * (k - 12)) = false → exec (.dmaArm k v) s = .next s) ∧
    (s.takesWrite (0x224 + 16 * (k - 12)) = true → ∃ t, exec (.dmaArm k v) s = .next t ∧ Keeps [.dma] s t ∧ others s t k ∧
      (v.getLsbD 0 = false → t.dc k = { s.dc k with stagePrio := min 1 (v.toNat / 2 % 4) }) ∧
      (v.getLsbD 0 = true → (s.dc k).run = false → dmaPcOk k (s.dc k).stagePc = true →
        (t.dc k).run = true ∧ (t.dc k).pc = (s.dc k).stagePc ∧ (t.dc k).prio = min 1 (v.toNat / 2 % 4) ∧ (t.dc k).err = 0 ∧
          (t.dc k).armed = none ∧ (t.dc k).ctr0 = none ∧ (t.dc k).ctr1 = none ∧ (t.dc k).crc = none) ∧
      (v.getLsbD 0 = true → (s.dc k).run = false → dmaPcOk k (s.dc k).stagePc = false →
        (t.dc k).run = false ∧ (t.dc k).err = 4 ∧ t.dma.events.getLsbD k = true) ∧
      (v.getLsbD 0 = true → (s.dc k).run = true → s.atBoundary k = false →
        (t.dc k).armed = some ((s.dc k).stagePc, min 1 (v.toNat / 2 % 4)) ∧ (t.dc k).pc = (s.dc k).pc ∧ (t.dc k).run = true))) ∧
  (∀ (s : State) (k us : Nat), k < 16 →
    (s.pwr.state ≠ .run ∨ (s.dc k).restart = false ∨ us < 1000 → exec (.dmaImageRestart k us) s = .next s) ∧
    (s.pwr.state = .run → (s.dc k).restart = true → 1000 ≤ us →
      (∀ e, s.dmaEntry k = some e → e.en = true → dmaPcOk k e.start = true →
        ∃ t, exec (.dmaImageRestart k us) s = .next t ∧ Keeps [.dma] s t ∧ others s t k ∧ (t.dc k).run = true ∧
          (t.dc k).pc = e.start ∧ (t.dc k).prio = e.prio % 4 ∧ (t.dc k).restart = false ∧ (t.dc k).service = (s.dc k).service) ∧
      (s.dmaEntry k = none → ∃ t, exec (.dmaImageRestart k us) s = .next t ∧ t.dc k = { s.dc k with restart := false } ∧
        others s t k)) ∧
    ((s.dc k).run = false ∨ ((s.dc k).move = none ∧ ∀ w, (s.dc k).wait = some w → w.2.1 = true) →
      exec (.dmaDomainHoldTimeout k us) s = .next s) ∧
    (us < 2000 → s.atBoundary k = false → exec (.dmaDomainHoldTimeout k us) s = .next s) ∧
    (∀ m, (s.dc k).run = true → (s.dc k).wait = none → (s.dc k).move = some m → m.paced = none → 2000 ≤ us →
      ∃ t, exec (.dmaDomainHoldTimeout k us) s = .next t ∧ t.dc k = { s.dc k with down := true } ∧ others s t k) ∧
    (∀ since line ticks, (s.dc k).run = true → (s.dc k).wait = some (since, false, line, ticks) →
      ∃ t, exec (.dmaDomainHoldTimeout k us) s = .next t ∧ (t.dc k).run = false ∧ (t.dc k).err = 6 ∧ t.dma.errCode = 6 ∧
        others s t k))

/-- DISPLAY_EVALUATION before 100 ms into a tick of number 0 mod 4, or without a DISPLAY section, changes nothing; in
NORMAL with nothing new it changes nothing, and one changed region is held where the rails are on, and accepted and
rendered with the rails coming up where they are off; a region whose frame buffer bytes hold a parity error is held as
a changed one, and the error registered. An accepted update ends within 3 s. KEY_PRESS of 20 ms goes to the next
screen, after the last to the audit screen, from that to screen 0; SCREEN_TIMEOUT from 300 s on goes to screen 0.
DISPLAY_FRAME_BOUNDARY with no update powers the rails down; it starts a rendered update, counts a frame of a running
one and ends it after its last, a full refresh with its counters and a clean dirty map; rows missed in a frame are
dirty. A RAIL_CHECK with a rail outside its tolerance gives up every update for 60 s; PANEL_TEMP_MEASURE falls back on
a faulty NTC. Within a frame a row is selected for its 80 µs, and a pixel of an update's area gets the level that its
drive code names, VCOM where its row's data was missed. (Display panel driving: R507, R508, R510, R511, R512, R514,
R516, R521, R522, R523, R524, R526, R527, R530, R531, Integrity, faults and coinciding events: R569) -/
def Obligations.DisplayUpdatesAreAskedRunAndGivenUp : Prop :=
  (∀ (s : State) (now : Now),
    (s.dispCfg = none ∨ s.meas.tick % 4 ≠ 0 ∨ now.cyc < 960000 ∨ s.running = false ∨ s.pwr.pfActive = true →
      exec (.displayEvaluation now) s = .next s) ∧
    (s.dispCfg = none ∨ s.dispNormal = false → exec (.screenTimeout now) s = .next s) ∧
    (∀ low, s.dispCfg = none ∨ s.dispNormal = false ∨ low < 20 → exec (.keyPress now low) s = .next s) ∧
    (∀ c m, s.dispCfg = some c → s.dispNormal = true → s.meas.tick % 4 = 0 → 960000 ≤ now.cyc → s.disp.rom = 0 → s.disp.want = none →
      s.disp.lastMs = some m → now.ms < m + 86400000 → s.disp.held = [] →
      (∀ r, r < c.regions.length → (∃ x ∈ s.mem.parity, 0x40000 ≤ x ∧ x < 0x49600 ∧ c.holdsByte r x = true) → s.disp.railsOn = true →
        ∃ t, exec (.displayEvaluation now) s = .next t ∧ Keeps [.flt, .disp] s t ∧
          Update.ask (.region r) .content false false ∈ t.disp.held ∧ t.flt.lastKind = 2 ∧ t.flt.lastReader = 7) ∧
      (s.mem.parityIn 0x40000 0x9600 = false → (∀ r, r < c.regions.length → s.disp.textOf r = some (s.regionText c s.disp.screen r)) →
        s.disp.updates = [] →
        exec (.displayEvaluation now) s = .next s) ∧
      (∀ r, s.mem.parityIn 0x40000 0x9600 = false → r < c.regions.length →
        s.disp.textOf r ≠ some (s.regionText c s.disp.screen r) →
        (∀ q, q < c.regions.length → q ≠ r → s.disp.textOf q = some (s.regionText c s.disp.screen q)) →
        (s.disp.railsOn = true → exec (.displayEvaluation now) s =
          .next (s.onDisp fun d => { d with held := [.ask (.region r) .content false false] })) ∧
        (s.disp.railsOn = false → s.disp.updates = [] → s.disp.lockout = false →
          s.tooSoon c (.ask (.region r) .content false false) now.ms = false → 50 + 20 * s.framesOf s.waveRange false ≤ 3000 →
          ∃ t, exec (.displayEvaluation now) s = .next t ∧ Keeps [.sram, .marks, .disp] s t ∧ t.disp.railsOn = true ∧
            t.disp.ramping = true ∧ t.disp.held = [] ∧
            t.disp.updates = [{ Update.ask (.region r) .content false false with
              stop := now.ms + 50 + 20 * s.framesOf s.waveRange false
              rendered := true }]))) ∧
    (∀ c, s.dispCfg = some c → s.dispNormal = true →
      (∀ low, 20 ≤ low → ∃ t, exec (.keyPress now low) s = .next t ∧ Keeps [.sram, .marks, .disp] s t ∧ t.disp.keyMs = now.ms ∧ t.disp.auditHold = false ∧
        (s.disp.rom ≠ 0 → t.disp.rom = 0 ∧ t.disp.screen = 0) ∧
        (s.disp.rom = 0 → s.disp.screen + 1 < c.screens.length → t.disp.rom = 0 ∧ t.disp.screen = s.disp.screen + 1) ∧
        (s.disp.rom = 0 → c.screens.length ≤ s.disp.screen + 1 → t.disp.rom = 1 ∧ t.disp.screen = s.disp.screen)) ∧
      (s.disp.auditHold = true ∨ now.ms < s.disp.keyMs + 300000 ∨ (s.disp.screen = 0 ∧ s.disp.rom = 0) →
        exec (.screenTimeout now) s = .next s) ∧
      (s.disp.auditHold = false → s.disp.keyMs + 300000 ≤ now.ms → s.disp.screen ≠ 0 ∨ s.disp.rom ≠ 0 →
        ∃ t, exec (.screenTimeout now) s = .next t ∧ Keeps [.sram, .marks, .disp] s t ∧ t.disp.rom = 0 ∧ t.disp.screen = 0))) ∧
  (∀ (s : State) (c : DisplayCfg) (ms : Nat) (u : Update), (s.decideOne c ms u).disp.updates = s.disp.updates ∨
    ∃ v ∈ (s.decideOne c ms u).disp.updates, v.target = u.target ∧ v.stop ≤ ms + 3000 ∧
      ms + 20 + 20 * s.framesOf s.waveRange u.clean ≤ v.stop) ∧
  (∀ (s : State) (now : Now) (rows : List Nat),
    (s.dispCfg = none ∨ s.disp.railsOn = false ∨ s.disp.ramping = true → exec (.displayFrameBoundary now rows) s = .next s) ∧
    (∀ c, s.dispCfg = some c → s.disp.railsOn = true → s.disp.ramping = false → s.disp.held = [] →
      (s.disp.updates = [] → rows = [] ∨ s.disp.framing = false → exec (.displayFrameBoundary now rows) s =
        .next (s.onDisp fun d => { d with railsOn := false, ramping := false, panel := .down now.ms })) ∧
      (∀ u, s.disp.updates = [u] → u.started = false → u.rendered = true →
        ∃ t, exec (.displayFrameBoundary now []) s = .next t ∧ Keeps [.dma, .disp] s t ∧ t.disp.railsOn = true ∧
          t.disp.panel = .frame now.ms ∧ t.disp.updates = [{ u with started := true, frame := 0, frames := s.framesOf s.waveRange u.clean, range := s.waveRange }]) ∧
      (∀ u, s.disp.updates = [u] → u.started = true → u.frame + 1 < u.frames →
        ∃ t, exec (.displayFrameBoundary now []) s = .next t ∧ Keeps [.dma, .disp] s t ∧
          t.disp = { s.disp with updates := [{ u with frame := u.frame + 1 }], panel := .frame now.ms }) ∧
      (∀ u, s.disp.updates = [u] → u.started = true → u.frames ≤ u.frame + 1 →
        ∃ t, exec (.displayFrameBoundary now []) s = .next t ∧ t.disp.updates = [] ∧ t.disp.railsOn = false ∧
          t.disp.panel = .down now.ms ∧
          (∀ r, u.target = .region r → Keeps [.sram, .marks, .disp] s t ∧ t.disp.count = s.disp.count) ∧
          (∀ cause, u.target = .refresh cause → t.disp.count = (s.disp.count + 1) % 65536 ∧ t.disp.lastCause = cause ∧
            t.disp.lastMs = some now.ms ∧ t.disp.dirty = 0 ∧ t.disp.events.getLsbD 0 = true ∧
            t.mem.queue = s.mem.queue ++
              [.mk (.slots 0x260000 0x260040) (le 4 0 ++ le 1 0 ++ zeros 3 ++ le 5 s.rtc.count ++ zeros 35)])) ∧
      (∀ u r row g, s.disp.updates = [u] → s.disp.framing = true → u.started = true → u.frame + 1 < u.frames → rows = [row] → c.regions[r]? = some g →
        g.y ≤ row → row < g.y + g.h →
        ∃ t, exec (.displayFrameBoundary now rows) s = .next t ∧ t.disp.dirty.testBit r = true ∧ t.disp.events.getLsbD 4 = true))) ∧
  (∀ (s : State) (now : Now) (r : Rails),
    let within (c : DisplayCfg) : Prop := 14700 ≤ r.vsh ∧ r.vsh ≤ 15300 ∧ -15300 ≤ r.vsl ∧ r.vsl ≤ -14700 ∧ 21340 ≤ r.vgh ∧
      r.vgh ≤ 22660 ∧ -20600 ≤ r.vgl ∧ r.vgl ≤ -19400 ∧ -10 * (c.vcom : Int) - 10 ≤ r.vcom ∧ r.vcom ≤ -10 * (c.vcom : Int) + 10
    (s.disp.ramping = false → exec (.railCheck now r) s = .next s) ∧
    (∀ c, s.disp.ramping = true → s.dispCfg = some c →
      (within c → exec (.railCheck now r) s = .next (s.onDisp fun d => { d with ramping := false, railFault := false })) ∧
      (¬ within c → s.disp.railsOn = true → ∃ t, exec (.railCheck now r) s = .next t ∧ Keeps [.queue, .pair, .disp] s t ∧ t.disp.updates = [] ∧
        t.disp.railsOn = false ∧ t.disp.railFault = true ∧ t.disp.lockout = true ∧ t.disp.held = s.disp.held ∧
        t.disp.lockMs = now.ms ∧ t.disp.panel = .cut now.ms ∧
        t.disp.events.getLsbD 2 = true ∧ t.disp.events.getLsbD 5 = true)) ∧
    (s.disp.lockout = false ∨ now.ms < s.disp.lockMs + 60000 → exec (.railLockoutEnd now) s = .next s) ∧
    (s.disp.lockout = true → s.disp.lockMs + 60000 ≤ now.ms →
      ∃ t, exec (.railLockoutEnd now) s = .next t ∧ t.disp.lockout = false ∧ Keeps [.sram, .marks, .disp] s t ∧
        (s.disp.railsOn = true ∨ s.running = false ∨ s.dispCfg = none → t.disp = { s.disp with lockout := false }))) ∧
  (∀ (s : State) (ntc internal : Int),
    (s.disp.railsOn = false → exec (.panelTempMeasure ntc internal) s = .next s) ∧
    (s.disp.railsOn = true → ∃ t, exec (.panelTempMeasure ntc internal) s = .next t ∧ Keeps [.disp] s t ∧
      t.disp.updates = s.disp.updates ∧
      (-300 ≤ ntc → ntc ≤ 850 → t.disp.temp = ntc ∧ t.disp.internalSrc = false ∧ t.disp.ptempFault = false) ∧
      (ntc < -300 ∨ 850 < ntc → t.disp.temp = internal ∧ t.disp.internalSrc = true ∧ t.disp.ptempFault = true ∧
        (s.disp.ptempFault = false → t.disp.events.getLsbD 1 = true)))) ∧
  (∀ (s : State) (c : DisplayCfg) (u : Update) (us x y : Nat), y < c.rows → x < c.cols →
    (c.gate (.frame us [u]) y = .vgh ↔ 80 * y ≤ us ∧ us < 80 * (y + 1)) ∧
    (80 * y ≤ us → us < 80 * (y + 1) →
      s.sourceLine c (.frame us [u]) [y] x = .vcom ∧
      (c.covers u.target x y = false → s.sourceLine c (.frame us [u]) [] x = .vcom) ∧
      (c.covers u.target x y = true → u.unknown = false → s.sourceLine c (.frame us [u]) [] x =
        driveLevel (nth (s.waveOf u) u.frame 0 / 4 ^ (4 * s.pixel false x y + s.pixel true x y) % 4))))

/-- HEARTBEAT_TIMER off the link changes nothing, while fail-silent numbers a FAILED frame, while unpaired sends a
HELLO as SEQ 1, and while paired stores a HEARTBEAT under the next SEQ where one is due: the active member's on VBUS
from 1 ms after the tick edge every 50 ms, a passive member's on VBUS. A frame that reaches a module off the link does
no more than wake it from Sleep, and while unpaired one other than HELLO only shows that the peer is heard. Paired, a
frame already received changes no content, one beyond a missing SEQ waits and puts a RESEND for each missing one on
the link, and the next one is taken: the passive member's tick, time and OSF from HEARTBEAT; a TOTALS record into both
datapaths and to HOARD; RING into the demand ring; SWITCH, SWITCH_DONE, POWER_FAIL and SYNC_END into the pair state;
PEER_EVENT into the active member's log alone. ACK and RESEND free what they acknowledge, and RESEND has the stored
frame sent again; a bad frame is counted; FAILED ends the pairing; a HELLO that passes every check pairs, another is
refused with its cause. Of two active members the one with the lower EPOCH becomes passive. (Redundant pair and state
mirroring: R540, R541, R542, R543, R544, R545, R546, R547, R549, R554, R556, R558, R560) -/
def Obligations.MovorFramesAreNumberedAndTakenInOrder : Prop :=
  let after (s : State) (now : Now) (f : PeerFrame) : State := (s.noteFlags now.ms f).onPair fun p => { p with
    rxSeq := f.seq, missing := p.missing.filter (· != f.seq), ackSeq := if s.mem.queue.isEmpty then f.seq else p.ackSeq }
  let next (s : State) (f : PeerFrame) : Prop :=
    s.onMovor = true ∧ s.pair.phase = 3 ∧ s.pair.ahead = [] ∧ s.pair.waiting = [] ∧ s.pair.syncEnd = none ∧
      f.seq = s.pair.rxSeq + 1 ∧ ∀ x ∈ s.pair.store, f.ack < x.seq
  let off (s : State) : State := if s.paired = true ∧ s.running = true ∧ s.pwr.state = .sleep then s.raiseWake .movor else s
  (∀ (s : State) (now : Now),
    (s.pwr.failSilent = false → s.onMovor = false → exec (.heartbeatTimer now) s = .next s) ∧
    (s.pwr.failSilent = true → s.paired = true → s.pwr.phase = .running →
      exec (.heartbeatTimer now) s = .next (s.onPair fun p => { p with
        txSeq := p.txSeq + 1, store := [], waiting := [], line := s.movorBytes (.mk (p.txSeq + 1) 8 (le 1 s.pwr.failCause)) })) ∧
    (s.onMovor = true → s.pair.phase < 2 → s.normal = true ∨ s.pwr.mode = .unconfigured → s.img.module_.digest.length ≤ 32 →
      exec (.heartbeatTimer now) s = .next (s.onPair fun p => { p with
        txSeq := 1, rxSeq := 0, ackSeq := 0, store := [.mk 1 1 s.helloPayload], waiting := [], missing := [], ahead := [] })) ∧
    (s.onMovor = true → 2 ≤ s.pair.phase → s.pwr.pfActive = true ∨ s.beatDue now.cyc = false →
      exec (.heartbeatTimer now) s = .next s) ∧
    (s.pwr.onCell = false → (s.active = false → s.beatDue now.cyc = true) ∧
      (s.active = true → s.pair.peerOnCell = false →
        (s.beatDue now.cyc = true ↔ 9600 ≤ now.cyc ∧ (now.cyc - 9600) % 480000 = 0))) ∧
    (s.onMovor = true → s.pair.phase = 3 → s.beatDue now.cyc = true → s.pwr.pfActive = false → s.pair.waiting = [] →
      s.pair.stored + 32 ≤ 24576 →
      exec (.heartbeatTimer now) s = .next (s.onPair fun p => { p with
        txSeq := p.txSeq + 1, store := p.store ++ [.mk (p.txSeq + 1) 2 (s.heartbeatPayload (s.rtc.sub now.sub))] }))) ∧
  (∀ (s : State) (now : Now) (f : PeerFrame),
    (s.onMovor = false → exec (.hello now f) s = .next (off s) ∧ exec (.heartbeat now f) s = .next (off s) ∧
      exec (.record now f) s = .next (off s) ∧ exec (.ring now f) s = .next (off s) ∧ exec (.ack now f) s = .next (off s) ∧
      exec (.resend now f) s = .next (off s) ∧ exec (.powerFail now f) s = .next (off s) ∧ exec (.failed now f) s = .next (off s) ∧
      exec (.switchFrame now f) s = .next (off s) ∧ exec (.switchDone now f) s = .next (off s) ∧
      exec (.peerEvent now f) s = .next (off s) ∧ exec (.syncEnd now f) s = .next (off s) ∧
      ∀ seen, exec (.movorFrameError now seen) s = .next (off s)) ∧
    (s.onMovor = true → s.pair.phase < 2 →
      exec (.record now f) s = .next (s.noteFlags now.ms f) ∧ exec (.ack now f) s = .next (s.noteFlags now.ms f) ∧
      exec (.resend now f) s = .next (s.noteFlags now.ms f) ∧ exec (.ring now f) s = .next (s.noteFlags now.ms f)) ∧
    (s.onMovor = true → s.pair.phase = 3 → s.pair.waiting = [] → s.pair.syncEnd = none → (∀ x ∈ s.pair.store, f.ack < x.seq) →
      (f.seq ≤ s.pair.rxSeq → exec (.record now f) s = .next (s.noteFlags now.ms f) ∧
        exec (.ring now f) s = .next (s.noteFlags now.ms f)) ∧
      (s.pair.rxSeq + 1 < f.seq → s.pair.ahead = [] →
        ∃ t, exec (.record now f) s = .next t ∧ Keeps [.pair] s t ∧ t.pair.rxSeq = s.pair.rxSeq ∧
          t.pair.ahead = [.mk f.seq 3 f.payload] ∧
          (s.pair.missing = [] → t.pair.line = (List.range (min 2048 (f.seq - 1 - s.pair.rxSeq))).flatMap fun i =>
            t.movorBytes (.mk 0 6 (le 4 (i + s.pair.rxSeq + 1)))) ∧
          ∀ q, s.pair.rxSeq < q → q < f.seq → q ≤ s.pair.rxSeq + 2048 → q ∈ t.pair.missing) ∧
      (∃ t, exec (.ack now f) s = .next t ∧ t.pair.store = s.pair.store ∧ t.pair.heardMs = now.ms ∧ Keeps [.pair] s t)) ∧
    (s.onMovor = true → s.pair.phase = 3 → s.pair.waiting = [] → s.pair.syncEnd = none →
      (∃ t, exec (.ack now f) s = .next t ∧ Keeps [.pair, .sec] s t ∧
        (t.pair.store = s.pair.store.filter fun x => decide (f.ack < x.seq)) ∧
        ((∀ x ∈ t.pair.store, x.seq ≠ fieldAt f.payload 0 4) → exec (.resend now f) s = .next t) ∧
        (∀ x, t.pair.store.find? (fun x => x.seq == fieldAt f.payload 0 4) = some x →
          exec (.resend now f) s = .next (t.onPair fun p => { p with line := t.movorBytes x }))))) ∧
  (∀ (s : State) (now : Now) (f : PeerFrame), next s f → s.active = false →
    let d := f.payload
    (f.flags.getLsbD 0 = true → ∃ t, exec (.heartbeat now f) s = .next t ∧ t.meas = { s.meas with tick := fieldAt d 0 4 } ∧
      t.rtc = { s.rtc with 
        count := fieldAt d 4 5
        subBase := (now.sub % 32768 + 32768 - 128 * fieldAt d 9 1) % 32768
        osf := Word.bit (fieldAt d 10 1) 0 } ∧ t.pair.rxSeq = f.seq) ∧
    (∀ n, 1 ≤ n → n ≤ 40 → fieldAt d 0 3 = 0x110000 + 1024 * (n - 1) → 4 < d.length →
      ∃ t, exec (.record now f) s = .next t ∧ (t.ch n).a = Work.ofBytes (d.drop 4) ∧ (t.ch n).b = Work.ofBytes (d.drop 4) ∧
        OthersSame n s t ∧ t.pair.rxSeq = f.seq ∧ (s.pwr.nvInhibit = false → t.mem.queue = []) ∧
        (s.pwr.nvInhibit = true → t.mem.queue = s.mem.queue ++
          [.mk (.slots (0x110000 + 1024 * (n - 1)) (0x110000 + 1024 * (n - 1) + 512)) (d.drop 4)])) ∧
    (∀ n, 1 ≤ n → n ≤ 40 → fieldAt d 0 1 = n → ∃ t, exec (.ring now f) s = .next t ∧ Keeps [.chans, .pair] s t ∧ OthersSame n s t ∧
      (t.ch n).ring = (List.range ((d.length - 4) / 16)).map fun i => (fieldAt d (4 + 16 * i) 8, fieldAt d (12 + 16 * i) 8)) ∧
    (s.pair.ready = true → exec (.switchFrame now f) s =
      .next ((after s now f).onPair fun p => { p with peerHand := some (fieldAt d 0 4) })) ∧
    (s.pair.ready = false → exec (.switchFrame now f) s = .next (after s now f)) ∧
    (exec (.switchDone now f) s =
      .next ((after s now f).onPair fun p => { p with pulsesIn := (List.range 8).map fun k => fieldAt d (2 * k) 2 })) ∧
    (s.pair.peerHand = none → ∃ t, exec (.powerFail now f) s = .next t ∧ Keeps [.pair] s t ∧ t.pair.events.getLsbD 8 = true ∧
      t.pair.pfWait = (s.pair.pfWait || (s.pair.ready && s.normal && s.pwr.vbusOk)) ∧
      (s.pair.ready = true → s.normal = true → s.pwr.vbusOk = true → t.pair.pfSince = now.ms ∧ t.pair.pfLeft = s.activeCh)) ∧
    (exec (.peerEvent now f) s = .next (after s now f)) ∧
    (exec (.syncEnd now f) s = .next (after s now f))) ∧
  (∀ (s : State) (now : Now) (f : PeerFrame), s.onMovor = true → s.active = false → s.pwr.onCell = false → s.pair.phase = 2 →
    s.pair.syncEnd = none → s.pair.ahead = [] → s.img.module_.commissioned = true → f.seq = s.pair.rxSeq + 1 →
    ∃ t, exec (.syncEnd now f) s = .next t ∧ t.pair.phase = 3 ∧ t.pair.ready = true ∧ t.pair.events.getLsbD 0 = true) ∧
  (∀ (s : State) (now : Now) (f : PeerFrame), next s f → s.active = true →
    (∃ t, exec (.record now f) s = .next t ∧ Keeps [.pair] s t ∧ t.pair.rxSeq = f.seq) ∧
    (s.log.hour = s.rtc.count / 3600 → onsets 0xA6 (fieldAt f.payload 12 1) s.log.counts < 8 →
      ∃ t, exec (.peerEvent now f) s = .next t ∧ t.log.next = s.log.next + 1 ∧
        t.mem.queue = s.mem.queue ++ [.mk (.entry (eventAddr s.log.next)) (eventBytes s.log.next s.rtc.count (0 + s.untrusted) 0xA6
          (fieldAt f.payload 12 1) (slice f.payload 10 2 ++ slice f.payload 16 10))])) ∧
  (∀ (s : State) (now : Now) (f : PeerFrame), s.onMovor = true →
    (∃ t, exec (.failed now f) s = .next t ∧ t.pair.failedHeard = true ∧ (s.active = true → t.pair.phase < 2)) ∧
    (s.active = true → f.flags.getLsbD 0 = true → s.pair.record.epoch < fieldAt f.payload 11 4 →
      ∃ t, exec (.heartbeat now f) s = .next t ∧ t.pair.active = false ∧ t.pair.phase = 1 ∧ t.pair.linkFault = true ∧
        t.pair.ready = false ∧ t.pwr.failSilent = false ∧ (s.drives = true → t.hl.events.getLsbD 17 = true)) ∧
    (s.pair.phase < 2 →
      (∀ c, (s.noteFlags now.ms f).pairCheck f = c → c ≠ 0 → ∃ t, exec (.hello now f) s = .next t ∧ t.pair.refuse = c ∧
        t.pair.barred = true ∧ t.pair.phase = s.pair.phase ∧ t.pair.events.getLsbD 7 = true ∧ t.chans = s.chans ∧ t.rtc = s.rtc) ∧
      ((s.noteFlags now.ms f).pairCheck f = 0 → ∃ t, exec (.hello now f) s = .next t ∧ t.pair.phase = 2 ∧
        t.pair.rxSeq = f.seq ∧ t.pair.peerSerial = fieldAt f.payload 0 8 ∧ t.pair.linkFault = false ∧ t.pair.ready = false)) ∧
    (∀ seen, ∃ t, exec (.movorFrameError now seen) s = .next t ∧ t.pair.crcErrors = min 65535 (s.pair.crcErrors + 1) ∧
      Keeps [.pair] s t ∧ t.pair.rxSeq = s.pair.rxSeq ∧ t.pair.store = s.pair.store))

/-- MOVOR_LINK_FAULT with its condition met (a resent frame 20 ms late, an acknowledgement or a wait over 100 ms old,
the cable lost), and FRAMES_STOPPED after 250 ms with a peer that still shows itself, fault the link. PEER_LOST in a
READY member with all its witnesses declares a mirrored activation: the PAIR record with EPOCH + 1, its own serial and
TAKEOVERS + 1 goes to the HOARD queue, HALT is released, contexts are FREE, and the role begins at the next tick.
UNMIRRORED_ACTIVATION with its witnesses does the same without a takeover, after raising every TX_LIMIT by 2^24;
PF_HANDOVER_TIMEOUT declares a power-fail handover while one waits, once the records of the final commit are in or 250
ms have passed. SWITCHOVER_HANDOVER of a drained active member announces the next tick and, from that tick on, makes
it passive and READY; SWITCHOVER_ABANDONED 30 s after the request and before the announcement ends it. A member that
may not take over, or with a witness missing, keeps its role and everything else. (Redundant pair and state mirroring:
R538, R542, R549, R550, R551, R552, R554, R556, R557, R558, Telegrams, sessions and security: R400, R403) -/
def Obligations.TheActiveRolePassesOnlyByItsRules : Prop :=
  let declared (s t : State) (kind takeovers flags : Nat) : Prop :=
    t.pair.rising = some kind ∧ t.pair.active = s.pair.active ∧ t.pair.pfWait = false ∧
      t.pair.record = { epoch := s.pair.record.epoch + 1, serial := s.otp.serial, takeovers := takeovers, flags := flags } ∧
      s.mem.queue <+: t.mem.queue ∧
      t.mem.queue.getLast? = some (.mk (.slots 0x100880 0x1008A0) t.pair.record.bytes) ∧
      t.rtc = { s.rtc with halt := false, pendDate := none, pendTime := none } ∧ (∀ k, k < 24 → (t.ctx k).st = .free) ∧
      t.sess.inbox = [] ∧ t.meas = s.meas ∧ t.outs = s.outs ∧ t.bridge = s.bridge
  (∀ (s : State) (cause age : Nat),
    (s.onMovor = false ∨ s.pair.phase < 2 ∨ cause = 0 ∨ 4 < cause ∨ (cause = 1 ∧ (s.pair.missing = [] ∨ age < 20)) ∨
        (cause = 2 ∧ (s.pair.store = [] ∨ age ≤ 100)) ∨ (cause = 3 ∧ (s.pair.waiting = [] ∨ age ≤ 100)) ∨
        (cause = 4 ∧ s.pair.cableLost = false) →
      exec (.movorLinkFault cause age) s = .next s) ∧
    (s.onMovor = true → 2 ≤ s.pair.phase → (cause = 1 ∧ s.pair.missing ≠ [] ∧ 20 ≤ age) ∨
        (cause = 2 ∧ s.pair.store ≠ [] ∧ 100 < age) ∨ (cause = 3 ∧ s.pair.waiting ≠ [] ∧ 100 < age) ∨
        (cause = 4 ∧ s.pair.cableLost = true) →
      ∃ t, exec (.movorLinkFault cause age) s = .next t ∧ Keeps logGroups s t ∧ t.pair.phase = 1 ∧ t.pair.linkFault = true ∧
        t.pair.store = [] ∧ t.pair.missing = [] ∧ t.pair.active = s.pair.active ∧
        (cause = 1 → t.pair.resendFail = min 255 (s.pair.resendFail + 1)))) ∧
  (∀ (s : State) (now : Now),
    (s.onMovor = false ∨ s.pair.heard = false ∨ now.ms < s.pair.heardMs + 250 ∨ (s.pair.peerOkIn = false ∧ s.pair.harness = false) →
      exec (.framesStopped now) s = .next s) ∧
    (s.onMovor = true → s.pair.heard = true → s.pair.heardMs + 250 ≤ now.ms → s.pair.peerOkIn = true ∨ s.pair.harness = true →
      ∃ t, exec (.framesStopped now) s = .next t ∧ Keeps logGroups s t ∧ t.pair.phase < 2 ∧ t.pair.linkFault = true ∧
        t.pair.heard = false ∧ t.pair.active = s.pair.active)) ∧
  (∀ (s : State) (now : Now) (low quiet : Nat),
    let silent := now.ms - s.pair.heardMs
    (s.mayTakeOver = false ∨ s.pair.ready = false ∨ (silent < 250 ∧ (s.pair.failedHeard = false ∨ s.pair.barred = true)) ∨
        low < 10 ∨ quiet < 250 →
      exec (.peerLost now low quiet) s = .next s) ∧
    (s.mayTakeOver = true → s.pair.ready = true → 250 ≤ silent ∨ (s.pair.failedHeard = true ∧ s.pair.barred = false) →
      10 ≤ low → 250 ≤ quiet →
      ∃ t, exec (.peerLost now low quiet) s = .next t ∧ declared s t 1 (min 65535 (s.pair.record.takeovers + 1)) 0 ∧
        t.sec = s.sec ∧ t.pair.phase < 2 ∧ t.pair.heard = false)) ∧
  (∀ (s : State) (now : Now) (low quiet run : Nat),
    let silent := now.ms - s.pair.heardMs
    (s.mayTakeOver = false ∨ s.pair.barred = true ∨ silent < 250 ∨ quiet < 250 ∨
        (s.pwr.strapRole ≠ 1 ∧ (low < 10 ∨ run < 2000 ∨ s.pair.ready = true)) ∨
        (s.pwr.strapRole = 1 ∧ 10 ≤ low ∧ s.pair.ready = true) ∨
        (s.pwr.strapRole = 1 ∧ low < 10 ∧ (silent < 2000 ∨ quiet < 2000)) →
      exec (.unmirroredActivation now low quiet run) s = .next s) ∧
    (s.mayTakeOver = true → s.pair.barred = false → 250 ≤ silent → 250 ≤ quiet →
      (s.pwr.strapRole = 2 ∧ 10 ≤ low ∧ 2000 ≤ run ∧ s.pair.ready = false) ∨
        (s.pwr.strapRole = 1 ∧ 10 ≤ low ∧ s.pair.ready = false) ∨ (s.pwr.strapRole = 1 ∧ low < 10 ∧ 2000 ≤ silent ∧ 2000 ≤ quiet) →
      ∃ t, exec (.unmirroredActivation now low quiet run) s = .next t ∧ declared s t 2 s.pair.record.takeovers 1 ∧
        t.sec = { s.sec with limit := s.sec.limit.map (· + 2 ^ 24) } ∧ t.pair.ready = false ∧
        .mk (.slots 0x250000 0x250400) t.sec.bytes ∈ t.mem.queue ∧ ∀ n, 1 ≤ n → n ≤ 40 → t.ch n = { s.ch n with gap := none })) ∧
  (∀ (s : State) (now : Now),
    (s.pair.pfWait = false ∨ s.mayTakeOver = false →
      exec (.pfHandoverTimeout now) s = .next (s.onPair fun p => { p with pfWait := false })) ∧
    (s.pair.pfWait = true → s.mayTakeOver = true → s.pfRecords = false → now.ms < s.pair.pfSince + 250 →
      exec (.pfHandoverTimeout now) s = .next s) ∧
    (s.pair.pfWait = true → s.mayTakeOver = true → s.pfRecords = true ∨ s.pair.pfSince + 250 ≤ now.ms →
      ∃ t, exec (.pfHandoverTimeout now) s = .next t ∧ declared s t 3 (min 65535 (s.pair.record.takeovers + 1)) 0 ∧ t.sec = s.sec)) ∧
  (∀ (s : State) (now : Now) (upsets : List (Nat × Upset)),
    (s.pair.switching = false ∨ s.active = false ∨ (s.pair.handTick = none ∧ s.switchDrained now.ms = false) →
      exec (.switchoverHandover now upsets) s = .next s) ∧
    (s.pair.switching = true → s.active = true → s.pair.handTick = none → s.switchDrained now.ms = true →
      ∃ t, exec (.switchoverHandover now upsets) s = .next t ∧ Keeps [.pair] s t ∧ t.pair.handTick = some (s.meas.tick + 1) ∧
        t.pair.active = s.pair.active) ∧
    (∀ h, s.pair.switching = true → s.active = true → s.pair.handTick = some h →
      (s.meas.tick < h → exec (.switchoverHandover now upsets) s = .next s) ∧
      (h ≤ s.meas.tick → ∃ t, exec (.switchoverHandover now upsets) s = .next t ∧ t.pair.active = false ∧ t.pair.peerActive = true ∧
        t.pair.ready = true ∧ t.pair.switching = false ∧ t.pair.handTick = none ∧ t.pair.events.getLsbD 5 = true ∧
        t.radio.queue = [] ∧ t.bridge.moving = none ∧ (∀ k, 1 ≤ k → k ≤ 8 → (t.out k).waiting = []) ∧ t.meas.test = false ∧
        (s.drives = true → t.hl.events.getLsbD 17 = true)))) ∧
  (∀ (s : State) (now : Now),
    (s.pair.switching = false ∨ s.pair.handTick ≠ none ∨ now.ms < s.pair.switchAt + 30000 →
      exec (.switchoverAbandoned now) s = .next s) ∧
    (s.pair.switching = true → s.pair.handTick = none → s.pair.switchAt + 30000 ≤ now.ms →
      ∃ t, exec (.switchoverAbandoned now) s = .next t ∧ Keeps logGroups s t ∧ t.pair.switching = false ∧ t.pair.peerHand = none ∧
        t.pair.events.getLsbD 6 = true ∧ t.pair.active = s.pair.active))
end

