-- ==== Sys2Proof/Laws/State.lean ====
section
/-! SUPPORT. The field lemmas of the state's updates: each group of the state after each update of one group. -/

set_option Elab.async false

namespace Sys2Proof.Machine

variable (s : State)

/-! ### onPwr -/

@[simp] theorem State.onPwr_pending (f : Pwr → Pwr) : (s.onPwr f).pending = s.pending := rfl
@[simp] theorem State.onPwr_otp (f : Pwr → Pwr) : (s.onPwr f).otp = s.otp := rfl
@[simp] theorem State.onPwr_mem (f : Pwr → Pwr) : (s.onPwr f).mem = s.mem := rfl
@[simp] theorem State.onPwr_flt (f : Pwr → Pwr) : (s.onPwr f).flt = s.flt := rfl
@[simp] theorem State.onPwr_log (f : Pwr → Pwr) : (s.onPwr f).log = s.log := rfl
@[simp] theorem State.onPwr_pwr (f : Pwr → Pwr) : (s.onPwr f).pwr = f s.pwr := rfl
@[simp] theorem State.onPwr_img (f : Pwr → Pwr) : (s.onPwr f).img = s.img := rfl
@[simp] theorem State.onPwr_meas (f : Pwr → Pwr) : (s.onPwr f).meas = s.meas := rfl
@[simp] theorem State.onPwr_chans (f : Pwr → Pwr) : (s.onPwr f).chans = s.chans := rfl
@[simp] theorem State.onPwr_tcs (f : Pwr → Pwr) : (s.onPwr f).tcs = s.tcs := rfl
@[simp] theorem State.onPwr_outs (f : Pwr → Pwr) : (s.onPwr f).outs = s.outs := rfl
@[simp] theorem State.onPwr_bridge (f : Pwr → Pwr) : (s.onPwr f).bridge = s.bridge := rfl
@[simp] theorem State.onPwr_tamper (f : Pwr → Pwr) : (s.onPwr f).tamper = s.tamper := rfl
@[simp] theorem State.onPwr_rtc (f : Pwr → Pwr) : (s.onPwr f).rtc = s.rtc := rfl
@[simp] theorem State.onPwr_pair (f : Pwr → Pwr) : (s.onPwr f).pair = s.pair := rfl
@[simp] theorem State.onPwr_radio (f : Pwr → Pwr) : (s.onPwr f).radio = s.radio := rfl
@[simp] theorem State.onPwr_sec (f : Pwr → Pwr) : (s.onPwr f).sec = s.sec := rfl
@[simp] theorem State.onPwr_sess (f : Pwr → Pwr) : (s.onPwr f).sess = s.sess := rfl
@[simp] theorem State.onPwr_mbus (f : Pwr → Pwr) : (s.onPwr f).mbus = s.mbus := rfl
@[simp] theorem State.onPwr_alc (f : Pwr → Pwr) : (s.onPwr f).alc = s.alc := rfl
@[simp] theorem State.onPwr_hl (f : Pwr → Pwr) : (s.onPwr f).hl = s.hl := rfl
@[simp] theorem State.onPwr_dma (f : Pwr → Pwr) : (s.onPwr f).dma = s.dma := rfl
@[simp] theorem State.onPwr_disp (f : Pwr → Pwr) : (s.onPwr f).disp = s.disp := rfl
@[simp] theorem State.onPwr_free (f : Pwr → Pwr) : (s.onPwr f).free = s.free := rfl

/-! ### onFlt -/

@[simp] theorem State.onFlt_pending (f : Flt → Flt) : (s.onFlt f).pending = s.pending := rfl
@[simp] theorem State.onFlt_otp (f : Flt → Flt) : (s.onFlt f).otp = s.otp := rfl
@[simp] theorem State.onFlt_mem (f : Flt → Flt) : (s.onFlt f).mem = s.mem := rfl
@[simp] theorem State.onFlt_flt (f : Flt → Flt) : (s.onFlt f).flt = f s.flt := rfl
@[simp] theorem State.onFlt_log (f : Flt → Flt) : (s.onFlt f).log = s.log := rfl
@[simp] theorem State.onFlt_pwr (f : Flt → Flt) : (s.onFlt f).pwr = s.pwr := rfl
@[simp] theorem State.onFlt_img (f : Flt → Flt) : (s.onFlt f).img = s.img := rfl
@[simp] theorem State.onFlt_meas (f : Flt → Flt) : (s.onFlt f).meas = s.meas := rfl
@[simp] theorem State.onFlt_chans (f : Flt → Flt) : (s.onFlt f).chans = s.chans := rfl
@[simp] theorem State.onFlt_tcs (f : Flt → Flt) : (s.onFlt f).tcs = s.tcs := rfl
@[simp] theorem State.onFlt_outs (f : Flt → Flt) : (s.onFlt f).outs = s.outs := rfl
@[simp] theorem State.onFlt_bridge (f : Flt → Flt) : (s.onFlt f).bridge = s.bridge := rfl
@[simp] theorem State.onFlt_tamper (f : Flt → Flt) : (s.onFlt f).tamper = s.tamper := rfl
@[simp] theorem State.onFlt_rtc (f : Flt → Flt) : (s.onFlt f).rtc = s.rtc := rfl
@[simp] theorem State.onFlt_pair (f : Flt → Flt) : (s.onFlt f).pair = s.pair := rfl
@[simp] theorem State.onFlt_radio (f : Flt → Flt) : (s.onFlt f).radio = s.radio := rfl
@[simp] theorem State.onFlt_sec (f : Flt → Flt) : (s.onFlt f).sec = s.sec := rfl
@[simp] theorem State.onFlt_sess (f : Flt → Flt) : (s.onFlt f).sess = s.sess := rfl
@[simp] theorem State.onFlt_mbus (f : Flt → Flt) : (s.onFlt f).mbus = s.mbus := rfl
@[simp] theorem State.onFlt_alc (f : Flt → Flt) : (s.onFlt f).alc = s.alc := rfl
@[simp] theorem State.onFlt_hl (f : Flt → Flt) : (s.onFlt f).hl = s.hl := rfl
@[simp] theorem State.onFlt_dma (f : Flt → Flt) : (s.onFlt f).dma = s.dma := rfl
@[simp] theorem State.onFlt_disp (f : Flt → Flt) : (s.onFlt f).disp = s.disp := rfl
@[simp] theorem State.onFlt_free (f : Flt → Flt) : (s.onFlt f).free = s.free := rfl

/-! ### onMem -/

@[simp] theorem State.onMem_pending (f : Mem → Mem) : (s.onMem f).pending = s.pending := rfl
@[simp] theorem State.onMem_otp (f : Mem → Mem) : (s.onMem f).otp = s.otp := rfl
@[simp] theorem State.onMem_mem (f : Mem → Mem) : (s.onMem f).mem = f s.mem := rfl
@[simp] theorem State.onMem_flt (f : Mem → Mem) : (s.onMem f).flt = s.flt := rfl
@[simp] theorem State.onMem_log (f : Mem → Mem) : (s.onMem f).log = s.log := rfl
@[simp] theorem State.onMem_pwr (f : Mem → Mem) : (s.onMem f).pwr = s.pwr := rfl
@[simp] theorem State.onMem_img (f : Mem → Mem) : (s.onMem f).img = s.img := rfl
@[simp] theorem State.onMem_meas (f : Mem → Mem) : (s.onMem f).meas = s.meas := rfl
@[simp] theorem State.onMem_chans (f : Mem → Mem) : (s.onMem f).chans = s.chans := rfl
@[simp] theorem State.onMem_tcs (f : Mem → Mem) : (s.onMem f).tcs = s.tcs := rfl
@[simp] theorem State.onMem_outs (f : Mem → Mem) : (s.onMem f).outs = s.outs := rfl
@[simp] theorem State.onMem_bridge (f : Mem → Mem) : (s.onMem f).bridge = s.bridge := rfl
@[simp] theorem State.onMem_tamper (f : Mem → Mem) : (s.onMem f).tamper = s.tamper := rfl
@[simp] theorem State.onMem_rtc (f : Mem → Mem) : (s.onMem f).rtc = s.rtc := rfl
@[simp] theorem State.onMem_pair (f : Mem → Mem) : (s.onMem f).pair = s.pair := rfl
@[simp] theorem State.onMem_radio (f : Mem → Mem) : (s.onMem f).radio = s.radio := rfl
@[simp] theorem State.onMem_sec (f : Mem → Mem) : (s.onMem f).sec = s.sec := rfl
@[simp] theorem State.onMem_sess (f : Mem → Mem) : (s.onMem f).sess = s.sess := rfl
@[simp] theorem State.onMem_mbus (f : Mem → Mem) : (s.onMem f).mbus = s.mbus := rfl
@[simp] theorem State.onMem_alc (f : Mem → Mem) : (s.onMem f).alc = s.alc := rfl
@[simp] theorem State.onMem_hl (f : Mem → Mem) : (s.onMem f).hl = s.hl := rfl
@[simp] theorem State.onMem_dma (f : Mem → Mem) : (s.onMem f).dma = s.dma := rfl
@[simp] theorem State.onMem_disp (f : Mem → Mem) : (s.onMem f).disp = s.disp := rfl
@[simp] theorem State.onMem_free (f : Mem → Mem) : (s.onMem f).free = s.free := rfl

/-! ### onLog -/

@[simp] theorem State.onLog_pending (f : EvLog → EvLog) : (s.onLog f).pending = s.pending := rfl
@[simp] theorem State.onLog_otp (f : EvLog → EvLog) : (s.onLog f).otp = s.otp := rfl
@[simp] theorem State.onLog_mem (f : EvLog → EvLog) : (s.onLog f).mem = s.mem := rfl
@[simp] theorem State.onLog_flt (f : EvLog → EvLog) : (s.onLog f).flt = s.flt := rfl
@[simp] theorem State.onLog_log (f : EvLog → EvLog) : (s.onLog f).log = f s.log := rfl
@[simp] theorem State.onLog_pwr (f : EvLog → EvLog) : (s.onLog f).pwr = s.pwr := rfl
@[simp] theorem State.onLog_img (f : EvLog → EvLog) : (s.onLog f).img = s.img := rfl
@[simp] theorem State.onLog_meas (f : EvLog → EvLog) : (s.onLog f).meas = s.meas := rfl
@[simp] theorem State.onLog_chans (f : EvLog → EvLog) : (s.onLog f).chans = s.chans := rfl
@[simp] theorem State.onLog_tcs (f : EvLog → EvLog) : (s.onLog f).tcs = s.tcs := rfl
@[simp] theorem State.onLog_outs (f : EvLog → EvLog) : (s.onLog f).outs = s.outs := rfl
@[simp] theorem State.onLog_bridge (f : EvLog → EvLog) : (s.onLog f).bridge = s.bridge := rfl
@[simp] theorem State.onLog_tamper (f : EvLog → EvLog) : (s.onLog f).tamper = s.tamper := rfl
@[simp] theorem State.onLog_rtc (f : EvLog → EvLog) : (s.onLog f).rtc = s.rtc := rfl
@[simp] theorem State.onLog_pair (f : EvLog → EvLog) : (s.onLog f).pair = s.pair := rfl
@[simp] theorem State.onLog_radio (f : EvLog → EvLog) : (s.onLog f).radio = s.radio := rfl
@[simp] theorem State.onLog_sec (f : EvLog → EvLog) : (s.onLog f).sec = s.sec := rfl
@[simp] theorem State.onLog_sess (f : EvLog → EvLog) : (s.onLog f).sess = s.sess := rfl
@[simp] theorem State.onLog_mbus (f : EvLog → EvLog) : (s.onLog f).mbus = s.mbus := rfl
@[simp] theorem State.onLog_alc (f : EvLog → EvLog) : (s.onLog f).alc = s.alc := rfl
@[simp] theorem State.onLog_hl (f : EvLog → EvLog) : (s.onLog f).hl = s.hl := rfl
@[simp] theorem State.onLog_dma (f : EvLog → EvLog) : (s.onLog f).dma = s.dma := rfl
@[simp] theorem State.onLog_disp (f : EvLog → EvLog) : (s.onLog f).disp = s.disp := rfl
@[simp] theorem State.onLog_free (f : EvLog → EvLog) : (s.onLog f).free = s.free := rfl

/-! ### onImg -/

@[simp] theorem State.onImg_pending (f : Img → Img) : (s.onImg f).pending = s.pending := rfl
@[simp] theorem State.onImg_otp (f : Img → Img) : (s.onImg f).otp = s.otp := rfl
@[simp] theorem State.onImg_mem (f : Img → Img) : (s.onImg f).mem = s.mem := rfl
@[simp] theorem State.onImg_flt (f : Img → Img) : (s.onImg f).flt = s.flt := rfl
@[simp] theorem State.onImg_log (f : Img → Img) : (s.onImg f).log = s.log := rfl
@[simp] theorem State.onImg_pwr (f : Img → Img) : (s.onImg f).pwr = s.pwr := rfl
@[simp] theorem State.onImg_img (f : Img → Img) : (s.onImg f).img = f s.img := rfl
@[simp] theorem State.onImg_meas (f : Img → Img) : (s.onImg f).meas = s.meas := rfl
@[simp] theorem State.onImg_chans (f : Img → Img) : (s.onImg f).chans = s.chans := rfl
@[simp] theorem State.onImg_tcs (f : Img → Img) : (s.onImg f).tcs = s.tcs := rfl
@[simp] theorem State.onImg_outs (f : Img → Img) : (s.onImg f).outs = s.outs := rfl
@[simp] theorem State.onImg_bridge (f : Img → Img) : (s.onImg f).bridge = s.bridge := rfl
@[simp] theorem State.onImg_tamper (f : Img → Img) : (s.onImg f).tamper = s.tamper := rfl
@[simp] theorem State.onImg_rtc (f : Img → Img) : (s.onImg f).rtc = s.rtc := rfl
@[simp] theorem State.onImg_pair (f : Img → Img) : (s.onImg f).pair = s.pair := rfl
@[simp] theorem State.onImg_radio (f : Img → Img) : (s.onImg f).radio = s.radio := rfl
@[simp] theorem State.onImg_sec (f : Img → Img) : (s.onImg f).sec = s.sec := rfl
@[simp] theorem State.onImg_sess (f : Img → Img) : (s.onImg f).sess = s.sess := rfl
@[simp] theorem State.onImg_mbus (f : Img → Img) : (s.onImg f).mbus = s.mbus := rfl
@[simp] theorem State.onImg_alc (f : Img → Img) : (s.onImg f).alc = s.alc := rfl
@[simp] theorem State.onImg_hl (f : Img → Img) : (s.onImg f).hl = s.hl := rfl
@[simp] theorem State.onImg_dma (f : Img → Img) : (s.onImg f).dma = s.dma := rfl
@[simp] theorem State.onImg_disp (f : Img → Img) : (s.onImg f).disp = s.disp := rfl
@[simp] theorem State.onImg_free (f : Img → Img) : (s.onImg f).free = s.free := rfl

/-! ### onMeas -/

@[simp] theorem State.onMeas_pending (f : Meas → Meas) : (s.onMeas f).pending = s.pending := rfl
@[simp] theorem State.onMeas_otp (f : Meas → Meas) : (s.onMeas f).otp = s.otp := rfl
@[simp] theorem State.onMeas_mem (f : Meas → Meas) : (s.onMeas f).mem = s.mem := rfl
@[simp] theorem State.onMeas_flt (f : Meas → Meas) : (s.onMeas f).flt = s.flt := rfl
@[simp] theorem State.onMeas_log (f : Meas → Meas) : (s.onMeas f).log = s.log := rfl
@[simp] theorem State.onMeas_pwr (f : Meas → Meas) : (s.onMeas f).pwr = s.pwr := rfl
@[simp] theorem State.onMeas_img (f : Meas → Meas) : (s.onMeas f).img = s.img := rfl
@[simp] theorem State.onMeas_meas (f : Meas → Meas) : (s.onMeas f).meas = f s.meas := rfl
@[simp] theorem State.onMeas_chans (f : Meas → Meas) : (s.onMeas f).chans = s.chans := rfl
@[simp] theorem State.onMeas_tcs (f : Meas → Meas) : (s.onMeas f).tcs = s.tcs := rfl
@[simp] theorem State.onMeas_outs (f : Meas → Meas) : (s.onMeas f).outs = s.outs := rfl
@[simp] theorem State.onMeas_bridge (f : Meas → Meas) : (s.onMeas f).bridge = s.bridge := rfl
@[simp] theorem State.onMeas_tamper (f : Meas → Meas) : (s.onMeas f).tamper = s.tamper := rfl
@[simp] theorem State.onMeas_rtc (f : Meas → Meas) : (s.onMeas f).rtc = s.rtc := rfl
@[simp] theorem State.onMeas_pair (f : Meas → Meas) : (s.onMeas f).pair = s.pair := rfl
@[simp] theorem State.onMeas_radio (f : Meas → Meas) : (s.onMeas f).radio = s.radio := rfl
@[simp] theorem State.onMeas_sec (f : Meas → Meas) : (s.onMeas f).sec = s.sec := rfl
@[simp] theorem State.onMeas_sess (f : Meas → Meas) : (s.onMeas f).sess = s.sess := rfl
@[simp] theorem State.onMeas_mbus (f : Meas → Meas) : (s.onMeas f).mbus = s.mbus := rfl
@[simp] theorem State.onMeas_alc (f : Meas → Meas) : (s.onMeas f).alc = s.alc := rfl
@[simp] theorem State.onMeas_hl (f : Meas → Meas) : (s.onMeas f).hl = s.hl := rfl
@[simp] theorem State.onMeas_dma (f : Meas → Meas) : (s.onMeas f).dma = s.dma := rfl
@[simp] theorem State.onMeas_disp (f : Meas → Meas) : (s.onMeas f).disp = s.disp := rfl
@[simp] theorem State.onMeas_free (f : Meas → Meas) : (s.onMeas f).free = s.free := rfl

/-! ### onTamper -/

@[simp] theorem State.onTamper_pending (f : Tamper → Tamper) : (s.onTamper f).pending = s.pending := rfl
@[simp] theorem State.onTamper_otp (f : Tamper → Tamper) : (s.onTamper f).otp = s.otp := rfl
@[simp] theorem State.onTamper_mem (f : Tamper → Tamper) : (s.onTamper f).mem = s.mem := rfl
@[simp] theorem State.onTamper_flt (f : Tamper → Tamper) : (s.onTamper f).flt = s.flt := rfl
@[simp] theorem State.onTamper_log (f : Tamper → Tamper) : (s.onTamper f).log = s.log := rfl
@[simp] theorem State.onTamper_pwr (f : Tamper → Tamper) : (s.onTamper f).pwr = s.pwr := rfl
@[simp] theorem State.onTamper_img (f : Tamper → Tamper) : (s.onTamper f).img = s.img := rfl
@[simp] theorem State.onTamper_meas (f : Tamper → Tamper) : (s.onTamper f).meas = s.meas := rfl
@[simp] theorem State.onTamper_chans (f : Tamper → Tamper) : (s.onTamper f).chans = s.chans := rfl
@[simp] theorem State.onTamper_tcs (f : Tamper → Tamper) : (s.onTamper f).tcs = s.tcs := rfl
@[simp] theorem State.onTamper_outs (f : Tamper → Tamper) : (s.onTamper f).outs = s.outs := rfl
@[simp] theorem State.onTamper_bridge (f : Tamper → Tamper) : (s.onTamper f).bridge = s.bridge := rfl
@[simp] theorem State.onTamper_tamper (f : Tamper → Tamper) : (s.onTamper f).tamper = f s.tamper := rfl
@[simp] theorem State.onTamper_rtc (f : Tamper → Tamper) : (s.onTamper f).rtc = s.rtc := rfl
@[simp] theorem State.onTamper_pair (f : Tamper → Tamper) : (s.onTamper f).pair = s.pair := rfl
@[simp] theorem State.onTamper_radio (f : Tamper → Tamper) : (s.onTamper f).radio = s.radio := rfl
@[simp] theorem State.onTamper_sec (f : Tamper → Tamper) : (s.onTamper f).sec = s.sec := rfl
@[simp] theorem State.onTamper_sess (f : Tamper → Tamper) : (s.onTamper f).sess = s.sess := rfl
@[simp] theorem State.onTamper_mbus (f : Tamper → Tamper) : (s.onTamper f).mbus = s.mbus := rfl
@[simp] theorem State.onTamper_alc (f : Tamper → Tamper) : (s.onTamper f).alc = s.alc := rfl
@[simp] theorem State.onTamper_hl (f : Tamper → Tamper) : (s.onTamper f).hl = s.hl := rfl
@[simp] theorem State.onTamper_dma (f : Tamper → Tamper) : (s.onTamper f).dma = s.dma := rfl
@[simp] theorem State.onTamper_disp (f : Tamper → Tamper) : (s.onTamper f).disp = s.disp := rfl
@[simp] theorem State.onTamper_free (f : Tamper → Tamper) : (s.onTamper f).free = s.free := rfl

/-! ### onRtc -/

@[simp] theorem State.onRtc_pending (f : Rtc → Rtc) : (s.onRtc f).pending = s.pending := rfl
@[simp] theorem State.onRtc_otp (f : Rtc → Rtc) : (s.onRtc f).otp = s.otp := rfl
@[simp] theorem State.onRtc_mem (f : Rtc → Rtc) : (s.onRtc f).mem = s.mem := rfl
@[simp] theorem State.onRtc_flt (f : Rtc → Rtc) : (s.onRtc f).flt = s.flt := rfl
@[simp] theorem State.onRtc_log (f : Rtc → Rtc) : (s.onRtc f).log = s.log := rfl
@[simp] theorem State.onRtc_pwr (f : Rtc → Rtc) : (s.onRtc f).pwr = s.pwr := rfl
@[simp] theorem State.onRtc_img (f : Rtc → Rtc) : (s.onRtc f).img = s.img := rfl
@[simp] theorem State.onRtc_meas (f : Rtc → Rtc) : (s.onRtc f).meas = s.meas := rfl
@[simp] theorem State.onRtc_chans (f : Rtc → Rtc) : (s.onRtc f).chans = s.chans := rfl
@[simp] theorem State.onRtc_tcs (f : Rtc → Rtc) : (s.onRtc f).tcs = s.tcs := rfl
@[simp] theorem State.onRtc_outs (f : Rtc → Rtc) : (s.onRtc f).outs = s.outs := rfl
@[simp] theorem State.onRtc_bridge (f : Rtc → Rtc) : (s.onRtc f).bridge = s.bridge := rfl
@[simp] theorem State.onRtc_tamper (f : Rtc → Rtc) : (s.onRtc f).tamper = s.tamper := rfl
@[simp] theorem State.onRtc_rtc (f : Rtc → Rtc) : (s.onRtc f).rtc = f s.rtc := rfl
@[simp] theorem State.onRtc_pair (f : Rtc → Rtc) : (s.onRtc f).pair = s.pair := rfl
@[simp] theorem State.onRtc_radio (f : Rtc → Rtc) : (s.onRtc f).radio = s.radio := rfl
@[simp] theorem State.onRtc_sec (f : Rtc → Rtc) : (s.onRtc f).sec = s.sec := rfl
@[simp] theorem State.onRtc_sess (f : Rtc → Rtc) : (s.onRtc f).sess = s.sess := rfl
@[simp] theorem State.onRtc_mbus (f : Rtc → Rtc) : (s.onRtc f).mbus = s.mbus := rfl
@[simp] theorem State.onRtc_alc (f : Rtc → Rtc) : (s.onRtc f).alc = s.alc := rfl
@[simp] theorem State.onRtc_hl (f : Rtc → Rtc) : (s.onRtc f).hl = s.hl := rfl
@[simp] theorem State.onRtc_dma (f : Rtc → Rtc) : (s.onRtc f).dma = s.dma := rfl
@[simp] theorem State.onRtc_disp (f : Rtc → Rtc) : (s.onRtc f).disp = s.disp := rfl
@[simp] theorem State.onRtc_free (f : Rtc → Rtc) : (s.onRtc f).free = s.free := rfl

/-! ### onBridge -/

@[simp] theorem State.onBridge_pending (f : Bridge → Bridge) : (s.onBridge f).pending = s.pending := rfl
@[simp] theorem State.onBridge_otp (f : Bridge → Bridge) : (s.onBridge f).otp = s.otp := rfl
@[simp] theorem State.onBridge_mem (f : Bridge → Bridge) : (s.onBridge f).mem = s.mem := rfl
@[simp] theorem State.onBridge_flt (f : Bridge → Bridge) : (s.onBridge f).flt = s.flt := rfl
@[simp] theorem State.onBridge_log (f : Bridge → Bridge) : (s.onBridge f).log = s.log := rfl
@[simp] theorem State.onBridge_pwr (f : Bridge → Bridge) : (s.onBridge f).pwr = s.pwr := rfl
@[simp] theorem State.onBridge_img (f : Bridge → Bridge) : (s.onBridge f).img = s.img := rfl
@[simp] theorem State.onBridge_meas (f : Bridge → Bridge) : (s.onBridge f).meas = s.meas := rfl
@[simp] theorem State.onBridge_chans (f : Bridge → Bridge) : (s.onBridge f).chans = s.chans := rfl
@[simp] theorem State.onBridge_tcs (f : Bridge → Bridge) : (s.onBridge f).tcs = s.tcs := rfl
@[simp] theorem State.onBridge_outs (f : Bridge → Bridge) : (s.onBridge f).outs = s.outs := rfl
@[simp] theorem State.onBridge_bridge (f : Bridge → Bridge) : (s.onBridge f).bridge = f s.bridge := rfl
@[simp] theorem State.onBridge_tamper (f : Bridge → Bridge) : (s.onBridge f).tamper = s.tamper := rfl
@[simp] theorem State.onBridge_rtc (f : Bridge → Bridge) : (s.onBridge f).rtc = s.rtc := rfl
@[simp] theorem State.onBridge_pair (f : Bridge → Bridge) : (s.onBridge f).pair = s.pair := rfl
@[simp] theorem State.onBridge_radio (f : Bridge → Bridge) : (s.onBridge f).radio = s.radio := rfl
@[simp] theorem State.onBridge_sec (f : Bridge → Bridge) : (s.onBridge f).sec = s.sec := rfl
@[simp] theorem State.onBridge_sess (f : Bridge → Bridge) : (s.onBridge f).sess = s.sess := rfl
@[simp] theorem State.onBridge_mbus (f : Bridge → Bridge) : (s.onBridge f).mbus = s.mbus := rfl
@[simp] theorem State.onBridge_alc (f : Bridge → Bridge) : (s.onBridge f).alc = s.alc := rfl
@[simp] theorem State.onBridge_hl (f : Bridge → Bridge) : (s.onBridge f).hl = s.hl := rfl
@[simp] theorem State.onBridge_dma (f : Bridge → Bridge) : (s.onBridge f).dma = s.dma := rfl
@[simp] theorem State.onBridge_disp (f : Bridge → Bridge) : (s.onBridge f).disp = s.disp := rfl
@[simp] theorem State.onBridge_free (f : Bridge → Bridge) : (s.onBridge f).free = s.free := rfl

/-! ### onPair -/

@[simp] theorem State.onPair_pending (f : Pair → Pair) : (s.onPair f).pending = s.pending := rfl
@[simp] theorem State.onPair_otp (f : Pair → Pair) : (s.onPair f).otp = s.otp := rfl
@[simp] theorem State.onPair_mem (f : Pair → Pair) : (s.onPair f).mem = s.mem := rfl
@[simp] theorem State.onPair_flt (f : Pair → Pair) : (s.onPair f).flt = s.flt := rfl
@[simp] theorem State.onPair_log (f : Pair → Pair) : (s.onPair f).log = s.log := rfl
@[simp] theorem State.onPair_pwr (f : Pair → Pair) : (s.onPair f).pwr = s.pwr := rfl
@[simp] theorem State.onPair_img (f : Pair → Pair) : (s.onPair f).img = s.img := rfl
@[simp] theorem State.onPair_meas (f : Pair → Pair) : (s.onPair f).meas = s.meas := rfl
@[simp] theorem State.onPair_chans (f : Pair → Pair) : (s.onPair f).chans = s.chans := rfl
@[simp] theorem State.onPair_tcs (f : Pair → Pair) : (s.onPair f).tcs = s.tcs := rfl
@[simp] theorem State.onPair_outs (f : Pair → Pair) : (s.onPair f).outs = s.outs := rfl
@[simp] theorem State.onPair_bridge (f : Pair → Pair) : (s.onPair f).bridge = s.bridge := rfl
@[simp] theorem State.onPair_tamper (f : Pair → Pair) : (s.onPair f).tamper = s.tamper := rfl
@[simp] theorem State.onPair_rtc (f : Pair → Pair) : (s.onPair f).rtc = s.rtc := rfl
@[simp] theorem State.onPair_pair (f : Pair → Pair) : (s.onPair f).pair = f s.pair := rfl
@[simp] theorem State.onPair_radio (f : Pair → Pair) : (s.onPair f).radio = s.radio := rfl
@[simp] theorem State.onPair_sec (f : Pair → Pair) : (s.onPair f).sec = s.sec := rfl
@[simp] theorem State.onPair_sess (f : Pair → Pair) : (s.onPair f).sess = s.sess := rfl
@[simp] theorem State.onPair_mbus (f : Pair → Pair) : (s.onPair f).mbus = s.mbus := rfl
@[simp] theorem State.onPair_alc (f : Pair → Pair) : (s.onPair f).alc = s.alc := rfl
@[simp] theorem State.onPair_hl (f : Pair → Pair) : (s.onPair f).hl = s.hl := rfl
@[simp] theorem State.onPair_dma (f : Pair → Pair) : (s.onPair f).dma = s.dma := rfl
@[simp] theorem State.onPair_disp (f : Pair → Pair) : (s.onPair f).disp = s.disp := rfl
@[simp] theorem State.onPair_free (f : Pair → Pair) : (s.onPair f).free = s.free := rfl

/-! ### onRadio -/

@[simp] theorem State.onRadio_pending (f : Radio → Radio) : (s.onRadio f).pending = s.pending := rfl
@[simp] theorem State.onRadio_otp (f : Radio → Radio) : (s.onRadio f).otp = s.otp := rfl
@[simp] theorem State.onRadio_mem (f : Radio → Radio) : (s.onRadio f).mem = s.mem := rfl
@[simp] theorem State.onRadio_flt (f : Radio → Radio) : (s.onRadio f).flt = s.flt := rfl
@[simp] theorem State.onRadio_log (f : Radio → Radio) : (s.onRadio f).log = s.log := rfl
@[simp] theorem State.onRadio_pwr (f : Radio → Radio) : (s.onRadio f).pwr = s.pwr := rfl
@[simp] theorem State.onRadio_img (f : Radio → Radio) : (s.onRadio f).img = s.img := rfl
@[simp] theorem State.onRadio_meas (f : Radio → Radio) : (s.onRadio f).meas = s.meas := rfl
@[simp] theorem State.onRadio_chans (f : Radio → Radio) : (s.onRadio f).chans = s.chans := rfl
@[simp] theorem State.onRadio_tcs (f : Radio → Radio) : (s.onRadio f).tcs = s.tcs := rfl
@[simp] theorem State.onRadio_outs (f : Radio → Radio) : (s.onRadio f).outs = s.outs := rfl
@[simp] theorem State.onRadio_bridge (f : Radio → Radio) : (s.onRadio f).bridge = s.bridge := rfl
@[simp] theorem State.onRadio_tamper (f : Radio → Radio) : (s.onRadio f).tamper = s.tamper := rfl
@[simp] theorem State.onRadio_rtc (f : Radio → Radio) : (s.onRadio f).rtc = s.rtc := rfl
@[simp] theorem State.onRadio_pair (f : Radio → Radio) : (s.onRadio f).pair = s.pair := rfl
@[simp] theorem State.onRadio_radio (f : Radio → Radio) : (s.onRadio f).radio = f s.radio := rfl
@[simp] theorem State.onRadio_sec (f : Radio → Radio) : (s.onRadio f).sec = s.sec := rfl
@[simp] theorem State.onRadio_sess (f : Radio → Radio) : (s.onRadio f).sess = s.sess := rfl
@[simp] theorem State.onRadio_mbus (f : Radio → Radio) : (s.onRadio f).mbus = s.mbus := rfl
@[simp] theorem State.onRadio_alc (f : Radio → Radio) : (s.onRadio f).alc = s.alc := rfl
@[simp] theorem State.onRadio_hl (f : Radio → Radio) : (s.onRadio f).hl = s.hl := rfl
@[simp] theorem State.onRadio_dma (f : Radio → Radio) : (s.onRadio f).dma = s.dma := rfl
@[simp] theorem State.onRadio_disp (f : Radio → Radio) : (s.onRadio f).disp = s.disp := rfl
@[simp] theorem State.onRadio_free (f : Radio → Radio) : (s.onRadio f).free = s.free := rfl

/-! ### onSec -/

@[simp] theorem State.onSec_pending (f : Sec → Sec) : (s.onSec f).pending = s.pending := rfl
@[simp] theorem State.onSec_otp (f : Sec → Sec) : (s.onSec f).otp = s.otp := rfl
@[simp] theorem State.onSec_mem (f : Sec → Sec) : (s.onSec f).mem = s.mem := rfl
@[simp] theorem State.onSec_flt (f : Sec → Sec) : (s.onSec f).flt = s.flt := rfl
@[simp] theorem State.onSec_log (f : Sec → Sec) : (s.onSec f).log = s.log := rfl
@[simp] theorem State.onSec_pwr (f : Sec → Sec) : (s.onSec f).pwr = s.pwr := rfl
@[simp] theorem State.onSec_img (f : Sec → Sec) : (s.onSec f).img = s.img := rfl
@[simp] theorem State.onSec_meas (f : Sec → Sec) : (s.onSec f).meas = s.meas := rfl
@[simp] theorem State.onSec_chans (f : Sec → Sec) : (s.onSec f).chans = s.chans := rfl
@[simp] theorem State.onSec_tcs (f : Sec → Sec) : (s.onSec f).tcs = s.tcs := rfl
@[simp] theorem State.onSec_outs (f : Sec → Sec) : (s.onSec f).outs = s.outs := rfl
@[simp] theorem State.onSec_bridge (f : Sec → Sec) : (s.onSec f).bridge = s.bridge := rfl
@[simp] theorem State.onSec_tamper (f : Sec → Sec) : (s.onSec f).tamper = s.tamper := rfl
@[simp] theorem State.onSec_rtc (f : Sec → Sec) : (s.onSec f).rtc = s.rtc := rfl
@[simp] theorem State.onSec_pair (f : Sec → Sec) : (s.onSec f).pair = s.pair := rfl
@[simp] theorem State.onSec_radio (f : Sec → Sec) : (s.onSec f).radio = s.radio := rfl
@[simp] theorem State.onSec_sec (f : Sec → Sec) : (s.onSec f).sec = f s.sec := rfl
@[simp] theorem State.onSec_sess (f : Sec → Sec) : (s.onSec f).sess = s.sess := rfl
@[simp] theorem State.onSec_mbus (f : Sec → Sec) : (s.onSec f).mbus = s.mbus := rfl
@[simp] theorem State.onSec_alc (f : Sec → Sec) : (s.onSec f).alc = s.alc := rfl
@[simp] theorem State.onSec_hl (f : Sec → Sec) : (s.onSec f).hl = s.hl := rfl
@[simp] theorem State.onSec_dma (f : Sec → Sec) : (s.onSec f).dma = s.dma := rfl
@[simp] theorem State.onSec_disp (f : Sec → Sec) : (s.onSec f).disp = s.disp := rfl
@[simp] theorem State.onSec_free (f : Sec → Sec) : (s.onSec f).free = s.free := rfl

/-! ### onSess -/

@[simp] theorem State.onSess_pending (f : Sess → Sess) : (s.onSess f).pending = s.pending := rfl
@[simp] theorem State.onSess_otp (f : Sess → Sess) : (s.onSess f).otp = s.otp := rfl
@[simp] theorem State.onSess_mem (f : Sess → Sess) : (s.onSess f).mem = s.mem := rfl
@[simp] theorem State.onSess_flt (f : Sess → Sess) : (s.onSess f).flt = s.flt := rfl
@[simp] theorem State.onSess_log (f : Sess → Sess) : (s.onSess f).log = s.log := rfl
@[simp] theorem State.onSess_pwr (f : Sess → Sess) : (s.onSess f).pwr = s.pwr := rfl
@[simp] theorem State.onSess_img (f : Sess → Sess) : (s.onSess f).img = s.img := rfl
@[simp] theorem State.onSess_meas (f : Sess → Sess) : (s.onSess f).meas = s.meas := rfl
@[simp] theorem State.onSess_chans (f : Sess → Sess) : (s.onSess f).chans = s.chans := rfl
@[simp] theorem State.onSess_tcs (f : Sess → Sess) : (s.onSess f).tcs = s.tcs := rfl
@[simp] theorem State.onSess_outs (f : Sess → Sess) : (s.onSess f).outs = s.outs := rfl
@[simp] theorem State.onSess_bridge (f : Sess → Sess) : (s.onSess f).bridge = s.bridge := rfl
@[simp] theorem State.onSess_tamper (f : Sess → Sess) : (s.onSess f).tamper = s.tamper := rfl
@[simp] theorem State.onSess_rtc (f : Sess → Sess) : (s.onSess f).rtc = s.rtc := rfl
@[simp] theorem State.onSess_pair (f : Sess → Sess) : (s.onSess f).pair = s.pair := rfl
@[simp] theorem State.onSess_radio (f : Sess → Sess) : (s.onSess f).radio = s.radio := rfl
@[simp] theorem State.onSess_sec (f : Sess → Sess) : (s.onSess f).sec = s.sec := rfl
@[simp] theorem State.onSess_sess (f : Sess → Sess) : (s.onSess f).sess = f s.sess := rfl
@[simp] theorem State.onSess_mbus (f : Sess → Sess) : (s.onSess f).mbus = s.mbus := rfl
@[simp] theorem State.onSess_alc (f : Sess → Sess) : (s.onSess f).alc = s.alc := rfl
@[simp] theorem State.onSess_hl (f : Sess → Sess) : (s.onSess f).hl = s.hl := rfl
@[simp] theorem State.onSess_dma (f : Sess → Sess) : (s.onSess f).dma = s.dma := rfl
@[simp] theorem State.onSess_disp (f : Sess → Sess) : (s.onSess f).disp = s.disp := rfl
@[simp] theorem State.onSess_free (f : Sess → Sess) : (s.onSess f).free = s.free := rfl

/-! ### onMBus -/

@[simp] theorem State.onMBus_pending (f : MBus → MBus) : (s.onMBus f).pending = s.pending := rfl
@[simp] theorem State.onMBus_otp (f : MBus → MBus) : (s.onMBus f).otp = s.otp := rfl
@[simp] theorem State.onMBus_mem (f : MBus → MBus) : (s.onMBus f).mem = s.mem := rfl
@[simp] theorem State.onMBus_flt (f : MBus → MBus) : (s.onMBus f).flt = s.flt := rfl
@[simp] theorem State.onMBus_log (f : MBus → MBus) : (s.onMBus f).log = s.log := rfl
@[simp] theorem State.onMBus_pwr (f : MBus → MBus) : (s.onMBus f).pwr = s.pwr := rfl
@[simp] theorem State.onMBus_img (f : MBus → MBus) : (s.onMBus f).img = s.img := rfl
@[simp] theorem State.onMBus_meas (f : MBus → MBus) : (s.onMBus f).meas = s.meas := rfl
@[simp] theorem State.onMBus_chans (f : MBus → MBus) : (s.onMBus f).chans = s.chans := rfl
@[simp] theorem State.onMBus_tcs (f : MBus → MBus) : (s.onMBus f).tcs = s.tcs := rfl
@[simp] theorem State.onMBus_outs (f : MBus → MBus) : (s.onMBus f).outs = s.outs := rfl
@[simp] theorem State.onMBus_bridge (f : MBus → MBus) : (s.onMBus f).bridge = s.bridge := rfl
@[simp] theorem State.onMBus_tamper (f : MBus → MBus) : (s.onMBus f).tamper = s.tamper := rfl
@[simp] theorem State.onMBus_rtc (f : MBus → MBus) : (s.onMBus f).rtc = s.rtc := rfl
@[simp] theorem State.onMBus_pair (f : MBus → MBus) : (s.onMBus f).pair = s.pair := rfl
@[simp] theorem State.onMBus_radio (f : MBus → MBus) : (s.onMBus f).radio = s.radio := rfl
@[simp] theorem State.onMBus_sec (f : MBus → MBus) : (s.onMBus f).sec = s.sec := rfl
@[simp] theorem State.onMBus_sess (f : MBus → MBus) : (s.onMBus f).sess = s.sess := rfl
@[simp] theorem State.onMBus_mbus (f : MBus → MBus) : (s.onMBus f).mbus = f s.mbus := rfl
@[simp] theorem State.onMBus_alc (f : MBus → MBus) : (s.onMBus f).alc = s.alc := rfl
@[simp] theorem State.onMBus_hl (f : MBus → MBus) : (s.onMBus f).hl = s.hl := rfl
@[simp] theorem State.onMBus_dma (f : MBus → MBus) : (s.onMBus f).dma = s.dma := rfl
@[simp] theorem State.onMBus_disp (f : MBus → MBus) : (s.onMBus f).disp = s.disp := rfl
@[simp] theorem State.onMBus_free (f : MBus → MBus) : (s.onMBus f).free = s.free := rfl

/-! ### onAlc -/

@[simp] theorem State.onAlc_pending (f : Alc → Alc) : (s.onAlc f).pending = s.pending := rfl
@[simp] theorem State.onAlc_otp (f : Alc → Alc) : (s.onAlc f).otp = s.otp := rfl
@[simp] theorem State.onAlc_mem (f : Alc → Alc) : (s.onAlc f).mem = s.mem := rfl
@[simp] theorem State.onAlc_flt (f : Alc → Alc) : (s.onAlc f).flt = s.flt := rfl
@[simp] theorem State.onAlc_log (f : Alc → Alc) : (s.onAlc f).log = s.log := rfl
@[simp] theorem State.onAlc_pwr (f : Alc → Alc) : (s.onAlc f).pwr = s.pwr := rfl
@[simp] theorem State.onAlc_img (f : Alc → Alc) : (s.onAlc f).img = s.img := rfl
@[simp] theorem State.onAlc_meas (f : Alc → Alc) : (s.onAlc f).meas = s.meas := rfl
@[simp] theorem State.onAlc_chans (f : Alc → Alc) : (s.onAlc f).chans = s.chans := rfl
@[simp] theorem State.onAlc_tcs (f : Alc → Alc) : (s.onAlc f).tcs = s.tcs := rfl
@[simp] theorem State.onAlc_outs (f : Alc → Alc) : (s.onAlc f).outs = s.outs := rfl
@[simp] theorem State.onAlc_bridge (f : Alc → Alc) : (s.onAlc f).bridge = s.bridge := rfl
@[simp] theorem State.onAlc_tamper (f : Alc → Alc) : (s.onAlc f).tamper = s.tamper := rfl
@[simp] theorem State.onAlc_rtc (f : Alc → Alc) : (s.onAlc f).rtc = s.rtc := rfl
@[simp] theorem State.onAlc_pair (f : Alc → Alc) : (s.onAlc f).pair = s.pair := rfl
@[simp] theorem State.onAlc_radio (f : Alc → Alc) : (s.onAlc f).radio = s.radio := rfl
@[simp] theorem State.onAlc_sec (f : Alc → Alc) : (s.onAlc f).sec = s.sec := rfl
@[simp] theorem State.onAlc_sess (f : Alc → Alc) : (s.onAlc f).sess = s.sess := rfl
@[simp] theorem State.onAlc_mbus (f : Alc → Alc) : (s.onAlc f).mbus = s.mbus := rfl
@[simp] theorem State.onAlc_alc (f : Alc → Alc) : (s.onAlc f).alc = f s.alc := rfl
@[simp] theorem State.onAlc_hl (f : Alc → Alc) : (s.onAlc f).hl = s.hl := rfl
@[simp] theorem State.onAlc_dma (f : Alc → Alc) : (s.onAlc f).dma = s.dma := rfl
@[simp] theorem State.onAlc_disp (f : Alc → Alc) : (s.onAlc f).disp = s.disp := rfl
@[simp] theorem State.onAlc_free (f : Alc → Alc) : (s.onAlc f).free = s.free := rfl

/-! ### onHl -/

@[simp] theorem State.onHl_pending (f : HostLink → HostLink) : (s.onHl f).pending = s.pending := rfl
@[simp] theorem State.onHl_otp (f : HostLink → HostLink) : (s.onHl f).otp = s.otp := rfl
@[simp] theorem State.onHl_mem (f : HostLink → HostLink) : (s.onHl f).mem = s.mem := rfl
@[simp] theorem State.onHl_flt (f : HostLink → HostLink) : (s.onHl f).flt = s.flt := rfl
@[simp] theorem State.onHl_log (f : HostLink → HostLink) : (s.onHl f).log = s.log := rfl
@[simp] theorem State.onHl_pwr (f : HostLink → HostLink) : (s.onHl f).pwr = s.pwr := rfl
@[simp] theorem State.onHl_img (f : HostLink → HostLink) : (s.onHl f).img = s.img := rfl
@[simp] theorem State.onHl_meas (f : HostLink → HostLink) : (s.onHl f).meas = s.meas := rfl
@[simp] theorem State.onHl_chans (f : HostLink → HostLink) : (s.onHl f).chans = s.chans := rfl
@[simp] theorem State.onHl_tcs (f : HostLink → HostLink) : (s.onHl f).tcs = s.tcs := rfl
@[simp] theorem State.onHl_outs (f : HostLink → HostLink) : (s.onHl f).outs = s.outs := rfl
@[simp] theorem State.onHl_bridge (f : HostLink → HostLink) : (s.onHl f).bridge = s.bridge := rfl
@[simp] theorem State.onHl_tamper (f : HostLink → HostLink) : (s.onHl f).tamper = s.tamper := rfl
@[simp] theorem State.onHl_rtc (f : HostLink → HostLink) : (s.onHl f).rtc = s.rtc := rfl
@[simp] theorem State.onHl_pair (f : HostLink → HostLink) : (s.onHl f).pair = s.pair := rfl
@[simp] theorem State.onHl_radio (f : HostLink → HostLink) : (s.onHl f).radio = s.radio := rfl
@[simp] theorem State.onHl_sec (f : HostLink → HostLink) : (s.onHl f).sec = s.sec := rfl
@[simp] theorem State.onHl_sess (f : HostLink → HostLink) : (s.onHl f).sess = s.sess := rfl
@[simp] theorem State.onHl_mbus (f : HostLink → HostLink) : (s.onHl f).mbus = s.mbus := rfl
@[simp] theorem State.onHl_alc (f : HostLink → HostLink) : (s.onHl f).alc = s.alc := rfl
@[simp] theorem State.onHl_hl (f : HostLink → HostLink) : (s.onHl f).hl = f s.hl := rfl
@[simp] theorem State.onHl_dma (f : HostLink → HostLink) : (s.onHl f).dma = s.dma := rfl
@[simp] theorem State.onHl_disp (f : HostLink → HostLink) : (s.onHl f).disp = s.disp := rfl
@[simp] theorem State.onHl_free (f : HostLink → HostLink) : (s.onHl f).free = s.free := rfl

/-! ### onDma -/

@[simp] theorem State.onDma_pending (f : Dma → Dma) : (s.onDma f).pending = s.pending := rfl
@[simp] theorem State.onDma_otp (f : Dma → Dma) : (s.onDma f).otp = s.otp := rfl
@[simp] theorem State.onDma_mem (f : Dma → Dma) : (s.onDma f).mem = s.mem := rfl
@[simp] theorem State.onDma_flt (f : Dma → Dma) : (s.onDma f).flt = s.flt := rfl
@[simp] theorem State.onDma_log (f : Dma → Dma) : (s.onDma f).log = s.log := rfl
@[simp] theorem State.onDma_pwr (f : Dma → Dma) : (s.onDma f).pwr = s.pwr := rfl
@[simp] theorem State.onDma_img (f : Dma → Dma) : (s.onDma f).img = s.img := rfl
@[simp] theorem State.onDma_meas (f : Dma → Dma) : (s.onDma f).meas = s.meas := rfl
@[simp] theorem State.onDma_chans (f : Dma → Dma) : (s.onDma f).chans = s.chans := rfl
@[simp] theorem State.onDma_tcs (f : Dma → Dma) : (s.onDma f).tcs = s.tcs := rfl
@[simp] theorem State.onDma_outs (f : Dma → Dma) : (s.onDma f).outs = s.outs := rfl
@[simp] theorem State.onDma_bridge (f : Dma → Dma) : (s.onDma f).bridge = s.bridge := rfl
@[simp] theorem State.onDma_tamper (f : Dma → Dma) : (s.onDma f).tamper = s.tamper := rfl
@[simp] theorem State.onDma_rtc (f : Dma → Dma) : (s.onDma f).rtc = s.rtc := rfl
@[simp] theorem State.onDma_pair (f : Dma → Dma) : (s.onDma f).pair = s.pair := rfl
@[simp] theorem State.onDma_radio (f : Dma → Dma) : (s.onDma f).radio = s.radio := rfl
@[simp] theorem State.onDma_sec (f : Dma → Dma) : (s.onDma f).sec = s.sec := rfl
@[simp] theorem State.onDma_sess (f : Dma → Dma) : (s.onDma f).sess = s.sess := rfl
@[simp] theorem State.onDma_mbus (f : Dma → Dma) : (s.onDma f).mbus = s.mbus := rfl
@[simp] theorem State.onDma_alc (f : Dma → Dma) : (s.onDma f).alc = s.alc := rfl
@[simp] theorem State.onDma_hl (f : Dma → Dma) : (s.onDma f).hl = s.hl := rfl
@[simp] theorem State.onDma_dma (f : Dma → Dma) : (s.onDma f).dma = f s.dma := rfl
@[simp] theorem State.onDma_disp (f : Dma → Dma) : (s.onDma f).disp = s.disp := rfl
@[simp] theorem State.onDma_free (f : Dma → Dma) : (s.onDma f).free = s.free := rfl

/-! ### onDisp -/

@[simp] theorem State.onDisp_pending (f : Disp → Disp) : (s.onDisp f).pending = s.pending := rfl
@[simp] theorem State.onDisp_otp (f : Disp → Disp) : (s.onDisp f).otp = s.otp := rfl
@[simp] theorem State.onDisp_mem (f : Disp → Disp) : (s.onDisp f).mem = s.mem := rfl
@[simp] theorem State.onDisp_flt (f : Disp → Disp) : (s.onDisp f).flt = s.flt := rfl
@[simp] theorem State.onDisp_log (f : Disp → Disp) : (s.onDisp f).log = s.log := rfl
@[simp] theorem State.onDisp_pwr (f : Disp → Disp) : (s.onDisp f).pwr = s.pwr := rfl
@[simp] theorem State.onDisp_img (f : Disp → Disp) : (s.onDisp f).img = s.img := rfl
@[simp] theorem State.onDisp_meas (f : Disp → Disp) : (s.onDisp f).meas = s.meas := rfl
@[simp] theorem State.onDisp_chans (f : Disp → Disp) : (s.onDisp f).chans = s.chans := rfl
@[simp] theorem State.onDisp_tcs (f : Disp → Disp) : (s.onDisp f).tcs = s.tcs := rfl
@[simp] theorem State.onDisp_outs (f : Disp → Disp) : (s.onDisp f).outs = s.outs := rfl
@[simp] theorem State.onDisp_bridge (f : Disp → Disp) : (s.onDisp f).bridge = s.bridge := rfl
@[simp] theorem State.onDisp_tamper (f : Disp → Disp) : (s.onDisp f).tamper = s.tamper := rfl
@[simp] theorem State.onDisp_rtc (f : Disp → Disp) : (s.onDisp f).rtc = s.rtc := rfl
@[simp] theorem State.onDisp_pair (f : Disp → Disp) : (s.onDisp f).pair = s.pair := rfl
@[simp] theorem State.onDisp_radio (f : Disp → Disp) : (s.onDisp f).radio = s.radio := rfl
@[simp] theorem State.onDisp_sec (f : Disp → Disp) : (s.onDisp f).sec = s.sec := rfl
@[simp] theorem State.onDisp_sess (f : Disp → Disp) : (s.onDisp f).sess = s.sess := rfl
@[simp] theorem State.onDisp_mbus (f : Disp → Disp) : (s.onDisp f).mbus = s.mbus := rfl
@[simp] theorem State.onDisp_alc (f : Disp → Disp) : (s.onDisp f).alc = s.alc := rfl
@[simp] theorem State.onDisp_hl (f : Disp → Disp) : (s.onDisp f).hl = s.hl := rfl
@[simp] theorem State.onDisp_dma (f : Disp → Disp) : (s.onDisp f).dma = s.dma := rfl
@[simp] theorem State.onDisp_disp (f : Disp → Disp) : (s.onDisp f).disp = f s.disp := rfl
@[simp] theorem State.onDisp_free (f : Disp → Disp) : (s.onDisp f).free = s.free := rfl

/-! ### setCh -/

@[simp] theorem State.setCh_pending (n : Nat) (c : Chan) : (s.setCh n c).pending = s.pending := rfl
@[simp] theorem State.setCh_otp (n : Nat) (c : Chan) : (s.setCh n c).otp = s.otp := rfl
@[simp] theorem State.setCh_mem (n : Nat) (c : Chan) : (s.setCh n c).mem = s.mem := rfl
@[simp] theorem State.setCh_flt (n : Nat) (c : Chan) : (s.setCh n c).flt = s.flt := rfl
@[simp] theorem State.setCh_log (n : Nat) (c : Chan) : (s.setCh n c).log = s.log := rfl
@[simp] theorem State.setCh_pwr (n : Nat) (c : Chan) : (s.setCh n c).pwr = s.pwr := rfl
@[simp] theorem State.setCh_img (n : Nat) (c : Chan) : (s.setCh n c).img = s.img := rfl
@[simp] theorem State.setCh_meas (n : Nat) (c : Chan) : (s.setCh n c).meas = s.meas := rfl
@[simp] theorem State.setCh_chans (n : Nat) (c : Chan) : (s.setCh n c).chans = s.chans.setIfInBounds (n - 1) c := rfl
@[simp] theorem State.setCh_tcs (n : Nat) (c : Chan) : (s.setCh n c).tcs = s.tcs := rfl
@[simp] theorem State.setCh_outs (n : Nat) (c : Chan) : (s.setCh n c).outs = s.outs := rfl
@[simp] theorem State.setCh_bridge (n : Nat) (c : Chan) : (s.setCh n c).bridge = s.bridge := rfl
@[simp] theorem State.setCh_tamper (n : Nat) (c : Chan) : (s.setCh n c).tamper = s.tamper := rfl
@[simp] theorem State.setCh_rtc (n : Nat) (c : Chan) : (s.setCh n c).rtc = s.rtc := rfl
@[simp] theorem State.setCh_pair (n : Nat) (c : Chan) : (s.setCh n c).pair = s.pair := rfl
@[simp] theorem State.setCh_radio (n : Nat) (c : Chan) : (s.setCh n c).radio = s.radio := rfl
@[simp] theorem State.setCh_sec (n : Nat) (c : Chan) : (s.setCh n c).sec = s.sec := rfl
@[simp] theorem State.setCh_sess (n : Nat) (c : Chan) : (s.setCh n c).sess = s.sess := rfl
@[simp] theorem State.setCh_mbus (n : Nat) (c : Chan) : (s.setCh n c).mbus = s.mbus := rfl
@[simp] theorem State.setCh_alc (n : Nat) (c : Chan) : (s.setCh n c).alc = s.alc := rfl
@[simp] theorem State.setCh_hl (n : Nat) (c : Chan) : (s.setCh n c).hl = s.hl := rfl
@[simp] theorem State.setCh_dma (n : Nat) (c : Chan) : (s.setCh n c).dma = s.dma := rfl
@[simp] theorem State.setCh_disp (n : Nat) (c : Chan) : (s.setCh n c).disp = s.disp := rfl
@[simp] theorem State.setCh_free (n : Nat) (c : Chan) : (s.setCh n c).free = s.free := rfl

/-! ### setTc -/

@[simp] theorem State.setTc_pending (n : Nat) (c : Conv) : (s.setTc n c).pending = s.pending := rfl
@[simp] theorem State.setTc_otp (n : Nat) (c : Conv) : (s.setTc n c).otp = s.otp := rfl
@[simp] theorem State.setTc_mem (n : Nat) (c : Conv) : (s.setTc n c).mem = s.mem := rfl
@[simp] theorem State.setTc_flt (n : Nat) (c : Conv) : (s.setTc n c).flt = s.flt := rfl
@[simp] theorem State.setTc_log (n : Nat) (c : Conv) : (s.setTc n c).log = s.log := rfl
@[simp] theorem State.setTc_pwr (n : Nat) (c : Conv) : (s.setTc n c).pwr = s.pwr := rfl
@[simp] theorem State.setTc_img (n : Nat) (c : Conv) : (s.setTc n c).img = s.img := rfl
@[simp] theorem State.setTc_meas (n : Nat) (c : Conv) : (s.setTc n c).meas = s.meas := rfl
@[simp] theorem State.setTc_chans (n : Nat) (c : Conv) : (s.setTc n c).chans = s.chans := rfl
@[simp] theorem State.setTc_tcs (n : Nat) (c : Conv) : (s.setTc n c).tcs = s.tcs.setIfInBounds (n - 1) c := rfl
@[simp] theorem State.setTc_outs (n : Nat) (c : Conv) : (s.setTc n c).outs = s.outs := rfl
@[simp] theorem State.setTc_bridge (n : Nat) (c : Conv) : (s.setTc n c).bridge = s.bridge := rfl
@[simp] theorem State.setTc_tamper (n : Nat) (c : Conv) : (s.setTc n c).tamper = s.tamper := rfl
@[simp] theorem State.setTc_rtc (n : Nat) (c : Conv) : (s.setTc n c).rtc = s.rtc := rfl
@[simp] theorem State.setTc_pair (n : Nat) (c : Conv) : (s.setTc n c).pair = s.pair := rfl
@[simp] theorem State.setTc_radio (n : Nat) (c : Conv) : (s.setTc n c).radio = s.radio := rfl
@[simp] theorem State.setTc_sec (n : Nat) (c : Conv) : (s.setTc n c).sec = s.sec := rfl
@[simp] theorem State.setTc_sess (n : Nat) (c : Conv) : (s.setTc n c).sess = s.sess := rfl
@[simp] theorem State.setTc_mbus (n : Nat) (c : Conv) : (s.setTc n c).mbus = s.mbus := rfl
@[simp] theorem State.setTc_alc (n : Nat) (c : Conv) : (s.setTc n c).alc = s.alc := rfl
@[simp] theorem State.setTc_hl (n : Nat) (c : Conv) : (s.setTc n c).hl = s.hl := rfl
@[simp] theorem State.setTc_dma (n : Nat) (c : Conv) : (s.setTc n c).dma = s.dma := rfl
@[simp] theorem State.setTc_disp (n : Nat) (c : Conv) : (s.setTc n c).disp = s.disp := rfl
@[simp] theorem State.setTc_free (n : Nat) (c : Conv) : (s.setTc n c).free = s.free := rfl

/-! ### setOut -/

@[simp] theorem State.setOut_pending (n : Nat) (c : PulseOut) : (s.setOut n c).pending = s.pending := rfl
@[simp] theorem State.setOut_otp (n : Nat) (c : PulseOut) : (s.setOut n c).otp = s.otp := rfl
@[simp] theorem State.setOut_mem (n : Nat) (c : PulseOut) : (s.setOut n c).mem = s.mem := rfl
@[simp] theorem State.setOut_flt (n : Nat) (c : PulseOut) : (s.setOut n c).flt = s.flt := rfl
@[simp] theorem State.setOut_log (n : Nat) (c : PulseOut) : (s.setOut n c).log = s.log := rfl
@[simp] theorem State.setOut_pwr (n : Nat) (c : PulseOut) : (s.setOut n c).pwr = s.pwr := rfl
@[simp] theorem State.setOut_img (n : Nat) (c : PulseOut) : (s.setOut n c).img = s.img := rfl
@[simp] theorem State.setOut_meas (n : Nat) (c : PulseOut) : (s.setOut n c).meas = s.meas := rfl
@[simp] theorem State.setOut_chans (n : Nat) (c : PulseOut) : (s.setOut n c).chans = s.chans := rfl
@[simp] theorem State.setOut_tcs (n : Nat) (c : PulseOut) : (s.setOut n c).tcs = s.tcs := rfl
@[simp] theorem State.setOut_outs (n : Nat) (c : PulseOut) : (s.setOut n c).outs = s.outs.setIfInBounds (n - 1) c := rfl
@[simp] theorem State.setOut_bridge (n : Nat) (c : PulseOut) : (s.setOut n c).bridge = s.bridge := rfl
@[simp] theorem State.setOut_tamper (n : Nat) (c : PulseOut) : (s.setOut n c).tamper = s.tamper := rfl
@[simp] theorem State.setOut_rtc (n : Nat) (c : PulseOut) : (s.setOut n c).rtc = s.rtc := rfl
@[simp] theorem State.setOut_pair (n : Nat) (c : PulseOut) : (s.setOut n c).pair = s.pair := rfl
@[simp] theorem State.setOut_radio (n : Nat) (c : PulseOut) : (s.setOut n c).radio = s.radio := rfl
@[simp] theorem State.setOut_sec (n : Nat) (c : PulseOut) : (s.setOut n c).sec = s.sec := rfl
@[simp] theorem State.setOut_sess (n : Nat) (c : PulseOut) : (s.setOut n c).sess = s.sess := rfl
@[simp] theorem State.setOut_mbus (n : Nat) (c : PulseOut) : (s.setOut n c).mbus = s.mbus := rfl
@[simp] theorem State.setOut_alc (n : Nat) (c : PulseOut) : (s.setOut n c).alc = s.alc := rfl
@[simp] theorem State.setOut_hl (n : Nat) (c : PulseOut) : (s.setOut n c).hl = s.hl := rfl
@[simp] theorem State.setOut_dma (n : Nat) (c : PulseOut) : (s.setOut n c).dma = s.dma := rfl
@[simp] theorem State.setOut_disp (n : Nat) (c : PulseOut) : (s.setOut n c).disp = s.disp := rfl
@[simp] theorem State.setOut_free (n : Nat) (c : PulseOut) : (s.setOut n c).free = s.free := rfl

/-! ### onCh -/

@[simp] theorem State.onCh_pending (n : Nat) (f : Chan → Chan) : (s.onCh n f).pending = s.pending := rfl
@[simp] theorem State.onCh_otp (n : Nat) (f : Chan → Chan) : (s.onCh n f).otp = s.otp := rfl
@[simp] theorem State.onCh_mem (n : Nat) (f : Chan → Chan) : (s.onCh n f).mem = s.mem := rfl
@[simp] theorem State.onCh_flt (n : Nat) (f : Chan → Chan) : (s.onCh n f).flt = s.flt := rfl
@[simp] theorem State.onCh_log (n : Nat) (f : Chan → Chan) : (s.onCh n f).log = s.log := rfl
@[simp] theorem State.onCh_pwr (n : Nat) (f : Chan → Chan) : (s.onCh n f).pwr = s.pwr := rfl
@[simp] theorem State.onCh_img (n : Nat) (f : Chan → Chan) : (s.onCh n f).img = s.img := rfl
@[simp] theorem State.onCh_meas (n : Nat) (f : Chan → Chan) : (s.onCh n f).meas = s.meas := rfl
@[simp] theorem State.onCh_tcs (n : Nat) (f : Chan → Chan) : (s.onCh n f).tcs = s.tcs := rfl
@[simp] theorem State.onCh_outs (n : Nat) (f : Chan → Chan) : (s.onCh n f).outs = s.outs := rfl
@[simp] theorem State.onCh_bridge (n : Nat) (f : Chan → Chan) : (s.onCh n f).bridge = s.bridge := rfl
@[simp] theorem State.onCh_tamper (n : Nat) (f : Chan → Chan) : (s.onCh n f).tamper = s.tamper := rfl
@[simp] theorem State.onCh_rtc (n : Nat) (f : Chan → Chan) : (s.onCh n f).rtc = s.rtc := rfl
@[simp] theorem State.onCh_pair (n : Nat) (f : Chan → Chan) : (s.onCh n f).pair = s.pair := rfl
@[simp] theorem State.onCh_radio (n : Nat) (f : Chan → Chan) : (s.onCh n f).radio = s.radio := rfl
@[simp] theorem State.onCh_sec (n : Nat) (f : Chan → Chan) : (s.onCh n f).sec = s.sec := rfl
@[simp] theorem State.onCh_sess (n : Nat) (f : Chan → Chan) : (s.onCh n f).sess = s.sess := rfl
@[simp] theorem State.onCh_mbus (n : Nat) (f : Chan → Chan) : (s.onCh n f).mbus = s.mbus := rfl
@[simp] theorem State.onCh_alc (n : Nat) (f : Chan → Chan) : (s.onCh n f).alc = s.alc := rfl
@[simp] theorem State.onCh_hl (n : Nat) (f : Chan → Chan) : (s.onCh n f).hl = s.hl := rfl
@[simp] theorem State.onCh_dma (n : Nat) (f : Chan → Chan) : (s.onCh n f).dma = s.dma := rfl
@[simp] theorem State.onCh_disp (n : Nat) (f : Chan → Chan) : (s.onCh n f).disp = s.disp := rfl
@[simp] theorem State.onCh_free (n : Nat) (f : Chan → Chan) : (s.onCh n f).free = s.free := rfl

/-! ### setDc and setCtx -/

@[simp] theorem State.setDc_pending (k : Nat) (c : DmaCh) : (s.setDc k c).pending = s.pending := rfl
@[simp] theorem State.setDc_otp (k : Nat) (c : DmaCh) : (s.setDc k c).otp = s.otp := rfl
@[simp] theorem State.setDc_mem (k : Nat) (c : DmaCh) : (s.setDc k c).mem = s.mem := rfl
@[simp] theorem State.setDc_flt (k : Nat) (c : DmaCh) : (s.setDc k c).flt = s.flt := rfl
@[simp] theorem State.setDc_log (k : Nat) (c : DmaCh) : (s.setDc k c).log = s.log := rfl
@[simp] theorem State.setDc_pwr (k : Nat) (c : DmaCh) : (s.setDc k c).pwr = s.pwr := rfl
@[simp] theorem State.setDc_img (k : Nat) (c : DmaCh) : (s.setDc k c).img = s.img := rfl
@[simp] theorem State.setDc_meas (k : Nat) (c : DmaCh) : (s.setDc k c).meas = s.meas := rfl
@[simp] theorem State.setDc_chans (k : Nat) (c : DmaCh) : (s.setDc k c).chans = s.chans := rfl
@[simp] theorem State.setDc_tcs (k : Nat) (c : DmaCh) : (s.setDc k c).tcs = s.tcs := rfl
@[simp] theorem State.setDc_outs (k : Nat) (c : DmaCh) : (s.setDc k c).outs = s.outs := rfl
@[simp] theorem State.setDc_bridge (k : Nat) (c : DmaCh) : (s.setDc k c).bridge = s.bridge := rfl
@[simp] theorem State.setDc_tamper (k : Nat) (c : DmaCh) : (s.setDc k c).tamper = s.tamper := rfl
@[simp] theorem State.setDc_rtc (k : Nat) (c : DmaCh) : (s.setDc k c).rtc = s.rtc := rfl
@[simp] theorem State.setDc_pair (k : Nat) (c : DmaCh) : (s.setDc k c).pair = s.pair := rfl
@[simp] theorem State.setDc_radio (k : Nat) (c : DmaCh) : (s.setDc k c).radio = s.radio := rfl
@[simp] theorem State.setDc_sec (k : Nat) (c : DmaCh) : (s.setDc k c).sec = s.sec := rfl
@[simp] theorem State.setDc_sess (k : Nat) (c : DmaCh) : (s.setDc k c).sess = s.sess := rfl
@[simp] theorem State.setDc_mbus (k : Nat) (c : DmaCh) : (s.setDc k c).mbus = s.mbus := rfl
@[simp] theorem State.setDc_alc (k : Nat) (c : DmaCh) : (s.setDc k c).alc = s.alc := rfl
@[simp] theorem State.setDc_hl (k : Nat) (c : DmaCh) : (s.setDc k c).hl = s.hl := rfl
@[simp] theorem State.setDc_disp (k : Nat) (c : DmaCh) : (s.setDc k c).disp = s.disp := rfl
@[simp] theorem State.setDc_free (k : Nat) (c : DmaCh) : (s.setDc k c).free = s.free := rfl
@[simp] theorem State.setCtx_pending (k : Nat) (c : Ctx) : (s.setCtx k c).pending = s.pending := rfl
@[simp] theorem State.setCtx_otp (k : Nat) (c : Ctx) : (s.setCtx k c).otp = s.otp := rfl
@[simp] theorem State.setCtx_mem (k : Nat) (c : Ctx) : (s.setCtx k c).mem = s.mem := rfl
@[simp] theorem State.setCtx_flt (k : Nat) (c : Ctx) : (s.setCtx k c).flt = s.flt := rfl
@[simp] theorem State.setCtx_log (k : Nat) (c : Ctx) : (s.setCtx k c).log = s.log := rfl
@[simp] theorem State.setCtx_pwr (k : Nat) (c : Ctx) : (s.setCtx k c).pwr = s.pwr := rfl
@[simp] theorem State.setCtx_img (k : Nat) (c : Ctx) : (s.setCtx k c).img = s.img := rfl
@[simp] theorem State.setCtx_meas (k : Nat) (c : Ctx) : (s.setCtx k c).meas = s.meas := rfl
@[simp] theorem State.setCtx_chans (k : Nat) (c : Ctx) : (s.setCtx k c).chans = s.chans := rfl
@[simp] theorem State.setCtx_tcs (k : Nat) (c : Ctx) : (s.setCtx k c).tcs = s.tcs := rfl
@[simp] theorem State.setCtx_outs (k : Nat) (c : Ctx) : (s.setCtx k c).outs = s.outs := rfl
@[simp] theorem State.setCtx_bridge (k : Nat) (c : Ctx) : (s.setCtx k c).bridge = s.bridge := rfl
@[simp] theorem State.setCtx_tamper (k : Nat) (c : Ctx) : (s.setCtx k c).tamper = s.tamper := rfl
@[simp] theorem State.setCtx_rtc (k : Nat) (c : Ctx) : (s.setCtx k c).rtc = s.rtc := rfl
@[simp] theorem State.setCtx_pair (k : Nat) (c : Ctx) : (s.setCtx k c).pair = s.pair := rfl
@[simp] theorem State.setCtx_radio (k : Nat) (c : Ctx) : (s.setCtx k c).radio = s.radio := rfl
@[simp] theorem State.setCtx_sec (k : Nat) (c : Ctx) : (s.setCtx k c).sec = s.sec := rfl
@[simp] theorem State.setCtx_mbus (k : Nat) (c : Ctx) : (s.setCtx k c).mbus = s.mbus := rfl
@[simp] theorem State.setCtx_alc (k : Nat) (c : Ctx) : (s.setCtx k c).alc = s.alc := rfl
@[simp] theorem State.setCtx_hl (k : Nat) (c : Ctx) : (s.setCtx k c).hl = s.hl := rfl
@[simp] theorem State.setCtx_dma (k : Nat) (c : Ctx) : (s.setCtx k c).dma = s.dma := rfl
@[simp] theorem State.setCtx_disp (k : Nat) (c : Ctx) : (s.setCtx k c).disp = s.disp := rfl
@[simp] theorem State.setCtx_free (k : Nat) (c : Ctx) : (s.setCtx k c).free = s.free := rfl

end Sys2Proof.Machine
end

