-- ==== Sys2Proof/Laws/Memory.lean ====
section
/-! SUPPORT. Memory: a read after a write, the canonical form, and what each operation over the memories keeps. -/

set_option Elab.async false

namespace Sys2Proof.Machine

/-! ### Reading below the first listed address -/

theorem Memory.read_below (m : Memory) (lo a : Nat) (h : Memory.wfFrom lo m = true) (ha : a < lo) :
    Memory.read m a = Memory.blank := by
  cases m with
  | nil => rfl
  | cons c t =>
    obtain ⟨k, b⟩ := c
    simp only [Memory.wfFrom, Bool.and_eq_true, decide_eq_true_eq] at h
    have h1 : k ≠ a := by omega
    have h2 : a < k := by omega
    simp [Memory.read, h1, h2]

theorem Memory.wfFrom_mono (m : Memory) (lo lo' : Nat) (h : Memory.wfFrom lo m = true) (hl : lo' ≤ lo) :
    Memory.wfFrom lo' m = true := by
  cases m with
  | nil => rfl
  | cons c t =>
    obtain ⟨k, b⟩ := c
    simp only [Memory.wfFrom, Bool.and_eq_true, decide_eq_true_eq] at h ⊢
    exact ⟨⟨by omega, h.1.2⟩, h.2⟩

/-! ### One byte -/

theorem Memory.wfFrom_write (m : Memory) (lo a : Nat) (b : Byte) (h : Memory.wfFrom lo m = true) (ha : lo ≤ a) :
    Memory.wfFrom lo (m.write a b) = true := by
  induction m generalizing lo with
  | nil =>
    unfold Memory.write
    split
    · rfl
    · rename_i hb
      simp [Memory.wfFrom, ha, hb]
  | cons c t ih =>
    obtain ⟨k, v⟩ := c
    simp only [Memory.wfFrom, Bool.and_eq_true, decide_eq_true_eq] at h
    obtain ⟨⟨hk, hv⟩, ht⟩ := h
    unfold Memory.write
    split
    · rename_i hak
      split
      · simp [Memory.wfFrom, hk, hv, ht]
      · rename_i hb
        have : a + 1 ≤ k := by omega
        simp [Memory.wfFrom, ha, hb, hv, ht, this]
    · split
      · rename_i hak
        split
        · exact Memory.wfFrom_mono t _ _ ht (by omega)
        · rename_i hb
          subst hak
          simp [Memory.wfFrom, ha, hb, ht]
      · have := ih (k + 1) ht (by omega)
        simp [Memory.wfFrom, hk, hv, this]

/-- A write of one byte keeps the canonical form. -/
theorem Memory.wf_write (m : Memory) (a : Nat) (b : Byte) (h : m.wf = true) : (m.write a b).wf = true :=
  Memory.wfFrom_write m 0 a b h (Nat.zero_le a)

theorem Memory.read_write_from (m : Memory) (lo a x : Nat) (b : Byte) (h : Memory.wfFrom lo m = true) (ha : lo ≤ a) :
    (m.write a b).read x = if x = a then b else m.read x := by
  induction m generalizing lo with
  | nil =>
    unfold Memory.write
    split
    · rename_i hb
      simp [Memory.read, hb]
    · by_cases hx : x = a
      · simp [Memory.read, hx]
      · have : a ≠ x := fun e => hx e.symm
        simp [Memory.read, hx, this]
  | cons c t ih =>
    obtain ⟨k, v⟩ := c
    simp only [Memory.wfFrom, Bool.and_eq_true, decide_eq_true_eq] at h
    obtain ⟨⟨hk, hv⟩, ht⟩ := h
    unfold Memory.write
    split
    · rename_i hak
      split
      · rename_i hb
        by_cases hx : x = a
        · have h1 : k ≠ a := by omega
          simp [Memory.read, hx, h1, hak, hb]
        · simp [hx]
      · by_cases hx : x = a
        · simp [Memory.read, hx]
        · have h1 : a ≠ x := fun e => hx e.symm
          by_cases hl : x < a
          · have h2 : k ≠ x := by omega
            have h3 : x < k := by omega
            simp [Memory.read, hx, h1, hl, h2, h3]
          · simp [Memory.read, hx, h1, hl]
    · split
      · rename_i hak
        subst hak
        split
        · rename_i hb
          by_cases hx : x = a
          · rw [if_pos hx, hx, Memory.read_below t (a + 1) a ht (by omega), hb]
          · have h1 : a ≠ x := fun e => hx e.symm
            by_cases hl : x < a
            · simp [Memory.read, hx, h1, hl, Memory.read_below t (a + 1) x ht (by omega)]
            · simp [Memory.read, hx, h1, hl]
        · by_cases hx : x = a
          · simp [Memory.read, hx]
          · have h1 : a ≠ x := fun e => hx e.symm
            simp [Memory.read, hx, h1]
      · have := ih (k + 1) ht (by omega)
        by_cases hkx : k = x
        · have : x ≠ a := by omega
          simp [Memory.read, hkx, this]
        · by_cases hxk : x < k
          · have h1 : x ≠ a := by omega
            simp [Memory.read, hkx, hxk, h1]
          · simp [Memory.read, hkx, hxk, this]

/-- A read after a write of one byte: the byte written at its address, every other byte as it was. -/
theorem Memory.read_write (m : Memory) (a x : Nat) (b : Byte) (h : m.wf = true) :
    (m.write a b).read x = if x = a then b else m.read x :=
  Memory.read_write_from m 0 a x b h (Nat.zero_le a)

/-! ### Ranges of bytes -/

/-- A write of bytes keeps the canonical form. -/
theorem Memory.wf_writeBytes (m : Memory) (a : Nat) (bs : List Byte) (h : m.wf = true) : (m.writeBytes a bs).wf = true := by
  induction bs generalizing m a with
  | nil => exact h
  | cons b t ih => exact ih (m.write a b) (a + 1) (Memory.wf_write m a b h)

/-- A read outside the bytes written gives what it gave before. -/
theorem Memory.read_writeBytes_other (m : Memory) (a x : Nat) (bs : List Byte) (h : m.wf = true)
    (hx : x < a ∨ a + bs.length ≤ x) : (m.writeBytes a bs).read x = m.read x := by
  induction bs generalizing m a with
  | nil => rfl
  | cons b t ih =>
    simp only [List.length_cons] at hx
    have h1 := ih (m.write a b) (a + 1) (Memory.wf_write m a b h) (by omega)
    have h2 : x ≠ a := by omega
    simpa [Memory.writeBytes, Memory.read_write m a x b h, h2] using h1

/-- A read of a byte written gives it. -/
theorem Memory.read_writeBytes_same (m : Memory) (a i : Nat) (bs : List Byte) (h : m.wf = true) (hi : i < bs.length) :
    (m.writeBytes a bs).read (a + i) = bs[i] := by
  induction bs generalizing m a i with
  | nil => simp at hi
  | cons b t ih =>
    cases i with
    | zero =>
      have := Memory.read_writeBytes_other (m.write a b) (a + 1) a t (Memory.wf_write m a b h) (by omega)
      simpa [Memory.writeBytes, Memory.read_write m a a b h] using this
    | succ j =>
      have := ih (m.write a b) (a + 1) j (Memory.wf_write m a b h) (by simpa using hi)
      have e : a + (j + 1) = a + 1 + j := by omega
      rw [e]
      simpa [Memory.writeBytes] using this

theorem Memory.wfFrom_filter (m : Memory) (lo : Nat) (p : Nat × Byte → Bool) (h : Memory.wfFrom lo m = true) :
    Memory.wfFrom lo (m.filter p) = true := by
  induction m generalizing lo with
  | nil => rfl
  | cons c t ih =>
    obtain ⟨k, v⟩ := c
    simp only [Memory.wfFrom, Bool.and_eq_true, decide_eq_true_eq] at h
    have ht := ih (k + 1) h.2
    by_cases hp : p (k, v) = true
    · simp [List.filter, hp, Memory.wfFrom, h.1.1, h.1.2, ht]
    · simp only [List.filter, hp]
      exact Memory.wfFrom_mono _ _ _ ht (by omega)

/-- Clearing a range keeps the canonical form. -/
theorem Memory.wf_clear (m : Memory) (a n : Nat) (h : m.wf = true) : (m.clear a n).wf = true :=
  Memory.wfFrom_filter m 0 _ h

/-! ### HOARD and its queue -/

@[simp] theorem Mem.writeWord_sram (m : Mem) (w : Nat × List Byte) : (m.writeWord w).sram = m.sram := rfl
@[simp] theorem Mem.writeWord_queue (m : Mem) (w : Nat × List Byte) : (m.writeWord w).queue = m.queue := rfl

theorem Mem.writeWord_wf (m : Mem) (w : Nat × List Byte) (h : m.hoard.wf = true) : (m.writeWord w).hoard.wf = true :=
  Memory.wf_writeBytes m.hoard w.1 w.2 h

theorem Mem.writeWords_wf (l : List (Nat × List Byte)) (m : Mem) (h : m.hoard.wf = true) :
    (l.foldl Mem.writeWord m).hoard.wf = true ∧ (l.foldl Mem.writeWord m).sram = m.sram ∧
      (l.foldl Mem.writeWord m).queue = m.queue := by
  induction l generalizing m with
  | nil => exact ⟨h, rfl, rfl⟩
  | cons w t ih => exact ih (m.writeWord w) (m.writeWord_wf w h)

/-- Writing the head of the queue: the canonical form, SRAM, and the rest of the queue. -/
theorem Mem.writeHead_spec (m : Mem) (h : m.hoard.wf = true) :
    m.writeHead.hoard.wf = true ∧ m.writeHead.sram = m.sram ∧ m.writeHead.queue = m.queue.tail := by
  unfold Mem.writeHead
  split
  · rename_i e
    simp [e, h]
  · rename_i r t e
    have := Mem.writeWords_wf (m.recWrites r) { m with queue := t } h
    simpa [e] using this

theorem Mem.writeWords_sram (l : List (Nat × List Byte)) (m : Mem) : (l.foldl Mem.writeWord m).sram = m.sram := by
  induction l generalizing m with
  | nil => rfl
  | cons w t ih => exact ih (m.writeWord w)

/-- Writing a record leaves SRAM. -/
@[simp] theorem Mem.writeHead_sram (m : Mem) : m.writeHead.sram = m.sram := by
  unfold Mem.writeHead
  split
  · rfl
  · exact Mem.writeWords_sram _ _

theorem Mem.drainN_sram (n : Nat) (m : Mem) : (Mem.drainN n m).sram = m.sram := by
  induction n generalizing m with
  | zero => rfl
  | succ k ih => exact (ih m.writeHead).trans m.writeHead_sram

/-- Draining the queue leaves SRAM. -/
@[simp] theorem Mem.drain_sram (m : Mem) : m.drain.sram = m.sram := Mem.drainN_sram m.queue.length m

theorem Mem.drainN_spec (n : Nat) (m : Mem) (h : m.hoard.wf = true) :
    (Mem.drainN n m).hoard.wf = true ∧ (Mem.drainN n m).sram = m.sram ∧ (Mem.drainN n m).queue = m.queue.drop n := by
  induction n generalizing m with
  | zero => exact ⟨h, rfl, by simp [Mem.drainN]⟩
  | succ k ih =>
    obtain ⟨h1, h2, h3⟩ := m.writeHead_spec h
    obtain ⟨a, b, c⟩ := ih m.writeHead h1
    refine ⟨a, b.trans h2, ?_⟩
    rw [Mem.drainN, c, h3, List.drop_tail]

/-- Draining the queue: the canonical form, SRAM as it was, an empty queue. -/
theorem Mem.drain_spec (m : Mem) (h : m.hoard.wf = true) :
    m.drain.hoard.wf = true ∧ m.drain.sram = m.sram ∧ m.drain.queue = [] := by
  obtain ⟨a, b, c⟩ := Mem.drainN_spec m.queue.length m h
  refine ⟨a, b, ?_⟩
  show (Mem.drainN m.queue.length m).queue = []
  rw [c, List.drop_length]

/-! ### The state's memories -/

theorem State.MemOk_of_mem (s t : State) (h : t.mem = s.mem) (hs : s.MemOk) : t.MemOk := by
  simpa [State.MemOk, h] using hs

theorem State.drain_memOk (s : State) (h : s.MemOk) : s.drain.MemOk := by
  obtain ⟨a, b, _⟩ := s.mem.drain_spec h.1
  exact ⟨a, by simpa [State.drain, b] using h.2⟩

theorem State.sramWrite_memOk (a : Nat) (bs : List Byte) (s : State) (h : s.MemOk) : (s.sramWrite a bs).MemOk :=
  ⟨h.1, Memory.wf_writeBytes s.mem.sram a bs h.2⟩

theorem State.scratchWrite_memOk (a : Nat) (bs : List Byte) (s : State) (h : s.MemOk) : (s.scratchWrite a bs).MemOk :=
  ⟨Memory.wf_writeBytes s.mem.hoard a bs h.1, h.2⟩

/-- Folding operations that keep the canonical form keeps it. -/
theorem foldl_memOk {α : Type} (f : State → α → State) (l : List α) (s : State) (hf : ∀ t a, t.MemOk → (f t a).MemOk)
    (h : s.MemOk) : (l.foldl f s).MemOk := by
  induction l generalizing s with
  | nil => exact h
  | cons a t ih => exact ih (f s a) (hf s a h)

theorem State.forCh_memOk (s : State) (l : List Nat) (f : Nat → State → State) (hf : ∀ n t, t.MemOk → (f n t).MemOk)
    (h : s.MemOk) : (s.forCh l f).MemOk := foldl_memOk _ l s (fun t n ht => hf n t ht) h

end Sys2Proof.Machine
end

