-- ==== Sys2Proof/Laws/Moves.lean ====
section
/-! SUPPORT. Moves: which groups of the state an operation can change, with the canonical form of the memories. The rules by which
one follows from another, and the updates of one group. -/

set_option Elab.async false

namespace Sys2Proof.Machine

/-! ### Composition -/

theorem Group.same_refl (g : Group) (s : State) : g.same s s := by
  cases g <;> first | rfl | exact ⟨rfl, rfl, rfl⟩

theorem Group.same_trans {g : Group} {s t u : State} (h : g.same s t) (k : g.same t u) : g.same s u := by
  cases g <;> first | exact Eq.trans k h | exact ⟨k.1.trans h.1, k.2.1.trans h.2.1, k.2.2.trans h.2.2⟩

theorem Keeps.refl (gs : List Group) (s : State) : Keeps gs s s := fun g _ => g.same_refl s

theorem Keeps.trans {gs : List Group} {s t u : State} (h : Keeps gs s t) (k : Keeps gs t u) : Keeps gs s u :=
  fun g hg => Group.same_trans (h g hg) (k g hg)

theorem Keeps.sub {gs hs : List Group} {s t : State} (h : Keeps gs s t) (k : gs.all hs.contains = true) : Keeps hs s t :=
  fun g hg => h g fun hm => hg (by simpa using List.all_eq_true.mp k g hm)

theorem Moves.refl (gs : List Group) (s : State) : Moves gs s s := ⟨Keeps.refl gs s, id⟩

theorem Moves.trans {gs : List Group} {s t u : State} (h : Moves gs s t) (k : Moves gs t u) : Moves gs s u :=
  ⟨h.1.trans k.1, fun m => k.2 (h.2 m)⟩

theorem Moves.sub {gs hs : List Group} {s t : State} (h : Moves gs s t) (k : gs.all hs.contains = true) : Moves hs s t :=
  ⟨h.1.sub k, h.2⟩

/-- The last operation first: what is left to show is about the state that it takes. -/
theorem Moves.step {gs hs : List Group} {s t u : State} (h : Moves hs t u) (k : hs.all gs.contains = true) (m : Moves gs s t) :
    Moves gs s u := m.trans (h.sub k)

theorem Moves.ite {gs : List Group} {s t u : State} {c : Prop} [Decidable c] (h : Moves gs s t) (k : Moves gs s u) :
    Moves gs s (if c then t else u) := by
  split
  · exact h
  · exact k

theorem Moves.foldl {α : Type} {gs : List Group} {s t : State} (f : State → α → State) (l : List α)
    (hf : ∀ u a, Moves gs u (f u a)) (h : Moves gs s t) : Moves gs s (l.foldl f t) := by
  induction l generalizing t with
  | nil => exact h
  | cons a l ih => exact ih (h.trans (hf t a))

theorem Moves.forCh {gs : List Group} {s t : State} (f : Nat → State → State) (l : List Nat)
    (hf : ∀ n u, Moves gs u (f n u)) (h : Moves gs s t) : Moves gs s (t.forCh l f) :=
  Moves.foldl (fun u n => f n u) l (fun u n => hf n u) h

/-- One group of a state that a step leaves as it was. -/
theorem Moves.same {gs : List Group} {s t : State} (h : Moves gs s t) (g : Group) (k : gs.contains g = false) : g.same s t :=
  h.1 g fun m => by simp_all

/-- Nothing of the memories is touched by a step that moves neither HOARD nor SRAM. -/
theorem Moves.of_keeps {gs : List Group} {s t : State} (h : Keeps gs s t) (k : gs.contains .hoard = false)
    (l : gs.contains .sram = false) : Moves gs s t :=
  ⟨h, fun m => by
    have a := h .hoard fun e => by simp_all
    have b := h .sram fun e => by simp_all
    exact ⟨by rw [show t.mem.hoard = s.mem.hoard from a]; exact m.1, by rw [show t.mem.sram = s.mem.sram from b]; exact m.2⟩⟩

/-! ### One group -/

theorem Moves.flt (s : State) (v : Flt) : Moves [.flt] s { s with flt := v } :=
  Moves.of_keeps (fun g hg => by cases g <;> first | rfl | exact ⟨rfl, rfl, rfl⟩ | exact absurd (List.mem_singleton.mpr rfl) hg) rfl rfl

theorem Moves.log (s : State) (v : EvLog) : Moves [.log] s { s with log := v } :=
  Moves.of_keeps (fun g hg => by cases g <;> first | rfl | exact ⟨rfl, rfl, rfl⟩ | exact absurd (List.mem_singleton.mpr rfl) hg) rfl rfl

theorem Moves.pwr (s : State) (v : Pwr) : Moves [.pwr] s { s with pwr := v } :=
  Moves.of_keeps (fun g hg => by cases g <;> first | rfl | exact ⟨rfl, rfl, rfl⟩ | exact absurd (List.mem_singleton.mpr rfl) hg) rfl rfl

theorem Moves.img (s : State) (v : Img) : Moves [.img] s { s with img := v } :=
  Moves.of_keeps (fun g hg => by cases g <;> first | rfl | exact ⟨rfl, rfl, rfl⟩ | exact absurd (List.mem_singleton.mpr rfl) hg) rfl rfl

theorem Moves.meas (s : State) (v : Meas) : Moves [.meas] s { s with meas := v } :=
  Moves.of_keeps (fun g hg => by cases g <;> first | rfl | exact ⟨rfl, rfl, rfl⟩ | exact absurd (List.mem_singleton.mpr rfl) hg) rfl rfl

theorem Moves.chans (s : State) (v : Vector Chan 40) : Moves [.chans] s { s with chans := v } :=
  Moves.of_keeps (fun g hg => by cases g <;> first | rfl | exact ⟨rfl, rfl, rfl⟩ | exact absurd (List.mem_singleton.mpr rfl) hg) rfl rfl

theorem Moves.tcs (s : State) (v : Vector Conv 8) : Moves [.tcs] s { s with tcs := v } :=
  Moves.of_keeps (fun g hg => by cases g <;> first | rfl | exact ⟨rfl, rfl, rfl⟩ | exact absurd (List.mem_singleton.mpr rfl) hg) rfl rfl

theorem Moves.outs (s : State) (v : Vector PulseOut 8) : Moves [.outs] s { s with outs := v } :=
  Moves.of_keeps (fun g hg => by cases g <;> first | rfl | exact ⟨rfl, rfl, rfl⟩ | exact absurd (List.mem_singleton.mpr rfl) hg) rfl rfl

theorem Moves.bridge (s : State) (v : Bridge) : Moves [.bridge] s { s with bridge := v } :=
  Moves.of_keeps (fun g hg => by cases g <;> first | rfl | exact ⟨rfl, rfl, rfl⟩ | exact absurd (List.mem_singleton.mpr rfl) hg) rfl rfl

theorem Moves.tamper (s : State) (v : Tamper) : Moves [.tamper] s { s with tamper := v } :=
  Moves.of_keeps (fun g hg => by cases g <;> first | rfl | exact ⟨rfl, rfl, rfl⟩ | exact absurd (List.mem_singleton.mpr rfl) hg) rfl rfl

theorem Moves.rtc (s : State) (v : Rtc) : Moves [.rtc] s { s with rtc := v } :=
  Moves.of_keeps (fun g hg => by cases g <;> first | rfl | exact ⟨rfl, rfl, rfl⟩ | exact absurd (List.mem_singleton.mpr rfl) hg) rfl rfl

theorem Moves.pair (s : State) (v : Pair) : Moves [.pair] s { s with pair := v } :=
  Moves.of_keeps (fun g hg => by cases g <;> first | rfl | exact ⟨rfl, rfl, rfl⟩ | exact absurd (List.mem_singleton.mpr rfl) hg) rfl rfl

theorem Moves.radio (s : State) (v : Radio) : Moves [.radio] s { s with radio := v } :=
  Moves.of_keeps (fun g hg => by cases g <;> first | rfl | exact ⟨rfl, rfl, rfl⟩ | exact absurd (List.mem_singleton.mpr rfl) hg) rfl rfl

theorem Moves.sec (s : State) (v : Sec) : Moves [.sec] s { s with sec := v } :=
  Moves.of_keeps (fun g hg => by cases g <;> first | rfl | exact ⟨rfl, rfl, rfl⟩ | exact absurd (List.mem_singleton.mpr rfl) hg) rfl rfl

theorem Moves.sess (s : State) (v : Sess) : Moves [.sess] s { s with sess := v } :=
  Moves.of_keeps (fun g hg => by cases g <;> first | rfl | exact ⟨rfl, rfl, rfl⟩ | exact absurd (List.mem_singleton.mpr rfl) hg) rfl rfl

theorem Moves.mbus (s : State) (v : MBus) : Moves [.mbus] s { s with mbus := v } :=
  Moves.of_keeps (fun g hg => by cases g <;> first | rfl | exact ⟨rfl, rfl, rfl⟩ | exact absurd (List.mem_singleton.mpr rfl) hg) rfl rfl

theorem Moves.alc (s : State) (v : Alc) : Moves [.alc] s { s with alc := v } :=
  Moves.of_keeps (fun g hg => by cases g <;> first | rfl | exact ⟨rfl, rfl, rfl⟩ | exact absurd (List.mem_singleton.mpr rfl) hg) rfl rfl

theorem Moves.hl (s : State) (v : HostLink) : Moves [.hl] s { s with hl := v } :=
  Moves.of_keeps (fun g hg => by cases g <;> first | rfl | exact ⟨rfl, rfl, rfl⟩ | exact absurd (List.mem_singleton.mpr rfl) hg) rfl rfl

theorem Moves.dma (s : State) (v : Dma) : Moves [.dma] s { s with dma := v } :=
  Moves.of_keeps (fun g hg => by cases g <;> first | rfl | exact ⟨rfl, rfl, rfl⟩ | exact absurd (List.mem_singleton.mpr rfl) hg) rfl rfl

theorem Moves.disp (s : State) (v : Disp) : Moves [.disp] s { s with disp := v } :=
  Moves.of_keeps (fun g hg => by cases g <;> first | rfl | exact ⟨rfl, rfl, rfl⟩ | exact absurd (List.mem_singleton.mpr rfl) hg) rfl rfl

theorem Moves.free (s : State) (v : Nat) : Moves [.free] s { s with free := v } :=
  Moves.of_keeps (fun g hg => by cases g <;> first | rfl | exact ⟨rfl, rfl, rfl⟩ | exact absurd (List.mem_singleton.mpr rfl) hg) rfl rfl

theorem State.onPwr_moves (s : State) (f : Pwr → Pwr) : Moves [.pwr] s (s.onPwr f) := Moves.pwr s _

theorem State.onFlt_moves (s : State) (f : Flt → Flt) : Moves [.flt] s (s.onFlt f) := Moves.flt s _

theorem State.onLog_moves (s : State) (f : EvLog → EvLog) : Moves [.log] s (s.onLog f) := Moves.log s _

theorem State.onImg_moves (s : State) (f : Img → Img) : Moves [.img] s (s.onImg f) := Moves.img s _

theorem State.onMeas_moves (s : State) (f : Meas → Meas) : Moves [.meas] s (s.onMeas f) := Moves.meas s _

theorem State.onTamper_moves (s : State) (f : Tamper → Tamper) : Moves [.tamper] s (s.onTamper f) := Moves.tamper s _

theorem State.onRtc_moves (s : State) (f : Rtc → Rtc) : Moves [.rtc] s (s.onRtc f) := Moves.rtc s _

theorem State.onBridge_moves (s : State) (f : Bridge → Bridge) : Moves [.bridge] s (s.onBridge f) := Moves.bridge s _

theorem State.onPair_moves (s : State) (f : Pair → Pair) : Moves [.pair] s (s.onPair f) := Moves.pair s _

theorem State.onRadio_moves (s : State) (f : Radio → Radio) : Moves [.radio] s (s.onRadio f) := Moves.radio s _

theorem State.onSec_moves (s : State) (f : Sec → Sec) : Moves [.sec] s (s.onSec f) := Moves.sec s _

theorem State.onSess_moves (s : State) (f : Sess → Sess) : Moves [.sess] s (s.onSess f) := Moves.sess s _

theorem State.onMBus_moves (s : State) (f : MBus → MBus) : Moves [.mbus] s (s.onMBus f) := Moves.mbus s _

theorem State.onAlc_moves (s : State) (f : Alc → Alc) : Moves [.alc] s (s.onAlc f) := Moves.alc s _

theorem State.onHl_moves (s : State) (f : HostLink → HostLink) : Moves [.hl] s (s.onHl f) := Moves.hl s _

theorem State.onDma_moves (s : State) (f : Dma → Dma) : Moves [.dma] s (s.onDma f) := Moves.dma s _

theorem State.onDisp_moves (s : State) (f : Disp → Disp) : Moves [.disp] s (s.onDisp f) := Moves.disp s _

theorem State.setCh_moves (s : State) (n : Nat) (c : Chan) : Moves [.chans] s (s.setCh n c) := Moves.chans s _

theorem State.onCh_moves (s : State) (n : Nat) (f : Chan → Chan) : Moves [.chans] s (s.onCh n f) := Moves.chans s _

theorem State.setTc_moves (s : State) (k : Nat) (c : Conv) : Moves [.tcs] s (s.setTc k c) := Moves.tcs s _

theorem State.setOut_moves (s : State) (k : Nat) (p : PulseOut) : Moves [.outs] s (s.setOut k p) := Moves.outs s _

/-! ### The memories -/

/-- A change of the queue. -/
theorem Moves.queue (s : State) (q : Mem → List HoardRec) : Moves [.queue] s (s.onMem fun m => { m with queue := q m }) :=
  Moves.of_keeps (fun g hg => by cases g <;> first | rfl | exact ⟨rfl, rfl, rfl⟩ | exact absurd (List.mem_singleton.mpr rfl) hg) rfl rfl

/-- A change of the error marks. -/
theorem Moves.marks (s : State) (a b c : Mem → List Nat) :
    Moves [.marks] s (s.onMem fun m => { m with soft := a m, bad := b m, parity := c m }) :=
  Moves.of_keeps (fun g hg => by cases g <;> first | rfl | exact absurd (List.mem_singleton.mpr rfl) hg) rfl rfl

/-- A record's words land in HOARD: SRAM stays, and the queue loses what was written. -/
theorem State.writeHead_moves (s : State) : Moves [.hoard, .queue, .marks] s (s.onMem Mem.writeHead) := by
  refine ⟨fun g hg => ?_, fun m => ⟨(s.mem.writeHead_spec m.1).1, by simpa using m.2⟩⟩
  cases g <;> first | rfl | exact s.mem.writeHead_sram | exact absurd (by simp) hg

theorem State.drain_moves (s : State) : Moves [.hoard, .queue, .marks] s s.drain := by
  refine ⟨fun g hg => ?_, fun m => s.drain_memOk m⟩
  cases g <;> first | rfl | exact s.mem.drain_sram | exact absurd (by simp) hg

theorem State.sramWrite_moves (a : Nat) (bs : List Byte) (s : State) : Moves [.sram, .marks] s (s.sramWrite a bs) := by
  refine ⟨fun g hg => ?_, fun m => s.sramWrite_memOk a bs m⟩
  cases g <;> first | rfl | exact absurd (by simp) hg

theorem State.scratchWrite_moves (a : Nat) (bs : List Byte) (s : State) :
    Moves [.hoard, .marks] s (s.scratchWrite a bs) := by
  refine ⟨fun g hg => ?_, fun m => s.scratchWrite_memOk a bs m⟩
  cases g <;> first | rfl | exact absurd (by simp) hg

end Sys2Proof.Machine
end

