-- ==== Sys2Proof/Laws/OpsMoves.lean ====
section
/-! SUPPORT. What each operation of Ops can change. -/

set_option Elab.async false

namespace Sys2Proof.Machine

theorem State.draw_moves (s : State) :
    Moves [.free] s (State.draw s).2 := by
  unfold State.draw
  repeat' (with_reducible apply Moves.sub (Moves.free _ _) (by decide))

theorem State.mirror_moves (r : HoardRec) (s : State) :
    Moves [.pair] s (State.mirror r s) := by
  unfold State.mirror
  repeat' (first
    | with_reducible apply Moves.refl
    | with_reducible apply Moves.ite
    | with_reducible apply Moves.step (State.onPair_moves _ _) (by decide))

theorem State.enqueue_moves (r : HoardRec) (s : State) :
    Moves [.queue, .pair] s (State.enqueue r s) := by
  unfold State.enqueue
  repeat' (first
    | with_reducible apply Moves.refl
    | with_reducible apply Moves.step (State.mirror_moves _ _) (by decide)
    | with_reducible apply Moves.step (Moves.queue _ _) (by decide))

theorem State.hoardUncorr_moves (addr : Nat) (reader : Nat) (s : State) :
    Moves [.flt] s (State.hoardUncorr addr reader s) := by
  unfold State.hoardUncorr
  repeat' (first
    | with_reducible apply Moves.refl
    | with_reducible apply Moves.step (State.onFlt_moves _ _) (by decide))

theorem State.hoardCorr_moves (scrub : Bool) (s : State) :
    Moves [.flt] s (State.hoardCorr scrub s) := by
  unfold State.hoardCorr
  repeat' (first
    | with_reducible apply Moves.refl
    | with_reducible apply Moves.step (State.onFlt_moves _ _) (by decide))

theorem State.hoardRead_moves (a : Nat) (n : Nat) (reader : Nat) (s : State) :
    Moves [.flt] s (State.hoardRead a n reader s) := by
  unfold State.hoardRead
  repeat' (first
    | with_reducible apply Moves.refl
    | with_reducible apply Moves.step (State.hoardCorr_moves _ _) (by decide)
    | with_reducible apply Moves.step (State.hoardUncorr_moves _ _ _) (by decide)
    | (with_reducible apply Moves.foldl; intro u a))

theorem State.sramRead_moves (a : Nat) (n : Nat) (reader : Nat) (s : State) :
    Moves [.flt] s (State.sramRead a n reader s) := by
  unfold State.sramRead
  repeat' (first
    | with_reducible apply Moves.refl
    | with_reducible apply Moves.step (State.onFlt_moves _ _) (by decide)
    | (with_reducible apply Moves.foldl; intro u a))

theorem State.frameRead_moves (reader : Nat) (s : State) :
    Moves [.flt] s (State.frameRead reader s) := State.sramRead_moves _ _ _ _

/-- A discarded frame takes the errors of its buffer with it and changes no memory. -/
theorem State.frameDiscard_moves (s : State) :
    Moves [.flt, .marks] s (State.frameDiscard s) :=
  ((State.frameRead_moves 8 s).sub (by decide)).trans ((Moves.marks _ (·.soft) (·.bad) _).sub (by decide))

theorem State.writeEvent_moves (time : Nat) (flags : Nat) (code : Nat) (ch : Nat) (data : List Byte) (s : State) :
    Moves [.queue, .log, .pair] s (State.writeEvent time flags code ch data s) := by
  unfold State.writeEvent
  repeat' (first
    | with_reducible apply Moves.refl
    | with_reducible apply Moves.ite
    | with_reducible apply Moves.step (State.enqueue_moves _ _) (by decide)
    | with_reducible apply Moves.step (State.onLog_moves _ _) (by decide)
    | with_reducible apply Moves.step (State.onPair_moves _ _) (by decide))

theorem State.rollHour_moves (s : State) :
    Moves [.queue, .log, .pair] s (State.rollHour s) := by
  unfold State.rollHour
  repeat' (first
    | with_reducible apply Moves.refl
    | with_reducible apply Moves.ite
    | with_reducible apply Moves.step (State.onLog_moves _ _) (by decide)
    | with_reducible apply Moves.step (State.writeEvent_moves _ _ _ _ _ _) (by decide)
    | (with_reducible apply Moves.foldl; intro u a))

theorem State.alarmMark_moves (n : Nat) (k : Nat) (trigger : Bool) (s : State) :
    Moves [.radio] s (State.alarmMark n k trigger s) := by
  unfold State.alarmMark
  split
  · exact Moves.refl _ s
  · exact Moves.radio s _

theorem State.alarmOnset_moves (code : Nat) (ch : Nat) (data : List Byte) (s : State) :
    Moves [.radio] s (State.alarmOnset code ch data s) := by
  unfold State.alarmOnset
  repeat' (first
    | with_reducible apply Moves.refl
    | with_reducible apply Moves.ite
    | with_reducible apply Moves.step (State.alarmMark_moves _ _ _ _) (by decide)
    | split
    | (dsimp only; split))

theorem State.onsetAt_moves (time : Nat) (flags : Nat) (code : Nat) (ch : Nat) (part : Nat) (hasEnd : Bool) (data : List Byte) (s : State) :
    Moves [.queue, .log, .pair, .radio] s (State.onsetAt time flags code ch part hasEnd data s) := by
  unfold State.onsetAt
  repeat' (first
    | with_reducible apply Moves.refl
    | with_reducible apply Moves.ite
    | with_reducible apply Moves.step (State.alarmOnset_moves _ _ _ _) (by decide)
    | with_reducible apply Moves.step (State.onLog_moves _ _) (by decide)
    | with_reducible apply Moves.step (State.rollHour_moves _) (by decide)
    | with_reducible apply Moves.step (State.writeEvent_moves _ _ _ _ _ _) (by decide))

theorem State.endAt_moves (time : Nat) (flags : Nat) (code : Nat) (ch : Nat) (part : Nat) (data : List Byte) (s : State) :
    Moves [.queue, .log, .pair] s (State.endAt time flags code ch part data s) := by
  unfold State.endAt
  repeat' (first
    | with_reducible apply Moves.refl
    | with_reducible apply Moves.ite
    | with_reducible apply Moves.step (State.onLog_moves _ _) (by decide)
    | with_reducible apply Moves.step (State.rollHour_moves _) (by decide)
    | with_reducible apply Moves.step (State.writeEvent_moves _ _ _ _ _ _) (by decide))

theorem State.event_moves (code : Nat) (ch : Nat) (data : List Byte) (s : State) :
    Moves [.queue, .log, .pair, .radio] s (State.event code ch data s) := by
  unfold State.event
  repeat' (first
    | with_reducible apply Moves.refl
    | with_reducible apply Moves.step (State.onsetAt_moves _ _ _ _ _ _ _ _) (by decide))

theorem State.onset_moves (code : Nat) (ch : Nat) (part : Nat) (data : List Byte) (s : State) :
    Moves [.queue, .log, .pair, .radio] s (State.onset code ch part data s) := by
  unfold State.onset
  repeat' (first
    | with_reducible apply Moves.refl
    | with_reducible apply Moves.step (State.onsetAt_moves _ _ _ _ _ _ _ _) (by decide))

theorem State.ending_moves (code : Nat) (ch : Nat) (part : Nat) (data : List Byte) (s : State) :
    Moves [.queue, .log, .pair] s (State.ending code ch part data s) := by
  unfold State.ending
  repeat' (first
    | with_reducible apply Moves.refl
    | with_reducible apply Moves.step (State.endAt_moves _ _ _ _ _ _ _) (by decide))

theorem State.change_moves (was : Bool) (is : Bool) (code : Nat) (ch : Nat) (part : Nat) (data : List Byte) (s : State) :
    Moves [.queue, .log, .pair, .radio] s (State.change was is code ch part data s) := by
  unfold State.change
  repeat' (first
    | with_reducible apply Moves.refl
    | with_reducible apply Moves.ite
    | with_reducible apply Moves.step (State.ending_moves _ _ _ _ _) (by decide)
    | with_reducible apply Moves.step (State.onset_moves _ _ _ _ _) (by decide))

theorem State.writeAudit_moves (kind : Nat) (classes : Nat) (oldSeq : Nat) (newSeq : Nat) (oldDigest : List Byte) (newDigest : List Byte) (pcc : Nat) (detail : List Byte) (s : State) :
    Moves [.queue, .log, .pair] s (State.writeAudit kind classes oldSeq newSeq oldDigest newDigest pcc detail s) := by
  unfold State.writeAudit
  repeat' (first
    | with_reducible apply Moves.refl
    | with_reducible apply Moves.step (State.enqueue_moves _ _) (by decide)
    | with_reducible apply Moves.step (State.onLog_moves _ _) (by decide))

theorem State.auditOnce_moves (kind : Nat) (classes : Nat) (oldSeq : Nat) (newSeq : Nat) (oldDigest : List Byte) (newDigest : List Byte) (pcc : Nat) (detail : List Byte) (s : State) :
    Moves [.queue, .log, .pair] s (State.auditOnce kind classes oldSeq newSeq oldDigest newDigest pcc detail s) := by
  unfold State.auditOnce
  repeat' (first
    | with_reducible apply Moves.refl
    | with_reducible apply Moves.ite
    | with_reducible apply Moves.step (State.writeAudit_moves _ _ _ _ _ _ _ _ _) (by decide))

theorem State.snapOffer_moves (n : Nat) (key : Nat) (annual : Bool) (s : State) :
    Moves [.radio] s (State.snapOffer n key annual s) := by
  unfold State.snapOffer
  repeat' (first
    | with_reducible apply Moves.refl
    | with_reducible apply Moves.ite
    | with_reducible apply Moves.step (State.onRadio_moves _ _) (by decide)
    | split
    | (dsimp only; split))

theorem State.raiseWake_moves (w : WakeSource) (s : State) :
    Moves [.pwr] s (State.raiseWake w s) := by
  unfold State.raiseWake
  repeat' (first
    | with_reducible apply Moves.refl
    | with_reducible apply Moves.ite
    | with_reducible apply Moves.step (State.onPwr_moves _ _) (by decide))

/-- Work done in Run moves what it moves, and the power state. -/
theorem State.inRun_moves (gs : List Group) (f : State → State) (s : State) (hp : gs.contains .pwr = true)
    (hf : ∀ u, Moves gs u (f u)) : Moves gs s (State.inRun f s) := by
  unfold State.inRun
  split
  · exact hf s
  · split
    · exact (State.raiseWake_moves _ s).sub (by simpa using hp)
    · exact Moves.refl gs s

theorem State.formSigs_moves (sel : Nat) (s : State) :
    Moves [.pwr] s (State.formSigs sel s) := by
  unfold State.formSigs
  repeat' (first
    | with_reducible apply Moves.refl
    | with_reducible apply Moves.step (State.onPwr_moves _ _) (by decide))

end Sys2Proof.Machine
end

