-- ==== Sys2Proof/Laws/RecordsMoves.lean ====
section
/-! SUPPORT. What each operation of Records can change. -/

set_option Elab.async false

namespace Sys2Proof.Machine

theorem State.commitModule_moves (s : State) :
    Moves [.queue, .pair] s (State.commitModule s) := by
  unfold State.commitModule
  repeat' (first
    | with_reducible apply Moves.refl
    | with_reducible apply Moves.step (State.enqueue_moves _ _) (by decide))

end Sys2Proof.Machine
end

