-- ==== Sys2Proof/Laws/FlowMoves.lean ====
section
/-! SUPPORT. What each operation of Flow can change. -/

set_option Elab.async false

namespace Sys2Proof.Machine

theorem State.sensorDisc_moves (n : Nat) (sensor : Nat) (kind : Nat) (was : Bool) (is : Bool) (s : State) :
    Moves [.queue, .log, .tamper, .pair, .radio] s (State.sensorDisc n sensor kind was is s) := by
  unfold State.sensorDisc
  repeat' (first
    | with_reducible apply Moves.refl
    | with_reducible apply Moves.ite
    | with_reducible apply Moves.step (State.ending_moves _ _ _ _ _) (by decide)
    | with_reducible apply Moves.step (State.onTamper_moves _ _) (by decide)
    | with_reducible apply Moves.step (State.onset_moves _ _ _ _ _) (by decide))

theorem State.logFlow_moves (n : Nat) (f : Flow) (g : Flow) (qRaw : Rat) (s : State) :
    Moves [.queue, .log, .tamper, .pair, .radio] s (State.logFlow n f g qRaw s) := by
  unfold State.logFlow
  repeat' (first
    | with_reducible apply Moves.refl
    | with_reducible apply Moves.step (State.change_moves _ _ _ _ _ _ _) (by decide)
    | with_reducible apply Moves.step (State.sensorDisc_moves _ _ _ _ _ _) (by decide)
    | split
    | (dsimp only; split))

theorem State.putFlow_moves (n : Nat) (g : Flow) (qRaw : Rat) (s : State) :
    Moves [.queue, .log, .chans, .tamper, .pair, .radio] s (State.putFlow n g qRaw s) := by
  unfold State.putFlow
  repeat' (first
    | with_reducible apply Moves.refl
    | with_reducible apply Moves.step (State.logFlow_moves _ _ _ _ _) (by decide)
    | with_reducible apply Moves.step (State.onCh_moves _ _ _) (by decide))

end Sys2Proof.Machine
end

