-- ==== Sys2Proof/Laws/TempConvMoves.lean ====
section
/-! SUPPORT. What each operation of TempConv can change. -/

set_option Elab.async false

namespace Sys2Proof.Machine

theorem State.chEvent_moves (n : Nat) (mask : Nat) (s : State) :
    Moves [.chans] s (State.chEvent n mask s) := by
  unfold State.chEvent
  repeat' (first
    | with_reducible apply Moves.refl
    | with_reducible apply Moves.step (State.onCh_moves _ _ _) (by decide))

theorem State.sensorChange_moves (n : Nat) (side : Nat) (x : Sensor) (y : Sensor) (s : State) :
    Moves [.queue, .log, .chans, .tamper, .pair, .radio] s (State.sensorChange n side x y s) := by
  unfold State.sensorChange
  repeat' (first
    | with_reducible apply Moves.refl
    | with_reducible apply Moves.ite
    | with_reducible apply Moves.step (State.chEvent_moves _ _ _) (by decide)
    | with_reducible apply Moves.step (State.change_moves _ _ _ _ _ _ _) (by decide)
    | with_reducible apply Moves.step (State.sensorDisc_moves _ _ _ _ _ _) (by decide))

theorem State.evalRange_moves (n : Nat) (quiet : Bool) (s : State) :
    Moves [.queue, .log, .chans, .pair, .radio] s (State.evalRange n quiet s) := by
  unfold State.evalRange
  repeat' (first
    | with_reducible apply Moves.refl
    | with_reducible apply Moves.ite
    | with_reducible apply Moves.step (State.chEvent_moves _ _ _) (by decide)
    | with_reducible apply Moves.step (State.change_moves _ _ _ _ _ _ _) (by decide)
    | with_reducible apply Moves.step (State.onCh_moves _ _ _) (by decide)
    | split
    | (dsimp only; split))

end Sys2Proof.Machine
end

