-- ==== Sys2Proof/Laws/BillingMoves.lean ====
section
/-! SUPPORT. What each operation of Billing can change. -/

set_option Elab.async false

namespace Sys2Proof.Machine

theorem State.takeSnap_moves (n : Nat) (kind : Nat) (key : Nat) (extra : Nat) (prevDue : Option Nat) (w : Work) (s : State) :
    Moves [.queue, .log, .chans, .pair, .radio] s (State.takeSnap n kind key extra prevDue w s).1 := by
  unfold State.takeSnap
  repeat' (first
    | with_reducible apply Moves.refl
    | with_reducible apply Moves.ite
    | with_reducible apply Moves.step (State.event_moves _ _ _ _) (by decide)
    | with_reducible apply Moves.step (State.snapOffer_moves _ _ _ _) (by decide)
    | with_reducible apply Moves.step (State.onCh_moves _ _ _) (by decide))

theorem State.takeSnaps_moves (n : Nat) (kind : Nat) (extra : Nat) (w : Work) (prevDue : Option Nat) (keys : List Nat) (s : State) :
    Moves [.queue, .log, .chans, .pair, .radio] s (State.takeSnaps n kind extra w prevDue keys s).1 := by
  induction keys generalizing prevDue s with
  | nil => exact Moves.refl _ s
  | cons k t ih =>
    simp only [State.takeSnaps]
    exact (State.takeSnap_moves n kind k extra prevDue w s).trans (ih _ _)

theorem State.snapKind_moves (n : Nat) (kind : Nat) (extra : Nat) (w : Work) (s : State) :
    Moves [.queue, .log, .chans, .pair, .radio] s (State.snapKind n kind extra w s).1 := by
  unfold State.snapKind
  try dsimp +zeta only
  repeat' (first
    | with_reducible apply Moves.refl
    | with_reducible apply Moves.step (State.event_moves _ _ _ _) (by decide)
    | with_reducible apply Moves.step (State.takeSnaps_moves _ _ _ _ _ _ _) (by decide)
    | split)

theorem State.snapshots_moves (n : Nat) (extra : Nat) (w : Work) (s : State) :
    Moves [.queue, .log, .chans, .pair, .radio] s (State.snapshots n extra w s).1 := by
  unfold State.snapshots
  try dsimp +zeta only
  repeat' (first
    | with_reducible apply Moves.refl
    | with_reducible apply Moves.step (State.snapKind_moves _ _ _ _ _) (by decide)
    | split)

theorem State.profileRec_moves (n : Nat) (d : List Byte) (s : State) :
    Moves [.chans] s (State.profileRec n d s).1 := by
  unfold State.profileRec
  repeat' (first
    | with_reducible apply Moves.refl
    | with_reducible apply Moves.step (State.onCh_moves _ _ _) (by decide))

end Sys2Proof.Machine
end

