-- ==== Sys2Proof/Laws/ValveMoves.lean ====
section
/-! SUPPORT. What each operation of Valve can change. -/

set_option Elab.async false

namespace Sys2Proof.Machine

theorem State.onValve_moves (n : Nat) (f : ValveState → ValveState) (s : State) :
    Moves [.chans] s (State.onValve n f s) := by
  unfold State.onValve
  repeat' (first
    | with_reducible apply Moves.refl
    | with_reducible apply Moves.step (State.onCh_moves _ _ _) (by decide))

theorem State.onCredit_moves (n : Nat) (f : CreditState → CreditState) (s : State) :
    Moves [.chans] s (State.onCredit n f s) := by
  unfold State.onCredit
  repeat' (first
    | with_reducible apply Moves.refl
    | with_reducible apply Moves.step (State.onCh_moves _ _ _) (by decide))

theorem State.submitValve_moves (n : Nat) (dir : Nat) (source : Nat) (s : State) :
    Moves [.chans, .bridge] s (State.submitValve n dir source s).1 := by
  unfold State.submitValve
  try dsimp +zeta only
  repeat' (first
    | with_reducible apply Moves.refl
    | with_reducible apply Moves.step (State.onBridge_moves _ _) (by decide)
    | with_reducible apply Moves.step (State.onValve_moves _ _ _) (by decide)
    | split)

theorem State.stopBridge_moves (nowMs : Nat) (s : State) :
    Moves [.bridge] s (State.stopBridge nowMs s) := by
  unfold State.stopBridge
  repeat' (first
    | with_reducible apply Moves.refl
    | with_reducible apply Moves.step (State.onBridge_moves _ _) (by decide))

theorem State.valveFault_moves (n : Nat) (code : Nat) (s : State) :
    Moves [.queue, .log, .chans, .pair, .radio] s (State.valveFault n code s) := by
  unfold State.valveFault
  repeat' (first
    | with_reducible apply Moves.refl
    | with_reducible apply Moves.step (State.event_moves _ _ _ _) (by decide)
    | with_reducible apply Moves.step (State.onValve_moves _ _ _) (by decide))

theorem State.moveFault_moves (n : Nat) (code : Nat) (nowMs : Nat) (s : State) :
    Moves [.queue, .log, .chans, .bridge, .pair, .radio] s (State.moveFault n code nowMs s) := by
  unfold State.moveFault
  repeat' (first
    | with_reducible apply Moves.refl
    | with_reducible apply Moves.ite
    | with_reducible apply Moves.step (State.onValve_moves _ _ _) (by decide)
    | with_reducible apply Moves.step (State.stopBridge_moves _ _) (by decide)
    | with_reducible apply Moves.step (State.valveFault_moves _ _ _) (by decide))

theorem State.moveDone_moves (n : Nat) (dir : Nat) (nowMs : Nat) (s : State) :
    Moves [.chans, .bridge] s (State.moveDone n dir nowMs s) := by
  unfold State.moveDone
  repeat' (first
    | with_reducible apply Moves.refl
    | with_reducible apply Moves.step (State.onCh_moves _ _ _) (by decide)
    | with_reducible apply Moves.step (State.onValve_moves _ _ _) (by decide)
    | with_reducible apply Moves.step (State.stopBridge_moves _ _) (by decide))

theorem State.dropDone_moves (q : List ValveCmd) (s : State) :
    Moves [.chans, .bridge] s (State.dropDone q s) := by
  induction q generalizing s with
  | nil => exact (State.onBridge_moves s _).sub (by decide)
  | cons c t ih =>
    simp only [State.dropDone]
    split
    · exact ((State.onValve_moves c.ch _ s).sub (by decide)).trans (ih _)
    · exact (State.onBridge_moves s _).sub (by decide)

theorem State.startMove_moves (nowMs : Nat) (s : State) :
    Moves [.chans, .bridge] s (State.startMove nowMs s) := by
  unfold State.startMove
  try dsimp +zeta only
  repeat' (first
    | with_reducible apply Moves.refl
    | with_reducible apply Moves.step (State.dropDone_moves _ _) (by decide)
    | with_reducible apply Moves.step (State.onBridge_moves _ _) (by decide)
    | with_reducible apply Moves.step (State.onCh_moves _ _ _) (by decide)
    | with_reducible apply Moves.step (State.onValve_moves _ _ _) (by decide)
    | split)

theorem State.interruptMove_moves (nowMs : Nat) (flag : Nat) (s : State) :
    Moves [.chans, .bridge] s (State.interruptMove nowMs flag s) := by
  unfold State.interruptMove
  repeat' (first
    | with_reducible apply Moves.refl
    | with_reducible apply Moves.step (State.onBridge_moves _ _) (by decide)
    | with_reducible apply Moves.step (State.onValve_moves _ _ _) (by decide)
    | split
    | (dsimp only; split))

theorem State.resumeValves_moves (s : State) :
    Moves [.chans, .bridge] s (State.resumeValves s) := by
  unfold State.resumeValves
  repeat' (first
    | with_reducible apply Moves.refl
    | with_reducible apply Moves.ite
    | with_reducible apply Moves.step (State.onBridge_moves _ _) (by decide)
    | with_reducible apply Moves.step (State.onValve_moves _ _ _) (by decide)
    | (with_reducible apply Moves.foldl; intro u a))

theorem State.logCredit_moves (n : Nat) (old : Nat) (c : CreditState) (saturated : Bool) (s : State) :
    Moves [.queue, .log, .pair, .radio] s (State.logCredit n old c saturated s) := by
  unfold State.logCredit
  repeat' (first
    | with_reducible apply Moves.refl
    | with_reducible apply Moves.ite
    | with_reducible apply Moves.step (State.event_moves _ _ _ _) (by decide))

theorem State.policySubmit_moves (n : Nat) (dir : Nat) (ok : Nat → Nat) (wait : Nat → Nat) (s : State) :
    Moves [.queue, .log, .chans, .bridge, .pair, .radio] s (State.policySubmit n dir ok wait s) := by
  unfold State.policySubmit
  try dsimp +zeta only
  repeat' (first
    | with_reducible apply Moves.refl
    | with_reducible apply Moves.step (State.event_moves _ _ _ _) (by decide)
    | with_reducible apply Moves.step (State.onCredit_moves _ _ _) (by decide)
    | with_reducible apply Moves.step (State.submitValve_moves _ _ _ _) (by decide)
    | split)

theorem State.policy_moves (n : Nat) (s : State) :
    Moves [.queue, .log, .chans, .bridge, .pair, .radio] s (State.policy n s) := by
  unfold State.policy
  repeat' (first
    | with_reducible apply Moves.refl
    | with_reducible apply Moves.ite
    | with_reducible apply Moves.step (State.event_moves _ _ _ _) (by decide)
    | with_reducible apply Moves.step (State.onCredit_moves _ _ _) (by decide)
    | with_reducible apply Moves.step (State.policySubmit_moves _ _ _ _ _) (by decide)
    | split
    | (dsimp only; split))

theorem State.reclose_moves (n : Nat) (s : State) :
    Moves [.queue, .log, .chans, .bridge, .pair, .radio] s (State.reclose n s) := by
  unfold State.reclose
  repeat' (first
    | with_reducible apply Moves.refl
    | with_reducible apply Moves.step (State.policySubmit_moves _ _ _ _ _) (by decide))

theorem State.forcedValve_moves (n : Nat) (s : State) :
    Moves [.queue, .log, .chans, .bridge, .tamper, .pair, .radio] s (State.forcedValve n s) := by
  unfold State.forcedValve
  repeat' (first
    | with_reducible apply Moves.refl
    | with_reducible apply Moves.ite
    | with_reducible apply Moves.step (State.event_moves _ _ _ _) (by decide)
    | with_reducible apply Moves.step (State.onTamper_moves _ _) (by decide)
    | with_reducible apply Moves.step (State.reclose_moves _ _) (by decide))

theorem State.forcedAgain_moves (n : Nat) (s : State) :
    Moves [.queue, .log, .chans, .bridge, .pair, .radio] s (State.forcedAgain n s) := by
  unfold State.forcedAgain
  repeat' (first
    | with_reducible apply Moves.refl
    | with_reducible apply Moves.ite
    | with_reducible apply Moves.step (State.reclose_moves _ _) (by decide))

theorem State.movingSample_moves (n : Nat) (dir : Nat) (nowMs : Nat) (opposite : Bool) (s : State) :
    Moves [.queue, .log, .chans, .bridge, .pair, .radio] s (State.movingSample n dir nowMs opposite s) := by
  unfold State.movingSample
  repeat' (first
    | with_reducible apply Moves.refl
    | with_reducible apply Moves.ite
    | with_reducible apply Moves.step (State.moveDone_moves _ _ _ _) (by decide)
    | with_reducible apply Moves.step (State.moveFault_moves _ _ _ _) (by decide)
    | with_reducible apply Moves.step (State.onCh_moves _ _ _) (by decide)
    | split
    | (dsimp only; split))

theorem State.idleSample_moves (n : Nat) (was : Nat) (raw : Nat) (s : State) :
    Moves [.queue, .log, .chans, .bridge, .tamper, .pair, .radio] s (State.idleSample n was raw s) := by
  unfold State.idleSample
  repeat' (first
    | with_reducible apply Moves.refl
    | with_reducible apply Moves.ite
    | with_reducible apply Moves.step (State.forcedValve_moves _ _) (by decide)
    | with_reducible apply Moves.step (State.onCh_moves _ _ _) (by decide)
    | with_reducible apply Moves.step (State.onValve_moves _ _ _) (by decide)
    | with_reducible apply Moves.step (State.valveFault_moves _ _ _) (by decide))

theorem State.faultMoving_moves (code : Nat) (nowMs : Nat) (when_ : Nat → Bool) (s : State) :
    Moves [.queue, .log, .chans, .bridge, .pair, .radio] s (State.faultMoving code nowMs when_ s) := by
  unfold State.faultMoving
  repeat' (first
    | with_reducible apply Moves.refl
    | with_reducible apply Moves.ite
    | with_reducible apply Moves.step (State.moveFault_moves _ _ _ _) (by decide)
    | split
    | (dsimp only; split))

end Sys2Proof.Machine
end

