-- ==== Sys2Proof/Laws/PulseMoves.lean ====
section
/-! SUPPORT. What each operation of Pulse can change. -/

set_option Elab.async false

namespace Sys2Proof.Machine

theorem State.pulsesOf_moves (k : Nat) (sett : Bool) (stop : Nat) (len : Nat) (old : Work) (new : Work) (s : State) :
    Moves [.queue, .log, .outs, .pair, .radio] s (State.pulsesOf k sett stop len old new s) := by
  unfold State.pulsesOf
  repeat' (first
    | with_reducible apply Moves.refl
    | with_reducible apply Moves.ite
    | with_reducible apply Moves.step (State.event_moves _ _ _ _) (by decide)
    | with_reducible apply Moves.step (State.setOut_moves _ _ _) (by decide))

theorem State.handedPulses_moves (k : Nat) (stop : Nat) (s : State) :
    Moves [.outs, .pair] s (State.handedPulses k stop s) := by
  unfold State.handedPulses
  repeat' (first
    | with_reducible apply Moves.refl
    | with_reducible apply Moves.ite
    | with_reducible apply Moves.step (State.onPair_moves _ _) (by decide)
    | with_reducible apply Moves.step (State.setOut_moves _ _ _) (by decide))

theorem State.pulses_moves (n : Nat) (sett : Bool) (stop : Nat) (len : Nat) (old : Work) (new : Work) (s : State) :
    Moves [.queue, .log, .outs, .pair, .radio] s (State.pulses n sett stop len old new s) := by
  unfold State.pulses
  repeat' (first
    | with_reducible apply Moves.refl
    | with_reducible apply Moves.ite
    | with_reducible apply Moves.step (State.handedPulses_moves _ _ _) (by decide)
    | with_reducible apply Moves.step (State.pulsesOf_moves _ _ _ _ _ _ _) (by decide)
    | (with_reducible apply Moves.foldl; intro u a))

theorem State.missedPulses_moves (s : State) :
    Moves [.queue, .log, .pair, .radio] s (State.missedPulses s) := by
  unfold State.missedPulses
  repeat' (first
    | with_reducible apply Moves.refl
    | with_reducible apply Moves.ite
    | with_reducible apply Moves.step (State.event_moves _ _ _ _) (by decide)
    | (with_reducible apply Moves.foldl; intro u a)
    | split
    | (dsimp only; split))

theorem State.dropPulses_moves (lost : Bool) (s : State) :
    Moves [.queue, .log, .outs, .pair, .radio] s (State.dropPulses lost s) := by
  unfold State.dropPulses
  repeat' (first
    | with_reducible apply Moves.refl
    | with_reducible apply Moves.ite
    | with_reducible apply Moves.step (State.event_moves _ _ _ _) (by decide)
    | with_reducible apply Moves.step (State.setOut_moves _ _ _) (by decide)
    | (with_reducible apply Moves.foldl; intro u a))

end Sys2Proof.Machine
end

