-- ==== Sys2Proof/Laws/StepCloseMoves.lean ====
section
/-! SUPPORT. What each operation of StepClose can change. -/

set_option Elab.async false

namespace Sys2Proof.Machine

theorem State.dmrMismatch_moves (n : Nat) (word : Nat) (s : State) :
    Moves [.queue, .flt, .log, .pair, .radio] s (State.dmrMismatch n word s) := by
  unfold State.dmrMismatch
  repeat' (first
    | with_reducible apply Moves.refl
    | with_reducible apply Moves.step (State.event_moves _ _ _ _) (by decide)
    | with_reducible apply Moves.step (State.onFlt_moves _ _) (by decide))

theorem State.showStep_moves (n : Nat) (a : StepAcc) (inc : Inc) (s : State) :
    Moves [.chans] s (State.showStep n a inc s) := by
  unfold State.showStep
  repeat' (first
    | with_reducible apply Moves.refl
    | with_reducible apply Moves.ite
    | with_reducible apply Moves.step (State.onCh_moves _ _ _) (by decide)
    | split
    | (dsimp only; split))

theorem State.commitStep_moves (n : Nat) (force : Bool) (entries : List HoardRec) (s : State) :
    Moves [.queue, .chans, .pair] s (State.commitStep n force entries s) := by
  unfold State.commitStep
  repeat' (first
    | with_reducible apply Moves.refl
    | with_reducible apply Moves.ite
    | with_reducible apply Moves.step (State.enqueue_moves _ _) (by decide)
    | with_reducible apply Moves.step (State.onCh_moves _ _ _) (by decide)
    | (with_reducible apply Moves.foldl; intro u a))

theorem State.putStepFlow_moves (n : Nat) (g : Flow) (s : State) :
    Moves [.queue, .log, .chans, .tamper, .pair, .radio] s (State.putStepFlow n g s) := by
  unfold State.putStepFlow
  repeat' (first
    | with_reducible apply Moves.refl
    | with_reducible apply Moves.step (State.change_moves _ _ _ _ _ _ _) (by decide)
    | with_reducible apply Moves.step (State.putFlow_moves _ _ _ _) (by decide)
    | split
    | (dsimp only; split))

theorem State.afterCompare_moves (n : Nat) (stop : Nat) (pf : Bool) (hold : Bool) (i : StepIn) (w : Work) (inc : Inc) (saturated : Bool) (s : State) :
    Moves [.queue, .log, .chans, .outs, .bridge, .tamper, .pair, .radio] s (State.afterCompare n stop pf hold i w inc saturated s) := by
  unfold State.afterCompare
  repeat' (first
    | with_reducible apply Moves.refl
    | with_reducible apply Moves.ite
    | with_reducible apply Moves.step (State.change_moves _ _ _ _ _ _ _) (by decide)
    | with_reducible apply Moves.step (State.commitStep_moves _ _ _ _) (by decide)
    | with_reducible apply Moves.step (State.event_moves _ _ _ _) (by decide)
    | with_reducible apply Moves.step (State.forcedAgain_moves _ _) (by decide)
    | with_reducible apply Moves.step (State.logCredit_moves _ _ _ _ _) (by decide)
    | with_reducible apply Moves.step (State.onCh_moves _ _ _) (by decide)
    | with_reducible apply Moves.step (State.policy_moves _ _) (by decide)
    | with_reducible apply Moves.step (State.profileRec_moves _ _ _) (by decide)
    | with_reducible apply Moves.step (State.pulses_moves _ _ _ _ _ _ _) (by decide)
    | with_reducible apply Moves.step (State.putStepFlow_moves _ _ _) (by decide)
    | with_reducible apply Moves.step (State.rollHour_moves _) (by decide)
    | with_reducible apply Moves.step (State.showStep_moves _ _ _ _) (by decide)
    | with_reducible apply Moves.step (State.snapshots_moves _ _ _ _) (by decide)
    | split
    | (dsimp only; split))

theorem State.parityMismatch_moves (s : State) :
    Moves [.flt] s (State.parityMismatch s) :=
  (State.sramRead_moves _ _ _ s).trans (State.onFlt_moves _ _)

theorem State.closeStep_moves (n : Nat) (stop : Nat) (tick : Nat) (pf : Bool) (hold : Bool) (upset : Upset) (s : State) :
    Moves [.queue, .flt, .log, .chans, .outs, .bridge, .tamper, .pair, .radio] s (State.closeStep n stop tick pf hold upset s) := by
  unfold State.closeStep
  try dsimp +zeta only
  repeat' (first
    | with_reducible apply Moves.refl
    | with_reducible apply Moves.step (State.afterCompare_moves _ _ _ _ _ _ _ _ _) (by decide)
    | with_reducible apply Moves.step (State.dmrMismatch_moves _ _ _) (by decide)
    | with_reducible apply Moves.step (State.parityMismatch_moves _) (by decide)
    | split)

theorem State.closeAll_moves (cyc : Nat) (pf : Bool) (hold : Bool) (upsets : List (Nat × Upset)) (s : State) :
    Moves [.queue, .flt, .log, .chans, .outs, .bridge, .tamper, .pair, .radio] s (State.closeAll cyc pf hold upsets s) := by
  unfold State.closeAll
  repeat' (first
    | with_reducible apply Moves.refl
    | with_reducible apply Moves.ite
    | with_reducible apply Moves.step (State.closeStep_moves _ _ _ _ _ _ _) (by decide)
    | with_reducible apply Moves.step (State.onCh_moves _ _ _) (by decide)
    | (with_reducible apply Moves.forCh; intro n u))

end Sys2Proof.Machine
end

