-- ==== Sys2Proof/Laws/RtdSlotMoves.lean ====
section
/-! SUPPORT. What each operation of RtdSlot can change. -/

set_option Elab.async false

namespace Sys2Proof.Machine

theorem State.sensorConversion_moves (n : Nat) (side : Nat) (cv : Conversion) (s : State) :
    Moves [.queue, .log, .chans, .tamper, .pair, .radio] s (State.sensorConversion n side cv s) := by
  unfold State.sensorConversion
  repeat' (first
    | with_reducible apply Moves.refl
    | with_reducible apply Moves.ite
    | with_reducible apply Moves.step (State.evalRange_moves _ _ _) (by decide)
    | with_reducible apply Moves.step (State.onCh_moves _ _ _) (by decide)
    | with_reducible apply Moves.step (State.sensorChange_moves _ _ _ _ _) (by decide))

theorem State.converterSensors_moves (k : Nat) (begins : Bool) (s : State) :
    Moves [.queue, .log, .chans, .pair, .radio] s (State.converterSensors k begins s) := by
  unfold State.converterSensors
  repeat' (first
    | with_reducible apply Moves.refl
    | with_reducible apply Moves.ite
    | with_reducible apply Moves.step (State.chEvent_moves _ _ _) (by decide)
    | with_reducible apply Moves.step (State.ending_moves _ _ _ _ _) (by decide)
    | with_reducible apply Moves.step (State.onset_moves _ _ _ _ _) (by decide)
    | (with_reducible apply Moves.forCh; intro n u))

theorem State.putChecks_moves (k : Nat) (c : Conv) (s : State) :
    Moves [.queue, .log, .chans, .tcs, .pair, .radio] s (State.putChecks k c s) := by
  unfold State.putChecks
  repeat' (first
    | with_reducible apply Moves.refl
    | with_reducible apply Moves.ite
    | with_reducible apply Moves.step (State.chEvent_moves _ _ _) (by decide)
    | with_reducible apply Moves.step (State.change_moves _ _ _ _ _ _ _) (by decide)
    | with_reducible apply Moves.step (State.converterSensors_moves _ _ _) (by decide)
    | with_reducible apply Moves.step (State.setTc_moves _ _ _) (by decide)
    | (with_reducible apply Moves.forCh; intro n u))

theorem State.gainSample_moves (k : Nat) (ref100 : Bool) (ratio : Int) (s : State) :
    Moves [.queue, .log, .chans, .tcs, .pair, .radio] s (State.gainSample k ref100 ratio s) := by
  unfold State.gainSample
  repeat' (first
    | with_reducible apply Moves.refl
    | with_reducible apply Moves.ite
    | with_reducible apply Moves.step (State.putChecks_moves _ _ _) (by decide))

theorem State.leakCheck_moves (n : Nat) (cv : Conversion) (s : State) :
    Moves [.queue, .log, .chans, .pair, .radio] s (State.leakCheck n cv s) := by
  unfold State.leakCheck
  repeat' (first
    | with_reducible apply Moves.refl
    | with_reducible apply Moves.ite
    | with_reducible apply Moves.step (State.chEvent_moves _ _ _) (by decide)
    | with_reducible apply Moves.step (State.change_moves _ _ _ _ _ _ _) (by decide)
    | with_reducible apply Moves.step (State.onCh_moves _ _ _) (by decide))

theorem State.diagnostic_moves (k : Nat) (cv : Conversion) (s : State) :
    Moves [.queue, .log, .chans, .tcs, .pair, .radio] s (State.diagnostic k cv s) := by
  unfold State.diagnostic
  repeat' (first
    | with_reducible apply Moves.refl
    | with_reducible apply Moves.ite
    | with_reducible apply Moves.step (State.leakCheck_moves _ _ _) (by decide)
    | with_reducible apply Moves.step (State.putChecks_moves _ _ _) (by decide))

end Sys2Proof.Machine
end

