-- ==== Sys2Proof/Laws/FlagsMoves.lean ====
section
/-! SUPPORT. What each operation of Flags can change. -/

set_option Elab.async false

namespace Sys2Proof.Machine

theorem State.noteMode_moves (old : State) (new : State) :
    Moves [.hl] new (State.noteMode old new) := by
  unfold State.noteMode
  repeat' (first
    | with_reducible apply Moves.refl
    | with_reducible apply Moves.ite
    | with_reducible apply Moves.step (State.onHl_moves _ _) (by decide))

theorem State.badWrite_moves (s : State) :
    Moves [.rtc] s (State.badWrite s) := by
  unfold State.badWrite
  repeat' (first
    | with_reducible apply Moves.refl
    | with_reducible apply Moves.step (State.onRtc_moves _ _) (by decide))

theorem State.asWrite_moves (gs : List Group) (a : Nat) (f : State → State) (s : State) (hr : rtcSetReg a = true → gs.contains .rtc = true)
    (hf : Moves gs s (f s)) : Moves gs s (State.asWrite a f s) := by
  unfold State.asWrite
  split
  · exact Moves.refl _ s
  · split
    · split
      · rename_i h
        exact (State.badWrite_moves s).sub (by simpa using hr h)
      · exact Moves.refl _ s
    · split
      · exact Moves.refl _ s
      · exact hf

theorem State.setDc_moves (s : State) (k : Nat) (c : DmaCh) :
    Moves [.dma] s (State.setDc s k c) := by
  unfold State.setDc
  repeat' (first
    | with_reducible apply Moves.refl
    | with_reducible apply Moves.step (State.onDma_moves _ _) (by decide))

end Sys2Proof.Machine
end

