-- ==== Sys2Proof/Laws/AllocMoves.lean ====
section
/-! SUPPORT. What each operation of Alloc can change. -/

set_option Elab.async false

namespace Sys2Proof.Machine

theorem State.commitAlc_moves (a : Nat) (r : AlcRec) (s : State) :
    Moves [.queue, .pair, .alc] s (State.commitAlc a r s) := by
  unfold State.commitAlc
  repeat' (first
    | with_reducible apply Moves.refl
    | with_reducible apply Moves.step (State.enqueue_moves _ _) (by decide)
    | with_reducible apply Moves.step (State.onAlc_moves _ _) (by decide)
    | split
    | (dsimp only; split))

theorem State.stranger_moves (ident : List Byte) (s : State) :
    Moves [.alc] s (State.stranger ident s) := by
  unfold State.stranger
  try dsimp +zeta only
  repeat' (first
    | with_reducible apply Moves.refl
    | with_reducible apply Moves.step (State.onAlc_moves _ _) (by decide)
    | split)

theorem State.alcRefuse_moves (a : Nat) (bit : Nat) (r : AlcRec) (s : State) :
    Moves [.queue, .pair, .alc] s (State.alcRefuse a bit r s) := by
  unfold State.alcRefuse
  repeat' (first
    | with_reducible apply Moves.refl
    | with_reducible apply Moves.step (State.commitAlc_moves _ _ _) (by decide)
    | with_reducible apply Moves.step (State.onAlc_moves _ _) (by decide))

theorem State.alcStore_moves (a : Nat) (sts : Nat) (acc : Nat) (more : Nat) (v : Nat × Nat × List Byte) (r : AlcRec) (s : State) :
    Moves [.queue, .pair, .alc] s (State.alcStore a sts acc more v r s) := by
  unfold State.alcStore
  repeat' (first
    | with_reducible apply Moves.refl
    | with_reducible apply Moves.ite
    | with_reducible apply Moves.step (State.commitAlc_moves _ _ _) (by decide)
    | with_reducible apply Moves.step (State.onAlc_moves _ _) (by decide))

theorem State.alcJudge_moves (a : Nat) (sts : Nat) (acc : Nat) (values : Option (Nat × Nat × List Byte)) (r : AlcRec) (s : State) :
    Moves [.queue, .pair, .alc] s (State.alcJudge a sts acc values r s) := by
  unfold State.alcJudge
  repeat' (first
    | with_reducible apply Moves.refl
    | with_reducible apply Moves.ite
    | with_reducible apply Moves.step (State.alcRefuse_moves _ _ _ _) (by decide)
    | with_reducible apply Moves.step (State.alcStore_moves _ _ _ _ _ _ _) (by decide)
    | with_reducible apply Moves.step (State.onAlc_moves _ _) (by decide)
    | split
    | (dsimp only; split))

theorem State.parseFrame_moves (f : List Byte) (s : State) :
    Moves [.queue, .pair, .alc] s (State.parseFrame f s) := by
  unfold State.parseFrame
  try dsimp +zeta only
  repeat' (first
    | with_reducible apply Moves.refl
    | with_reducible apply Moves.step (State.alcRefuse_moves _ _ _ _) (by decide)
    | with_reducible apply Moves.step (State.alcJudge_moves _ _ _ _ _ _) (by decide)
    | with_reducible apply Moves.step (State.stranger_moves _ _) (by decide)
    | split)

theorem pumpFreeze_moves (n : Nat) (s : State) :
    Moves [.queue, .pair, .alc] s (pumpFreeze n s) := by
  induction n generalizing s with
  | zero => exact Moves.refl _ s
  | succ k ih =>
    simp only [pumpFreeze]
    split
    · exact Moves.refl _ s
    · split
      · exact Moves.refl _ s
      · split
        · exact ((State.onAlc_moves s _).sub (by decide)).trans ((State.enqueue_moves _ _).sub (by decide))
        · exact ((State.commitAlc_moves _ _ s).sub (by decide)).trans (ih _)

theorem State.pumpAlc_moves (s : State) :
    Moves [.queue, .pair, .alc] s (State.pumpAlc s) := by
  unfold State.pumpAlc
  repeat' (first
    | with_reducible apply Moves.refl
    | with_reducible apply Moves.ite
    | with_reducible apply Moves.step (pumpFreeze_moves _ _) (by decide))

theorem State.freeze_moves (fromHold : Bool) (s : State) :
    Moves [.queue, .pair, .alc] s (State.freeze fromHold s) := by
  unfold State.freeze
  repeat' (first
    | with_reducible apply Moves.refl
    | with_reducible apply Moves.ite
    | with_reducible apply Moves.step (State.onAlc_moves _ _) (by decide)
    | split
    | (dsimp only; split))

end Sys2Proof.Machine
end

