-- ==== Sys2Proof/Laws/RadioMoves.lean ====
section
/-! SUPPORT. What each operation of Radio can change. -/

set_option Elab.async false

namespace Sys2Proof.Machine

theorem State.commitSec_moves (s : State) :
    Moves [.queue, .pair] s (State.commitSec s) := by
  unfold State.commitSec
  repeat' (first
    | with_reducible apply Moves.refl
    | with_reducible apply Moves.step (State.enqueue_moves _ _) (by decide))

theorem State.reserve_moves (s : State) :
    Moves [.queue, .pair, .sec] s (State.reserve s) := by
  unfold State.reserve
  repeat' (first
    | with_reducible apply Moves.refl
    | with_reducible apply Moves.ite
    | with_reducible apply Moves.step (State.commitSec_moves _) (by decide)
    | with_reducible apply Moves.step (State.onSec_moves _ _) (by decide))

theorem State.startCounters_moves (s : State) :
    Moves [.queue, .pair, .sec] s (State.startCounters s) := by
  unfold State.startCounters
  repeat' (first
    | with_reducible apply Moves.refl
    | with_reducible apply Moves.step (State.onSec_moves _ _) (by decide)
    | with_reducible apply Moves.step (State.reserve_moves _) (by decide))

theorem State.useCounter_moves (i : Nat) (s : State) :
    Moves [.queue, .pair, .sec] s (State.useCounter i s) := by
  unfold State.useCounter
  repeat' (first
    | with_reducible apply Moves.refl
    | with_reducible apply Moves.step (State.onSec_moves _ _) (by decide)
    | with_reducible apply Moves.step (State.reserve_moves _) (by decide))

theorem State.useAccess_moves (i : Nat) (s : State) :
    Moves [.sec] s (State.useAccess i s) := by
  unfold State.useAccess
  repeat' (first
    | with_reducible apply Moves.refl
    | with_reducible apply Moves.step (State.onSec_moves _ _) (by decide))

theorem State.moveCursor_moves (n : Nat) (s : State) :
    Moves [.alc] s (State.moveCursor n s) := by
  unfold State.moveCursor
  repeat' (first
    | with_reducible apply Moves.refl
    | with_reducible apply Moves.step (State.onAlc_moves _ _) (by decide)
    | split
    | (dsimp only; split))

theorem State.onAlarmOf_moves (t : Nat) (f : AlarmState → AlarmState) (s : State) :
    Moves [.radio] s (State.onAlarmOf t f s) := by
  unfold State.onAlarmOf
  repeat' (first
    | with_reducible apply Moves.refl
    | with_reducible apply Moves.step (State.onRadio_moves _ _) (by decide))

theorem State.secure_moves (c : Byte) (i : Nat) (sec : Nat) (key : List Byte) (keyIx : Nat) (acc : Nat) (status : Nat) (ident : List Byte) (data : List Byte) (s : State) (b : List Byte) (u : State)
    (h : State.secure c i sec key keyIx acc status ident data s = some (b, u)) : Moves [.queue, .pair, .sec] s u := by
  unfold State.secure at h
  split at h
  · split at h
    · exact absurd h (by simp)
    · have e := (Prod.mk.inj (Option.some.inj h)).2
      exact e ▸ State.useCounter_moves i s
  · have e := (Prod.mk.inj (Option.some.inj h)).2
    exact e ▸ Moves.refl _ s

theorem State.noteDuty_moves (at_ : Nat) (s : State) :
    Moves [.radio] s (State.noteDuty at_ s) := by
  unfold State.noteDuty
  repeat' (first
    | with_reducible apply Moves.refl
    | with_reducible apply Moves.ite
    | with_reducible apply Moves.step (State.onRadio_moves _ _) (by decide))

theorem State.countAir_moves (at_ : Nat) (air : Nat) (s : State) :
    Moves [.radio] s (State.countAir at_ air s) := by
  unfold State.countAir
  repeat' (first
    | with_reducible apply Moves.refl
    | with_reducible apply Moves.ite
    | with_reducible apply Moves.step (State.onRadio_moves _ _) (by decide)
    | split
    | (dsimp only; split))

theorem State.reject_moves (cause : Nat) (s : State) :
    Moves [.radio] s (State.reject cause s) := by
  unfold State.reject
  repeat' (first
    | with_reducible apply Moves.refl
    | with_reducible apply Moves.step (State.onRadio_moves _ _) (by decide))

theorem State.decideOffer_moves (gs : List Group) (now len entry : Nat) (allowed : Bool) (build : State → Option (List Byte × State)) (s : State)
    (hg : gs.contains .radio = true) (hb : ∀ b t, build s = some (b, t) → Moves gs s t) :
    Moves gs s (State.decideOffer now len entry allowed build s) := by
  have hr : ([.radio] : List Group).all gs.contains = true := by simpa using hg
  unfold State.decideOffer
  dsimp only
  split
  · exact (State.reject_moves _ s).sub hr
  · split
    · exact (State.reject_moves _ s).sub hr
    · split
      · exact (State.reject_moves _ s).sub hr
      · split
        · exact (State.reject_moves _ s).sub hr
        · split
          · exact (State.reject_moves _ s).sub hr
          · rename_i h
            exact (hb _ _ h).trans (((State.onRadio_moves _ _).sub hr).trans ((State.noteDuty_moves _ _).sub hr))

theorem State.sentEntry_moves (t : Nat) (e : TelegramEntry) (s : State) :
    Moves [.radio, .alc] s (State.sentEntry t e s) := by
  unfold State.sentEntry
  repeat' (first
    | with_reducible apply Moves.refl
    | with_reducible apply Moves.step (State.moveCursor_moves _ _) (by decide)
    | with_reducible apply Moves.step (State.onAlarmOf_moves _ _ _) (by decide)
    | split
    | (dsimp only; split))

theorem State.build_moves (t : Nat) (e : TelegramEntry) (snap : Option (Nat × Bool)) (s : State) (b : List Byte) (u : State)
    (h : State.build t e snap s = some (b, u)) : Moves [.queue, .pair, .radio, .sec, .alc] s u := by
  unfold State.build at h
  dsimp +zeta only at h
  split at h
  · cases h
  · split at h
    · cases h
    · rename_i h1
      have e := (Prod.mk.inj (Option.some.inj h)).2
      rw [← e]
      exact ((State.secure_moves _ _ _ _ _ _ _ _ _ _ _ _ h1).sub (by decide)).trans
        (((State.useAccess_moves _ _).sub (by decide)).trans ((State.sentEntry_moves _ _ _).sub (by decide)))

theorem State.offer_moves (now : Nat) (t : Nat) (e : TelegramEntry) (snap : Option (Nat × Bool)) (s : State) :
    Moves [.queue, .pair, .radio, .sec, .alc] s (State.offer now t e snap s) := 
  State.decideOffer_moves _ now _ t _ _ s (by decide) fun _ _ h => (State.build_moves t e snap s _ _ h).sub (by decide)

theorem State.buildUnconf_moves (s : State) (b : List Byte) (u : State)
    (h : State.buildUnconf s = some (b, u)) : Moves [.queue, .pair, .sec] s u := by
  unfold State.buildUnconf at h
  rw [Option.map_eq_some_iff] at h
  obtain ⟨p, h1, h2⟩ := h
  cases h2
  exact ((State.secure_moves _ _ _ _ _ _ _ _ _ _ p.1 p.2 h1).sub (by decide)).trans ((State.useAccess_moves _ _).sub (by decide))

theorem State.nextAlarm_moves (s : State) :
    Moves [.radio] s (State.nextAlarm s) := by
  unfold State.nextAlarm
  repeat' (first
    | with_reducible apply Moves.refl
    | with_reducible apply Moves.step (State.onRadio_moves _ _) (by decide))

theorem State.clearOffer_moves (now : Now) (offer : OfferKind) (s : State) :
    Moves [.radio] s (State.clearOffer now offer s) := by
  unfold State.clearOffer
  repeat' (first
    | with_reducible apply Moves.refl
    | with_reducible apply Moves.step (State.nextAlarm_moves _) (by decide)
    | with_reducible apply Moves.step (State.onAlarmOf_moves _ _ _) (by decide)
    | with_reducible apply Moves.step (State.onRadio_moves _ _) (by decide)
    | split
    | (dsimp only; split))

theorem State.makeOffer_moves (now : Now) (offer : OfferKind) (s : State) :
    Moves [.queue, .pair, .radio, .sec, .alc] s (State.makeOffer now offer s) := by
  have h1 : Moves [.queue, .pair, .radio, .sec, .alc] s (s.clearOffer now offer) := (State.clearOffer_moves now offer s).sub (by decide)
  unfold State.makeOffer
  dsimp only
  split
  · split
    · exact h1
    · exact h1.trans (State.offer_moves _ _ _ _ _)
  · split
    · exact h1
    · exact h1.trans (State.offer_moves _ _ _ _ _)
  · split
    · exact h1
    · exact h1.trans (State.offer_moves _ _ _ _ _)
  · split
    · exact h1
    · exact h1.trans (State.offer_moves _ _ _ _ _)
  · split
    · exact h1
    · split
      · exact h1
      · exact h1.trans (State.decideOffer_moves _ _ _ _ _ _ _ (by decide) fun _ _ h => (State.build_moves _ _ _ _ _ _ h).sub (by decide))
  · split
    · exact h1
    · exact h1.trans (State.decideOffer_moves _ _ _ _ _ _ _ (by decide) fun _ _ h => (State.buildUnconf_moves _ _ _ h).sub (by decide))

theorem State.discardQueue_moves (s : State) :
    Moves [.radio] s (State.discardQueue s) := by
  unfold State.discardQueue
  repeat' (first
    | with_reducible apply Moves.refl
    | with_reducible apply Moves.ite
    | with_reducible apply Moves.step (State.onRadio_moves _ _) (by decide))

theorem State.transmit_moves (ms : Nat) (frame : List Byte) (air : Nat) (window : Bool) (s : State) :
    Moves [.flt, .pwr, .radio] s (State.transmit ms frame air window s) := by
  unfold State.transmit
  repeat' (first
    | with_reducible apply Moves.refl
    | with_reducible apply Moves.ite
    | with_reducible apply Moves.step (State.frameRead_moves _ _) (by decide)
    | with_reducible apply Moves.step (State.countAir_moves _ _ _) (by decide)
    | with_reducible apply Moves.step (State.noteDuty_moves _ _) (by decide)
    | with_reducible apply Moves.step (State.onPwr_moves _ _) (by decide)
    | with_reducible apply Moves.step (State.onRadio_moves _ _) (by decide))

end Sys2Proof.Machine
end

