-- ==== Sys2Proof/Laws/RtcMoves.lean ====
section
/-! SUPPORT. What each operation of Rtc can change. -/

set_option Elab.async false

namespace Sys2Proof.Machine

theorem State.setOsf_moves (cause : Nat) (s : State) :
    Moves [.rtc] s (State.setOsf cause s) := by
  unfold State.setOsf
  repeat' (first
    | with_reducible apply Moves.refl
    | with_reducible apply Moves.step (State.onRtc_moves _ _) (by decide))

theorem State.logOsf_moves (s : State) :
    Moves [.queue, .log, .rtc, .pair, .radio] s (State.logOsf s) := by
  unfold State.logOsf
  repeat' (first
    | with_reducible apply Moves.refl
    | with_reducible apply Moves.step (State.onRtc_moves _ _) (by decide)
    | with_reducible apply Moves.step (State.onsetAt_moves _ _ _ _ _ _ _ _) (by decide)
    | (with_reducible apply Moves.foldl; intro u a))

theorem State.haltWrite_moves (now : Now) (s : State) :
    Moves [.rtc] s (State.haltWrite now s) := by
  unfold State.haltWrite
  repeat' (first
    | with_reducible apply Moves.refl
    | with_reducible apply Moves.ite
    | with_reducible apply Moves.step (State.badWrite_moves _) (by decide)
    | with_reducible apply Moves.step (State.onRtc_moves _ _) (by decide))

theorem State.stepGrids_moves (old : Nat) (new : Nat) (s : State) :
    Moves [.radio] s (State.stepGrids old new s) := by
  unfold State.stepGrids
  repeat' (first
    | with_reducible apply Moves.refl
    | with_reducible apply Moves.ite
    | with_reducible apply Moves.step (State.onRadio_moves _ _) (by decide))

theorem State.applyTime_moves (new : Nat) (source : Nat) (raw : Nat) (s : State) :
    Moves [.queue, .log, .chans, .rtc, .pair, .radio] s (State.applyTime new source raw s) := by
  unfold State.applyTime
  repeat' (first
    | with_reducible apply Moves.refl
    | with_reducible apply Moves.ite
    | with_reducible apply Moves.step (State.event_moves _ _ _ _) (by decide)
    | with_reducible apply Moves.step (State.onCh_moves _ _ _) (by decide)
    | with_reducible apply Moves.step (State.onRtc_moves _ _) (by decide)
    | with_reducible apply Moves.step (State.setOsf_moves _ _) (by decide)
    | with_reducible apply Moves.step (State.stepGrids_moves _ _ _) (by decide)
    | (with_reducible apply Moves.forCh; intro n u))

theorem State.haltClear_moves (now : Now) (s : State) :
    Moves [.queue, .log, .chans, .rtc, .pair, .radio] s (State.haltClear now s) := by
  unfold State.haltClear
  repeat' (first
    | with_reducible apply Moves.refl
    | with_reducible apply Moves.ite
    | with_reducible apply Moves.step (State.applyTime_moves _ _ _ _) (by decide)
    | with_reducible apply Moves.step (State.badWrite_moves _) (by decide)
    | with_reducible apply Moves.step (State.onRtc_moves _ _) (by decide))

theorem State.rtcWrite_moves (ok : Bool) (f : Rtc → Rtc) (s : State) :
    Moves [.rtc] s (State.rtcWrite ok f s) := by
  unfold State.rtcWrite
  repeat' (first
    | with_reducible apply Moves.refl
    | with_reducible apply Moves.ite
    | with_reducible apply Moves.step (State.badWrite_moves _) (by decide)
    | with_reducible apply Moves.step (State.onRtc_moves _ _) (by decide))

theorem State.dateWrite_moves (v : Nat) (s : State) :
    Moves [.rtc] s (State.dateWrite v s) := by
  unfold State.dateWrite
  repeat' (first
    | with_reducible apply Moves.refl
    | with_reducible apply Moves.step (State.rtcWrite_moves _ _ _) (by decide))

theorem State.timeWrite_moves (v : Nat) (s : State) :
    Moves [.rtc] s (State.timeWrite v s) := by
  unfold State.timeWrite
  repeat' (first
    | with_reducible apply Moves.refl
    | with_reducible apply Moves.step (State.rtcWrite_moves _ _ _) (by decide))

theorem State.slewWrite_moves (v : Nat) (s : State) :
    Moves [.rtc] s (State.slewWrite v s) := by
  unfold State.slewWrite
  repeat' (first
    | with_reducible apply Moves.refl
    | with_reducible apply Moves.ite
    | with_reducible apply Moves.step (State.badWrite_moves _) (by decide)
    | with_reducible apply Moves.step (State.onRtc_moves _ _) (by decide))

theorem State.rtcRead_moves (k : Nat) (now : Now) (s : State) :
    Moves [.rtc] s (State.rtcRead k now s).2 := by
  unfold State.rtcRead
  repeat' (first
    | with_reducible apply Moves.refl
    | with_reducible apply Moves.step (State.onRtc_moves _ _) (by decide)
    | split)

end Sys2Proof.Machine
end

