-- ==== Sys2Proof/Laws/SessionMoves.lean ====
section
/-! SUPPORT. What each operation of Session can change. -/

set_option Elab.async false

namespace Sys2Proof.Machine

theorem State.setCtx_moves (k : Nat) (c : Ctx) (s : State) :
    Moves [.sess] s (State.setCtx k c s) := by
  unfold State.setCtx
  repeat' (first
    | with_reducible apply Moves.refl
    | with_reducible apply Moves.step (State.onSess_moves _ _) (by decide))

theorem State.freeCtxs_moves (s : State) :
    Moves [.radio, .sess, .mbus] s (State.freeCtxs s) := by
  unfold State.freeCtxs
  repeat' (first
    | with_reducible apply Moves.refl
    | with_reducible apply Moves.step (State.onMBus_moves _ _) (by decide)
    | with_reducible apply Moves.step (State.onRadio_moves _ _) (by decide)
    | with_reducible apply Moves.step (State.onSess_moves _ _) (by decide))

theorem State.owe_moves (p : Partner) (a : Answer) (s : State) :
    Moves [.radio, .mbus] s (State.owe p a s) := by
  unfold State.owe
  repeat' (first
    | with_reducible apply Moves.refl
    | with_reducible apply Moves.ite
    | with_reducible apply Moves.step (State.onMBus_moves _ _) (by decide)
    | with_reducible apply Moves.step (State.onRadio_moves _ _) (by decide)
    | split
    | (dsimp only; split))

theorem State.forget_moves (k : Nat) (s : State) :
    Moves [.radio, .mbus] s (State.forget k s) := by
  unfold State.forget
  repeat' (first
    | with_reducible apply Moves.refl
    | with_reducible apply Moves.ite
    | with_reducible apply Moves.step (State.onMBus_moves _ _) (by decide)
    | with_reducible apply Moves.step (State.onRadio_moves _ _) (by decide)
    | split
    | (dsimp only; split))

theorem State.takeRequest_moves (ms : Nat) (k : Nat) (p : Partner) (r : Request) (s : State) :
    Moves [.queue, .pair, .radio, .sec, .sess, .mbus] s (State.takeRequest ms k p r s) := by
  unfold State.takeRequest
  repeat' (first
    | with_reducible apply Moves.refl
    | with_reducible apply Moves.ite
    | with_reducible apply Moves.step (State.commitSec_moves _) (by decide)
    | with_reducible apply Moves.step (State.forget_moves _ _) (by decide)
    | with_reducible apply Moves.step (State.onSec_moves _ _) (by decide)
    | with_reducible apply Moves.step (State.onSess_moves _ _) (by decide)
    | with_reducible apply Moves.step (State.owe_moves _ _ _) (by decide)
    | with_reducible apply Moves.step (State.setCtx_moves _ _ _) (by decide))

theorem State.handle_moves (ms : Nat) (p : Partner) (r : Request) (s : State) :
    Moves [.queue, .pair, .radio, .sec, .sess, .mbus] s (State.handle ms p r s) := by
  unfold State.handle
  repeat' (first
    | with_reducible apply Moves.refl
    | with_reducible apply Moves.ite
    | with_reducible apply Moves.step (State.onSess_moves _ _) (by decide)
    | with_reducible apply Moves.step (State.owe_moves _ _ _) (by decide)
    | with_reducible apply Moves.step (State.setCtx_moves _ _ _) (by decide)
    | with_reducible apply Moves.step (State.takeRequest_moves _ _ _ _ _) (by decide)
    | split
    | (dsimp only; split))

theorem State.respond_moves (i : Nat) (key : Nat) (acc : Nat) (cmd : Nat) (result : Nat) (data : List Byte) (s : State) (b : List Byte) (u : State)
    (h : State.respond i key acc cmd result data s = some (b, u)) : Moves [.queue, .pair, .sec] s u := by
  unfold State.respond at h
  split at h
  · cases h
  · exact State.secure_moves _ _ _ _ _ _ _ _ _ _ _ _ h

theorem State.skipResponse_moves (s : State) :
    Moves [.radio] s (State.skipResponse s) := by
  unfold State.skipResponse
  repeat' (first
    | with_reducible apply Moves.refl
    | with_reducible apply Moves.step (State.onRadio_moves _ _) (by decide))

theorem State.answerFrame_moves (ms : Nat) (a : Answer) (s : State) (b : List Byte) (u : State)
    (h : State.answerFrame ms a s = some (b, u)) : Moves [.queue, .pair, .sec, .sess] s u := by
  unfold State.answerFrame at h
  dsimp only at h
  split at h
  · exact (State.respond_moves _ _ _ _ _ _ _ _ _ h).sub (by decide)
  · split at h
    · cases h
      exact (State.setCtx_moves _ _ _).sub (by decide)
    · cases h
      exact Moves.refl _ _
    · exact (State.respond_moves _ _ _ _ _ _ _ _ _ h).sub (by decide)
    · cases h

theorem State.doneCtx_moves (k : Nat) (result : Nat) (data : List Byte) (s : State) :
    Moves [.sess] s (State.doneCtx k result data s) := by
  unfold State.doneCtx
  repeat' (first
    | with_reducible apply Moves.refl
    | with_reducible apply Moves.step (State.setCtx_moves _ _ _) (by decide))

theorem State.floorLanded_moves (k ms : Nat) (s t : State) (h : s.floorLanded k ms = some t) :
    Moves [.hoard, .queue, .marks] s t := by
  unfold State.floorLanded at h
  split at h
  · injection h with e
    exact e ▸ State.drain_moves s
  · cases h

end Sys2Proof.Machine
end

