-- ==== Sys2Proof/Laws/MBusMoves.lean ====
section
/-! SUPPORT. What each operation of MBus can change. -/

set_option Elab.async false

namespace Sys2Proof.Machine

theorem State.busAnswer_moves (bytes : List Byte) (s : State) :
    Moves [.mbus] s (State.busAnswer bytes s) := by
  unfold State.busAnswer
  repeat' (first
    | with_reducible apply Moves.refl
    | with_reducible apply Moves.step (State.onMBus_moves _ _) (by decide))

theorem State.busAck_moves (s : State) :
    Moves [.mbus] s (State.busAck s) := by
  unfold State.busAck
  repeat' (first
    | with_reducible apply Moves.refl
    | with_reducible apply Moves.step (State.busAnswer_moves _ _) (by decide))

theorem State.busFrame_moves (now : Now) (baud : Nat) (s : State) :
    Moves [.pwr, .mbus] s (State.busFrame now baud s) := by
  unfold State.busFrame
  repeat' (first
    | with_reducible apply Moves.refl
    | with_reducible apply Moves.step (State.onMBus_moves _ _) (by decide)
    | with_reducible apply Moves.step (State.onPwr_moves _ _) (by decide))

theorem State.deselect_moves (s : State) :
    Moves [.mbus] s (State.deselect s) := by
  unfold State.deselect
  repeat' (first
    | with_reducible apply Moves.refl
    | with_reducible apply Moves.step (State.onMBus_moves _ _) (by decide))

theorem State.busServe_moves (gs : List Group) (now : Now) (baud : Nat) (f : State → State) (s : State)
    (hg : ([.pwr, .mbus] : List Group).all gs.contains = true) (hf : ∀ t, Moves gs t (f t)) :
    Moves gs s (State.busServe now baud f s) := by
  unfold State.busServe
  dsimp only
  split
  · exact Moves.refl _ s
  · split
    · exact ((State.busFrame_moves now baud s).sub hg).trans (hf _)
    · exact (State.busFrame_moves now baud s).sub hg

theorem State.whenSelected_moves (gs : List Group) (now : Now) (baud : Nat) (f : Nat → State → State) (s : State)
    (hg : ([.pwr, .mbus] : List Group).all gs.contains = true) (hf : ∀ i t, Moves gs t (f i t)) :
    Moves gs s (State.whenSelected now baud f s) := by
  refine State.busServe_moves gs now baud _ s hg fun t => ?_
  split
  · exact Moves.refl _ t
  · exact hf _ t

theorem State.busTelegram_moves (i : Nat) (e : TelegramEntry) (data : List Byte) (s : State) (b : List Byte) (u : State)
    (h : State.busTelegram i e data s = some (b, u)) : Moves [.queue, .pair, .sec] s u := by
  unfold State.busTelegram at h
  rw [Option.map_eq_some_iff] at h
  obtain ⟨p, h1, h2⟩ := h
  cases h2
  exact ((State.secure_moves _ _ _ _ _ _ _ _ _ _ p.1 p.2 h1).sub (by decide)).trans ((State.useAccess_moves _ _).sub (by decide))

theorem State.busFresh_moves (ms : Nat) (i : Nat) (s : State) (b : List Byte) (u : State)
    (h : State.busFresh ms i s = some (b, u)) : Moves [.queue, .pair, .sec, .sess, .mbus] s u := by
  unfold State.busFresh at h
  split at h
  · exact ((State.onMBus_moves s _).sub (by decide)).trans ((State.answerFrame_moves _ _ _ _ _ h).sub (by decide))
  · split at h
    · rw [Option.map_eq_some_iff] at h
      obtain ⟨p, h1, h2⟩ := h
      cases h2
      exact ((State.secure_moves _ _ _ _ _ _ _ _ _ _ p.1 p.2 h1).sub (by decide)).trans
        ((State.useAccess_moves _ _).sub (by decide))
    · split at h
      · exact (State.busTelegram_moves _ _ _ _ _ _ h).sub (by decide)
      · split at h
        · exact (State.busTelegram_moves _ _ _ _ _ _ h).sub (by decide)
        · split at h
          · exact (State.busTelegram_moves _ _ _ _ _ _ h).sub (by decide)
          · cases h

end Sys2Proof.Machine
end

