-- ==== Sys2Proof/Laws/TofSlotMoves.lean ====
section
/-! SUPPORT. What each operation of TofSlot can change. -/

set_option Elab.async false

namespace Sys2Proof.Machine

theorem State.onFlow_moves (n : Nat) (f : Flow → Flow) (s : State) :
    Moves [.chans] s (State.onFlow n f s) := by
  unfold State.onFlow
  repeat' (first
    | with_reducible apply Moves.refl
    | with_reducible apply Moves.step (State.onCh_moves _ _ _) (by decide))

theorem State.request_moves (line : Nat) (s : State) :
    Moves [.dma] s (State.request line s) := by
  unfold State.request
  repeat' (first
    | with_reducible apply Moves.refl
    | with_reducible apply Moves.step (State.onDma_moves _ _) (by decide))

theorem State.exportCapture_moves (n : Nat) (slot : Nat) (dir : Nat) (w0 : Int) (xs : List Int) (r : ShotRes) (tElec : Nat) (s : State) :
    Moves [.chans, .hl, .dma] s (State.exportCapture n slot dir w0 xs r tElec s) := by
  unfold State.exportCapture
  repeat' (first
    | with_reducible apply Moves.refl
    | with_reducible apply Moves.ite
    | with_reducible apply Moves.step (State.onFlow_moves _ _ _) (by decide)
    | with_reducible apply Moves.step (State.onHl_moves _ _) (by decide)
    | with_reducible apply Moves.step (State.request_moves _ _) (by decide)
    | with_reducible apply Moves.step (State.setDc_moves _ _ _) (by decide))

theorem State.fireShot_moves (n : Nat) (slot : Nat) (pair : Nat) (dir : Nat) (shot : Shot) (s : State) :
    Moves [.queue, .log, .chans, .tamper, .pair, .radio, .hl, .dma] s (State.fireShot n slot pair dir shot s).1 := by
  unfold State.fireShot
  try dsimp +zeta only
  repeat' (first
    | with_reducible apply Moves.refl
    | with_reducible apply Moves.step (State.exportCapture_moves _ _ _ _ _ _ _ _) (by decide)
    | with_reducible apply Moves.step (State.putFlow_moves _ _ _ _) (by decide)
    | split)

theorem State.gather_moves (n : Nat) (f : StepAcc → StepAcc) (s : State) :
    Moves [.chans] s (State.gather n f s) := by
  unfold State.gather
  repeat' (first
    | with_reducible apply Moves.refl
    | with_reducible apply Moves.ite
    | with_reducible apply Moves.step (State.onCh_moves _ _ _) (by decide))

theorem State.endPair_moves (n : Nat) (pair : Nat) (x : ShotRes) (y : ShotRes) (s : State) :
    Moves [.queue, .log, .chans, .tamper, .pair, .radio] s (State.endPair n pair x y s) := by
  unfold State.endPair
  repeat' (first
    | with_reducible apply Moves.refl
    | with_reducible apply Moves.ite
    | with_reducible apply Moves.step (State.gather_moves _ _ _) (by decide)
    | with_reducible apply Moves.step (State.onCh_moves _ _ _) (by decide)
    | with_reducible apply Moves.step (State.putFlow_moves _ _ _ _) (by decide)
    | split
    | (dsimp only; split))

end Sys2Proof.Machine
end

