-- ==== Sys2Proof/Laws/ZeroCalMoves.lean ====
section
/-! SUPPORT. What each operation of ZeroCal can change. -/

set_option Elab.async false

namespace Sys2Proof.Machine

theorem State.calBegin_moves (s : State) :
    Moves [.meas, .chans] s (State.calBegin s) := by
  unfold State.calBegin
  repeat' (first
    | with_reducible apply Moves.refl
    | with_reducible apply Moves.ite
    | with_reducible apply Moves.step (State.onCh_moves _ _ _) (by decide)
    | with_reducible apply Moves.step (State.onMeas_moves _ _) (by decide)
    | (with_reducible apply Moves.forCh; intro n u))

theorem State.calResult_moves (n : Nat) (result : Nat) (s : State) :
    Moves [.queue, .log, .chans, .tamper, .pair, .radio] s (State.calResult n result s) := by
  unfold State.calResult
  repeat' (first
    | with_reducible apply Moves.refl
    | with_reducible apply Moves.ite
    | with_reducible apply Moves.step (State.enqueue_moves _ _) (by decide)
    | with_reducible apply Moves.step (State.event_moves _ _ _ _) (by decide)
    | with_reducible apply Moves.step (State.onCh_moves _ _ _) (by decide)
    | with_reducible apply Moves.step (State.putFlow_moves _ _ _ _) (by decide))

theorem State.calOver_moves (s : State) :
    Moves [.meas] s (State.calOver s) := by
  unfold State.calOver
  repeat' (first
    | with_reducible apply Moves.refl
    | with_reducible apply Moves.step (State.onMeas_moves _ _) (by decide))

theorem State.calAbort_moves (s : State) :
    Moves [.queue, .log, .meas, .chans, .tamper, .pair, .radio] s (State.calAbort s) := by
  unfold State.calAbort
  repeat' (first
    | with_reducible apply Moves.refl
    | with_reducible apply Moves.ite
    | with_reducible apply Moves.step (State.calOver_moves _) (by decide)
    | with_reducible apply Moves.step (State.calResult_moves _ _ _) (by decide)
    | (with_reducible apply Moves.forCh; intro n u))

end Sys2Proof.Machine
end

