-- ==== Sys2Proof/Laws/MemMapMoves.lean ====
section
/-! SUPPORT. What each operation of MemMap can change. -/

set_option Elab.async false

namespace Sys2Proof.Machine

theorem State.mapRead_moves (a : Nat) (n : Nat) (reader : Nat) (s : State) :
    Moves [.flt, .free] s (State.mapRead a n reader s).2 := by
  unfold State.mapRead
  repeat' (first
    | with_reducible apply Moves.refl
    | with_reducible apply Moves.step (State.sramRead_moves _ _ _ _) (by decide)
    | with_reducible apply Moves.step (State.draw_moves _) (by decide)
    | with_reducible apply Moves.step (State.hoardRead_moves _ _ _ _) (by decide)
    | split)

end Sys2Proof.Machine
end

