-- ==== Sys2Proof/Laws/DmaMoves.lean ====
section
/-! SUPPORT. What each operation of Dma can change. -/

set_option Elab.async false

namespace Sys2Proof.Machine

theorem State.dmaRaise_moves (mask : Nat) (s : State) :
    Moves [.dma] s (State.dmaRaise mask s) := by
  unfold State.dmaRaise
  repeat' (first
    | with_reducible apply Moves.refl
    | with_reducible apply Moves.step (State.onDma_moves _ _) (by decide))

theorem State.dmaFail_moves (k : Nat) (code : Nat) (insn : Nat) (s : State) :
    Moves [.dma] s (State.dmaFail k code insn s) := by
  unfold State.dmaFail
  repeat' (first
    | with_reducible apply Moves.refl
    | with_reducible apply Moves.ite
    | with_reducible apply Moves.step (State.dmaRaise_moves _ _) (by decide)
    | with_reducible apply Moves.step (State.onDma_moves _ _) (by decide)
    | with_reducible apply Moves.step (State.setDc_moves _ _ _) (by decide))

theorem State.dmaGoto_moves (k : Nat) (pc : Nat) (s : State) :
    Moves [.dma] s (State.dmaGoto k pc s) := by
  unfold State.dmaGoto
  repeat' (first
    | with_reducible apply Moves.refl
    | with_reducible apply Moves.ite
    | with_reducible apply Moves.step (State.dmaFail_moves _ _ _ _) (by decide)
    | with_reducible apply Moves.step (State.setDc_moves _ _ _) (by decide))

theorem State.dmaBegin_moves (k : Nat) (pc : Nat) (s : State) :
    Moves [.dma] s (State.dmaBegin k pc s) := by
  unfold State.dmaBegin
  repeat' (first
    | with_reducible apply Moves.refl
    | with_reducible apply Moves.step (State.dmaGoto_moves _ _ _) (by decide)
    | with_reducible apply Moves.step (State.setDc_moves _ _ _) (by decide))

theorem State.dmaHandOver_moves (k : Nat) (s : State) :
    Moves [.dma] s (State.dmaHandOver k s) := by
  unfold State.dmaHandOver
  repeat' (first
    | with_reducible apply Moves.refl
    | with_reducible apply Moves.step (State.dmaBegin_moves _ _ _) (by decide)
    | with_reducible apply Moves.step (State.setDc_moves _ _ _) (by decide)
    | split
    | (dsimp only; split))

theorem State.dmaBoundary_moves (k : Nat) (s : State) :
    Moves [.dma] s (State.dmaBoundary k s) := by
  unfold State.dmaBoundary
  repeat' (first
    | with_reducible apply Moves.refl
    | with_reducible apply Moves.ite
    | with_reducible apply Moves.step (State.dmaFail_moves _ _ _ _) (by decide)
    | with_reducible apply Moves.step (State.dmaHandOver_moves _ _) (by decide)
    | with_reducible apply Moves.step (State.dmaRaise_moves _ _) (by decide)
    | with_reducible apply Moves.step (State.setDc_moves _ _ _) (by decide))

theorem State.dmaEvent_moves (ev : Nat) (s : State) :
    Moves [.dma] s (State.dmaEvent ev s) := by
  unfold State.dmaEvent
  repeat' (first
    | with_reducible apply Moves.refl
    | with_reducible apply Moves.ite
    | with_reducible apply Moves.step (State.setDc_moves _ _ _) (by decide)
    | (with_reducible apply Moves.foldl; intro u a))

theorem State.dmaRun_moves (gs : List Group) (k op : Nat) (f : List Nat → State → State) (s t : State)
    (hg : ([.flt, .dma] : List Group).all gs.contains = true) (hf : ∀ w u, Moves gs u (f w u))
    (h : State.dmaRun k op f s = .next t) : Moves gs s t := by
  unfold State.dmaRun at h
  dsimp only at h
  split at h
  · cases h
  · split at h
    · cases h
      exact Moves.refl _ s
    · split at h
      · cases h
        exact ((State.sramRead_moves _ _ _ s).sub (by simp_all)).trans ((State.dmaFail_moves _ _ _ _).sub (by simp_all))
      · split at h
        · cases h
          exact (State.dmaFail_moves _ _ _ s).sub (by simp_all)
        · split at h
          · cases h
            exact hf _ s
          · cases h
            exact Moves.refl _ s

theorem State.runMove_moves (k : Nat) (w : List Nat) (s : State) :
    Moves [.dma] s (State.runMove k w s) := by
  unfold State.runMove
  repeat' (first
    | with_reducible apply Moves.refl
    | with_reducible apply Moves.ite
    | with_reducible apply Moves.step (State.dmaFail_moves _ _ _ _) (by decide)
    | with_reducible apply Moves.step (State.setDc_moves _ _ _) (by decide))

theorem State.runLoop_moves (k : Nat) (w : List Nat) (s : State) :
    Moves [.dma] s (State.runLoop k w s) := by
  unfold State.runLoop
  repeat' (first
    | with_reducible apply Moves.refl
    | with_reducible apply Moves.ite
    | with_reducible apply Moves.step (State.dmaBoundary_moves _ _) (by decide)
    | with_reducible apply Moves.step (State.dmaFail_moves _ _ _ _) (by decide)
    | with_reducible apply Moves.step (State.dmaGoto_moves _ _ _) (by decide)
    | with_reducible apply Moves.step (State.setDc_moves _ _ _) (by decide))

theorem State.runWait_moves (k : Nat) (w : List Nat) (s : State) :
    Moves [.dma] s (State.runWait k w s) := by
  unfold State.runWait
  repeat' (first
    | with_reducible apply Moves.refl
    | with_reducible apply Moves.ite
    | with_reducible apply Moves.step (State.dmaBoundary_moves _ _) (by decide)
    | with_reducible apply Moves.step (State.dmaFail_moves _ _ _ _) (by decide)
    | with_reducible apply Moves.step (State.setDc_moves _ _ _) (by decide))

theorem State.publish_moves (n : Nat) (k : Nat) (s : State) :
    Moves [.chans, .hl] s (State.publish n k s) := by
  unfold State.publish
  repeat' (first
    | with_reducible apply Moves.refl
    | with_reducible apply Moves.ite
    | with_reducible apply Moves.step (State.onFlow_moves _ _ _) (by decide)
    | with_reducible apply Moves.step (State.onHl_moves _ _) (by decide))

theorem State.transferLanded_moves (k : Nat) (a : Nat) (s : State) :
    Moves [.chans, .hl, .dma] s (State.transferLanded k a s) := by
  unfold State.transferLanded
  repeat' (first
    | with_reducible apply Moves.refl
    | with_reducible apply Moves.ite
    | with_reducible apply Moves.step (State.publish_moves _ _ _) (by decide)
    | with_reducible apply Moves.step (State.setDc_moves _ _ _) (by decide)
    | split
    | (dsimp only; split))

theorem State.confirm_moves (k : Nat) (ack : Bool) (s : State) :
    Moves [.chans, .hl, .dma] s (State.confirm k ack s).2 := by
  unfold State.confirm
  try dsimp +zeta only
  repeat' (first
    | with_reducible apply Moves.refl
    | with_reducible apply Moves.step (State.setDc_moves _ _ _) (by decide)
    | with_reducible apply Moves.step (State.transferLanded_moves _ _ _) (by decide)
    | split)

theorem State.confirmed_moves (gs : List Group) (k : Nat) (ack : Bool) (f : State → State) (s : State) (hg : ([.chans, .hl, .dma] : List Group).all gs.contains = true) (hf : ∀ t, Moves gs t (f t)) :
    Moves gs s (State.confirmed k ack f s) := by
  have hd : ([.dma] : List Group).all gs.contains = true := by simp_all
  have hc := (State.confirm_moves k ack s).sub hg
  unfold State.confirmed
  split
  · rename_i h
    rw [h] at hc
    exact hc.trans (hf _)
  · rename_i h
    rw [h] at hc
    exact hc
  · rename_i h
    rw [h] at hc
    exact hc.trans ((State.dmaFail_moves _ _ _ _).sub hd)

theorem State.runSignal_moves (k : Nat) (ack : Bool) (w : List Nat) (s : State) :
    Moves [.chans, .hl, .dma] s (State.runSignal k ack w s) := by
  unfold State.runSignal
  repeat' (first
    | with_reducible apply Moves.refl
    | with_reducible apply Moves.ite
    | with_reducible apply Moves.step (State.dmaFail_moves _ _ _ _) (by decide)
    | with_reducible apply Moves.step (State.dmaEvent_moves _ _) (by decide)
    | with_reducible refine Moves.trans ?_ (State.confirmed_moves _ _ _ _ _ (by decide) (fun t => ?_))
    | with_reducible apply Moves.step (State.dmaGoto_moves _ _ _) (by decide)
    | with_reducible apply Moves.step (State.dmaRaise_moves _ _) (by decide)
    | with_reducible apply Moves.step (State.dmaBoundary_moves _ _) (by decide))

theorem State.dmaStore_moves (a : Nat) (v : Nat) (s : State) :
    Moves [.hoard, .sram, .marks] s (State.dmaStore a v s) := by
  unfold State.dmaStore
  repeat' (first
    | with_reducible apply Moves.refl
    | with_reducible apply Moves.ite
    | with_reducible apply Moves.step (State.scratchWrite_moves _ _ _) (by decide)
    | with_reducible apply Moves.step (State.sramWrite_moves _ _ _) (by decide))

theorem State.lineService_moves (row : Nat) (s : State) :
    Moves [.dma] s (State.lineService row s) := by
  unfold State.lineService
  repeat' (first
    | with_reducible apply Moves.refl
    | with_reducible apply Moves.ite
    | with_reducible apply Moves.step (State.request_moves _ _) (by decide)
    | with_reducible apply Moves.step (State.setDc_moves _ _ _) (by decide)
    | split
    | (dsimp only; split))

theorem State.endService_moves (k : Nat) (s : State) :
    Moves [.dma] s (State.endService k s) := by
  unfold State.endService
  repeat' (first
    | with_reducible apply Moves.refl
    | with_reducible apply Moves.ite
    | with_reducible apply Moves.step (State.lineService_moves _ _) (by decide)
    | with_reducible apply Moves.step (State.onDma_moves _ _) (by decide)
    | with_reducible apply Moves.step (State.setDc_moves _ _ _) (by decide)
    | split
    | (dsimp only; split))

theorem State.finish_moves (k : Nat) (next : Nat) (chain : Bool) (s : State) :
    Moves [.dma] s (State.finish k next chain s) := by
  unfold State.finish
  repeat' (first
    | with_reducible apply Moves.refl
    | with_reducible apply Moves.ite
    | with_reducible apply Moves.step (State.dmaBoundary_moves _ _) (by decide)
    | with_reducible apply Moves.step (State.dmaGoto_moves _ _ _) (by decide)
    | with_reducible apply Moves.step (State.dmaRaise_moves _ _) (by decide)
    | with_reducible apply Moves.step (State.endService_moves _ _) (by decide)
    | with_reducible apply Moves.step (State.setDc_moves _ _ _) (by decide))

theorem State.runEnd_moves (k : Nat) (ack : Bool) (w : List Nat) (s : State) :
    Moves [.hoard, .sram, .marks, .chans, .hl, .dma] s (State.runEnd k ack w s) := by
  unfold State.runEnd
  repeat' (first
    | with_reducible apply Moves.refl
    | with_reducible apply Moves.ite
    | with_reducible apply Moves.step (State.finish_moves _ _ _ _) (by decide)
    | with_reducible apply Moves.step (State.dmaFail_moves _ _ _ _) (by decide)
    | with_reducible apply Moves.step (State.dmaStore_moves _ _ _) (by decide)
    | with_reducible refine Moves.trans ?_ (State.confirmed_moves _ _ _ _ _ (by decide) (fun t => ?_))
    | split)

theorem State.dmaLoad_moves (k : Nat) (m : MoveRun) (s : State) :
    Moves [.flt, .dma, .free] s (State.dmaLoad k m s).2 := by
  unfold State.dmaLoad
  try dsimp +zeta only
  repeat' (first
    | with_reducible apply Moves.refl
    | with_reducible apply Moves.step (State.draw_moves _) (by decide)
    | with_reducible apply Moves.step (State.setDc_moves _ _ _) (by decide)
    | with_reducible apply Moves.step (State.mapRead_moves _ _ _ _) (by decide)
    | split)

theorem State.dmaPut_moves (k : Nat) (m : MoveRun) (v : Nat) (s : State) :
    Moves [.hoard, .sram, .queue, .marks, .pair, .dma] s (State.dmaPut k m v s) := by
  unfold State.dmaPut
  repeat' (first
    | with_reducible apply Moves.refl
    | with_reducible apply Moves.ite
    | with_reducible apply Moves.step (State.dmaStore_moves _ _ _) (by decide)
    | with_reducible apply Moves.step (State.enqueue_moves _ _) (by decide)
    | with_reducible apply Moves.step (State.setDc_moves _ _ _) (by decide))

theorem State.dmaWords_moves (n : Nat) (k : Nat) (s : State) :
    Moves [.hoard, .sram, .queue, .marks, .flt, .pair, .dma, .free] s (State.dmaWords n k s) := by
  induction n generalizing s with
  | zero => exact Moves.refl _ s
  | succ j ih =>
    simp only [State.dmaWords]
    split
    · exact Moves.refl _ s
    · split
      · exact ((State.mapRead_moves _ _ _ s).sub (by decide)).trans ((State.dmaFail_moves _ _ _ _).sub (by decide))
      · exact ((State.dmaLoad_moves _ _ s).sub (by decide)).trans (((State.dmaPut_moves _ _ _ _).sub (by decide)).trans
          (((State.setDc_moves _ _ _).sub (by decide)).trans (ih _)))

theorem State.dmaBurstOf_moves (k : Nat) (s : State) :
    Moves [.hoard, .sram, .queue, .marks, .flt, .pair, .dma, .free] s (State.dmaBurstOf k s) := by
  unfold State.dmaBurstOf
  repeat' (first
    | with_reducible apply Moves.refl
    | with_reducible apply Moves.ite
    | with_reducible apply Moves.step (State.dmaBoundary_moves _ _) (by decide)
    | with_reducible apply Moves.step (State.dmaGoto_moves _ _ _) (by decide)
    | with_reducible apply Moves.step (State.dmaWords_moves _ _ _) (by decide)
    | with_reducible apply Moves.step (State.onDma_moves _ _) (by decide)
    | split
    | (dsimp only; split))

theorem State.dmaStart_moves (k : Nat) (s : State) :
    Moves [.dma] s (State.dmaStart k s) := by
  unfold State.dmaStart
  repeat' (first
    | with_reducible apply Moves.refl
    | with_reducible apply Moves.ite
    | with_reducible apply Moves.step (State.dmaBegin_moves _ _ _) (by decide)
    | with_reducible apply Moves.step (State.setDc_moves _ _ _) (by decide)
    | split
    | (dsimp only; split))

theorem State.dmaCtrlWrite_moves (k : Nat) (v : Nat) (s : State) :
    Moves [.dma] s (State.dmaCtrlWrite k v s) := by
  unfold State.dmaCtrlWrite
  repeat' (first
    | with_reducible apply Moves.refl
    | with_reducible apply Moves.ite
    | with_reducible apply Moves.step (State.dmaBoundary_moves _ _) (by decide)
    | with_reducible apply Moves.step (State.setDc_moves _ _ _) (by decide))

theorem State.dmaStopWrite_moves (v : Nat) (s : State) :
    Moves [.dma] s (State.dmaStopWrite v s) := by
  unfold State.dmaStopWrite
  repeat' (first
    | with_reducible apply Moves.refl
    | with_reducible apply Moves.ite
    | with_reducible apply Moves.step (State.dmaBoundary_moves _ _) (by decide)
    | with_reducible apply Moves.step (State.setDc_moves _ _ _) (by decide)
    | (with_reducible apply Moves.foldl; intro u a))

theorem State.dmaStopAll_moves (s : State) :
    Moves [.dma] s (State.dmaStopAll s) := by
  unfold State.dmaStopAll
  repeat' (first
    | with_reducible apply Moves.refl
    | with_reducible apply Moves.step (State.onDma_moves _ _) (by decide))

theorem State.dmaStartAll_moves (s : State) :
    Moves [.dma] s (State.dmaStartAll s) := by
  unfold State.dmaStartAll
  repeat' (first
    | with_reducible apply Moves.refl
    | with_reducible apply Moves.step (State.dmaStart_moves _ _) (by decide)
    | (with_reducible apply Moves.foldl; intro u a))

theorem State.dmaLinkReset_moves (s : State) :
    Moves [.dma] s (State.dmaLinkReset s) := by
  unfold State.dmaLinkReset
  repeat' (first
    | with_reducible apply Moves.refl
    | with_reducible apply Moves.ite
    | with_reducible apply Moves.step (State.setDc_moves _ _ _) (by decide)
    | (with_reducible apply Moves.foldl; intro u a))

end Sys2Proof.Machine
end

