-- ==== Sys2Proof/Laws/ComposeMoves.lean ====
section
/-! SUPPORT. What each operation of Compose can change. -/

set_option Elab.async false

namespace Sys2Proof.Machine

theorem State.renderArea_moves (x : Nat) (y : Nat) (w : Nat) (h : Nat) (f : Nat → Nat → Nat) (s : State) :
    Moves [.sram, .marks] s (State.renderArea x y w h f s) := by
  unfold State.renderArea
  repeat' (first
    | with_reducible apply Moves.refl
    | with_reducible apply Moves.step (State.sramWrite_moves _ _ _) (by decide)
    | (with_reducible apply Moves.foldl; intro u a))

theorem State.copyArea_moves (x : Nat) (y : Nat) (w : Nat) (h : Nat) (s : State) :
    Moves [.sram, .marks] s (State.copyArea x y w h s) := by
  unfold State.copyArea
  repeat' (first
    | with_reducible apply Moves.refl
    | with_reducible apply Moves.step (State.sramWrite_moves _ _ _) (by decide)
    | (with_reducible apply Moves.foldl; intro u a))

theorem State.renderRegion_moves (d : DisplayCfg) (k : Nat) (r : Nat) (s : State) :
    Moves [.sram, .marks] s (State.renderRegion d k r s) := by
  unfold State.renderRegion
  repeat' (first
    | with_reducible apply Moves.refl
    | with_reducible apply Moves.step (State.renderArea_moves _ _ _ _ _ _) (by decide)
    | split
    | (dsimp only; split))

theorem State.renderRom_moves (d : DisplayCfg) (id : Nat) (s : State) :
    Moves [.sram, .marks] s (State.renderRom d id s) := by
  unfold State.renderRom
  repeat' (first
    | with_reducible apply Moves.refl
    | with_reducible apply Moves.step (State.renderArea_moves _ _ _ _ _ _) (by decide))

end Sys2Proof.Machine
end

