-- ==== Sys2Proof/Laws/DisplayMoves.lean ====
section
/-! SUPPORT. What each operation of Display can change. -/

set_option Elab.async false

namespace Sys2Proof.Machine

theorem State.dispRaise_moves (mask : Nat) (s : State) :
    Moves [.disp] s (State.dispRaise mask s) := by
  unfold State.dispRaise
  repeat' (first
    | with_reducible apply Moves.refl
    | with_reducible apply Moves.step (State.onDisp_moves _ _) (by decide))

theorem State.commitDirty_moves (flags : Nat) (s : State) :
    Moves [.queue, .pair] s (State.commitDirty flags s) := by
  unfold State.commitDirty
  repeat' (first
    | with_reducible apply Moves.refl
    | with_reducible apply Moves.step (State.enqueue_moves _ _) (by decide))

theorem State.noteText_moves (c : DisplayCfg) (t : Target) (s : State) :
    Moves [.disp] s (State.noteText c t s) := by
  unfold State.noteText
  repeat' (first
    | with_reducible apply Moves.refl
    | with_reducible apply Moves.ite
    | with_reducible apply Moves.step (State.onDisp_moves _ _) (by decide)
    | split
    | (dsimp only; split))

theorem State.renderTarget_moves (c : DisplayCfg) (t : Target) (s : State) :
    Moves [.sram, .marks, .disp] s (State.renderTarget c t s) := by
  unfold State.renderTarget
  repeat' (first
    | with_reducible apply Moves.refl
    | with_reducible apply Moves.ite
    | with_reducible apply Moves.step (State.noteText_moves _ _ _) (by decide)
    | with_reducible apply Moves.step (State.renderRegion_moves _ _ _ _) (by decide)
    | with_reducible apply Moves.step (State.renderRom_moves _ _ _) (by decide)
    | (with_reducible apply Moves.foldl; intro u a)
    | split
    | (dsimp only; split))

theorem State.ask_moves (u : Update) (s : State) :
    Moves [.disp] s (State.ask u s) := by
  unfold State.ask
  repeat' (first
    | with_reducible apply Moves.refl
    | with_reducible apply Moves.step (State.onDisp_moves _ _) (by decide))

theorem State.decideOne_moves (c : DisplayCfg) (ms : Nat) (u : Update) (s : State) :
    Moves [.disp] s (State.decideOne c ms u s) := by
  unfold State.decideOne
  repeat' (first
    | with_reducible apply Moves.refl
    | with_reducible apply Moves.ite
    | with_reducible apply Moves.step (State.dispRaise_moves _ _) (by decide)
    | with_reducible apply Moves.step (State.noteText_moves _ _ _) (by decide)
    | with_reducible apply Moves.step (State.onDisp_moves _ _) (by decide))

theorem State.renderNext_moves (c : DisplayCfg) (s : State) :
    Moves [.sram, .marks, .disp] s (State.renderNext c s) := by
  unfold State.renderNext
  repeat' (first
    | with_reducible apply Moves.refl
    | with_reducible apply Moves.step (State.onDisp_moves _ _) (by decide)
    | with_reducible apply Moves.step (State.renderTarget_moves _ _ _) (by decide)
    | (with_reducible apply Moves.foldl; intro u a)
    | split
    | (dsimp only; split))

theorem State.decideHeld_moves (c : DisplayCfg) (ms : Nat) (s : State) :
    Moves [.disp] s (State.decideHeld c ms s) := by
  unfold State.decideHeld
  repeat' (first
    | with_reducible apply Moves.refl
    | with_reducible apply Moves.step (State.decideOne_moves _ _ _ _) (by decide)
    | (with_reducible apply Moves.foldl; intro u a))

theorem State.decideIfOff_moves (c : DisplayCfg) (ms : Nat) (s : State) :
    Moves [.sram, .marks, .disp] s (State.decideIfOff c ms s) := by
  unfold State.decideIfOff
  repeat' (first
    | with_reducible apply Moves.refl
    | with_reducible apply Moves.ite
    | with_reducible apply Moves.step (State.decideHeld_moves _ _ _) (by decide)
    | with_reducible apply Moves.step (State.renderNext_moves _ _) (by decide))

theorem State.compareRegions_moves (c : DisplayCfg) (why : Why) (s : State) :
    Moves [.disp] s (State.compareRegions c why s) := by
  unfold State.compareRegions
  repeat' (first
    | with_reducible apply Moves.refl
    | with_reducible apply Moves.ite
    | with_reducible apply Moves.step (State.ask_moves _ _) (by decide)
    | with_reducible apply Moves.step (State.onDisp_moves _ _) (by decide)
    | (with_reducible apply Moves.foldl; intro u a))

theorem State.composerRead_moves (c : DisplayCfg) (s : State) :
    Moves [.flt, .disp] s (State.composerRead c s) := by
  unfold State.composerRead
  repeat' (first
    | with_reducible apply Moves.refl
    | with_reducible apply Moves.ite
    | with_reducible apply Moves.step (State.sramRead_moves _ _ _ _) (by decide)
    | with_reducible apply Moves.step (State.onDisp_moves _ _) (by decide))

theorem State.refreshDue_moves (ms : Nat) (s : State) :
    Moves [.disp] s (State.refreshDue ms s) := by
  unfold State.refreshDue
  repeat' (first
    | with_reducible apply Moves.refl
    | with_reducible apply Moves.ite
    | with_reducible apply Moves.step (State.ask_moves _ _) (by decide)
    | with_reducible apply Moves.step (State.onDisp_moves _ _) (by decide)
    | split
    | (dsimp only; split))

theorem State.showRom_moves (id : Nat) (ms : Nat) (s : State) :
    Moves [.disp] s (State.showRom id ms s) := by
  unfold State.showRom
  repeat' (first
    | with_reducible apply Moves.refl
    | with_reducible apply Moves.ite
    | with_reducible apply Moves.step (State.ask_moves _ _) (by decide)
    | with_reducible apply Moves.step (State.onDisp_moves _ _) (by decide))

theorem State.underrun_moves (c : DisplayCfg) (rows : List Nat) (s : State) :
    Moves [.queue, .pair, .disp] s (State.underrun c rows s) := by
  unfold State.underrun
  repeat' (first
    | with_reducible apply Moves.refl
    | with_reducible apply Moves.ite
    | with_reducible apply Moves.step (State.commitDirty_moves _ _) (by decide)
    | with_reducible apply Moves.step (State.dispRaise_moves _ _) (by decide)
    | with_reducible apply Moves.step (State.onDisp_moves _ _) (by decide)
    | (with_reducible apply Moves.foldl; intro u a)
    | split
    | (dsimp only; split))

theorem State.updateDone_moves (c : DisplayCfg) (ms : Nat) (u : Update) (s : State) :
    Moves [.sram, .queue, .marks, .pair, .disp] s (State.updateDone c ms u s) := by
  unfold State.updateDone
  repeat' (first
    | with_reducible apply Moves.refl
    | with_reducible apply Moves.step (State.commitDirty_moves _ _) (by decide)
    | with_reducible apply Moves.step (State.copyArea_moves _ _ _ _ _) (by decide)
    | with_reducible apply Moves.step (State.dispRaise_moves _ _) (by decide)
    | with_reducible apply Moves.step (State.onDisp_moves _ _) (by decide)
    | split
    | (dsimp only; split))

theorem State.advanceUpdates_moves (c : DisplayCfg) (ms : Nat) (s : State) :
    Moves [.sram, .queue, .marks, .pair, .disp] s (State.advanceUpdates c ms s) := by
  unfold State.advanceUpdates
  repeat' (first
    | with_reducible apply Moves.refl
    | with_reducible apply Moves.ite
    | with_reducible apply Moves.step (State.onDisp_moves _ _) (by decide)
    | with_reducible apply Moves.step (State.updateDone_moves _ _ _ _) (by decide)
    | (with_reducible apply Moves.foldl; intro u a))

theorem State.startUpdates_moves (c : DisplayCfg) (ms : Nat) (s : State) :
    Moves [.disp] s (State.startUpdates c ms s) := by
  unfold State.startUpdates
  repeat' (first
    | with_reducible apply Moves.refl
    | with_reducible apply Moves.ite
    | with_reducible apply Moves.step (State.onDisp_moves _ _) (by decide)
    | split
    | (dsimp only; split))

theorem State.nextFrame_moves (ms : Nat) (s : State) :
    Moves [.dma, .disp] s (State.nextFrame ms s) := by
  unfold State.nextFrame
  repeat' (first
    | with_reducible apply Moves.refl
    | with_reducible apply Moves.ite
    | with_reducible apply Moves.step (State.lineService_moves _ _) (by decide)
    | with_reducible apply Moves.step (State.onDisp_moves _ _) (by decide)
    | with_reducible apply Moves.step (State.onDma_moves _ _) (by decide)
    | with_reducible apply Moves.step (State.setDc_moves _ _ _) (by decide))

theorem State.dispGiveUp_moves (panel : PanelPhase) (flags : Nat) (s : State) :
    Moves [.queue, .pair, .disp] s (State.dispGiveUp panel flags s) := by
  unfold State.dispGiveUp
  repeat' (first
    | with_reducible apply Moves.refl
    | with_reducible apply Moves.ite
    | with_reducible apply Moves.step (State.commitDirty_moves _ _) (by decide)
    | with_reducible apply Moves.step (State.dispRaise_moves _ _) (by decide)
    | with_reducible apply Moves.step (State.onDisp_moves _ _) (by decide)
    | (with_reducible apply Moves.foldl; intro u a)
    | split
    | (dsimp only; split))

theorem State.dispFrameOut_moves (ms : Nat) (s : State) :
    Moves [.sram, .queue, .marks, .pair, .disp] s (State.dispFrameOut ms s) := by
  unfold State.dispFrameOut
  repeat' (first
    | with_reducible apply Moves.refl
    | with_reducible apply Moves.ite
    | with_reducible apply Moves.step (State.advanceUpdates_moves _ _ _) (by decide)
    | split
    | (dsimp only; split))

theorem State.dispEnd_moves (panel : PanelPhase) (flags : Nat) (s : State) :
    Moves [.queue, .pair, .disp] s (State.dispEnd panel flags s) := by
  unfold State.dispEnd
  repeat' (first
    | with_reducible apply Moves.refl
    | with_reducible apply Moves.step (State.dispGiveUp_moves _ _ _) (by decide)
    | with_reducible apply Moves.step (State.onDisp_moves _ _) (by decide))

theorem State.dispStop_moves (ms : Nat) (s : State) :
    Moves [.queue, .pair, .disp] s (State.dispStop ms s) := by
  unfold State.dispStop
  repeat' (first
    | with_reducible apply Moves.refl
    | with_reducible apply Moves.step (State.dispEnd_moves _ _ _) (by decide))

theorem State.dispPowerFail_moves (ms : Nat) (bad : Bool) (s : State) :
    Moves [.sram, .queue, .marks, .pair, .disp] s (State.dispPowerFail ms bad s) := by
  unfold State.dispPowerFail
  repeat' (first
    | with_reducible apply Moves.refl
    | with_reducible apply Moves.ite
    | with_reducible apply Moves.step (State.dispEnd_moves _ _ _) (by decide)
    | with_reducible apply Moves.step (State.dispFrameOut_moves _ _) (by decide))

theorem State.dispActive_moves (takeover : Bool) (s : State) :
    Moves [.disp] s (State.dispActive takeover s) := by
  unfold State.dispActive
  repeat' (first
    | with_reducible apply Moves.refl
    | with_reducible apply Moves.ite
    | with_reducible apply Moves.step (State.compareRegions_moves _ _ _) (by decide)
    | with_reducible apply Moves.step (State.onDisp_moves _ _) (by decide)
    | split
    | (dsimp only; split))

end Sys2Proof.Machine
end

