-- ==== Sys2Proof/Laws/LoadMoves.lean ====
section
/-! SUPPORT. What each operation of Load can change. -/

set_option Elab.async false

namespace Sys2Proof.Machine

theorem State.lostRec_moves (addr : Nat) (mark : Flt → Flt) (s : State) :
    Moves [.queue, .flt, .log, .pair, .radio] s (State.lostRec addr mark s) := by
  unfold State.lostRec
  repeat' (first
    | with_reducible apply Moves.refl
    | with_reducible apply Moves.step (State.event_moves _ _ _ _) (by decide)
    | with_reducible apply Moves.step (State.onFlt_moves _ _) (by decide))

theorem State.loadRec_moves (a : Nat) (mark : Flt → Flt) (s : State) :
    Moves [.queue, .flt, .log, .pair, .radio] s (State.loadRec a mark s).2.2 := by
  unfold State.loadRec
  try dsimp +zeta only
  repeat' (first
    | with_reducible apply Moves.refl
    | with_reducible apply Moves.step (State.lostRec_moves _ _ _) (by decide)
    | with_reducible apply Moves.step (State.hoardRead_moves _ _ _ _) (by decide)
    | split)

theorem State.commitPair_moves (s : State) :
    Moves [.queue, .pair] s (State.commitPair s) := by
  unfold State.commitPair
  repeat' (first
    | with_reducible apply Moves.refl
    | with_reducible apply Moves.step (State.enqueue_moves _ _) (by decide))

theorem State.reportLost_moves (addrs : List Nat) (valid : Mem → Nat → Bool) (s : State) :
    Moves [.queue, .flt, .log, .pair, .radio] s (State.reportLost addrs valid s) := by
  unfold State.reportLost
  repeat' (first
    | with_reducible apply Moves.refl
    | with_reducible apply Moves.step (State.lostRec_moves _ _ _) (by decide)
    | (with_reducible apply Moves.foldl; intro u a))

theorem State.primeChan_moves (n : Nat) (w : Work) (lost : Bool) (cal : Option Cal) (ring : List (Nat × Nat)) (snap : Snap) (s : State) :
    Moves [.queue, .log, .chans, .tamper, .pair, .radio] s (State.primeChan n w lost cal ring snap s) := by
  unfold State.primeChan
  repeat' (first
    | with_reducible apply Moves.refl
    | with_reducible apply Moves.ite
    | with_reducible apply Moves.step (State.calResult_moves _ _ _) (by decide)
    | with_reducible apply Moves.step (State.evalRange_moves _ _ _) (by decide)
    | with_reducible apply Moves.step (State.setCh_moves _ _ _) (by decide))

theorem State.loadChan_moves (n : Nat) (s : State) :
    Moves [.queue, .flt, .log, .chans, .tamper, .pair, .radio] s (State.loadChan n s) := by
  unfold State.loadChan
  repeat' (first
    | with_reducible apply Moves.refl
    | with_reducible apply Moves.step (State.loadRec_moves _ _ _) (by decide)
    | with_reducible apply Moves.step (State.primeChan_moves _ _ _ _ _ _ _) (by decide)
    | with_reducible apply Moves.step (State.reportLost_moves _ _ _) (by decide)
    | split
    | (dsimp only; split))

theorem State.loadModule_moves (s : State) :
    Moves [.queue, .flt, .log, .img, .pair, .radio] s (State.loadModule s) := by
  unfold State.loadModule
  repeat' (first
    | with_reducible apply Moves.refl
    | with_reducible apply Moves.step (State.loadRec_moves _ _ _) (by decide)
    | with_reducible apply Moves.step (State.onImg_moves _ _) (by decide)
    | split
    | (dsimp only; split))

theorem State.loadSecurity_moves (s : State) :
    Moves [.hoard, .queue, .marks, .flt, .log, .pair, .radio, .sec] s (State.loadSecurity s) := by
  unfold State.loadSecurity
  repeat' (first
    | with_reducible apply Moves.refl
    | with_reducible apply Moves.ite
    | with_reducible apply Moves.step (State.commitSec_moves _) (by decide)
    | with_reducible apply Moves.step (State.drain_moves _) (by decide)
    | with_reducible apply Moves.step (State.loadRec_moves _ _ _) (by decide)
    | with_reducible apply Moves.step (State.onSec_moves _ _) (by decide)
    | with_reducible apply Moves.step (State.startCounters_moves _) (by decide))

theorem State.loadPair_moves (s : State) :
    Moves [.queue, .flt, .log, .pair, .radio] s (State.loadPair s) := by
  unfold State.loadPair
  repeat' (first
    | with_reducible apply Moves.refl
    | with_reducible apply Moves.step (State.loadRec_moves _ _ _) (by decide)
    | with_reducible apply Moves.step (State.onPair_moves _ _) (by decide)
    | split
    | (dsimp only; split))

theorem State.loadDisplay_moves (s : State) :
    Moves [.queue, .flt, .log, .pair, .radio, .disp] s (State.loadDisplay s) := by
  unfold State.loadDisplay
  repeat' (first
    | with_reducible apply Moves.refl
    | with_reducible apply Moves.ite
    | with_reducible apply Moves.step (State.loadRec_moves _ _ _) (by decide)
    | with_reducible apply Moves.step (State.onDisp_moves _ _) (by decide)
    | split
    | (dsimp only; split))

theorem State.loadCharge_moves (s : State) :
    Moves [.queue, .flt, .log, .pwr, .pair, .radio] s (State.loadCharge s) := by
  unfold State.loadCharge
  repeat' (first
    | with_reducible apply Moves.refl
    | with_reducible apply Moves.ite
    | with_reducible apply Moves.step (State.loadRec_moves _ _ _) (by decide)
    | with_reducible apply Moves.step (State.onPwr_moves _ _) (by decide)
    | split
    | (dsimp only; split))

theorem State.loadFreeze_moves (s : State) :
    Moves [.queue, .flt, .log, .pair, .radio] s (State.loadFreeze s) := by
  unfold State.loadFreeze
  try dsimp +zeta only
  repeat' (first
    | with_reducible apply Moves.refl
    | with_reducible apply Moves.step (State.loadRec_moves _ _ _) (by decide)
    | with_reducible apply Moves.step (State.enqueue_moves _ _) (by decide)
    | split)

theorem State.loadLog_moves (s : State) :
    Moves [.log] s (State.loadLog s) := by
  unfold State.loadLog
  repeat' (first
    | with_reducible apply Moves.refl
    | with_reducible apply Moves.ite
    | with_reducible apply Moves.step (State.onLog_moves _ _) (by decide))

theorem State.loadRecords_moves (s : State) :
    Moves [.hoard, .queue, .marks, .flt, .log, .pair, .radio, .sec, .disp] s (State.loadRecords s) := by
  unfold State.loadRecords
  repeat' (first
    | with_reducible apply Moves.refl
    | with_reducible apply Moves.step (State.loadDisplay_moves _) (by decide)
    | with_reducible apply Moves.step (State.loadFreeze_moves _) (by decide)
    | with_reducible apply Moves.step (State.loadPair_moves _) (by decide)
    | with_reducible apply Moves.step (State.loadSecurity_moves _) (by decide)
    | with_reducible apply Moves.step (State.reportLost_moves _ _ _) (by decide))

theorem State.startTariffs_moves (s : State) :
    Moves [.chans] s (State.startTariffs s) := by
  unfold State.startTariffs
  repeat' (first
    | with_reducible apply Moves.refl
    | with_reducible apply Moves.step (State.onCh_moves _ _ _) (by decide)
    | (with_reducible apply Moves.forCh; intro n u))

theorem State.loadChans_moves (s : State) :
    Moves [.queue, .flt, .log, .chans, .bridge, .tamper, .pair, .radio] s (State.loadChans s) := by
  unfold State.loadChans
  repeat' (first
    | with_reducible apply Moves.refl
    | with_reducible apply Moves.step (State.loadChan_moves _ _) (by decide)
    | with_reducible apply Moves.step (State.onBridge_moves _ _) (by decide)
    | (with_reducible apply Moves.foldl; intro u a)
    | (with_reducible apply Moves.forCh; intro n u))

end Sys2Proof.Machine
end

