-- ==== Sys2Proof/Laws/PairMoves.lean ====
section
/-! SUPPORT. What each operation of Pair can change. -/

set_option Elab.async false

namespace Sys2Proof.Machine

theorem Mem.clearRecord_frame (m : Mem) (a : Nat) :
    (m.clearRecord a).sram = m.sram ∧ (m.clearRecord a).queue = m.queue ∧
      (m.hoard.wf = true → (m.clearRecord a).hoard.wf = true) := by
  unfold Mem.clearRecord
  split
  · exact ⟨by rw [Mem.writeWord_sram, Mem.writeWord_sram], by rw [Mem.writeWord_queue, Mem.writeWord_queue],
      fun h => Mem.writeWord_wf _ _ (Mem.writeWord_wf _ _ h)⟩
  · exact ⟨Mem.writeWord_sram _ _, Mem.writeWord_queue _ _, Mem.writeWord_wf _ _⟩

theorem State.clearRecord_moves (a : Nat) (s : State) :
    Moves [.hoard, .marks] s (s.onMem fun m => m.clearRecord a) := by
  obtain ⟨h1, h2, h3⟩ := s.mem.clearRecord_frame a
  refine ⟨fun g hg => ?_, fun m => ⟨h3 m.1, (congrArg Memory.wf h1).trans m.2⟩⟩
  cases g <;> first | rfl | exact h1 | exact h2 | exact absurd (by simp) hg

theorem State.mirRaise_moves (mask : Nat) (s : State) :
    Moves [.pair] s (State.mirRaise mask s) := by
  unfold State.mirRaise
  repeat' (first
    | with_reducible apply Moves.refl
    | with_reducible apply Moves.step (State.onPair_moves _ _) (by decide))

theorem State.abandonSwitch_moves (cause : Nat) (s : State) :
    Moves [.queue, .log, .pair, .radio] s (State.abandonSwitch cause s) := by
  unfold State.abandonSwitch
  repeat' (first
    | with_reducible apply Moves.refl
    | with_reducible apply Moves.ite
    | with_reducible apply Moves.step (State.event_moves _ _ _ _) (by decide)
    | with_reducible apply Moves.step (State.mirRaise_moves _ _) (by decide)
    | with_reducible apply Moves.step (State.onPair_moves _ _) (by decide))

theorem State.unpair_moves (s : State) :
    Moves [.queue, .log, .pair, .radio] s (State.unpair s) := by
  unfold State.unpair
  repeat' (first
    | with_reducible apply Moves.refl
    | with_reducible apply Moves.ite
    | with_reducible apply Moves.step (State.abandonSwitch_moves _ _) (by decide)
    | with_reducible apply Moves.step (State.mirRaise_moves _ _) (by decide)
    | with_reducible apply Moves.step (State.onPair_moves _ _) (by decide))

theorem State.linkFaultBegin_moves (cause : Nat) (s : State) :
    Moves [.queue, .log, .pair, .radio] s (State.linkFaultBegin cause s) := by
  unfold State.linkFaultBegin
  repeat' (first
    | with_reducible apply Moves.refl
    | with_reducible apply Moves.ite
    | with_reducible apply Moves.step (State.mirRaise_moves _ _) (by decide)
    | with_reducible apply Moves.step (State.onPair_moves _ _) (by decide)
    | with_reducible apply Moves.step (State.onset_moves _ _ _ _ _) (by decide)
    | with_reducible apply Moves.step (State.unpair_moves _) (by decide))

theorem State.pumpSync_moves (n : Nat) (s : State) :
    Moves [.pair] s (State.pumpSync n s) := by
  induction n generalizing s with
  | zero => exact Moves.refl _ s
  | succ k ih =>
    simp only [State.pumpSync]
    split
    · exact Moves.refl _ s
    · split
      · exact (State.onPair_moves s _).trans (State.onPair_moves _ _)
      · refine Moves.trans ?_ (ih _)
        refine Moves.trans ?_ (State.onPair_moves _ _)
        split
        · exact (State.onPair_moves s _).trans (State.onPair_moves _ _)
        · exact State.onPair_moves s _

theorem State.sync_moves (s : State) :
    Moves [.pair] s (State.sync s) := by
  unfold State.sync
  repeat' (first
    | with_reducible apply Moves.refl
    | with_reducible apply Moves.ite
    | with_reducible apply Moves.step (State.onPair_moves _ _) (by decide)
    | with_reducible apply Moves.step (State.pumpSync_moves _ _) (by decide)
    | (with_reducible apply Moves.foldl; intro u a))

theorem State.pairReady_moves (ms : Nat) (s : State) :
    Moves [.queue, .log, .pair, .radio] s (State.pairReady ms s) := by
  unfold State.pairReady
  repeat' (first
    | with_reducible apply Moves.refl
    | with_reducible apply Moves.step (State.event_moves _ _ _ _) (by decide)
    | with_reducible apply Moves.step (State.mirRaise_moves _ _) (by decide)
    | with_reducible apply Moves.step (State.onPair_moves _ _) (by decide))

theorem State.declare_moves (kind : Nat) (s : State) :
    Moves [.queue, .rtc, .pair, .radio, .sess, .mbus] s (State.declare kind s) := by
  unfold State.declare
  repeat' (first
    | with_reducible apply Moves.refl
    | with_reducible apply Moves.ite
    | with_reducible apply Moves.step (State.commitPair_moves _) (by decide)
    | with_reducible apply Moves.step (State.freeCtxs_moves _) (by decide)
    | with_reducible apply Moves.step (State.onPair_moves _ _) (by decide)
    | with_reducible apply Moves.step (State.onRtc_moves _ _) (by decide))

theorem State.beginActive_moves (kind : Nat) (s : State) :
    Moves [.hoard, .queue, .marks, .log, .pwr, .chans, .bridge, .tamper, .pair, .radio, .sec, .disp] s (State.beginActive kind s) := by
  unfold State.beginActive
  repeat' (first
    | with_reducible apply Moves.refl
    | with_reducible apply Moves.ite
    | with_reducible apply Moves.step (State.dispActive_moves _ _) (by decide)
    | with_reducible apply Moves.step (State.drain_moves _) (by decide)
    | with_reducible apply Moves.step (State.event_moves _ _ _ _) (by decide)
    | with_reducible apply Moves.step (State.mirRaise_moves _ _) (by decide)
    | with_reducible apply Moves.step (State.missedPulses_moves _) (by decide)
    | with_reducible apply Moves.step (State.onCh_moves _ _ _) (by decide)
    | with_reducible apply Moves.step (State.onPair_moves _ _) (by decide)
    | with_reducible apply Moves.step (State.onPwr_moves _ _) (by decide)
    | with_reducible apply Moves.step (State.onSec_moves _ _) (by decide)
    | with_reducible apply Moves.step (State.primeChan_moves _ _ _ _ _ _ _) (by decide)
    | with_reducible apply Moves.step (State.resumeValves_moves _) (by decide)
    | with_reducible apply Moves.step (State.startCounters_moves _) (by decide)
    | (with_reducible apply Moves.foldl; intro u a))

theorem State.silence_moves (s : State) :
    Moves [.radio, .mbus] s (State.silence s) := by
  unfold State.silence
  repeat' (first
    | with_reducible apply Moves.refl
    | with_reducible apply Moves.step (State.onMBus_moves _ _) (by decide)
    | with_reducible apply Moves.step (State.onRadio_moves _ _) (by decide))

theorem State.endTest_moves (s : State) :
    Moves [.meas] s (State.endTest s) := by
  unfold State.endTest
  repeat' (first
    | with_reducible apply Moves.refl
    | with_reducible apply Moves.step (State.onMeas_moves _ _) (by decide))

theorem State.demote_moves (ms : Nat) (s : State) :
    Moves [.queue, .log, .meas, .chans, .outs, .bridge, .tamper, .pair, .radio, .sess, .mbus, .disp] s (State.demote ms s) := by
  unfold State.demote
  repeat' (first
    | with_reducible apply Moves.refl
    | with_reducible apply Moves.step (State.calAbort_moves _) (by decide)
    | with_reducible apply Moves.step (State.dispStop_moves _ _) (by decide)
    | with_reducible apply Moves.step (State.dropPulses_moves _ _) (by decide)
    | with_reducible apply Moves.step (State.endTest_moves _) (by decide)
    | with_reducible apply Moves.step (State.freeCtxs_moves _) (by decide)
    | with_reducible apply Moves.step (State.interruptMove_moves _ _ _) (by decide)
    | with_reducible apply Moves.step (State.mirRaise_moves _ _) (by decide)
    | with_reducible apply Moves.step (State.onBridge_moves _ _) (by decide)
    | with_reducible apply Moves.step (State.onPair_moves _ _) (by decide)
    | with_reducible apply Moves.step (State.silence_moves _) (by decide))

theorem State.goFailSilent_moves (cause : Nat) (ms : Nat) (s : State) :
    Moves [.queue, .log, .pwr, .meas, .chans, .outs, .bridge, .tamper, .pair, .radio, .mbus, .disp] s (State.goFailSilent cause ms s) := by
  unfold State.goFailSilent
  repeat' (first
    | with_reducible apply Moves.refl
    | with_reducible apply Moves.ite
    | with_reducible apply Moves.step (State.calAbort_moves _) (by decide)
    | with_reducible apply Moves.step (State.dispStop_moves _ _) (by decide)
    | with_reducible apply Moves.step (State.dropPulses_moves _ _) (by decide)
    | with_reducible apply Moves.step (State.endTest_moves _) (by decide)
    | with_reducible apply Moves.step (State.event_moves _ _ _ _) (by decide)
    | with_reducible apply Moves.step (State.interruptMove_moves _ _ _) (by decide)
    | with_reducible apply Moves.step (State.onPair_moves _ _) (by decide)
    | with_reducible apply Moves.step (State.onPwr_moves _ _) (by decide)
    | with_reducible apply Moves.step (State.silence_moves _) (by decide))

theorem State.noteFlags_moves (ms : Nat) (f : PeerFrame) (s : State) :
    Moves [.pair] s (State.noteFlags ms f s) := by
  unfold State.noteFlags
  repeat' (first
    | with_reducible apply Moves.refl
    | with_reducible apply Moves.ite
    | with_reducible apply Moves.step (State.onPair_moves _ _) (by decide))

theorem State.takeAck_moves (ms : Nat) (ack : Nat) (s : State) :
    Moves [.queue, .log, .pair, .radio, .sec] s (State.takeAck ms ack s) := by
  unfold State.takeAck
  repeat' (first
    | with_reducible apply Moves.refl
    | with_reducible apply Moves.ite
    | with_reducible apply Moves.step (State.onPair_moves _ _) (by decide)
    | with_reducible apply Moves.step (State.onSec_moves _ _) (by decide)
    | with_reducible apply Moves.step (State.pairReady_moves _ _) (by decide)
    | with_reducible apply Moves.step (State.sync_moves _) (by decide)
    | (with_reducible apply Moves.foldl; intro u a)
    | split
    | (dsimp only; split))

theorem State.offLink_moves (s : State) :
    Moves [.pwr] s (State.offLink s) := by
  unfold State.offLink
  repeat' (first
    | with_reducible apply Moves.refl
    | with_reducible apply Moves.ite
    | with_reducible apply Moves.step (State.raiseWake_moves _ _) (by decide))

theorem State.sendAgain_moves (seq : Nat) (s : State) :
    Moves [.pair] s (State.sendAgain seq s) := by
  unfold State.sendAgain
  split
  · exact Moves.refl _ s
  · exact State.onPair_moves _ _

theorem State.askMissing_moves (seq : Nat) (s : State) :
    Moves [.pair] s (State.askMissing seq s) := by
  unfold State.askMissing
  dsimp +zeta only
  repeat' (first
    | with_reducible apply Moves.refl
    | with_reducible apply Moves.ite
    | with_reducible apply Moves.step (State.onPair_moves _ _) (by decide))

theorem State.noteAck_moves (s : State) :
    Moves [.pair] s (State.noteAck s) := by
  unfold State.noteAck
  repeat' (first
    | with_reducible apply Moves.refl
    | with_reducible apply Moves.ite
    | with_reducible apply Moves.step (State.onPair_moves _ _) (by decide))

theorem State.takeInOrder_moves (gs : List Group) (f : MovorFrame → State → State) (n : Nat) (m : MovorFrame) (s : State)
    (hg : ([.pair] : List Group).all gs.contains = true) (hf : ∀ x t, Moves gs t (f x t)) :
    Moves gs s (State.takeInOrder f n m s) := by
  induction n generalizing m s with
  | zero => exact (((State.onPair_moves s _).sub hg).trans (hf _ _)).trans ((State.noteAck_moves _).sub hg)
  | succ k ih =>
    simp only [State.takeInOrder]
    split
    · exact (((State.onPair_moves s _).sub hg).trans (hf _ _)).trans ((State.noteAck_moves _).sub hg)
    · exact ((((State.onPair_moves s _).sub hg).trans (hf _ _)).trans ((State.noteAck_moves _).sub hg)).trans
        (((State.onPair_moves _ _).sub hg).trans (ih _ _))

theorem State.receive_moves (gs : List Group) (f : MovorFrame → State → State) (type : Nat) (now : Now) (p : PeerFrame) (s : State)
    (hg : ([.queue, .log, .pwr, .pair, .radio, .sec] : List Group).all gs.contains = true) (hf : ∀ x t, Moves gs t (f x t)) :
    Moves gs s (State.receive f type now p s) := by
  have hp : ([.pair] : List Group).all gs.contains = true := by simp_all
  unfold State.receive
  dsimp +zeta only
  split
  · exact (State.offLink_moves s).sub (by simp_all)
  · have h1 := (State.noteFlags_moves now.ms p s).sub (hs := gs) (by simp_all)
    split
    · exact h1
    · have h2 := h1.trans ((State.takeAck_moves now.ms p.ack _).sub (hs := gs) (by simp_all))
      split
      · exact h2
      · split
        · exact h2.trans (State.takeInOrder_moves gs f _ _ _ hp hf)
        · have h3 := h2.trans ((State.askMissing_moves p.seq _).sub (hs := gs) (by simp_all))
          split
          · exact h3
          · exact h3.trans ((State.onPair_moves _ _).sub hp)

theorem State.takeHeartbeat_moves (raw : Nat) (d : List Byte) (s : State) :
    Moves [.pwr, .meas, .rtc, .pair] s (State.takeHeartbeat raw d s) := by
  unfold State.takeHeartbeat
  repeat' (first
    | with_reducible apply Moves.refl
    | with_reducible apply Moves.ite
    | with_reducible apply Moves.step (State.onMeas_moves _ _) (by decide)
    | with_reducible apply Moves.step (State.onPair_moves _ _) (by decide)
    | with_reducible apply Moves.step (State.onPwr_moves _ _) (by decide)
    | with_reducible apply Moves.step (State.onRtc_moves _ _) (by decide))

theorem State.absorb_moves (a : Nat) (d : List Byte) (s : State) :
    Moves [.log, .img, .chans, .pair, .sec] s (State.absorb a d s) := by
  unfold State.absorb
  repeat' (first
    | with_reducible apply Moves.refl
    | with_reducible apply Moves.ite
    | with_reducible apply Moves.step (State.onCh_moves _ _ _) (by decide)
    | with_reducible apply Moves.step (State.onImg_moves _ _) (by decide)
    | with_reducible apply Moves.step (State.onLog_moves _ _) (by decide)
    | with_reducible apply Moves.step (State.onPair_moves _ _) (by decide)
    | with_reducible apply Moves.step (State.onSec_moves _ _) (by decide))

theorem State.pfGot_moves (a : Nat) (s : State) :
    Moves [.pair] s (State.pfGot a s) := by
  unfold State.pfGot
  repeat' (first
    | with_reducible apply Moves.refl
    | with_reducible apply Moves.ite
    | with_reducible apply Moves.step (State.onPair_moves _ _) (by decide))

theorem State.takeRecord_moves (d : List Byte) (s : State) :
    Moves [.hoard, .queue, .marks, .log, .img, .chans, .pair, .sec] s (State.takeRecord d s) := by
  unfold State.takeRecord
  dsimp +zeta only
  split
  · exact Moves.refl _ s
  · split
    · split
      · exact ((State.drain_moves s).sub (by decide)).trans ((State.clearRecord_moves _ _).sub (by decide))
      · exact Moves.refl _ s
    · have h := (Moves.queue s fun m => m.queue ++ [s.arrivedRec (fieldAt d 0 3) (d.drop 4)]).sub
        (hs := [.hoard, .queue, .marks, .log, .img, .chans, .pair, .sec]) (by decide)
      have k := (h.trans ((State.absorb_moves (fieldAt d 0 3) (d.drop 4) _).sub (by decide))).trans
        ((State.pfGot_moves (fieldAt d 0 3) _).sub (by decide))
      split
      · exact k.trans ((State.drain_moves _).sub (by decide))
      · exact k

theorem State.takeRing_moves (d : List Byte) (s : State) :
    Moves [.chans] s (State.takeRing d s) := by
  unfold State.takeRing
  repeat' (first
    | with_reducible apply Moves.refl
    | with_reducible apply Moves.ite
    | with_reducible apply Moves.step (State.onCh_moves _ _ _) (by decide))

theorem State.takePowerFail_moves (ms : Nat) (s : State) :
    Moves [.queue, .log, .pair, .radio] s (State.takePowerFail ms s) := by
  unfold State.takePowerFail
  repeat' (first
    | with_reducible apply Moves.refl
    | with_reducible apply Moves.ite
    | with_reducible apply Moves.step (State.abandonSwitch_moves _ _) (by decide)
    | with_reducible apply Moves.step (State.mirRaise_moves _ _) (by decide)
    | with_reducible apply Moves.step (State.onPair_moves _ _) (by decide))

theorem State.takeSwitch_moves (d : List Byte) (s : State) :
    Moves [.pair] s (State.takeSwitch d s) := by
  unfold State.takeSwitch
  repeat' (first
    | with_reducible apply Moves.refl
    | with_reducible apply Moves.ite
    | with_reducible apply Moves.step (State.onPair_moves _ _) (by decide))

theorem State.takeSwitchDone_moves (d : List Byte) (s : State) :
    Moves [.pair] s (State.takeSwitchDone d s) := by
  unfold State.takeSwitchDone
  repeat' (first
    | with_reducible apply Moves.refl
    | with_reducible apply Moves.step (State.onPair_moves _ _) (by decide))

theorem State.takePeerEvent_moves (d : List Byte) (s : State) :
    Moves [.queue, .log, .pair, .radio] s (State.takePeerEvent d s) := by
  unfold State.takePeerEvent
  repeat' (first
    | with_reducible apply Moves.refl
    | with_reducible apply Moves.ite
    | with_reducible apply Moves.step (State.event_moves _ _ _ _) (by decide))

theorem State.takeSyncEnd_moves (ms : Nat) (s : State) :
    Moves [.queue, .log, .pair, .radio] s (State.takeSyncEnd ms s) := by
  unfold State.takeSyncEnd
  repeat' (first
    | with_reducible apply Moves.refl
    | with_reducible apply Moves.ite
    | with_reducible apply Moves.step (State.pairReady_moves _ _) (by decide))

theorem State.takeContent_moves (now : Now) (m : MovorFrame) (s : State) :
    Moves [.hoard, .queue, .marks, .log, .pwr, .img, .meas, .chans, .rtc, .pair, .radio, .sec] s (State.takeContent now m s) := by
  unfold State.takeContent
  repeat' (first
    | with_reducible apply Moves.refl
    | with_reducible apply Moves.step (State.takeHeartbeat_moves _ _ _) (by decide)
    | with_reducible apply Moves.step (State.takePeerEvent_moves _ _) (by decide)
    | with_reducible apply Moves.step (State.takePowerFail_moves _ _) (by decide)
    | with_reducible apply Moves.step (State.takeRecord_moves _ _) (by decide)
    | with_reducible apply Moves.step (State.takeRing_moves _ _) (by decide)
    | with_reducible apply Moves.step (State.takeSwitchDone_moves _ _) (by decide)
    | with_reducible apply Moves.step (State.takeSwitch_moves _ _) (by decide)
    | with_reducible apply Moves.step (State.takeSyncEnd_moves _ _) (by decide)
    | split
    | (dsimp only; split))

theorem State.sendPeerEvents_moves (s : State) :
    Moves [.pair] s (State.sendPeerEvents s) := by
  unfold State.sendPeerEvents
  repeat' (first
    | with_reducible apply Moves.refl
    | with_reducible apply Moves.step (State.onPair_moves _ _) (by decide)
    | (with_reducible apply Moves.foldl; intro u a))

theorem State.pairUp_moves (now : Now) (frame : PeerFrame) (s : State) :
    Moves [.queue, .log, .rtc, .pair, .radio, .sess, .mbus] s (State.pairUp now frame s) := by
  unfold State.pairUp
  repeat' (first
    | with_reducible apply Moves.refl
    | with_reducible apply Moves.ite
    | with_reducible apply Moves.step (State.declare_moves _ _) (by decide)
    | with_reducible apply Moves.step (State.ending_moves _ _ _ _ _) (by decide)
    | with_reducible apply Moves.step (State.onPair_moves _ _) (by decide)
    | with_reducible apply Moves.step (State.sendPeerEvents_moves _) (by decide))

theorem State.jumpCounters_moves (s : State) :
    Moves [.queue, .pair, .sec] s (State.jumpCounters s) := by
  unfold State.jumpCounters
  repeat' (first
    | with_reducible apply Moves.refl
    | with_reducible apply Moves.step (State.commitSec_moves _) (by decide)
    | with_reducible apply Moves.step (State.onSec_moves _ _) (by decide))

theorem State.handOver_moves (ms : Nat) (upsets : List (Nat × Upset)) (s : State) :
    Moves [.queue, .flt, .log, .meas, .chans, .outs, .bridge, .tamper, .pair, .radio, .sess, .mbus, .disp] s (State.handOver ms upsets s) := by
  unfold State.handOver
  repeat' (first
    | with_reducible apply Moves.refl
    | with_reducible apply Moves.step (State.closeAll_moves _ _ _ _ _) (by decide)
    | with_reducible apply Moves.step (State.demote_moves _ _) (by decide)
    | with_reducible apply Moves.step (State.mirRaise_moves _ _) (by decide)
    | with_reducible apply Moves.step (State.onPair_moves _ _) (by decide)
    | with_reducible apply Moves.step (State.setOut_moves _ _ _) (by decide)
    | (with_reducible apply Moves.forCh; intro n u))

theorem State.pairTick_moves (s : State) :
    Moves [.hoard, .queue, .marks, .log, .pwr, .chans, .bridge, .tamper, .rtc, .pair, .radio, .sec, .sess, .mbus, .disp] s (State.pairTick s) := by
  unfold State.pairTick
  repeat' (first
    | with_reducible apply Moves.refl
    | with_reducible apply Moves.ite
    | with_reducible apply Moves.step (State.beginActive_moves _ _) (by decide)
    | with_reducible apply Moves.step (State.declare_moves _ _) (by decide)
    | split
    | (dsimp only; split))

end Sys2Proof.Machine
end

