-- ==== Sys2Proof/Laws/TamperMoves.lean ====
section
/-! SUPPORT. What each operation of Tamper can change. -/

set_option Elab.async false

namespace Sys2Proof.Machine

theorem State.tamperRaise_moves (mask : Nat) (s : State) :
    Moves [.tamper] s (State.tamperRaise mask s) := by
  unfold State.tamperRaise
  repeat' (first
    | with_reducible apply Moves.refl
    | with_reducible apply Moves.step (State.onTamper_moves _ _) (by decide))

theorem State.transferLatch_moves (s : State) :
    Moves [.queue, .log, .tamper, .pair, .radio] s (State.transferLatch s) := by
  unfold State.transferLatch
  repeat' (first
    | with_reducible apply Moves.refl
    | with_reducible apply Moves.ite
    | with_reducible apply Moves.step (State.endAt_moves _ _ _ _ _ _ _) (by decide)
    | with_reducible apply Moves.step (State.onTamper_moves _ _) (by decide)
    | with_reducible apply Moves.step (State.onsetAt_moves _ _ _ _ _ _ _ _) (by decide)
    | (with_reducible apply Moves.foldl; intro u a))

theorem State.sampleCard_moves (out : Bool) (s : State) :
    Moves [.queue, .log, .img, .tamper, .pair, .radio] s (State.sampleCard out s) := by
  unfold State.sampleCard
  repeat' (first
    | with_reducible apply Moves.refl
    | with_reducible apply Moves.ite
    | with_reducible apply Moves.step (State.change_moves _ _ _ _ _ _ _) (by decide)
    | with_reducible apply Moves.step (State.onImg_moves _ _) (by decide)
    | with_reducible apply Moves.step (State.onTamper_moves _ _) (by decide)
    | with_reducible apply Moves.step (State.tamperRaise_moves _ _) (by decide))

theorem State.firstTamper_moves (cover : Bool) (tcover : Bool) (s : State) :
    Moves [.queue, .log, .tamper, .pair, .radio] s (State.firstTamper cover tcover s) := by
  unfold State.firstTamper
  repeat' (first
    | with_reducible apply Moves.refl
    | with_reducible apply Moves.ite
    | with_reducible apply Moves.step (State.onTamper_moves _ _) (by decide)
    | with_reducible apply Moves.step (State.onsetAt_moves _ _ _ _ _ _ _ _) (by decide))

theorem State.reportCable_moves (s : State) :
    Moves [.queue, .log, .tamper, .pair, .radio] s (State.reportCable s) := by
  unfold State.reportCable
  repeat' (first
    | with_reducible apply Moves.refl
    | with_reducible apply Moves.ite
    | with_reducible apply Moves.step (State.linkFaultBegin_moves _ _) (by decide)
    | with_reducible apply Moves.step (State.onPair_moves _ _) (by decide)
    | with_reducible apply Moves.step (State.onTamper_moves _ _) (by decide)
    | with_reducible apply Moves.step (State.onset_moves _ _ _ _ _) (by decide)
    | with_reducible apply Moves.step (State.tamperRaise_moves _ _) (by decide))

end Sys2Proof.Machine
end

