-- ==== Sys2Proof/Laws/PowerMoves.lean ====
section
/-! SUPPORT. What each operation of Power can change. -/

set_option Elab.async false

namespace Sys2Proof.Machine

theorem State.supplies_moves (sup : Supplies) (s : State) :
    Moves [.pwr] s (State.supplies sup s) := by
  unfold State.supplies
  repeat' (first
    | with_reducible apply Moves.refl
    | with_reducible apply Moves.ite
    | with_reducible apply Moves.step (State.onPwr_moves _ _) (by decide))

theorem State.pwrRaise_moves (mask : Nat) (s : State) :
    Moves [.pwr] s (State.pwrRaise mask s) := by
  unfold State.pwrRaise
  repeat' (first
    | with_reducible apply Moves.refl
    | with_reducible apply Moves.step (State.onPwr_moves _ _) (by decide))

theorem State.enterState_moves (st : PowerState) (ms : Nat) (s : State) :
    Moves [.pwr] s (State.enterState st ms s) := by
  unfold State.enterState
  repeat' (first
    | with_reducible apply Moves.refl
    | with_reducible apply Moves.step (State.onPwr_moves _ _) (by decide))

theorem State.pfRadio_moves (ms : Nat) (storeBad : Bool) (s : State) :
    Moves [.pwr, .radio] s (State.pfRadio ms storeBad s) := by
  unfold State.pfRadio
  repeat' (first
    | with_reducible apply Moves.refl
    | with_reducible apply Moves.ite
    | with_reducible apply Moves.step (State.discardQueue_moves _) (by decide)
    | with_reducible apply Moves.step (State.onRadio_moves _ _) (by decide)
    | with_reducible apply Moves.step (State.pwrRaise_moves _ _) (by decide))

theorem State.dropPairs_moves (s : State) :
    Moves [.chans] s (State.dropPairs s) := by
  unfold State.dropPairs
  repeat' (first
    | with_reducible apply Moves.refl
    | with_reducible apply Moves.step (State.onCh_moves _ _ _) (by decide)
    | (with_reducible apply Moves.forCh; intro n u))

theorem State.pfBegin_moves (now : Now) (_sup : Supplies) (s : State) :
    Moves [.sram, .queue, .marks, .log, .pwr, .meas, .chans, .bridge, .tamper, .rtc, .pair, .radio, .disp] s (State.pfBegin now _sup s) := by
  unfold State.pfBegin
  repeat' (first
    | with_reducible apply Moves.refl
    | with_reducible apply Moves.ite
    | with_reducible apply Moves.step (State.abandonSwitch_moves _ _) (by decide)
    | with_reducible apply Moves.step (State.calAbort_moves _) (by decide)
    | with_reducible apply Moves.step (State.dispPowerFail_moves _ _ _) (by decide)
    | with_reducible apply Moves.step (State.dropPairs_moves _) (by decide)
    | with_reducible apply Moves.step (State.event_moves _ _ _ _) (by decide)
    | with_reducible apply Moves.step (State.interruptMove_moves _ _ _) (by decide)
    | with_reducible apply Moves.step (State.onPwr_moves _ _) (by decide)
    | with_reducible apply Moves.step (State.onRtc_moves _ _) (by decide)
    | with_reducible apply Moves.step (State.pfRadio_moves _ _ _) (by decide))

theorem State.vbusLost_moves (now : Now) (sup : Supplies) (s : State) :
    Moves [.sram, .queue, .marks, .log, .pwr, .meas, .chans, .bridge, .tamper, .rtc, .pair, .radio, .disp] s (State.vbusLost now sup s) := by
  unfold State.vbusLost
  repeat' (first
    | with_reducible apply Moves.refl
    | with_reducible apply Moves.ite
    | with_reducible apply Moves.step (State.enterState_moves _ _ _) (by decide)
    | with_reducible apply Moves.step (State.event_moves _ _ _ _) (by decide)
    | with_reducible apply Moves.step (State.formSigs_moves _ _) (by decide)
    | with_reducible apply Moves.step (State.onPwr_moves _ _) (by decide)
    | with_reducible apply Moves.step (State.pfBegin_moves _ _ _) (by decide))

theorem State.handOwed_moves (s : State) :
    Moves [.queue, .chans, .pair] s (State.handOwed s) := by
  unfold State.handOwed
  repeat' (first
    | with_reducible apply Moves.refl
    | with_reducible apply Moves.step (State.commitStep_moves _ _ _ _) (by decide)
    | (with_reducible apply Moves.forCh; intro n u))

theorem State.clearHeld_moves (s : State) :
    Moves [.chans] s (State.clearHeld s) := by
  unfold State.clearHeld
  repeat' (first
    | with_reducible apply Moves.refl
    | with_reducible apply Moves.step (State.onCh_moves _ _ _) (by decide)
    | (with_reducible apply Moves.forCh; intro n u))

theorem State.holdMark_moves (s : State) :
    Moves [.queue, .log, .pwr, .pair, .radio] s (State.holdMark s) := by
  unfold State.holdMark
  repeat' (first
    | with_reducible apply Moves.refl
    | with_reducible apply Moves.ite
    | with_reducible apply Moves.step (State.onPwr_moves _ _) (by decide)
    | with_reducible apply Moves.step (State.onset_moves _ _ _ _ _) (by decide)
    | with_reducible apply Moves.step (State.pwrRaise_moves _ _) (by decide))

theorem State.gridsEnd_moves (s : State) :
    Moves [.radio] s (State.gridsEnd s) := by
  unfold State.gridsEnd
  repeat' (first
    | with_reducible apply Moves.refl
    | with_reducible apply Moves.step (State.onRadio_moves _ _) (by decide))

theorem State.enterHold_moves (s : State) :
    Moves [.queue, .log, .pwr, .outs, .pair, .radio] s (State.enterHold s) := by
  unfold State.enterHold
  repeat' (first
    | with_reducible apply Moves.refl
    | with_reducible apply Moves.step (State.discardQueue_moves _) (by decide)
    | with_reducible apply Moves.step (State.dropPulses_moves _ _) (by decide)
    | with_reducible apply Moves.step (State.gridsEnd_moves _) (by decide)
    | with_reducible apply Moves.step (State.holdMark_moves _) (by decide)
    | with_reducible apply Moves.step (State.onPwr_moves _ _) (by decide)
    | with_reducible apply Moves.step (State.onRadio_moves _ _) (by decide))

theorem State.holdEnd_moves (s : State) :
    Moves [.queue, .log, .pwr, .pair] s (State.holdEnd s) := by
  unfold State.holdEnd
  repeat' (first
    | with_reducible apply Moves.refl
    | with_reducible apply Moves.ite
    | with_reducible apply Moves.step (State.ending_moves _ _ _ _ _) (by decide)
    | with_reducible apply Moves.step (State.onPwr_moves _ _) (by decide))

theorem State.pfHandOver_moves (ms : Nat) (s : State) :
    Moves [.queue, .log, .meas, .chans, .outs, .bridge, .tamper, .pair, .radio, .sess, .mbus, .disp] s (State.pfHandOver ms s) := by
  unfold State.pfHandOver
  repeat' (first
    | with_reducible apply Moves.refl
    | with_reducible apply Moves.ite
    | with_reducible apply Moves.step (State.demote_moves _ _) (by decide)
    | with_reducible apply Moves.step (State.onPair_moves _ _) (by decide))

theorem State.toCell_moves (ms : Nat) (s : State) :
    Moves [.queue, .log, .pwr, .meas, .outs, .pair, .radio] s (State.toCell ms s) := by
  unfold State.toCell
  repeat' (first
    | with_reducible apply Moves.refl
    | with_reducible apply Moves.ite
    | with_reducible apply Moves.step (State.endTest_moves _) (by decide)
    | with_reducible apply Moves.step (State.enterHold_moves _) (by decide)
    | with_reducible apply Moves.step (State.gridsEnd_moves _) (by decide)
    | with_reducible apply Moves.step (State.holdMark_moves _) (by decide)
    | with_reducible apply Moves.step (State.onPair_moves _ _) (by decide)
    | with_reducible apply Moves.step (State.onPwr_moves _ _) (by decide))

theorem State.unpower_moves (s : State) :
    Moves [.pwr, .outs, .bridge, .rtc, .disp] s (State.unpower s) := by
  refine Moves.of_keeps (fun g hg => ?_) rfl rfl
  cases g <;> first | rfl | exact ⟨rfl, rfl, rfl⟩ | exact absurd (by simp) hg

theorem State.offCell_moves (ms : Nat) (s : State) :
    Moves [.pwr] s (State.offCell ms s) := by
  unfold State.offCell
  repeat' (first
    | with_reducible apply Moves.refl
    | with_reducible apply Moves.step (State.onPwr_moves _ _) (by decide))

theorem State.normalResumed_moves (left : Nat) (s : State) :
    Moves [.queue, .log, .pwr, .chans, .bridge, .pair, .radio, .disp] s (State.normalResumed left s) := by
  unfold State.normalResumed
  repeat' (first
    | with_reducible apply Moves.refl
    | with_reducible apply Moves.ite
    | with_reducible apply Moves.step (State.event_moves _ _ _ _) (by decide)
    | with_reducible apply Moves.step (State.gridsEnd_moves _) (by decide)
    | with_reducible apply Moves.step (State.onDisp_moves _ _) (by decide)
    | with_reducible apply Moves.step (State.onPwr_moves _ _) (by decide)
    | with_reducible apply Moves.step (State.onRadio_moves _ _) (by decide)
    | with_reducible apply Moves.step (State.pwrRaise_moves _ _) (by decide)
    | with_reducible apply Moves.step (State.resumeValves_moves _) (by decide)
    | with_reducible apply Moves.step (State.unpair_moves _) (by decide))

theorem State.warnActs_moves (cyc : Nat) (upsets : List (Nat × Upset)) (s : State) :
    Moves [.queue, .flt, .log, .pwr, .chans, .outs, .bridge, .tamper, .pair, .radio] s (State.warnActs cyc upsets s) := by
  unfold State.warnActs
  repeat' (first
    | with_reducible apply Moves.refl
    | with_reducible apply Moves.ite
    | with_reducible apply Moves.step (State.closeAll_moves _ _ _ _ _) (by decide)
    | with_reducible apply Moves.step (State.discardQueue_moves _) (by decide)
    | with_reducible apply Moves.step (State.enterHold_moves _) (by decide)
    | with_reducible apply Moves.step (State.holdMark_moves _) (by decide))

theorem State.cellWeak_moves (s : State) :
    Moves [.queue, .log, .pwr, .pair, .radio] s (State.cellWeak s) := by
  unfold State.cellWeak
  repeat' (first
    | with_reducible apply Moves.refl
    | with_reducible apply Moves.step (State.event_moves _ _ _ _) (by decide)
    | with_reducible apply Moves.step (State.pwrRaise_moves _ _) (by decide))

theorem State.cellReplaced_moves (atStart : Bool) (s : State) :
    Moves [.queue, .log, .pwr, .pair, .radio] s (State.cellReplaced atStart s) := by
  unfold State.cellReplaced
  repeat' (first
    | with_reducible apply Moves.refl
    | with_reducible apply Moves.step (State.event_moves _ _ _ _) (by decide)
    | with_reducible apply Moves.step (State.onPwr_moves _ _) (by decide)
    | with_reducible apply Moves.step (State.pwrRaise_moves _ _) (by decide))

theorem State.wakeTo_moves (left : Nat) (ms : Nat) (sources : List WakeSource) (exit10us : Nat) (s : State) :
    Moves [.pwr] s (State.wakeTo left ms sources exit10us s) := by
  unfold State.wakeTo
  repeat' (first
    | with_reducible apply Moves.refl
    | with_reducible apply Moves.ite
    | with_reducible apply Moves.step (State.enterState_moves _ _ _) (by decide)
    | with_reducible apply Moves.step (State.onPwr_moves _ _) (by decide))

theorem State.wakeServe_moves (sup : Supplies) (s : State) :
    Moves [.queue, .log, .pwr, .tamper, .rtc, .pair, .radio] s (State.wakeServe sup s) := by
  unfold State.wakeServe
  repeat' (first
    | with_reducible apply Moves.refl
    | with_reducible apply Moves.ite
    | with_reducible apply Moves.step (State.logOsf_moves _) (by decide)
    | with_reducible apply Moves.step (State.onPwr_moves _ _) (by decide)
    | with_reducible apply Moves.step (State.transferLatch_moves _) (by decide))

theorem State.wakeWarn_moves (cyc : Nat) (sources : List WakeSource) (s : State) :
    Moves [.queue, .flt, .log, .pwr, .chans, .outs, .bridge, .tamper, .pair, .radio] s (State.wakeWarn cyc sources s) := by
  unfold State.wakeWarn
  repeat' (first
    | with_reducible apply Moves.refl
    | with_reducible apply Moves.ite
    | with_reducible apply Moves.step (State.onPwr_moves _ _) (by decide)
    | with_reducible apply Moves.step (State.warnActs_moves _ _ _) (by decide))

end Sys2Proof.Machine
end

