-- ==== Sys2Proof/Laws/StartMoves.lean ====
section
/-! SUPPORT. What each operation of Start can change. -/

set_option Elab.async false

namespace Sys2Proof.Machine

theorem State.warmBegin_moves (cause : Nat) (ms : Nat) (s : State) :
    Moves [.hoard, .queue, .marks, .log, .pwr, .meas, .chans, .outs, .bridge, .tamper, .pair, .radio, .disp] s (State.warmBegin cause ms s) := by
  unfold State.warmBegin
  repeat' (first
    | with_reducible apply Moves.refl
    | with_reducible apply Moves.ite
    | with_reducible apply Moves.step (State.calAbort_moves _) (by decide)
    | with_reducible apply Moves.step (State.dispStop_moves _ _) (by decide)
    | with_reducible apply Moves.step (State.drain_moves _) (by decide)
    | with_reducible apply Moves.step (State.dropPulses_moves _ _) (by decide)
    | with_reducible apply Moves.step (State.endTest_moves _) (by decide)
    | with_reducible apply Moves.step (State.enterState_moves _ _ _) (by decide)
    | with_reducible apply Moves.step (State.handOwed_moves _) (by decide)
    | with_reducible apply Moves.step (State.interruptMove_moves _ _ _) (by decide)
    | with_reducible apply Moves.step (State.onMeas_moves _ _) (by decide)
    | with_reducible apply Moves.step (State.onPwr_moves _ _) (by decide)
    | with_reducible apply Moves.step (State.unpair_moves _) (by decide))

theorem State.resetGroups_moves (sett : Bool) (s : State) :
    Moves [.sram, .marks, .flt, .log, .img, .meas, .chans, .tcs, .outs, .bridge, .tamper, .rtc, .pair, .radio, .sec, .sess, .mbus, .alc, .hl, .dma, .disp] s (State.resetGroups sett s) := by
  refine ⟨fun g hg => ?_, fun m => ⟨m.1, rfl⟩⟩
  cases g <;> first | rfl | exact absurd (by simp) hg

theorem State.startSupply_moves (sup : Supplies) (s : State) :
    Moves [.pwr] s (State.startSupply sup s) := by
  unfold State.startSupply
  repeat' (first
    | with_reducible apply Moves.refl
    | with_reducible apply Moves.step (State.onPwr_moves _ _) (by decide)
    | with_reducible apply Moves.step (State.supplies_moves _ _) (by decide))

theorem State.settFirst_moves (s : State) :
    Moves [.rtc] s (State.settFirst s) := by
  unfold State.settFirst
  repeat' (first
    | with_reducible apply Moves.refl
    | with_reducible apply Moves.ite
    | with_reducible apply Moves.step (State.onRtc_moves _ _) (by decide)
    | with_reducible apply Moves.step (State.setOsf_moves _ _) (by decide)
    | split
    | (dsimp only; split))

theorem State.coldStart_moves (cause : Nat) (straps : StrapLevels) (sup : Supplies) (s : State) :
    Moves [.sram, .queue, .marks, .flt, .log, .pwr, .img, .meas, .chans, .tcs, .outs, .bridge, .tamper, .rtc, .pair, .radio, .sec, .sess, .mbus, .alc, .hl, .dma, .disp] s (State.coldStart cause straps sup s) := by
  unfold State.coldStart
  repeat' (first
    | with_reducible apply Moves.refl
    | with_reducible apply Moves.ite
    | with_reducible apply Moves.step (State.onPwr_moves _ _) (by decide)
    | with_reducible apply Moves.step (State.onRtc_moves _ _) (by decide)
    | with_reducible apply Moves.step (State.resetGroups_moves _ _) (by decide)
    | with_reducible apply Moves.step (State.settFirst_moves _) (by decide)
    | with_reducible apply Moves.step (State.startSupply_moves _ _) (by decide)
    | with_reducible apply Moves.step (Moves.queue _ _) (by decide))

theorem State.coldRepeat_moves (straps : StrapLevels) (sup : Supplies) (s : State) :
    Moves [.sram, .queue, .marks, .flt, .log, .pwr, .img, .meas, .chans, .tcs, .outs, .bridge, .tamper, .rtc, .pair, .radio, .sec, .sess, .mbus, .alc, .hl, .dma, .disp] s (State.coldRepeat straps sup s) := by
  unfold State.coldRepeat
  repeat' (first
    | with_reducible apply Moves.refl
    | with_reducible apply Moves.step (State.coldStart_moves _ _ _ _) (by decide)
    | with_reducible apply Moves.step (State.onPwr_moves _ _) (by decide))

theorem State.recordVerdict_moves (v : Verdict) (s : State) :
    Moves [.queue, .log, .img, .pair] s (State.recordVerdict v s) := by
  unfold State.recordVerdict
  repeat' (first
    | with_reducible apply Moves.refl
    | with_reducible apply Moves.ite
    | with_reducible apply Moves.step (State.auditOnce_moves _ _ _ _ _ _ _ _ _) (by decide)
    | with_reducible apply Moves.step (State.commitModule_moves _) (by decide)
    | with_reducible apply Moves.step (State.onImg_moves _ _) (by decide)
    | split
    | (dsimp only; split))

theorem State.putVerdict_moves (v : Verdict) (s : State) :
    Moves [.img] s (State.putVerdict v s) := by
  unfold State.putVerdict
  repeat' (first
    | with_reducible apply Moves.refl
    | with_reducible apply Moves.ite
    | with_reducible apply Moves.step (State.onImg_moves _ _) (by decide))

theorem State.loadProgram_moves (s : State) :
    Moves [.sram] s (State.loadProgram s) := by
  unfold State.loadProgram
  split
  · exact Moves.refl _ s
  · refine ⟨fun g hg => ?_, fun m => ⟨m.1, Memory.wf_writeBytes _ _ _ m.2⟩⟩
    cases g <;> first | rfl | exact ⟨rfl, rfl, rfl⟩ | exact absurd (by simp) hg

theorem State.unconfMark_moves (s : State) :
    Moves [.queue, .log, .img, .pair, .radio] s (State.unconfMark s) := by
  unfold State.unconfMark
  repeat' (first
    | with_reducible apply Moves.refl
    | with_reducible apply Moves.ite
    | with_reducible apply Moves.step (State.onImg_moves _ _) (by decide)
    | with_reducible apply Moves.step (State.onset_moves _ _ _ _ _) (by decide))

theorem State.unconfEnd_moves (s : State) :
    Moves [.queue, .log, .img, .pair] s (State.unconfEnd s) := by
  unfold State.unconfEnd
  repeat' (first
    | with_reducible apply Moves.refl
    | with_reducible apply Moves.ite
    | with_reducible apply Moves.step (State.ending_moves _ _ _ _ _) (by decide)
    | with_reducible apply Moves.step (State.onImg_moves _ _) (by decide))

theorem State.decideStart_moves (card : CardRead) (logged : State → State) (s : State)
    (hf : ∀ t, Moves [.hoard, .sram, .queue, .marks, .flt, .log, .pwr, .img, .chans, .bridge, .tamper, .pair, .radio, .sec, .disp] t (logged t)) :
    Moves [.hoard, .sram, .queue, .marks, .flt, .log, .pwr, .img, .chans, .bridge, .tamper, .pair, .radio, .sec, .disp] s
      (State.decideStart card logged s) := by
  unfold State.decideStart
  extract_lets c s1 s2 s3 v s4 s5 ready s6 s7
  have h1 : Moves [.hoard, .sram, .queue, .marks, .flt, .log, .pwr, .img, .chans, .bridge, .tamper, .pair, .radio, .sec, .disp] s s1 :=
    (((State.loadLog_moves s).sub (by decide)).trans ((State.onImg_moves _ _).sub (by decide))).trans (hf _)
  have h2 : Moves [.hoard, .sram, .queue, .marks, .flt, .log, .pwr, .img, .chans, .bridge, .tamper, .pair, .radio, .sec, .disp] s s2 := by
    simp only [s2]
    split
    · exact h1
    · exact h1.trans ((State.event_moves _ _ _ _).sub (by decide))
  have h3 : Moves [.hoard, .sram, .queue, .marks, .flt, .log, .pwr, .img, .chans, .bridge, .tamper, .pair, .radio, .sec, .disp] s s3 :=
    h2.trans (((State.loadModule_moves _).sub (by decide)).trans ((State.loadCharge_moves _).sub (by decide)))
  have h4 : Moves [.hoard, .sram, .queue, .marks, .flt, .log, .pwr, .img, .chans, .bridge, .tamper, .pair, .radio, .sec, .disp] s s4 := by
    simp only [s4]
    split
    · exact h3
    · exact h3.trans (((State.recordVerdict_moves _ _).sub (by decide)).trans ((State.putVerdict_moves _ _).sub (by decide)))
  have h5 : Moves [.hoard, .sram, .queue, .marks, .flt, .log, .pwr, .img, .chans, .bridge, .tamper, .pair, .radio, .sec, .disp] s s5 :=
    h4.trans ((((State.loadRecords_moves _).sub (by decide)).trans ((State.loadChans_moves _).sub (by decide))).trans
      (((State.startTariffs_moves _).sub (by decide)).trans ((State.loadProgram_moves _).sub (by decide))))
  have h6 : Moves [.hoard, .sram, .queue, .marks, .flt, .log, .pwr, .img, .chans, .bridge, .tamper, .pair, .radio, .sec, .disp] s s6 :=
    h5.trans (((State.onImg_moves _ _).sub (by decide)).trans ((State.onPwr_moves _ _).sub (by decide)))
  have h7 : Moves [.hoard, .sram, .queue, .marks, .flt, .log, .pwr, .img, .chans, .bridge, .tamper, .pair, .radio, .sec, .disp] s s7 := by
    simp only [s7]
    split
    · exact h6.trans ((State.onDisp_moves _ _).sub (by decide))
    · exact h6
  split
  · exact h7.trans ((State.unconfEnd_moves _).sub (by decide))
  · exact h7.trans (((State.unconfMark_moves _).sub (by decide)).trans ((State.onRadio_moves _ _).sub (by decide)))

theorem State.lostTotals_moves (was : Nat) (ms : Nat) (s : State) :
    Moves [.queue, .log, .pwr, .meas, .chans, .outs, .bridge, .tamper, .pair, .radio, .mbus, .disp] s (State.lostTotals was ms s) := by
  unfold State.lostTotals
  repeat' (first
    | with_reducible apply Moves.refl
    | with_reducible apply Moves.ite
    | with_reducible apply Moves.step (State.goFailSilent_moves _ _ _) (by decide))

end Sys2Proof.Machine
end

