-- ==== Sys2Proof/Laws/TickMoves.lean ====
section
/-! SUPPORT. What each operation of Tick can change. -/

set_option Elab.async false

namespace Sys2Proof.Machine

theorem State.measureMode_moves (s : State) :
    Moves [.queue, .log, .pwr, .outs, .pair, .radio] s (State.measureMode s) := by
  unfold State.measureMode
  repeat' (first
    | with_reducible apply Moves.refl
    | with_reducible apply Moves.ite
    | with_reducible apply Moves.step (State.enterHold_moves _) (by decide)
    | with_reducible apply Moves.step (State.holdEnd_moves _) (by decide)
    | with_reducible apply Moves.step (State.onPwr_moves _ _) (by decide))

theorem State.beginSteps_moves (s : State) :
    Moves [.pwr, .chans] s (State.beginSteps s) := by
  unfold State.beginSteps
  repeat' (first
    | with_reducible apply Moves.refl
    | with_reducible apply Moves.ite
    | with_reducible apply Moves.step (State.onCh_moves _ _ _) (by decide)
    | with_reducible apply Moves.step (State.onPwr_moves _ _) (by decide)
    | (with_reducible apply Moves.forCh; intro n u))

theorem State.firstTick_moves (pins : TickPins) (s : State) :
    Moves [.queue, .log, .pwr, .meas, .chans, .outs, .bridge, .tamper, .pair, .radio, .hl, .dma, .disp] s (State.firstTick pins s) := by
  unfold State.firstTick
  repeat' (first
    | with_reducible apply Moves.refl
    | with_reducible apply Moves.ite
    | with_reducible apply Moves.step (State.beginSteps_moves _) (by decide)
    | with_reducible apply Moves.step (State.dmaStartAll_moves _) (by decide)
    | with_reducible apply Moves.step (State.event_moves _ _ _ _) (by decide)
    | with_reducible apply Moves.step (State.firstTamper_moves _ _ _) (by decide)
    | with_reducible apply Moves.step (State.holdMark_moves _) (by decide)
    | with_reducible apply Moves.step (State.measureMode_moves _) (by decide)
    | with_reducible apply Moves.step (State.onDisp_moves _ _) (by decide)
    | with_reducible apply Moves.step (State.onHl_moves _ _) (by decide)
    | with_reducible apply Moves.step (State.onMeas_moves _ _) (by decide)
    | with_reducible apply Moves.step (State.onPwr_moves _ _) (by decide)
    | with_reducible apply Moves.step (State.reportCable_moves _) (by decide)
    | with_reducible apply Moves.step (State.resumeValves_moves _) (by decide))

theorem State.leaveUnconfigured_moves (s : State) :
    Moves [.queue, .log, .pwr, .img, .meas, .chans, .outs, .bridge, .pair, .radio, .disp] s (State.leaveUnconfigured s) := by
  unfold State.leaveUnconfigured
  repeat' (first
    | with_reducible apply Moves.refl
    | with_reducible apply Moves.ite
    | with_reducible apply Moves.step (State.beginSteps_moves _) (by decide)
    | with_reducible apply Moves.step (State.dispActive_moves _ _) (by decide)
    | with_reducible apply Moves.step (State.endTest_moves _) (by decide)
    | with_reducible apply Moves.step (State.measureMode_moves _) (by decide)
    | with_reducible apply Moves.step (State.onImg_moves _ _) (by decide)
    | with_reducible apply Moves.step (State.onPwr_moves _ _) (by decide)
    | with_reducible apply Moves.step (State.onRadio_moves _ _) (by decide)
    | with_reducible apply Moves.step (State.resumeValves_moves _) (by decide)
    | with_reducible apply Moves.step (State.unconfEnd_moves _) (by decide))

theorem State.zeroRings_moves (s : State) :
    Moves [.chans] s (State.zeroRings s) := by
  unfold State.zeroRings
  repeat' (first
    | with_reducible apply Moves.refl
    | with_reducible apply Moves.step (State.onCh_moves _ _ _) (by decide)
    | (with_reducible apply Moves.forCh; intro n u))

theorem State.leaveHold_moves (s : State) :
    Moves [.queue, .log, .pwr, .chans, .bridge, .pair, .radio, .dma, .disp] s (State.leaveHold s) := by
  unfold State.leaveHold
  repeat' (first
    | with_reducible apply Moves.refl
    | with_reducible apply Moves.ite
    | with_reducible apply Moves.step (State.beginSteps_moves _) (by decide)
    | with_reducible apply Moves.step (State.dmaStartAll_moves _) (by decide)
    | with_reducible apply Moves.step (State.holdEnd_moves _) (by decide)
    | with_reducible apply Moves.step (State.normalResumed_moves _ _) (by decide)
    | with_reducible apply Moves.step (State.onPwr_moves _ _) (by decide)
    | with_reducible apply Moves.step (State.zeroRings_moves _) (by decide))

theorem State.cellWatch_moves (vbat : Nat) (s : State) :
    Moves [.queue, .log, .pwr, .pair, .radio] s (State.cellWatch vbat s) := by
  unfold State.cellWatch
  repeat' (first
    | with_reducible apply Moves.refl
    | with_reducible apply Moves.ite
    | with_reducible apply Moves.step (State.cellReplaced_moves _ _) (by decide)
    | with_reducible apply Moves.step (State.onPwr_moves _ _) (by decide))

theorem State.tickEvents_moves (s : State) :
    Moves [.meas, .dma] s (State.tickEvents s) := by
  unfold State.tickEvents
  repeat' (first
    | with_reducible apply Moves.refl
    | with_reducible apply Moves.ite
    | with_reducible apply Moves.step (State.dmaEvent_moves _ _) (by decide)
    | with_reducible apply Moves.step (State.onMeas_moves _ _) (by decide))

theorem State.readSupplies_moves (sup : Supplies) (first : Bool) (s : State) :
    Moves [.pwr] s (State.readSupplies sup first s) := by
  unfold State.readSupplies
  repeat' (first
    | with_reducible apply Moves.refl
    | with_reducible apply Moves.ite
    | with_reducible apply Moves.step (State.onPwr_moves _ _) (by decide))

theorem State.samplePins_moves (pins : TickPins) (s : State) :
    Moves [.queue, .log, .img, .tamper, .pair, .radio] s (State.samplePins pins s) := by
  unfold State.samplePins
  repeat' (first
    | with_reducible apply Moves.refl
    | with_reducible apply Moves.step (State.onPair_moves _ _) (by decide)
    | with_reducible apply Moves.step (State.sampleCard_moves _ _) (by decide))

theorem State.correctRefs_moves (internalTemp : Int) (s : State) :
    Moves [.tcs] s (State.correctRefs internalTemp s) := by
  unfold State.correctRefs
  repeat' (first
    | with_reducible apply Moves.refl
    | with_reducible apply Moves.step (State.setTc_moves _ _ _) (by decide)
    | (with_reducible apply Moves.foldl; intro u a))

theorem State.tickWork_moves (sup : Supplies) (pins : TickPins) (internalTemp : Int) (first : Bool) (s : State) :
    Moves [.hoard, .queue, .marks, .log, .pwr, .img, .meas, .chans, .tcs, .outs, .bridge, .tamper, .rtc, .pair, .radio, .sec, .sess, .mbus, .dma, .disp] s (State.tickWork sup pins internalTemp first s) := by
  unfold State.tickWork
  repeat' (first
    | with_reducible apply Moves.refl
    | with_reducible apply Moves.ite
    | with_reducible apply Moves.step (State.calBegin_moves _) (by decide)
    | with_reducible apply Moves.step (State.cellWatch_moves _ _) (by decide)
    | with_reducible apply Moves.step (State.correctRefs_moves _ _) (by decide)
    | with_reducible apply Moves.step (State.leaveHold_moves _) (by decide)
    | with_reducible apply Moves.step (State.leaveUnconfigured_moves _) (by decide)
    | with_reducible apply Moves.step (State.logOsf_moves _) (by decide)
    | with_reducible apply Moves.step (State.pairTick_moves _) (by decide)
    | with_reducible apply Moves.step (State.readSupplies_moves _ _ _) (by decide)
    | with_reducible apply Moves.step (State.samplePins_moves _ _) (by decide)
    | with_reducible apply Moves.step (State.tickEvents_moves _) (by decide)
    | with_reducible apply Moves.step (State.transferLatch_moves _) (by decide))

theorem State.countTick_moves (s : State) :
    Moves [.meas] s (State.countTick s) := by
  unfold State.countTick
  repeat' (first
    | with_reducible apply Moves.refl
    | with_reducible apply Moves.step (State.onMeas_moves _ _) (by decide))

theorem State.settWork_moves (sup : Supplies) (pins : TickPins) (internalTemp : Int) (first : Bool) (s : State) :
    Moves [.queue, .log, .pwr, .img, .tcs, .tamper, .rtc, .pair, .radio] s (State.settWork sup pins internalTemp first s) := by
  unfold State.settWork
  repeat' (first
    | with_reducible apply Moves.refl
    | with_reducible apply Moves.step (State.correctRefs_moves _ _) (by decide)
    | with_reducible apply Moves.step (State.logOsf_moves _) (by decide)
    | with_reducible apply Moves.step (State.readSupplies_moves _ _ _) (by decide)
    | with_reducible apply Moves.step (State.samplePins_moves _ _) (by decide)
    | with_reducible apply Moves.step (State.transferLatch_moves _) (by decide))

end Sys2Proof.Machine
end

