-- ==== Sys2Proof/Laws/WakeMoves.lean ====
section
/-! SUPPORT. What each operation of Wake can change. -/

set_option Elab.async false

namespace Sys2Proof.Machine

theorem State.clearBank_moves (k : Nat) (s : State) : Moves [.sram, .marks] s (s.onMem fun m => m.clearBank k) := by
  refine ⟨fun g hg => ?_, fun m => ⟨m.1, Memory.wf_clear _ _ _ m.2⟩⟩
  cases g <;> first | rfl | exact absurd (by simp) hg

theorem State.clearHostCounts_moves (s : State) :
    Moves [.flt, .pwr, .meas, .chans, .tamper, .rtc, .pair, .radio, .sess, .mbus, .alc, .dma, .disp] s (State.clearHostCounts s) := by
  unfold State.clearHostCounts
  dsimp only
  refine Moves.forCh _ _ (fun n u => (State.onCh_moves _ _ _).sub (by decide)) (Moves.of_keeps (fun g hg => ?_) rfl rfl)
  cases g <;> first | rfl | exact ⟨rfl, rfl, rfl⟩ | exact absurd (by simp) hg

theorem State.linkState_moves (s : State) :
    Moves [.flt, .pwr, .meas, .chans, .tamper, .rtc, .pair, .radio, .sess, .mbus, .alc, .hl, .dma, .disp] s (State.linkState s) := by
  unfold State.linkState
  repeat' (first
    | with_reducible apply Moves.refl
    | with_reducible apply Moves.ite
    | with_reducible apply Moves.step (State.clearHostCounts_moves _) (by decide)
    | with_reducible apply Moves.step (State.dmaLinkReset_moves _) (by decide)
    | with_reducible apply Moves.step (State.onHl_moves _ _) (by decide)
    | with_reducible apply Moves.step (State.onRtc_moves _ _) (by decide))

theorem State.deepEnter_moves (ms : Nat) (s : State) :
    Moves [.pwr, .dma] s (State.deepEnter ms s) := by
  unfold State.deepEnter
  repeat' (first
    | with_reducible apply Moves.refl
    | with_reducible apply Moves.ite
    | with_reducible apply Moves.step (State.dmaStopAll_moves _) (by decide)
    | with_reducible apply Moves.step (State.enterState_moves _ _ _) (by decide)
    | with_reducible apply Moves.step (State.formSigs_moves _ _) (by decide)
    | with_reducible apply Moves.step (State.onPwr_moves _ _) (by decide)
    | split
    | (dsimp only; split))

theorem State.seeVio_moves (vio : Bool) (s : State) :
    Moves [.pwr] s (State.seeVio vio s) := by
  unfold State.seeVio
  repeat' (first
    | with_reducible apply Moves.refl
    | with_reducible apply Moves.step (State.onPwr_moves _ _) (by decide))

theorem State.rebuildBank_moves (k : Nat) (s : State) :
    Moves [.sram, .queue, .marks, .flt, .log, .chans, .bridge, .tamper, .pair, .radio, .sess, .mbus, .alc, .disp] s (State.rebuildBank k s) := by
  unfold State.rebuildBank
  repeat' (first
    | with_reducible apply Moves.refl
    | with_reducible apply Moves.step (State.clearBank_moves _ _) (by decide)
    | with_reducible apply Moves.step (State.discardQueue_moves _) (by decide)
    | with_reducible apply Moves.step (State.freeCtxs_moves _) (by decide)
    | with_reducible apply Moves.step (State.loadChans_moves _) (by decide)
    | with_reducible apply Moves.step (State.loadProgram_moves _) (by decide)
    | with_reducible apply Moves.step (State.onAlc_moves _ _) (by decide)
    | with_reducible apply Moves.step (State.onDisp_moves _ _) (by decide)
    | with_reducible apply Moves.step (State.onRadio_moves _ _) (by decide)
    | split
    | (dsimp only; split))

theorem State.deepExit_moves (now : Now) (sources : List WakeSource) (exit10us : Nat) (failedBanks : List Nat) (card : CardRead) (cardOut : Bool) (sup : Supplies) (s : State) :
    Moves [.hoard, .sram, .queue, .marks, .flt, .log, .pwr, .img, .meas, .chans, .outs, .bridge, .tamper, .rtc, .pair, .radio, .sess, .mbus, .alc, .hl, .dma, .disp] s (State.deepExit now sources exit10us failedBanks card cardOut sup s) := by
  unfold State.deepExit
  repeat' (first
    | with_reducible apply Moves.refl
    | with_reducible apply Moves.ite
    | with_reducible apply Moves.step (State.event_moves _ _ _ _) (by decide)
    | with_reducible apply Moves.step (State.linkState_moves _) (by decide)
    | with_reducible apply Moves.step (State.onImg_moves _ _) (by decide)
    | with_reducible apply Moves.step (State.onPwr_moves _ _) (by decide)
    | with_reducible apply Moves.step (State.onRtc_moves _ _) (by decide)
    | with_reducible apply Moves.step (State.rebuildBank_moves _ _) (by decide)
    | with_reducible apply Moves.step (State.sampleCard_moves _ _) (by decide)
    | with_reducible apply Moves.step (State.supplies_moves _ _) (by decide)
    | with_reducible apply Moves.step (State.wakeServe_moves _ _) (by decide)
    | with_reducible apply Moves.step (State.wakeTo_moves _ _ _ _ _) (by decide)
    | with_reducible apply Moves.step (State.warmBegin_moves _ _ _) (by decide)
    | (with_reducible apply Moves.foldl; intro u a))

theorem State.holdSnaps_moves (n : Nat) (s : State) :
    Moves [.queue, .log, .chans, .pair, .radio] s (State.holdSnaps n s) := by
  unfold State.holdSnaps
  repeat' (first
    | with_reducible apply Moves.refl
    | with_reducible apply Moves.ite
    | with_reducible apply Moves.step (State.enqueue_moves _ _) (by decide)
    | with_reducible apply Moves.step (State.onCh_moves _ _ _) (by decide)
    | with_reducible apply Moves.step (State.snapshots_moves _ _ _ _) (by decide)
    | (with_reducible apply Moves.foldl; intro u a))

end Sys2Proof.Machine
end

