-- ==== Sys2Proof/Laws/HoardMoves.lean ====
section
/-! SUPPORT. What each operation of Hoard can change. -/

set_option Elab.async false

namespace Sys2Proof.Machine

theorem State.handHeld_moves (s : State) :
    Moves [.queue, .chans, .pair] s (State.handHeld s) := by
  unfold State.handHeld
  repeat' (first
    | with_reducible apply Moves.refl
    | with_reducible apply Moves.ite
    | with_reducible apply Moves.step (State.commitStep_moves _ _ _ _) (by decide)
    | (with_reducible apply Moves.forCh; intro n u))

theorem State.commitsLanded_moves (s : State) :
    Moves [.meas, .dma] s (State.commitsLanded s) := by
  unfold State.commitsLanded
  repeat' (first
    | with_reducible apply Moves.refl
    | with_reducible apply Moves.ite
    | with_reducible apply Moves.step (State.dmaEvent_moves _ _) (by decide)
    | with_reducible apply Moves.step (State.onMeas_moves _ _) (by decide))

end Sys2Proof.Machine
end

