-- ==== Sys2Proof/Laws/CommissionMoves.lean ====
section
/-! SUPPORT. What each operation of Commission can change. -/

set_option Elab.async false

namespace Sys2Proof.Machine

theorem State.setResult_moves (code : Nat) (s : State) :
    Moves [.hl] s (State.setResult code s) := by
  unfold State.setResult
  repeat' (first
    | with_reducible apply Moves.refl
    | with_reducible apply Moves.step (State.onHl_moves _ _) (by decide))

theorem State.clearTotals_moves (n : Nat) (s : State) :
    Moves [.queue, .log, .chans, .pair, .radio] s (State.clearTotals n s) := by
  unfold State.clearTotals
  repeat' (first
    | with_reducible apply Moves.refl
    | with_reducible apply Moves.step (State.enqueue_moves _ _) (by decide)
    | with_reducible apply Moves.step (State.evalRange_moves _ _ _) (by decide)
    | with_reducible apply Moves.step (State.onCh_moves _ _ _) (by decide))

theorem State.beginCommission_moves (s : State) :
    Moves [.queue, .log, .img, .chans, .pair, .radio] s (State.beginCommission s) := by
  unfold State.beginCommission
  repeat' (first
    | with_reducible apply Moves.refl
    | with_reducible apply Moves.step (State.auditOnce_moves _ _ _ _ _ _ _ _ _) (by decide)
    | with_reducible apply Moves.step (State.clearTotals_moves _ _) (by decide)
    | with_reducible apply Moves.step (State.enqueue_moves _ _) (by decide)
    | with_reducible apply Moves.step (State.onImg_moves _ _) (by decide)
    | (with_reducible apply Moves.forCh; intro n u))

theorem State.cmdCommission_moves (ms : Nat) (s : State) :
    Moves [.queue, .log, .img, .chans, .pair, .radio] s (State.cmdCommission ms s).2 := by
  unfold State.cmdCommission
  repeat' (first
    | with_reducible apply Moves.refl
    | with_reducible apply Moves.step (State.beginCommission_moves _) (by decide)
    | split)

theorem State.commissionPair_moves (s : State) :
    Moves [.queue, .rtc, .pair, .radio, .sess, .mbus] s (State.commissionPair s) := by
  unfold State.commissionPair
  repeat' (first
    | with_reducible apply Moves.refl
    | with_reducible apply Moves.ite
    | with_reducible apply Moves.step (State.declare_moves _ _) (by decide)
    | with_reducible apply Moves.step (State.onPair_moves _ _) (by decide))

theorem State.cmdShipping_moves (ms : Nat) (s : State) :
    Moves [.queue, .pwr, .pair, .radio, .mbus, .disp] s (State.cmdShipping ms s).2 := by
  unfold State.cmdShipping
  repeat' (first
    | with_reducible apply Moves.refl
    | with_reducible apply Moves.step (State.dispStop_moves _ _) (by decide)
    | with_reducible apply Moves.step (State.onPwr_moves _ _) (by decide)
    | with_reducible apply Moves.step (State.silence_moves _) (by decide)
    | split)

theorem State.cmdZeroCal_moves (arg : Nat) (s : State) :
    Moves [.meas] s (State.cmdZeroCal arg s).2 := by
  unfold State.cmdZeroCal
  try dsimp +zeta only
  repeat' (first
    | with_reducible apply Moves.refl
    | with_reducible apply Moves.step (State.onMeas_moves _ _) (by decide)
    | split)

theorem State.cmdEnterTest_moves (s : State) :
    Moves [.meas] s (State.cmdEnterTest s).2 := by
  unfold State.cmdEnterTest
  try dsimp +zeta only
  repeat' (first
    | with_reducible apply Moves.refl
    | with_reducible apply Moves.step (State.onMeas_moves _ _) (by decide)
    | split)

theorem State.cmdExitTest_moves (s : State) :
    Moves [.meas] s (State.cmdExitTest s).2 := by
  unfold State.cmdExitTest
  repeat' (first
    | with_reducible apply Moves.refl
    | with_reducible apply Moves.step (State.endTest_moves _) (by decide)
    | split)

theorem State.cmdRefresh_moves (ms : Nat) (s : State) :
    Moves [.sram, .marks, .disp] s (State.cmdRefresh ms s).2 := by
  unfold State.cmdRefresh
  repeat' (first
    | with_reducible apply Moves.refl
    | with_reducible apply Moves.step (State.decideIfOff_moves _ _ _) (by decide)
    | with_reducible apply Moves.step (State.ask_moves _ _) (by decide)
    | split)

theorem State.cmdSwitchover_moves (ms : Nat) (s : State) :
    Moves [.pair] s (State.cmdSwitchover ms s).2 := by
  unfold State.cmdSwitchover
  repeat' (first
    | with_reducible apply Moves.refl
    | with_reducible apply Moves.step (State.onPair_moves _ _) (by decide)
    | split)

theorem State.ownCommand_moves (code : Nat) (arg : Nat) (now : Now) (s : State) :
    Moves [.sram, .queue, .marks, .log, .pwr, .img, .meas, .chans, .pair, .radio, .mbus, .disp] s (State.ownCommand code arg now s).2 := by
  unfold State.ownCommand
  repeat' (first
    | with_reducible apply Moves.refl
    | with_reducible apply Moves.step (State.cmdExitTest_moves _) (by decide)
    | with_reducible apply Moves.step (State.cmdZeroCal_moves _ _) (by decide)
    | with_reducible apply Moves.step (State.cmdShipping_moves _ _) (by decide)
    | with_reducible apply Moves.step (State.cmdRefresh_moves _ _) (by decide)
    | with_reducible apply Moves.step (State.cmdCommission_moves _ _) (by decide)
    | with_reducible apply Moves.step (State.cmdSwitchover_moves _ _) (by decide)
    | with_reducible apply Moves.step (State.cmdEnterTest_moves _) (by decide)
    | split)

theorem State.answerCommand_moves (code : Nat) (arg : Nat) (now : Now) (s : State) :
    Moves [.hoard, .sram, .queue, .marks, .log, .pwr, .img, .meas, .chans, .outs, .bridge, .tamper, .pair, .radio, .mbus, .hl, .disp] s (State.answerCommand code arg now s) := by
  unfold State.answerCommand
  try dsimp +zeta only
  repeat' (first
    | with_reducible apply Moves.refl
    | with_reducible apply Moves.step (State.warmBegin_moves _ _ _) (by decide)
    | with_reducible apply Moves.step (State.ownCommand_moves _ _ _ _) (by decide)
    | with_reducible apply Moves.step (State.setResult_moves _ _) (by decide)
    | split)

theorem State.runCommand_moves (gs : List Group) (link : State → State) (code tag : Nat) (now : Now) (s : State)
    (hg : ([.hoard, .queue, .marks, .log, .pwr, .meas, .chans, .outs, .bridge, .tamper, .img, .pair, .radio, .mbus, .hl, .disp, .sram] :
      List Group).all gs.contains = true) (hl : code = 4 → ∀ t, Moves gs t (link t)) :
    Moves gs s (State.runCommand link code tag now s) := by
  have hh : ([.hl] : List Group).all gs.contains = true := by simp_all
  unfold State.runCommand
  dsimp +zeta only
  split
  · exact (State.onHl_moves s _).sub hh
  · split
    · exact (State.onHl_moves s _).sub hh
    · split
      · rename_i h
        exact ((State.onHl_moves s _).sub hh).trans (hl h _)
      · exact ((State.onHl_moves s _).sub hh).trans ((State.answerCommand_moves _ _ _ _).sub (by simp_all))

/-- A command that is neither LINK_RESET nor WARM_RESET moves the host link and what its own conditions and effect move. -/
theorem State.runCommand_own (gs : List Group) (link : State → State) (code tag : Nat) (now : Now) (s : State) (h3 : code ≠ 3)
    (h4 : code ≠ 4) (hg : ([.hl] : List Group).all gs.contains = true)
    (ho : ∀ arg t, Moves gs t (t.ownCommand code arg now).2) : Moves gs s (s.runCommand link code tag now) := by
  unfold State.runCommand State.answerCommand
  dsimp +zeta only
  have h := (State.onHl_moves s fun h => { h with taken := some (code, tag), running := true }).sub hg
  split
  · exact (State.onHl_moves s _).sub hg
  · split
    · exact (State.onHl_moves s _).sub hg
    · split
      · exact h.trans ((State.setResult_moves _ _).sub hg)
      · split
        · exact h.trans (ho _ _)
        · exact (h.trans (ho _ _)).trans ((State.setResult_moves _ _).sub hg)

end Sys2Proof.Machine
end

