-- ==== Sys2Proof/Laws/EventFields.lean ====
section
/-! SUPPORT. The groups that logging, the HOARD queue and the mode event leave as they were, as rewriting rules. -/

set_option Elab.async false

namespace Sys2Proof.Machine

variable (s : State)

/-! ### event -/

@[simp] theorem State.event_pending (code ch : Nat) (data : List Byte) : (s.event code ch data).pending = s.pending :=
  (State.event_moves code ch data s).same .pending rfl
@[simp] theorem State.event_otp (code ch : Nat) (data : List Byte) : (s.event code ch data).otp = s.otp :=
  (State.event_moves code ch data s).same .otp rfl
@[simp] theorem State.event_hoard (code ch : Nat) (data : List Byte) : (s.event code ch data).mem.hoard = s.mem.hoard :=
  (State.event_moves code ch data s).same .hoard rfl
@[simp] theorem State.event_sram (code ch : Nat) (data : List Byte) : (s.event code ch data).mem.sram = s.mem.sram :=
  (State.event_moves code ch data s).same .sram rfl
@[simp] theorem State.event_flt (code ch : Nat) (data : List Byte) : (s.event code ch data).flt = s.flt :=
  (State.event_moves code ch data s).same .flt rfl
@[simp] theorem State.event_pwr (code ch : Nat) (data : List Byte) : (s.event code ch data).pwr = s.pwr :=
  (State.event_moves code ch data s).same .pwr rfl
@[simp] theorem State.event_img (code ch : Nat) (data : List Byte) : (s.event code ch data).img = s.img :=
  (State.event_moves code ch data s).same .img rfl
@[simp] theorem State.event_meas (code ch : Nat) (data : List Byte) : (s.event code ch data).meas = s.meas :=
  (State.event_moves code ch data s).same .meas rfl
@[simp] theorem State.event_chans (code ch : Nat) (data : List Byte) : (s.event code ch data).chans = s.chans :=
  (State.event_moves code ch data s).same .chans rfl
@[simp] theorem State.event_tcs (code ch : Nat) (data : List Byte) : (s.event code ch data).tcs = s.tcs :=
  (State.event_moves code ch data s).same .tcs rfl
@[simp] theorem State.event_outs (code ch : Nat) (data : List Byte) : (s.event code ch data).outs = s.outs :=
  (State.event_moves code ch data s).same .outs rfl
@[simp] theorem State.event_bridge (code ch : Nat) (data : List Byte) : (s.event code ch data).bridge = s.bridge :=
  (State.event_moves code ch data s).same .bridge rfl
@[simp] theorem State.event_tamper (code ch : Nat) (data : List Byte) : (s.event code ch data).tamper = s.tamper :=
  (State.event_moves code ch data s).same .tamper rfl
@[simp] theorem State.event_rtc (code ch : Nat) (data : List Byte) : (s.event code ch data).rtc = s.rtc :=
  (State.event_moves code ch data s).same .rtc rfl
@[simp] theorem State.event_sec (code ch : Nat) (data : List Byte) : (s.event code ch data).sec = s.sec :=
  (State.event_moves code ch data s).same .sec rfl
@[simp] theorem State.event_sess (code ch : Nat) (data : List Byte) : (s.event code ch data).sess = s.sess :=
  (State.event_moves code ch data s).same .sess rfl
@[simp] theorem State.event_mbus (code ch : Nat) (data : List Byte) : (s.event code ch data).mbus = s.mbus :=
  (State.event_moves code ch data s).same .mbus rfl
@[simp] theorem State.event_alc (code ch : Nat) (data : List Byte) : (s.event code ch data).alc = s.alc :=
  (State.event_moves code ch data s).same .alc rfl
@[simp] theorem State.event_hl (code ch : Nat) (data : List Byte) : (s.event code ch data).hl = s.hl :=
  (State.event_moves code ch data s).same .hl rfl
@[simp] theorem State.event_dma (code ch : Nat) (data : List Byte) : (s.event code ch data).dma = s.dma :=
  (State.event_moves code ch data s).same .dma rfl
@[simp] theorem State.event_disp (code ch : Nat) (data : List Byte) : (s.event code ch data).disp = s.disp :=
  (State.event_moves code ch data s).same .disp rfl
@[simp] theorem State.event_free (code ch : Nat) (data : List Byte) : (s.event code ch data).free = s.free :=
  (State.event_moves code ch data s).same .free rfl

/-! ### onset -/

@[simp] theorem State.onset_pending (code ch part : Nat) (data : List Byte) : (s.onset code ch part data).pending = s.pending :=
  (State.onset_moves code ch part data s).same .pending rfl
@[simp] theorem State.onset_otp (code ch part : Nat) (data : List Byte) : (s.onset code ch part data).otp = s.otp :=
  (State.onset_moves code ch part data s).same .otp rfl
@[simp] theorem State.onset_hoard (code ch part : Nat) (data : List Byte) : (s.onset code ch part data).mem.hoard = s.mem.hoard :=
  (State.onset_moves code ch part data s).same .hoard rfl
@[simp] theorem State.onset_sram (code ch part : Nat) (data : List Byte) : (s.onset code ch part data).mem.sram = s.mem.sram :=
  (State.onset_moves code ch part data s).same .sram rfl
@[simp] theorem State.onset_flt (code ch part : Nat) (data : List Byte) : (s.onset code ch part data).flt = s.flt :=
  (State.onset_moves code ch part data s).same .flt rfl
@[simp] theorem State.onset_pwr (code ch part : Nat) (data : List Byte) : (s.onset code ch part data).pwr = s.pwr :=
  (State.onset_moves code ch part data s).same .pwr rfl
@[simp] theorem State.onset_img (code ch part : Nat) (data : List Byte) : (s.onset code ch part data).img = s.img :=
  (State.onset_moves code ch part data s).same .img rfl
@[simp] theorem State.onset_meas (code ch part : Nat) (data : List Byte) : (s.onset code ch part data).meas = s.meas :=
  (State.onset_moves code ch part data s).same .meas rfl
@[simp] theorem State.onset_chans (code ch part : Nat) (data : List Byte) : (s.onset code ch part data).chans = s.chans :=
  (State.onset_moves code ch part data s).same .chans rfl
@[simp] theorem State.onset_tcs (code ch part : Nat) (data : List Byte) : (s.onset code ch part data).tcs = s.tcs :=
  (State.onset_moves code ch part data s).same .tcs rfl
@[simp] theorem State.onset_outs (code ch part : Nat) (data : List Byte) : (s.onset code ch part data).outs = s.outs :=
  (State.onset_moves code ch part data s).same .outs rfl
@[simp] theorem State.onset_bridge (code ch part : Nat) (data : List Byte) : (s.onset code ch part data).bridge = s.bridge :=
  (State.onset_moves code ch part data s).same .bridge rfl
@[simp] theorem State.onset_tamper (code ch part : Nat) (data : List Byte) : (s.onset code ch part data).tamper = s.tamper :=
  (State.onset_moves code ch part data s).same .tamper rfl
@[simp] theorem State.onset_rtc (code ch part : Nat) (data : List Byte) : (s.onset code ch part data).rtc = s.rtc :=
  (State.onset_moves code ch part data s).same .rtc rfl
@[simp] theorem State.onset_sec (code ch part : Nat) (data : List Byte) : (s.onset code ch part data).sec = s.sec :=
  (State.onset_moves code ch part data s).same .sec rfl
@[simp] theorem State.onset_sess (code ch part : Nat) (data : List Byte) : (s.onset code ch part data).sess = s.sess :=
  (State.onset_moves code ch part data s).same .sess rfl
@[simp] theorem State.onset_mbus (code ch part : Nat) (data : List Byte) : (s.onset code ch part data).mbus = s.mbus :=
  (State.onset_moves code ch part data s).same .mbus rfl
@[simp] theorem State.onset_alc (code ch part : Nat) (data : List Byte) : (s.onset code ch part data).alc = s.alc :=
  (State.onset_moves code ch part data s).same .alc rfl
@[simp] theorem State.onset_hl (code ch part : Nat) (data : List Byte) : (s.onset code ch part data).hl = s.hl :=
  (State.onset_moves code ch part data s).same .hl rfl
@[simp] theorem State.onset_dma (code ch part : Nat) (data : List Byte) : (s.onset code ch part data).dma = s.dma :=
  (State.onset_moves code ch part data s).same .dma rfl
@[simp] theorem State.onset_disp (code ch part : Nat) (data : List Byte) : (s.onset code ch part data).disp = s.disp :=
  (State.onset_moves code ch part data s).same .disp rfl
@[simp] theorem State.onset_free (code ch part : Nat) (data : List Byte) : (s.onset code ch part data).free = s.free :=
  (State.onset_moves code ch part data s).same .free rfl

/-! ### ending -/

@[simp] theorem State.ending_pending (code ch part : Nat) (data : List Byte) : (s.ending code ch part data).pending = s.pending :=
  (State.ending_moves code ch part data s).same .pending rfl
@[simp] theorem State.ending_otp (code ch part : Nat) (data : List Byte) : (s.ending code ch part data).otp = s.otp :=
  (State.ending_moves code ch part data s).same .otp rfl
@[simp] theorem State.ending_hoard (code ch part : Nat) (data : List Byte) : (s.ending code ch part data).mem.hoard = s.mem.hoard :=
  (State.ending_moves code ch part data s).same .hoard rfl
@[simp] theorem State.ending_sram (code ch part : Nat) (data : List Byte) : (s.ending code ch part data).mem.sram = s.mem.sram :=
  (State.ending_moves code ch part data s).same .sram rfl
@[simp] theorem State.ending_flt (code ch part : Nat) (data : List Byte) : (s.ending code ch part data).flt = s.flt :=
  (State.ending_moves code ch part data s).same .flt rfl
@[simp] theorem State.ending_pwr (code ch part : Nat) (data : List Byte) : (s.ending code ch part data).pwr = s.pwr :=
  (State.ending_moves code ch part data s).same .pwr rfl
@[simp] theorem State.ending_img (code ch part : Nat) (data : List Byte) : (s.ending code ch part data).img = s.img :=
  (State.ending_moves code ch part data s).same .img rfl
@[simp] theorem State.ending_meas (code ch part : Nat) (data : List Byte) : (s.ending code ch part data).meas = s.meas :=
  (State.ending_moves code ch part data s).same .meas rfl
@[simp] theorem State.ending_chans (code ch part : Nat) (data : List Byte) : (s.ending code ch part data).chans = s.chans :=
  (State.ending_moves code ch part data s).same .chans rfl
@[simp] theorem State.ending_tcs (code ch part : Nat) (data : List Byte) : (s.ending code ch part data).tcs = s.tcs :=
  (State.ending_moves code ch part data s).same .tcs rfl
@[simp] theorem State.ending_outs (code ch part : Nat) (data : List Byte) : (s.ending code ch part data).outs = s.outs :=
  (State.ending_moves code ch part data s).same .outs rfl
@[simp] theorem State.ending_bridge (code ch part : Nat) (data : List Byte) : (s.ending code ch part data).bridge = s.bridge :=
  (State.ending_moves code ch part data s).same .bridge rfl
@[simp] theorem State.ending_tamper (code ch part : Nat) (data : List Byte) : (s.ending code ch part data).tamper = s.tamper :=
  (State.ending_moves code ch part data s).same .tamper rfl
@[simp] theorem State.ending_rtc (code ch part : Nat) (data : List Byte) : (s.ending code ch part data).rtc = s.rtc :=
  (State.ending_moves code ch part data s).same .rtc rfl
@[simp] theorem State.ending_sec (code ch part : Nat) (data : List Byte) : (s.ending code ch part data).sec = s.sec :=
  (State.ending_moves code ch part data s).same .sec rfl
@[simp] theorem State.ending_sess (code ch part : Nat) (data : List Byte) : (s.ending code ch part data).sess = s.sess :=
  (State.ending_moves code ch part data s).same .sess rfl
@[simp] theorem State.ending_mbus (code ch part : Nat) (data : List Byte) : (s.ending code ch part data).mbus = s.mbus :=
  (State.ending_moves code ch part data s).same .mbus rfl
@[simp] theorem State.ending_alc (code ch part : Nat) (data : List Byte) : (s.ending code ch part data).alc = s.alc :=
  (State.ending_moves code ch part data s).same .alc rfl
@[simp] theorem State.ending_hl (code ch part : Nat) (data : List Byte) : (s.ending code ch part data).hl = s.hl :=
  (State.ending_moves code ch part data s).same .hl rfl
@[simp] theorem State.ending_dma (code ch part : Nat) (data : List Byte) : (s.ending code ch part data).dma = s.dma :=
  (State.ending_moves code ch part data s).same .dma rfl
@[simp] theorem State.ending_disp (code ch part : Nat) (data : List Byte) : (s.ending code ch part data).disp = s.disp :=
  (State.ending_moves code ch part data s).same .disp rfl
@[simp] theorem State.ending_free (code ch part : Nat) (data : List Byte) : (s.ending code ch part data).free = s.free :=
  (State.ending_moves code ch part data s).same .free rfl

/-! ### change -/

@[simp] theorem State.change_pending (was is : Bool) (code ch part : Nat) (data : List Byte) : (s.change was is code ch part data).pending = s.pending :=
  (State.change_moves was is code ch part data s).same .pending rfl
@[simp] theorem State.change_otp (was is : Bool) (code ch part : Nat) (data : List Byte) : (s.change was is code ch part data).otp = s.otp :=
  (State.change_moves was is code ch part data s).same .otp rfl
@[simp] theorem State.change_hoard (was is : Bool) (code ch part : Nat) (data : List Byte) : (s.change was is code ch part data).mem.hoard = s.mem.hoard :=
  (State.change_moves was is code ch part data s).same .hoard rfl
@[simp] theorem State.change_sram (was is : Bool) (code ch part : Nat) (data : List Byte) : (s.change was is code ch part data).mem.sram = s.mem.sram :=
  (State.change_moves was is code ch part data s).same .sram rfl
@[simp] theorem State.change_flt (was is : Bool) (code ch part : Nat) (data : List Byte) : (s.change was is code ch part data).flt = s.flt :=
  (State.change_moves was is code ch part data s).same .flt rfl
@[simp] theorem State.change_pwr (was is : Bool) (code ch part : Nat) (data : List Byte) : (s.change was is code ch part data).pwr = s.pwr :=
  (State.change_moves was is code ch part data s).same .pwr rfl
@[simp] theorem State.change_img (was is : Bool) (code ch part : Nat) (data : List Byte) : (s.change was is code ch part data).img = s.img :=
  (State.change_moves was is code ch part data s).same .img rfl
@[simp] theorem State.change_meas (was is : Bool) (code ch part : Nat) (data : List Byte) : (s.change was is code ch part data).meas = s.meas :=
  (State.change_moves was is code ch part data s).same .meas rfl
@[simp] theorem State.change_chans (was is : Bool) (code ch part : Nat) (data : List Byte) : (s.change was is code ch part data).chans = s.chans :=
  (State.change_moves was is code ch part data s).same .chans rfl
@[simp] theorem State.change_tcs (was is : Bool) (code ch part : Nat) (data : List Byte) : (s.change was is code ch part data).tcs = s.tcs :=
  (State.change_moves was is code ch part data s).same .tcs rfl
@[simp] theorem State.change_outs (was is : Bool) (code ch part : Nat) (data : List Byte) : (s.change was is code ch part data).outs = s.outs :=
  (State.change_moves was is code ch part data s).same .outs rfl
@[simp] theorem State.change_bridge (was is : Bool) (code ch part : Nat) (data : List Byte) : (s.change was is code ch part data).bridge = s.bridge :=
  (State.change_moves was is code ch part data s).same .bridge rfl
@[simp] theorem State.change_tamper (was is : Bool) (code ch part : Nat) (data : List Byte) : (s.change was is code ch part data).tamper = s.tamper :=
  (State.change_moves was is code ch part data s).same .tamper rfl
@[simp] theorem State.change_rtc (was is : Bool) (code ch part : Nat) (data : List Byte) : (s.change was is code ch part data).rtc = s.rtc :=
  (State.change_moves was is code ch part data s).same .rtc rfl
@[simp] theorem State.change_sec (was is : Bool) (code ch part : Nat) (data : List Byte) : (s.change was is code ch part data).sec = s.sec :=
  (State.change_moves was is code ch part data s).same .sec rfl
@[simp] theorem State.change_sess (was is : Bool) (code ch part : Nat) (data : List Byte) : (s.change was is code ch part data).sess = s.sess :=
  (State.change_moves was is code ch part data s).same .sess rfl
@[simp] theorem State.change_mbus (was is : Bool) (code ch part : Nat) (data : List Byte) : (s.change was is code ch part data).mbus = s.mbus :=
  (State.change_moves was is code ch part data s).same .mbus rfl
@[simp] theorem State.change_alc (was is : Bool) (code ch part : Nat) (data : List Byte) : (s.change was is code ch part data).alc = s.alc :=
  (State.change_moves was is code ch part data s).same .alc rfl
@[simp] theorem State.change_hl (was is : Bool) (code ch part : Nat) (data : List Byte) : (s.change was is code ch part data).hl = s.hl :=
  (State.change_moves was is code ch part data s).same .hl rfl
@[simp] theorem State.change_dma (was is : Bool) (code ch part : Nat) (data : List Byte) : (s.change was is code ch part data).dma = s.dma :=
  (State.change_moves was is code ch part data s).same .dma rfl
@[simp] theorem State.change_disp (was is : Bool) (code ch part : Nat) (data : List Byte) : (s.change was is code ch part data).disp = s.disp :=
  (State.change_moves was is code ch part data s).same .disp rfl
@[simp] theorem State.change_free (was is : Bool) (code ch part : Nat) (data : List Byte) : (s.change was is code ch part data).free = s.free :=
  (State.change_moves was is code ch part data s).same .free rfl

/-! ### onsetAt -/

@[simp] theorem State.onsetAt_pending (time flags code ch part : Nat) (hasEnd : Bool) (data : List Byte) : (s.onsetAt time flags code ch part hasEnd data).pending = s.pending :=
  (State.onsetAt_moves time flags code ch part hasEnd data s).same .pending rfl
@[simp] theorem State.onsetAt_otp (time flags code ch part : Nat) (hasEnd : Bool) (data : List Byte) : (s.onsetAt time flags code ch part hasEnd data).otp = s.otp :=
  (State.onsetAt_moves time flags code ch part hasEnd data s).same .otp rfl
@[simp] theorem State.onsetAt_hoard (time flags code ch part : Nat) (hasEnd : Bool) (data : List Byte) : (s.onsetAt time flags code ch part hasEnd data).mem.hoard = s.mem.hoard :=
  (State.onsetAt_moves time flags code ch part hasEnd data s).same .hoard rfl
@[simp] theorem State.onsetAt_sram (time flags code ch part : Nat) (hasEnd : Bool) (data : List Byte) : (s.onsetAt time flags code ch part hasEnd data).mem.sram = s.mem.sram :=
  (State.onsetAt_moves time flags code ch part hasEnd data s).same .sram rfl
@[simp] theorem State.onsetAt_flt (time flags code ch part : Nat) (hasEnd : Bool) (data : List Byte) : (s.onsetAt time flags code ch part hasEnd data).flt = s.flt :=
  (State.onsetAt_moves time flags code ch part hasEnd data s).same .flt rfl
@[simp] theorem State.onsetAt_pwr (time flags code ch part : Nat) (hasEnd : Bool) (data : List Byte) : (s.onsetAt time flags code ch part hasEnd data).pwr = s.pwr :=
  (State.onsetAt_moves time flags code ch part hasEnd data s).same .pwr rfl
@[simp] theorem State.onsetAt_img (time flags code ch part : Nat) (hasEnd : Bool) (data : List Byte) : (s.onsetAt time flags code ch part hasEnd data).img = s.img :=
  (State.onsetAt_moves time flags code ch part hasEnd data s).same .img rfl
@[simp] theorem State.onsetAt_meas (time flags code ch part : Nat) (hasEnd : Bool) (data : List Byte) : (s.onsetAt time flags code ch part hasEnd data).meas = s.meas :=
  (State.onsetAt_moves time flags code ch part hasEnd data s).same .meas rfl
@[simp] theorem State.onsetAt_chans (time flags code ch part : Nat) (hasEnd : Bool) (data : List Byte) : (s.onsetAt time flags code ch part hasEnd data).chans = s.chans :=
  (State.onsetAt_moves time flags code ch part hasEnd data s).same .chans rfl
@[simp] theorem State.onsetAt_tcs (time flags code ch part : Nat) (hasEnd : Bool) (data : List Byte) : (s.onsetAt time flags code ch part hasEnd data).tcs = s.tcs :=
  (State.onsetAt_moves time flags code ch part hasEnd data s).same .tcs rfl
@[simp] theorem State.onsetAt_outs (time flags code ch part : Nat) (hasEnd : Bool) (data : List Byte) : (s.onsetAt time flags code ch part hasEnd data).outs = s.outs :=
  (State.onsetAt_moves time flags code ch part hasEnd data s).same .outs rfl
@[simp] theorem State.onsetAt_bridge (time flags code ch part : Nat) (hasEnd : Bool) (data : List Byte) : (s.onsetAt time flags code ch part hasEnd data).bridge = s.bridge :=
  (State.onsetAt_moves time flags code ch part hasEnd data s).same .bridge rfl
@[simp] theorem State.onsetAt_tamper (time flags code ch part : Nat) (hasEnd : Bool) (data : List Byte) : (s.onsetAt time flags code ch part hasEnd data).tamper = s.tamper :=
  (State.onsetAt_moves time flags code ch part hasEnd data s).same .tamper rfl
@[simp] theorem State.onsetAt_rtc (time flags code ch part : Nat) (hasEnd : Bool) (data : List Byte) : (s.onsetAt time flags code ch part hasEnd data).rtc = s.rtc :=
  (State.onsetAt_moves time flags code ch part hasEnd data s).same .rtc rfl
@[simp] theorem State.onsetAt_sec (time flags code ch part : Nat) (hasEnd : Bool) (data : List Byte) : (s.onsetAt time flags code ch part hasEnd data).sec = s.sec :=
  (State.onsetAt_moves time flags code ch part hasEnd data s).same .sec rfl
@[simp] theorem State.onsetAt_sess (time flags code ch part : Nat) (hasEnd : Bool) (data : List Byte) : (s.onsetAt time flags code ch part hasEnd data).sess = s.sess :=
  (State.onsetAt_moves time flags code ch part hasEnd data s).same .sess rfl
@[simp] theorem State.onsetAt_mbus (time flags code ch part : Nat) (hasEnd : Bool) (data : List Byte) : (s.onsetAt time flags code ch part hasEnd data).mbus = s.mbus :=
  (State.onsetAt_moves time flags code ch part hasEnd data s).same .mbus rfl
@[simp] theorem State.onsetAt_alc (time flags code ch part : Nat) (hasEnd : Bool) (data : List Byte) : (s.onsetAt time flags code ch part hasEnd data).alc = s.alc :=
  (State.onsetAt_moves time flags code ch part hasEnd data s).same .alc rfl
@[simp] theorem State.onsetAt_hl (time flags code ch part : Nat) (hasEnd : Bool) (data : List Byte) : (s.onsetAt time flags code ch part hasEnd data).hl = s.hl :=
  (State.onsetAt_moves time flags code ch part hasEnd data s).same .hl rfl
@[simp] theorem State.onsetAt_dma (time flags code ch part : Nat) (hasEnd : Bool) (data : List Byte) : (s.onsetAt time flags code ch part hasEnd data).dma = s.dma :=
  (State.onsetAt_moves time flags code ch part hasEnd data s).same .dma rfl
@[simp] theorem State.onsetAt_disp (time flags code ch part : Nat) (hasEnd : Bool) (data : List Byte) : (s.onsetAt time flags code ch part hasEnd data).disp = s.disp :=
  (State.onsetAt_moves time flags code ch part hasEnd data s).same .disp rfl
@[simp] theorem State.onsetAt_free (time flags code ch part : Nat) (hasEnd : Bool) (data : List Byte) : (s.onsetAt time flags code ch part hasEnd data).free = s.free :=
  (State.onsetAt_moves time flags code ch part hasEnd data s).same .free rfl

/-! ### endAt -/

@[simp] theorem State.endAt_pending (time flags code ch part : Nat) (data : List Byte) : (s.endAt time flags code ch part data).pending = s.pending :=
  (State.endAt_moves time flags code ch part data s).same .pending rfl
@[simp] theorem State.endAt_otp (time flags code ch part : Nat) (data : List Byte) : (s.endAt time flags code ch part data).otp = s.otp :=
  (State.endAt_moves time flags code ch part data s).same .otp rfl
@[simp] theorem State.endAt_hoard (time flags code ch part : Nat) (data : List Byte) : (s.endAt time flags code ch part data).mem.hoard = s.mem.hoard :=
  (State.endAt_moves time flags code ch part data s).same .hoard rfl
@[simp] theorem State.endAt_sram (time flags code ch part : Nat) (data : List Byte) : (s.endAt time flags code ch part data).mem.sram = s.mem.sram :=
  (State.endAt_moves time flags code ch part data s).same .sram rfl
@[simp] theorem State.endAt_flt (time flags code ch part : Nat) (data : List Byte) : (s.endAt time flags code ch part data).flt = s.flt :=
  (State.endAt_moves time flags code ch part data s).same .flt rfl
@[simp] theorem State.endAt_pwr (time flags code ch part : Nat) (data : List Byte) : (s.endAt time flags code ch part data).pwr = s.pwr :=
  (State.endAt_moves time flags code ch part data s).same .pwr rfl
@[simp] theorem State.endAt_img (time flags code ch part : Nat) (data : List Byte) : (s.endAt time flags code ch part data).img = s.img :=
  (State.endAt_moves time flags code ch part data s).same .img rfl
@[simp] theorem State.endAt_meas (time flags code ch part : Nat) (data : List Byte) : (s.endAt time flags code ch part data).meas = s.meas :=
  (State.endAt_moves time flags code ch part data s).same .meas rfl
@[simp] theorem State.endAt_chans (time flags code ch part : Nat) (data : List Byte) : (s.endAt time flags code ch part data).chans = s.chans :=
  (State.endAt_moves time flags code ch part data s).same .chans rfl
@[simp] theorem State.endAt_tcs (time flags code ch part : Nat) (data : List Byte) : (s.endAt time flags code ch part data).tcs = s.tcs :=
  (State.endAt_moves time flags code ch part data s).same .tcs rfl
@[simp] theorem State.endAt_outs (time flags code ch part : Nat) (data : List Byte) : (s.endAt time flags code ch part data).outs = s.outs :=
  (State.endAt_moves time flags code ch part data s).same .outs rfl
@[simp] theorem State.endAt_bridge (time flags code ch part : Nat) (data : List Byte) : (s.endAt time flags code ch part data).bridge = s.bridge :=
  (State.endAt_moves time flags code ch part data s).same .bridge rfl
@[simp] theorem State.endAt_tamper (time flags code ch part : Nat) (data : List Byte) : (s.endAt time flags code ch part data).tamper = s.tamper :=
  (State.endAt_moves time flags code ch part data s).same .tamper rfl
@[simp] theorem State.endAt_rtc (time flags code ch part : Nat) (data : List Byte) : (s.endAt time flags code ch part data).rtc = s.rtc :=
  (State.endAt_moves time flags code ch part data s).same .rtc rfl
@[simp] theorem State.endAt_sec (time flags code ch part : Nat) (data : List Byte) : (s.endAt time flags code ch part data).sec = s.sec :=
  (State.endAt_moves time flags code ch part data s).same .sec rfl
@[simp] theorem State.endAt_sess (time flags code ch part : Nat) (data : List Byte) : (s.endAt time flags code ch part data).sess = s.sess :=
  (State.endAt_moves time flags code ch part data s).same .sess rfl
@[simp] theorem State.endAt_mbus (time flags code ch part : Nat) (data : List Byte) : (s.endAt time flags code ch part data).mbus = s.mbus :=
  (State.endAt_moves time flags code ch part data s).same .mbus rfl
@[simp] theorem State.endAt_alc (time flags code ch part : Nat) (data : List Byte) : (s.endAt time flags code ch part data).alc = s.alc :=
  (State.endAt_moves time flags code ch part data s).same .alc rfl
@[simp] theorem State.endAt_hl (time flags code ch part : Nat) (data : List Byte) : (s.endAt time flags code ch part data).hl = s.hl :=
  (State.endAt_moves time flags code ch part data s).same .hl rfl
@[simp] theorem State.endAt_dma (time flags code ch part : Nat) (data : List Byte) : (s.endAt time flags code ch part data).dma = s.dma :=
  (State.endAt_moves time flags code ch part data s).same .dma rfl
@[simp] theorem State.endAt_disp (time flags code ch part : Nat) (data : List Byte) : (s.endAt time flags code ch part data).disp = s.disp :=
  (State.endAt_moves time flags code ch part data s).same .disp rfl
@[simp] theorem State.endAt_free (time flags code ch part : Nat) (data : List Byte) : (s.endAt time flags code ch part data).free = s.free :=
  (State.endAt_moves time flags code ch part data s).same .free rfl

/-! ### enqueue -/

@[simp] theorem State.enqueue_pending (r : HoardRec) : (s.enqueue r).pending = s.pending :=
  (State.enqueue_moves r s).same .pending rfl
@[simp] theorem State.enqueue_otp (r : HoardRec) : (s.enqueue r).otp = s.otp :=
  (State.enqueue_moves r s).same .otp rfl
@[simp] theorem State.enqueue_hoard (r : HoardRec) : (s.enqueue r).mem.hoard = s.mem.hoard :=
  (State.enqueue_moves r s).same .hoard rfl
@[simp] theorem State.enqueue_sram (r : HoardRec) : (s.enqueue r).mem.sram = s.mem.sram :=
  (State.enqueue_moves r s).same .sram rfl
@[simp] theorem State.enqueue_flt (r : HoardRec) : (s.enqueue r).flt = s.flt :=
  (State.enqueue_moves r s).same .flt rfl
@[simp] theorem State.enqueue_log (r : HoardRec) : (s.enqueue r).log = s.log :=
  (State.enqueue_moves r s).same .log rfl
@[simp] theorem State.enqueue_pwr (r : HoardRec) : (s.enqueue r).pwr = s.pwr :=
  (State.enqueue_moves r s).same .pwr rfl
@[simp] theorem State.enqueue_img (r : HoardRec) : (s.enqueue r).img = s.img :=
  (State.enqueue_moves r s).same .img rfl
@[simp] theorem State.enqueue_meas (r : HoardRec) : (s.enqueue r).meas = s.meas :=
  (State.enqueue_moves r s).same .meas rfl
@[simp] theorem State.enqueue_chans (r : HoardRec) : (s.enqueue r).chans = s.chans :=
  (State.enqueue_moves r s).same .chans rfl
@[simp] theorem State.enqueue_tcs (r : HoardRec) : (s.enqueue r).tcs = s.tcs :=
  (State.enqueue_moves r s).same .tcs rfl
@[simp] theorem State.enqueue_outs (r : HoardRec) : (s.enqueue r).outs = s.outs :=
  (State.enqueue_moves r s).same .outs rfl
@[simp] theorem State.enqueue_bridge (r : HoardRec) : (s.enqueue r).bridge = s.bridge :=
  (State.enqueue_moves r s).same .bridge rfl
@[simp] theorem State.enqueue_tamper (r : HoardRec) : (s.enqueue r).tamper = s.tamper :=
  (State.enqueue_moves r s).same .tamper rfl
@[simp] theorem State.enqueue_rtc (r : HoardRec) : (s.enqueue r).rtc = s.rtc :=
  (State.enqueue_moves r s).same .rtc rfl
@[simp] theorem State.enqueue_radio (r : HoardRec) : (s.enqueue r).radio = s.radio :=
  (State.enqueue_moves r s).same .radio rfl
@[simp] theorem State.enqueue_sec (r : HoardRec) : (s.enqueue r).sec = s.sec :=
  (State.enqueue_moves r s).same .sec rfl
@[simp] theorem State.enqueue_sess (r : HoardRec) : (s.enqueue r).sess = s.sess :=
  (State.enqueue_moves r s).same .sess rfl
@[simp] theorem State.enqueue_mbus (r : HoardRec) : (s.enqueue r).mbus = s.mbus :=
  (State.enqueue_moves r s).same .mbus rfl
@[simp] theorem State.enqueue_alc (r : HoardRec) : (s.enqueue r).alc = s.alc :=
  (State.enqueue_moves r s).same .alc rfl
@[simp] theorem State.enqueue_hl (r : HoardRec) : (s.enqueue r).hl = s.hl :=
  (State.enqueue_moves r s).same .hl rfl
@[simp] theorem State.enqueue_dma (r : HoardRec) : (s.enqueue r).dma = s.dma :=
  (State.enqueue_moves r s).same .dma rfl
@[simp] theorem State.enqueue_disp (r : HoardRec) : (s.enqueue r).disp = s.disp :=
  (State.enqueue_moves r s).same .disp rfl
@[simp] theorem State.enqueue_free (r : HoardRec) : (s.enqueue r).free = s.free :=
  (State.enqueue_moves r s).same .free rfl

/-! ### noteMode -/

@[simp] theorem State.noteMode_pending (old : State) : (old.noteMode s).pending = s.pending :=
  (State.noteMode_moves old s).same .pending rfl
@[simp] theorem State.noteMode_otp (old : State) : (old.noteMode s).otp = s.otp :=
  (State.noteMode_moves old s).same .otp rfl
@[simp] theorem State.noteMode_hoard (old : State) : (old.noteMode s).mem.hoard = s.mem.hoard :=
  (State.noteMode_moves old s).same .hoard rfl
@[simp] theorem State.noteMode_sram (old : State) : (old.noteMode s).mem.sram = s.mem.sram :=
  (State.noteMode_moves old s).same .sram rfl
@[simp] theorem State.noteMode_flt (old : State) : (old.noteMode s).flt = s.flt :=
  (State.noteMode_moves old s).same .flt rfl
@[simp] theorem State.noteMode_log (old : State) : (old.noteMode s).log = s.log :=
  (State.noteMode_moves old s).same .log rfl
@[simp] theorem State.noteMode_pwr (old : State) : (old.noteMode s).pwr = s.pwr :=
  (State.noteMode_moves old s).same .pwr rfl
@[simp] theorem State.noteMode_img (old : State) : (old.noteMode s).img = s.img :=
  (State.noteMode_moves old s).same .img rfl
@[simp] theorem State.noteMode_meas (old : State) : (old.noteMode s).meas = s.meas :=
  (State.noteMode_moves old s).same .meas rfl
@[simp] theorem State.noteMode_chans (old : State) : (old.noteMode s).chans = s.chans :=
  (State.noteMode_moves old s).same .chans rfl
@[simp] theorem State.noteMode_tcs (old : State) : (old.noteMode s).tcs = s.tcs :=
  (State.noteMode_moves old s).same .tcs rfl
@[simp] theorem State.noteMode_outs (old : State) : (old.noteMode s).outs = s.outs :=
  (State.noteMode_moves old s).same .outs rfl
@[simp] theorem State.noteMode_bridge (old : State) : (old.noteMode s).bridge = s.bridge :=
  (State.noteMode_moves old s).same .bridge rfl
@[simp] theorem State.noteMode_tamper (old : State) : (old.noteMode s).tamper = s.tamper :=
  (State.noteMode_moves old s).same .tamper rfl
@[simp] theorem State.noteMode_rtc (old : State) : (old.noteMode s).rtc = s.rtc :=
  (State.noteMode_moves old s).same .rtc rfl
@[simp] theorem State.noteMode_pair (old : State) : (old.noteMode s).pair = s.pair :=
  (State.noteMode_moves old s).same .pair rfl
@[simp] theorem State.noteMode_radio (old : State) : (old.noteMode s).radio = s.radio :=
  (State.noteMode_moves old s).same .radio rfl
@[simp] theorem State.noteMode_sec (old : State) : (old.noteMode s).sec = s.sec :=
  (State.noteMode_moves old s).same .sec rfl
@[simp] theorem State.noteMode_sess (old : State) : (old.noteMode s).sess = s.sess :=
  (State.noteMode_moves old s).same .sess rfl
@[simp] theorem State.noteMode_mbus (old : State) : (old.noteMode s).mbus = s.mbus :=
  (State.noteMode_moves old s).same .mbus rfl
@[simp] theorem State.noteMode_alc (old : State) : (old.noteMode s).alc = s.alc :=
  (State.noteMode_moves old s).same .alc rfl
@[simp] theorem State.noteMode_dma (old : State) : (old.noteMode s).dma = s.dma :=
  (State.noteMode_moves old s).same .dma rfl
@[simp] theorem State.noteMode_disp (old : State) : (old.noteMode s).disp = s.disp :=
  (State.noteMode_moves old s).same .disp rfl
@[simp] theorem State.noteMode_free (old : State) : (old.noteMode s).free = s.free :=
  (State.noteMode_moves old s).same .free rfl

end Sys2Proof.Machine
end

