-- ==== Sys2Proof/Laws/HostRegsMoves.lean ====
section
/-! SUPPORT. What each operation of HostRegs can change. -/

set_option Elab.async false

namespace Sys2Proof.Machine

theorem State.readClears_moves (a : Nat) (s : State) :
    Moves [.flt, .meas, .pair, .radio, .sess, .mbus, .alc, .hl] s (State.readClears a s) := by
  unfold State.readClears
  repeat' (first
    | with_reducible apply Moves.refl
    | with_reducible apply Moves.step (State.onAlc_moves _ _) (by decide)
    | with_reducible apply Moves.step (State.onFlt_moves _ _) (by decide)
    | with_reducible apply Moves.step (State.onHl_moves _ _) (by decide)
    | with_reducible apply Moves.step (State.onMBus_moves _ _) (by decide)
    | with_reducible apply Moves.step (State.onMeas_moves _ _) (by decide)
    | with_reducible apply Moves.step (State.onPair_moves _ _) (by decide)
    | with_reducible apply Moves.step (State.onRadio_moves _ _) (by decide)
    | with_reducible apply Moves.step (State.onSess_moves _ _) (by decide)
    | split
    | (dsimp only; split))

theorem State.readReg_moves (a : Nat) (now : Now) (s : State) :
    Moves [.flt, .meas, .rtc, .pair, .radio, .sess, .mbus, .alc, .hl] s (State.readReg a now s).2 := by
  unfold State.readReg
  repeat' (first
    | with_reducible apply Moves.refl
    | with_reducible apply Moves.step (State.readClears_moves _ _) (by decide)
    | with_reducible apply Moves.step (State.rtcRead_moves _ _ _) (by decide)
    | split)

theorem State.readRegs_moves (n : Nat) (a : Nat) (now : Now) (s : State) :
    Moves [.flt, .meas, .rtc, .pair, .radio, .sess, .mbus, .alc, .hl] s (State.readRegs n a now s).2 := by
  induction n generalizing a s with
  | zero => exact Moves.refl _ s
  | succ k ih =>
    simp only [State.readRegs]
    exact (State.readReg_moves a now s).trans (ih _ _)

theorem State.chselWrite_moves (v : Nat) (s : State) :
    Moves [.meas] s (State.chselWrite v s) := by
  unfold State.chselWrite
  repeat' (first
    | with_reducible apply Moves.refl
    | with_reducible apply Moves.ite
    | with_reducible apply Moves.step (State.onMeas_moves _ _) (by decide))

theorem State.chwEventsWrite_moves (v : Word) (s : State) :
    Moves [.meas, .chans] s (State.chwEventsWrite v s) := by
  unfold State.chwEventsWrite
  repeat' (first
    | with_reducible apply Moves.refl
    | with_reducible apply Moves.step (State.onCh_moves _ _ _) (by decide)
    | with_reducible apply Moves.step (State.onMeas_moves _ _) (by decide))

theorem State.captureWrite_moves (v : Nat) (s : State) :
    Moves [.meas, .chans] s (State.captureWrite v s) := by
  unfold State.captureWrite
  repeat' (first
    | with_reducible apply Moves.refl
    | with_reducible apply Moves.step (State.onCh_moves _ _ _) (by decide)
    | with_reducible apply Moves.step (State.onMeas_moves _ _) (by decide))

theorem State.hlRaise_moves (bit : Nat) (s : State) :
    Moves [.hl] s (State.hlRaise bit s) := by
  unfold State.hlRaise
  repeat' (first
    | with_reducible apply Moves.refl
    | with_reducible apply Moves.step (State.onHl_moves _ _) (by decide))

theorem State.challenge_moves (ms : Nat) (s : State) :
    Moves [.sram, .marks, .hl] s (State.challenge ms s) := by
  unfold State.challenge
  repeat' (first
    | with_reducible apply Moves.refl
    | with_reducible apply Moves.ite
    | with_reducible apply Moves.step (State.hlRaise_moves _ _) (by decide)
    | with_reducible apply Moves.step (State.onHl_moves _ _) (by decide)
    | with_reducible apply Moves.step (State.sramWrite_moves _ _ _) (by decide))

theorem State.unlockWrite_moves (ms : Nat) (s : State) :
    Moves [.hl] s (State.unlockWrite ms s) := by
  unfold State.unlockWrite
  repeat' (first
    | with_reducible apply Moves.refl
    | with_reducible apply Moves.ite
    | with_reducible apply Moves.step (State.hlRaise_moves _ _) (by decide)
    | with_reducible apply Moves.step (State.onHl_moves _ _) (by decide))

theorem State.lockWrite_moves (s : State) :
    Moves [.hl] s (State.lockWrite s) := by
  unfold State.lockWrite
  repeat' (first
    | with_reducible apply Moves.refl
    | with_reducible apply Moves.step (State.onHl_moves _ _) (by decide))

theorem State.hlCtrlWrite_moves (v : Nat) (ms : Nat) (s : State) :
    Moves [.sram, .marks, .hl] s (State.hlCtrlWrite v ms s) := by
  unfold State.hlCtrlWrite
  repeat' (first
    | with_reducible apply Moves.refl
    | with_reducible apply Moves.step (State.challenge_moves _ _) (by decide)
    | with_reducible apply Moves.step (State.lockWrite_moves _) (by decide)
    | with_reducible apply Moves.step (State.unlockWrite_moves _ _) (by decide)
    | split
    | (dsimp only; split))

theorem State.doorbell_moves (v : Nat) (s : State) :
    Moves [.dma] s (State.doorbell v s) := by
  unfold State.doorbell
  repeat' (first
    | with_reducible apply Moves.refl
    | with_reducible apply Moves.ite
    | with_reducible apply Moves.step (State.dmaEvent_moves _ _) (by decide)
    | (with_reducible apply Moves.foldl; intro u a))

theorem State.creditWrite_moves (v : Nat) (s : State) :
    Moves [.hl] s (State.creditWrite v s) := by
  unfold State.creditWrite
  repeat' (first
    | with_reducible apply Moves.refl
    | with_reducible apply Moves.ite
    | with_reducible apply Moves.step (State.hlRaise_moves _ _) (by decide)
    | with_reducible apply Moves.step (State.onHl_moves _ _) (by decide))

theorem State.dmaProgWrite_moves (k : Nat) (v : Nat) (s : State) :
    Moves [.dma] s (State.dmaProgWrite k v s) := by
  unfold State.dmaProgWrite
  repeat' (first
    | with_reducible apply Moves.refl
    | with_reducible apply Moves.step (State.setDc_moves _ _ _) (by decide))

theorem State.rtcClear_moves (v : Nat) (s : State) :
    Moves [.rtc] s (State.rtcClear v s) := by
  unfold State.rtcClear
  repeat' (first
    | with_reducible apply Moves.refl
    | with_reducible apply Moves.step (State.badWrite_moves _) (by decide)
    | with_reducible apply Moves.step (State.onRtc_moves _ _) (by decide))

theorem State.cmdClear_moves (v : Nat) (s : State) :
    Moves [.hl] s (State.cmdClear v s) := by
  unfold State.cmdClear
  repeat' (first
    | with_reducible apply Moves.refl
    | with_reducible apply Moves.step (State.onHl_moves _ _) (by decide))

theorem State.writeReg_moves (link : State → State) (a : Nat) (w : Word) (now : Now) (s : State)
    (hl : ∀ t, Moves [.hoard, .sram, .queue, .marks, .flt, .log, .pwr, .img, .meas, .chans, .outs, .bridge, .tamper, .rtc, .pair, .radio, .sess,
      .mbus, .alc, .hl, .dma, .disp] t (link t)) :
    Moves [.hoard, .sram, .queue, .marks, .flt, .log, .pwr, .img, .meas, .chans, .outs, .bridge, .tamper, .rtc, .pair, .radio, .sess,
      .mbus, .alc, .hl, .dma, .disp] s (State.writeReg link a w now s) := by
  unfold State.writeReg
  dsimp +zeta only
  split
  case h_3 => exact ((State.runCommand_moves _ link _ _ now s (by decide) fun _ => hl)).trans ((State.noteMode_moves _ _).sub (by decide))
  all_goals first
    | with_reducible exact Moves.refl _ s
    | with_reducible exact (State.onHl_moves s _).sub (by decide)
    | with_reducible exact (State.onPwr_moves s _).sub (by decide)
    | with_reducible exact (State.onDma_moves s _).sub (by decide)
    | with_reducible exact (State.onDisp_moves s _).sub (by decide)
    | with_reducible exact (State.onRadio_moves s _).sub (by decide)
    | with_reducible exact (State.onPair_moves s _).sub (by decide)
    | with_reducible exact (State.onFlt_moves s _).sub (by decide)
    | with_reducible exact (State.onTamper_moves s _).sub (by decide)
    | with_reducible exact (State.cmdClear_moves _ s).sub (by decide)
    | with_reducible exact (State.rtcClear_moves _ s).sub (by decide)
    | with_reducible exact (State.dateWrite_moves _ s).sub (by decide)
    | with_reducible exact (State.timeWrite_moves _ s).sub (by decide)
    | with_reducible exact (State.slewWrite_moves _ s).sub (by decide)
    | with_reducible exact (State.chselWrite_moves _ s).sub (by decide)
    | with_reducible exact (State.chwEventsWrite_moves _ s).sub (by decide)
    | with_reducible exact (State.captureWrite_moves _ s).sub (by decide)
    | with_reducible exact (State.dmaStopWrite_moves _ s).sub (by decide)
    | with_reducible exact (State.dmaProgWrite_moves _ _ s).sub (by decide)
    | with_reducible exact (State.dmaCtrlWrite_moves _ _ s).sub (by decide)
    | with_reducible exact (State.hlCtrlWrite_moves _ _ s).sub (by decide)
    | with_reducible exact (State.doorbell_moves _ s).sub (by decide)
    | with_reducible exact (State.creditWrite_moves _ s).sub (by decide)
    | with_reducible exact Moves.ite ((State.haltWrite_moves _ s).sub (by decide)) ((State.haltClear_moves _ s).sub (by decide))

theorem State.writeRegs_moves (link : State → State) (n a : Nat) (bs : List Byte) (now : Now) (s : State)
    (hl : ∀ t, Moves [.hoard, .sram, .queue, .marks, .flt, .log, .pwr, .img, .meas, .chans, .outs, .bridge, .tamper, .rtc, .pair, .radio, .sess,
      .mbus, .alc, .hl, .dma, .disp] t (link t)) :
    Moves [.hoard, .sram, .queue, .marks, .flt, .log, .pwr, .img, .meas, .chans, .outs, .bridge, .tamper, .rtc, .pair, .radio, .sess,
      .mbus, .alc, .hl, .dma, .disp] s (State.writeRegs link n a bs now s) := by
  induction n generalizing a bs s with
  | zero => exact Moves.refl _ s
  | succ k ih =>
    simp only [State.writeRegs]
    exact (State.writeReg_moves link _ _ _ s hl).trans (ih _ _ _)

theorem State.runEntry_moves (link : State → State) (e : PostedWrite) (now : Now) (s : State)
    (hl : ∀ t, Moves [.hoard, .sram, .queue, .marks, .flt, .log, .pwr, .img, .meas, .chans, .outs, .bridge, .tamper, .rtc, .pair, .radio, .sess,
      .mbus, .alc, .hl, .dma, .disp] t (link t)) :
    Moves [.hoard, .sram, .queue, .marks, .flt, .log, .pwr, .img, .meas, .chans, .outs, .bridge, .tamper, .rtc, .pair, .radio, .sess,
      .mbus, .alc, .hl, .dma, .disp] s (State.runEntry link e now s) := by
  unfold State.runEntry
  split
  · exact State.writeRegs_moves link _ _ _ _ s hl
  · split
    · exact (State.sramWrite_moves _ _ s).sub (by decide)
    · exact (State.scratchWrite_moves _ _ s).sub (by decide)

theorem State.linkDone_moves (causes : Nat) (s : State) :
    Moves [.flt, .pwr, .meas, .chans, .tamper, .rtc, .pair, .radio, .sess, .mbus, .alc, .hl, .dma, .disp] s (State.linkDone causes s) := by
  unfold State.linkDone
  repeat' (first
    | with_reducible apply Moves.refl
    | with_reducible apply Moves.step (State.linkState_moves _) (by decide)
    | with_reducible apply Moves.step (State.onPwr_moves _ _) (by decide))

theorem State.linkN_moves (n : Nat) (cause : Nat) (now : Now) (s : State) :
    Moves [.hoard, .sram, .queue, .marks, .flt, .log, .pwr, .img, .meas, .chans, .outs, .bridge, .tamper, .rtc, .pair, .radio, .sess, .mbus, .alc, .hl, .dma, .disp] s (State.linkN n cause now s) := by
  induction n generalizing cause s with
  | zero =>
    exact (State.linkDone_moves _ s).sub (by decide)
  | succ k ih =>
    simp only [State.linkN]
    split
    · exact (State.linkDone_moves _ s).sub (by decide)
    · split
      · exact (((State.onHl_moves s _).sub (by decide)).trans (State.runEntry_moves _ _ _ _ fun t => ih 16 t)).trans (ih _ _)
      · exact (State.onHl_moves s _).sub (by decide)

theorem State.linkFinish_moves (s : State) :
    Moves [.flt, .pwr, .meas, .chans, .tamper, .rtc, .pair, .radio, .sess, .mbus, .alc, .hl, .dma, .disp] s (State.linkFinish s) := by
  unfold State.linkFinish
  repeat' (first
    | with_reducible apply Moves.refl
    | with_reducible apply Moves.ite
    | with_reducible apply Moves.step (State.linkDone_moves _ _) (by decide))

theorem State.linkReset_moves (cause : Nat) (now : Now) (s : State) :
    Moves [.hoard, .sram, .queue, .marks, .flt, .log, .pwr, .img, .meas, .chans, .outs, .bridge, .tamper, .rtc, .pair, .radio, .sess, .mbus, .alc, .hl, .dma, .disp] s (State.linkReset cause now s) := by
  unfold State.linkReset
  repeat' (first
    | with_reducible apply Moves.refl
    | with_reducible apply Moves.step (State.linkN_moves _ _ _ _) (by decide))

theorem State.linkCmd_moves (now : Now) (s : State) :
    Moves [.hoard, .sram, .queue, .marks, .flt, .log, .pwr, .img, .meas, .chans, .outs, .bridge, .tamper, .rtc, .pair, .radio, .sess, .mbus, .alc, .hl, .dma, .disp] s (State.linkCmd now s) := by
  unfold State.linkCmd
  repeat' (first
    | with_reducible apply Moves.refl
    | with_reducible apply Moves.step (State.linkReset_moves _ _ _) (by decide))

theorem State.runHead_moves (now : Now) (s : State) :
    Moves [.hoard, .sram, .queue, .marks, .flt, .log, .pwr, .img, .meas, .chans, .outs, .bridge, .tamper, .rtc, .pair, .radio, .sess, .mbus, .alc, .hl, .dma, .disp] s (State.runHead now s) := by
  unfold State.runHead
  split
  · exact Moves.refl _ s
  · exact Moves.ite (((State.onHl_moves s _).sub (by decide)).trans (State.runEntry_moves _ _ _ _ (State.linkCmd_moves now))) (Moves.refl _ s)

theorem State.runBuffer_moves (n : Nat) (now : Now) (s : State) :
    Moves [.hoard, .sram, .queue, .marks, .flt, .log, .pwr, .img, .meas, .chans, .outs, .bridge, .tamper, .rtc, .pair, .radio, .sess, .mbus, .alc, .hl, .dma, .disp] s (State.runBuffer n now s) := by
  induction n generalizing s with
  | zero => exact Moves.refl _ s
  | succ k ih =>
    simp only [State.runBuffer]
    exact (State.runHead_moves now s).trans (ih _)

end Sys2Proof.Machine
end

