-- ==== Sys2Proof/Laws/HostLinkMoves.lean ====
section
/-! SUPPORT. What each operation of HostLink can change. -/

set_option Elab.async false

namespace Sys2Proof.Machine

theorem State.sendResponse_moves (status : Nat) (data : List Byte) (s : State) :
    Moves [.hl] s (State.sendResponse status data s) := by
  unfold State.sendResponse
  repeat' (first
    | with_reducible apply Moves.refl
    | with_reducible apply Moves.step (State.onHl_moves _ _) (by decide))

theorem State.wakeByFrame_moves (s : State) :
    Moves [.pwr, .hl] s (State.wakeByFrame s) := by
  unfold State.wakeByFrame
  repeat' (first
    | with_reducible apply Moves.refl
    | with_reducible apply Moves.ite
    | with_reducible apply Moves.step (State.onHl_moves _ _) (by decide)
    | with_reducible apply Moves.step (State.raiseWake_moves _ _) (by decide))

theorem State.countAborted_moves (s : State) :
    Moves [.hl] s (State.countAborted s) := by
  unfold State.countAborted
  repeat' (first
    | with_reducible apply Moves.refl
    | with_reducible apply Moves.step (State.onHl_moves _ _) (by decide))

theorem State.takeFrame_moves (gs : List Group) (cmd : Nat) (now : Now) (f : HostFrame) (body : List Byte → State → State) (s : State)
    (hg : ([.pwr, .hl] : List Group).all gs.contains = true) (hf : ∀ d t, Moves gs t (body d t)) :
    Moves gs s (State.takeFrame cmd now f body s) := by
  have hp : ([.pwr] : List Group).all gs.contains = true := by simp_all
  have hh : ([.hl] : List Group).all gs.contains = true := by simp_all
  have h1 := (State.onPwr_moves s fun p => { p with lastHostMs := now.ms }).sub hp
  unfold State.takeFrame
  dsimp +zeta only
  split
  · exact Moves.refl _ s
  · split
    · exact (State.wakeByFrame_moves s).sub hg
    · split
      · exact Moves.refl _ s
      · split
        · exact h1.trans ((State.countAborted_moves _).sub hh)
        · split
          · exact h1.trans ((State.sendResponse_moves _ _ _).sub hh)
          · split
            · exact h1.trans (((State.onHl_moves _ _).sub hh).trans ((State.sendResponse_moves _ _ _).sub hh))
            · have h2 := h1.trans ((State.onHl_moves _ fun h => { h with goodMs := now.ms }).sub hh)
              split
              · exact h2.trans (((State.onHl_moves _ _).sub hh).trans ((State.sendResponse_moves _ _ _).sub hh))
              · exact h2.trans (hf _ _)

theorem State.postWrite_moves (cmd : Nat) (a : Nat) (data : List Byte) (s : State) :
    Moves [.rtc, .hl] s (State.postWrite cmd a data s) := by
  unfold State.postWrite
  repeat' (first
    | with_reducible apply Moves.refl
    | with_reducible apply Moves.ite
    | with_reducible apply Moves.step (State.badWrite_moves _) (by decide)
    | with_reducible apply Moves.step (State.hlRaise_moves _ _) (by decide)
    | with_reducible apply Moves.step (State.onHl_moves _ _) (by decide)
    | with_reducible apply Moves.step (State.sendResponse_moves _ _ _) (by decide))

theorem State.hostRead_moves (a : Nat) (n : Nat) (now : Now) (s : State) :
    Moves [.flt, .meas, .rtc, .pair, .radio, .sess, .mbus, .alc, .hl, .free] s (State.hostRead a n now s).2 := by
  unfold State.hostRead
  repeat' (first
    | with_reducible apply Moves.refl
    | with_reducible apply Moves.step (State.onFlt_moves _ _) (by decide)
    | with_reducible apply Moves.step (State.readRegs_moves _ _ _ _) (by decide)
    | with_reducible apply Moves.step (State.mapRead_moves _ _ _ _) (by decide)
    | split)

theorem State.readBehind_moves (a : Nat) (n : Nat) (now : Now) (s : State) :
    Moves [.hoard, .sram, .queue, .marks, .flt, .log, .pwr, .img, .meas, .chans, .outs, .bridge, .tamper, .rtc, .pair, .radio, .sess, .mbus, .alc, .hl, .dma, .disp, .free] s (State.readBehind a n now s) := by
  unfold State.readBehind
  repeat' (first
    | with_reducible apply Moves.refl
    | with_reducible apply Moves.ite
    | with_reducible apply Moves.step (State.hostRead_moves _ _ _ _) (by decide)
    | with_reducible apply Moves.step (State.runBuffer_moves _ _ _) (by decide)
    | with_reducible apply Moves.step (State.sendResponse_moves _ _ _) (by decide))

theorem State.readRow_moves (a : Nat) (now : Now) (s : State) :
    Moves [.flt, .meas, .rtc, .pair, .radio, .sess, .mbus, .alc, .hl] s (State.readRow a now s) := by
  unfold State.readRow
  repeat' (first
    | with_reducible apply Moves.refl
    | with_reducible apply Moves.ite
    | with_reducible apply Moves.step (State.readReg_moves _ _ _) (by decide)
    | with_reducible apply Moves.step (State.sendResponse_moves _ _ _) (by decide))

theorem State.readStill_moves (a : Nat) (s : State) :
    Moves [.flt, .meas, .rtc, .pair, .radio, .sess, .mbus, .alc, .hl] s (State.readStill a s) := by
  unfold State.readStill
  repeat' (first
    | with_reducible apply Moves.refl
    | with_reducible apply Moves.step (State.readRow_moves _ _ _) (by decide))

theorem State.hostCommand_moves (gs : List Group) (code tag arg : Nat) (now : Now) (s : State)
    (hg : ([.hoard, .sram, .queue, .marks, .log, .pwr, .img, .meas, .chans, .outs, .bridge, .tamper, .pair, .radio, .mbus, .hl, .disp] :
      List Group).all gs.contains = true)
    (h4 : code = 4 → ([.hoard, .sram, .queue, .marks, .flt, .log, .pwr, .img, .meas, .chans, .outs, .bridge, .tamper, .rtc, .pair, .radio, .sess,
      .mbus, .alc, .hl, .dma, .disp] :
      List Group).all gs.contains = true) :
    Moves gs s (State.hostCommand code tag arg now s) := by
  have hh : ([.hl] : List Group).all gs.contains = true := by simp_all
  unfold State.hostCommand
  split
  · exact Moves.refl _ s
  · exact (((State.onHl_moves s _).sub hh).trans (State.runCommand_moves gs _ _ _ now _ (by simp_all) fun h t =>
      (State.linkCmd_moves now t).sub (h4 h))).trans ((State.noteMode_moves _ _).sub hh)

/-- The host's command as a row, where it is neither LINK_RESET nor WARM_RESET. -/
theorem State.hostCommand_own (gs : List Group) (code tag arg : Nat) (now : Now) (s : State) (h3 : code ≠ 3)
    (h4 : code ≠ 4) (hg : ([.hl] : List Group).all gs.contains = true)
    (ho : ∀ arg t, Moves gs t (t.ownCommand code arg now).2) : Moves gs s (s.hostCommand code tag arg now) := by
  unfold State.hostCommand
  split
  · exact Moves.refl _ s
  · exact (((State.onHl_moves s _).sub hg).trans (State.runCommand_own gs _ _ _ _ _ h3 h4 hg ho)).trans
      ((State.noteMode_moves _ _).sub hg)

/-- A read of one register as a row: what the read moves, and the response. -/
theorem State.readRow_moves' (gs : List Group) (a : Nat) (now : Now) (s : State) (hg : ([.hl] : List Group).all gs.contains = true)
    (hr : Moves gs s (s.readReg a now).2) : Moves gs s (s.readRow a now) := by
  unfold State.readRow
  split
  · exact Moves.refl _ s
  · split
    · exact (State.sendResponse_moves _ _ _).sub hg
    · exact hr.trans ((State.sendResponse_moves _ _ _).sub hg)

/-- WARM_RESET as a row: the host link, and what the beginning of a WARM reset moves. -/
theorem State.hostCommand_warm (tag arg : Nat) (now : Now) (s : State) :
    Moves [.hoard, .queue, .marks, .log, .pwr, .meas, .chans, .outs, .bridge, .tamper, .pair, .radio, .hl, .disp] s
      (s.hostCommand 3 tag arg now) := by
  have e : ∀ a t, State.ownCommand 3 a now t = (some 0, t) := fun _ _ => rfl
  unfold State.hostCommand State.runCommand State.answerCommand
  simp only [e, show ((3 : Nat) = 4) = False from by decide, if_false, if_true]
  refine Moves.ite (Moves.refl _ s) (Moves.step (State.noteMode_moves _ _) (by decide) ?_)
  refine Moves.ite ?_ (Moves.ite ?_ (Moves.ite ?_ ?_))
  · exact ((State.onHl_moves s _).trans (State.onHl_moves _ _)).sub (by decide)
  · exact ((State.onHl_moves s _).trans (State.onHl_moves _ _)).sub (by decide)
  · exact ((State.onHl_moves s _).trans ((State.onHl_moves _ _).trans (State.setResult_moves _ _))).sub (by decide)
  · exact Moves.step (State.warmBegin_moves _ _ _) (by decide)
      (((State.onHl_moves s _).trans ((State.onHl_moves _ _).trans (State.setResult_moves _ _))).sub (by decide))

end Sys2Proof.Machine
end

