-- ==== Sys2Proof/Laws/PerInstr.lean ====
section
/-! SUPPORT. For each command: the queue of waiting commands and the factory data are no group that it touches. -/

set_option Elab.async false

namespace Sys2Proof.Laws.Untouched

/-- The command touches neither the queue nor the factory data. -/
def Statement (i : Instr) : Prop :=
  i.touches.contains Machine.Group.pending = false ∧ i.touches.contains Machine.Group.otp = false

theorem vbusFail (now : Now) (sup : Supplies) : Statement (.vbusFail now sup) := ⟨rfl, rfl⟩
theorem vbusOv (now : Now) (sup : Supplies) : Statement (.vbusOv now sup) := ⟨rfl, rfl⟩
theorem pfFinalCommit (now : Now) (upsets : List (Nat × Upset)) : Statement (.pfFinalCommit now upsets) := ⟨rfl, rfl⟩
theorem pfCommitLanded (now : Now) (sup : Supplies) : Statement (.pfCommitLanded now sup) := ⟨rfl, rfl⟩
theorem vbusOk (now : Now) (sup : Supplies) : Statement (.vbusOk now sup) := ⟨rfl, rfl⟩
theorem vbusReturn (now : Now) (sup : Supplies) (upsets : List (Nat × Upset)) : Statement (.vbusReturn now sup upsets) := ⟨rfl, rfl⟩
theorem holdExit (now : Now) (sup : Supplies) (exit10us : Nat) (failedBanks : List Nat) (card : CardRead) (cardOut : Bool) : Statement (.holdExit now sup exit10us failedBanks card cardOut) := ⟨rfl, rfl⟩
theorem storeFault (now : Now) (sup : Supplies) : Statement (.storeFault now sup) := ⟨rfl, rfl⟩
theorem vbatWarn (now : Now) (sup : Supplies) (upsets : List (Nat × Upset)) : Statement (.vbatWarn now sup upsets) := ⟨rfl, rfl⟩
theorem vbatNvwInhibit : Statement .vbatNvwInhibit := ⟨rfl, rfl⟩
theorem vbatNvwRelease : Statement .vbatNvwRelease := ⟨rfl, rfl⟩
theorem vbatSettLoss (now : Now) : Statement (.vbatSettLoss now) := ⟨rfl, rfl⟩
theorem cellLoadTest (loadMv : Nat) : Statement (.cellLoadTest loadMv) := ⟨rfl, rfl⟩
theorem cellChargeCommit (now : Now) (sup : Supplies) : Statement (.cellChargeCommit now sup) := ⟨rfl, rfl⟩
theorem hoardRecordWrite : Statement .hoardRecordWrite := ⟨rfl, rfl⟩
theorem hoardScrub : Statement .hoardScrub := ⟨rfl, rfl⟩
theorem settTrimWindow (rootCycles : Nat) : Statement (.settTrimWindow rootCycles) := ⟨rfl, rfl⟩
theorem rootFail (now : Now) (atStart : Bool) (straps : StrapLevels) (sup : Supplies) : Statement (.rootFail now atStart straps sup) := ⟨rfl, rfl⟩
theorem rootStartRetry (started : Bool) (straps : StrapLevels) (sup : Supplies) : Statement (.rootStartRetry started straps sup) := ⟨rfl, rfl⟩
theorem watchdogExpiry (now : Now) : Statement (.watchdogExpiry now) := ⟨rfl, rfl⟩
theorem sleepEntry (now : Now) : Statement (.sleepEntry now) := ⟨rfl, rfl⟩
theorem deepSleepEntry (now : Now) : Statement (.deepSleepEntry now) := ⟨rfl, rfl⟩
theorem sleepWake (now : Now) (sources : List WakeSource) (exit10us : Nat) (cardOut : Bool) (sup : Supplies) : Statement (.sleepWake now sources exit10us cardOut sup) := ⟨rfl, rfl⟩
theorem deepSleepWake (now : Now) (sources : List WakeSource) (exit10us : Nat) (failedBanks : List Nat) (card : CardRead) (cardOut : Bool) (sup : Supplies) : Statement (.deepSleepWake now sources exit10us failedBanks card cardOut sup) := ⟨rfl, rfl⟩
theorem hostAddressMatch (hdr : Byte) (vio : Bool) : Statement (.hostAddressMatch hdr vio) := ⟨rfl, rfl⟩
theorem uartWake (lowUs : Nat) (edges : List Nat) (vio : Bool) : Statement (.uartWake lowUs edges vio) := ⟨rfl, rfl⟩
theorem mbusStartBitWake : Statement .mbusStartBitWake := ⟨rfl, rfl⟩
theorem holdHostIdle (now : Now) : Statement (.holdHostIdle now) := ⟨rfl, rfl⟩
theorem holdDueDateWake (now : Now) : Statement (.holdDueDateWake now) := ⟨rfl, rfl⟩
theorem wakePinEdge (lowMs poweredMs highMs : Nat) (straps : StrapLevels) (sup : Supplies) : Statement (.wakePinEdge lowMs poweredMs highMs straps sup) := ⟨rfl, rfl⟩
theorem offEntry (straps : StrapLevels) (sup : Supplies) : Statement (.offEntry straps sup) := ⟨rfl, rfl⟩
theorem powerOn (straps : StrapLevels) (sup : Supplies) : Statement (.powerOn straps sup) := ⟨rfl, rfl⟩
theorem cardReadRetry (byteIndex : Nat) : Statement (.cardReadRetry byteIndex) := ⟨rfl, rfl⟩
theorem imageDecision (now : Now) (card : CardRead) (sup : Supplies) : Statement (.imageDecision now card sup) := ⟨rfl, rfl⟩
theorem resetPinAssert (now : Now) (lowUs : Nat) : Statement (.resetPinAssert now lowUs) := ⟨rfl, rfl⟩
theorem warmRestart (now : Now) (straps : StrapLevels) (card : CardRead) (sup : Supplies) : Statement (.warmRestart now straps card sup) := ⟨rfl, rfl⟩
theorem tick (sup : Supplies) (pins : TickPins) (internalTemp : Int) : Statement (.tick sup pins internalTemp) := ⟨rfl, rfl⟩
theorem settTickEdge (sup : Supplies) (pins : TickPins) (internalTemp : Int) : Statement (.settTickEdge sup pins internalTemp) := ⟨rfl, rfl⟩
theorem degradedTickWake (now : Now) (sup : Supplies) (pins : TickPins) (internalTemp : Int) (exit10us : Nat) : Statement (.degradedTickWake now sup pins internalTemp exit10us) := ⟨rfl, rfl⟩
theorem tofSlot (ch slot : Nat) (shot : Shot) : Statement (.tofSlot ch slot shot) := ⟨rfl, rfl⟩
theorem tdShortStopEnd (ch : Nat) : Statement (.tdShortStopEnd ch) := ⟨rfl, rfl⟩
theorem lowQRecovery (ch : Nat) : Statement (.lowQRecovery ch) := ⟨rfl, rfl⟩
theorem rtdSlot (tc slot : Nat) (conv : Conversion) : Statement (.rtdSlot tc slot conv) := ⟨rfl, rfl⟩
theorem stepClose (ch : Nat) (upset : Upset) : Statement (.stepClose ch upset) := ⟨rfl, rfl⟩
theorem dmrMismatchReaction (now : Now) : Statement (.dmrMismatchReaction now) := ⟨rfl, rfl⟩
theorem stepOverrun (ch : Nat) : Statement (.stepOverrun ch) := ⟨rfl, rfl⟩
theorem zeroTrackWindow (ch : Nat) : Statement (.zeroTrackWindow ch) := ⟨rfl, rfl⟩
theorem calTrackCommit (ch : Nat) : Statement (.calTrackCommit ch) := ⟨rfl, rfl⟩
theorem pulseStart (po : Nat) (now : Now) : Statement (.pulseStart po now) := ⟨rfl, rfl⟩
theorem pulseEnd (po : Nat) (now : Now) : Statement (.pulseEnd po now) := ⟨rfl, rfl⟩
theorem valveMoveStart (now : Now) : Statement (.valveMoveStart now) := ⟨rfl, rfl⟩
theorem valveFeedbackSample (now : Now) (ch : Nat) (fbOpen fbClosed : Bool) : Statement (.valveFeedbackSample now ch fbOpen fbClosed) := ⟨rfl, rfl⟩
theorem valveTimeout (now : Now) : Statement (.valveTimeout now) := ⟨rfl, rfl⟩
theorem valveOvercurrent (now : Now) : Statement (.valveOvercurrent now) := ⟨rfl, rfl⟩
theorem valveOpenCoil (now : Now) : Statement (.valveOpenCoil now) := ⟨rfl, rfl⟩
theorem allocatorFreeze : Statement .allocatorFreeze := ⟨rfl, rfl⟩
theorem tamperEdge (input : TamperInput) (opened : Bool) : Statement (.tamperEdge input opened) := ⟨rfl, rfl⟩
theorem movorCableLoss (highMs : Nat) : Statement (.movorCableLoss highMs) := ⟨rfl, rfl⟩
theorem rtcSecond : Statement .rtcSecond := ⟨rfl, rfl⟩
theorem oscillatorStop : Statement .oscillatorStop := ⟨rfl, rfl⟩
theorem halt (now : Now) : Statement (.halt now) := ⟨rfl, rfl⟩
theorem haltRelease (now : Now) : Statement (.haltRelease now) := ⟨rfl, rfl⟩
theorem haltAutoRelease (now : Now) : Statement (.haltAutoRelease now) := ⟨rfl, rfl⟩
theorem rtcDateWrite (value : Word) : Statement (.rtcDateWrite value) := ⟨rfl, rfl⟩
theorem rtcTimeWrite (value : Word) : Statement (.rtcTimeWrite value) := ⟨rfl, rfl⟩
theorem rtcSlewWrite (value : Word) : Statement (.rtcSlewWrite value) := ⟨rfl, rfl⟩
theorem rtcTimeRead (now : Now) : Statement (.rtcTimeRead now) := ⟨rfl, rfl⟩
theorem rtcSecondsLoRead (now : Now) : Statement (.rtcSecondsLoRead now) := ⟨rfl, rfl⟩
theorem rtcDateRead (now : Now) : Statement (.rtcDateRead now) := ⟨rfl, rfl⟩
theorem rtcSecondsHiRead (now : Now) : Statement (.rtcSecondsHiRead now) := ⟨rfl, rfl⟩
theorem telegramOffer (now : Now) (offer : OfferKind) : Statement (.telegramOffer now offer) := ⟨rfl, rfl⟩
theorem frameTransmit (now : Now) : Statement (.frameTransmit now) := ⟨rfl, rfl⟩
theorem responseWindow (now : Now) : Statement (.responseWindow now) := ⟨rfl, rfl⟩
theorem radioFrameReceived (now : Now) (since : Nat) (crcOk : Bool) (frame : List Byte) : Statement (.radioFrameReceived now since crcOk frame) := ⟨rfl, rfl⟩
theorem dutyBinAdvance (now : Now) : Statement (.dutyBinAdvance now) := ⟨rfl, rfl⟩
theorem sessionRequest (now : Now) (partner : Partner) (frame : List Byte) : Statement (.sessionRequest now partner frame) := ⟨rfl, rfl⟩
theorem commandExecutionEnd (now : Now) (ctx : Nat) : Statement (.commandExecutionEnd now ctx) := ⟨rfl, rfl⟩
theorem sessionReadyTimeout (now : Now) (ctx : Nat) : Statement (.sessionReadyTimeout now ctx) := ⟨rfl, rfl⟩
theorem sessionIdleTimeout (now : Now) (ctx : Nat) : Statement (.sessionIdleTimeout now ctx) := ⟨rfl, rfl⟩
theorem cmdStatus (ctx : Nat) : Statement (.cmdStatus ctx) := ⟨rfl, rfl⟩
theorem cmdReadHoard (ctx : Nat) : Statement (.cmdReadHoard ctx) := ⟨rfl, rfl⟩
theorem cmdValve (now : Now) (ctx : Nat) : Statement (.cmdValve now ctx) := ⟨rfl, rfl⟩
theorem cmdTopup (now : Now) (ctx : Nat) : Statement (.cmdTopup now ctx) := ⟨rfl, rfl⟩
theorem topupAnswer (now : Now) (ctx : Nat) : Statement (.topupAnswer now ctx) := ⟨rfl, rfl⟩
theorem cmdSetTime (now : Now) (ctx : Nat) : Statement (.cmdSetTime now ctx) := ⟨rfl, rfl⟩
theorem cmdAdjustTime (now : Now) (ctx : Nat) : Statement (.cmdAdjustTime now ctx) := ⟨rfl, rfl⟩
theorem allocatorParse : Statement .allocatorParse := ⟨rfl, rfl⟩
theorem sndNke (now : Now) (address : Byte) (baud : Nat) : Statement (.sndNke now address baud) := ⟨rfl, rfl⟩
theorem secondarySelect (now : Now) (data : List Byte) (baud : Nat) : Statement (.secondarySelect now data baud) := ⟨rfl, rfl⟩
theorem reqUd1 (now : Now) (baud : Nat) : Statement (.reqUd1 now baud) := ⟨rfl, rfl⟩
theorem reqUd2 (now : Now) (fcv fcb : Bool) (baud : Nat) : Statement (.reqUd2 now fcv fcb baud) := ⟨rfl, rfl⟩
theorem sndUdRequest (now : Now) (frame : List Byte) (baud : Nat) : Statement (.sndUdRequest now frame baud) := ⟨rfl, rfl⟩
theorem sndUdOther (now : Now) (baud : Nat) : Statement (.sndUdOther now baud) := ⟨rfl, rfl⟩
theorem baudSwitch (now : Now) (ci : Byte) (baud : Nat) : Statement (.baudSwitch now ci baud) := ⟨rfl, rfl⟩
theorem mbusFrameError (now : Now) : Statement (.mbusFrameError now) := ⟨rfl, rfl⟩
theorem regRead (now : Now) (frame : HostFrame) : Statement (.regRead now frame) := ⟨rfl, rfl⟩
theorem regWrite (now : Now) (frame : HostFrame) : Statement (.regWrite now frame) := ⟨rfl, rfl⟩
theorem memRead (now : Now) (frame : HostFrame) : Statement (.memRead now frame) := ⟨rfl, rfl⟩
theorem memWrite (now : Now) (frame : HostFrame) : Statement (.memWrite now frame) := ⟨rfl, rfl⟩
theorem protocolReset (now : Now) (hdr : Byte) (ffBytes : Nat) : Statement (.protocolReset now hdr ffBytes) := ⟨rfl, rfl⟩
theorem hostFrameAbort : Statement .hostFrameAbort := ⟨rfl, rfl⟩
theorem writeBufferExecute (now : Now) : Statement (.writeBufferExecute now) := ⟨rfl, rfl⟩
theorem uartBreak (now : Now) (lenMs : Nat) : Statement (.uartBreak now lenMs) := ⟨rfl, rfl⟩
theorem uartGapAbort (gapUs : Nat) : Statement (.uartGapAbort gapUs) := ⟨rfl, rfl⟩
theorem registerWrite (now : Now) (address : Nat) (value : Word) : Statement (.registerWrite now address value) := ⟨rfl, rfl⟩
theorem chselWrite (value : Word) : Statement (.chselWrite value) := ⟨rfl, rfl⟩
theorem chwEventsWrite (value : Word) : Statement (.chwEventsWrite value) := ⟨rfl, rfl⟩
theorem chwCaptureCtrlWrite (value : Word) : Statement (.chwCaptureCtrlWrite value) := ⟨rfl, rfl⟩
theorem hlDoorbell (value : Word) : Statement (.hlDoorbell value) := ⟨rfl, rfl⟩
theorem creditReturn (value : Word) : Statement (.creditReturn value) := ⟨rfl, rfl⟩
theorem chal (now : Now) : Statement (.chal now) := ⟨rfl, rfl⟩
theorem unlock (now : Now) : Statement (.unlock now) := ⟨rfl, rfl⟩
theorem lock : Statement .lock := ⟨rfl, rfl⟩
theorem serviceIdleRelock (now : Now) : Statement (.serviceIdleRelock now) := ⟨rfl, rfl⟩
theorem lockoutEnd (now : Now) : Statement (.lockoutEnd now) := ⟨rfl, rfl⟩
theorem dmaStop (value : Word) : Statement (.dmaStop value) := ⟨rfl, rfl⟩
theorem dmaArm (ch : Nat) (value : Word) : Statement (.dmaArm ch value) := ⟨rfl, rfl⟩
theorem measOverrunRead : Statement .measOverrunRead := ⟨rfl, rfl⟩
theorem radTxqRead : Statement .radTxqRead := ⟨rfl, rfl⟩
theorem radRxStatsRead : Statement .radRxStatsRead := ⟨rfl, rfl⟩
theorem sesActiveRead : Statement .sesActiveRead := ⟨rfl, rfl⟩
theorem sesBusyRejectsRead : Statement .sesBusyRejectsRead := ⟨rfl, rfl⟩
theorem alcStatusRead : Statement .alcStatusRead := ⟨rfl, rfl⟩
theorem mbusStatusRead : Statement .mbusStatusRead := ⟨rfl, rfl⟩
theorem hlCrcErrorsRead : Statement .hlCrcErrorsRead := ⟨rfl, rfl⟩
theorem hlStreamStatusRead : Statement .hlStreamStatusRead := ⟨rfl, rfl⟩
theorem mirCrcErrorsRead : Statement .mirCrcErrorsRead := ⟨rfl, rfl⟩
theorem fltHoardCorrRead : Statement .fltHoardCorrRead := ⟨rfl, rfl⟩
theorem fltHoardUncorrRead : Statement .fltHoardUncorrRead := ⟨rfl, rfl⟩
theorem fltSramParRead : Statement .fltSramParRead := ⟨rfl, rfl⟩
theorem fltDmrMismatchRead : Statement .fltDmrMismatchRead := ⟨rfl, rfl⟩
theorem commission (now : Now) (tag arg : Nat) : Statement (.commission now tag arg) := ⟨rfl, rfl⟩
theorem commissionComplete (now : Now) : Statement (.commissionComplete now) := ⟨rfl, rfl⟩
theorem enterShipping (now : Now) (tag arg : Nat) : Statement (.enterShipping now tag arg) := ⟨rfl, rfl⟩
theorem warmReset (now : Now) (tag arg : Nat) : Statement (.warmReset now tag arg) := ⟨rfl, rfl⟩
theorem linkReset (now : Now) (tag arg : Nat) : Statement (.linkReset now tag arg) := ⟨rfl, rfl⟩
theorem startZeroCal (now : Now) (tag arg : Nat) : Statement (.startZeroCal now tag arg) := ⟨rfl, rfl⟩
theorem zeroCalPhase : Statement .zeroCalPhase := ⟨rfl, rfl⟩
theorem zeroCalEnd (now : Now) : Statement (.zeroCalEnd now) := ⟨rfl, rfl⟩
theorem enterTest (now : Now) (tag arg : Nat) : Statement (.enterTest now tag arg) := ⟨rfl, rfl⟩
theorem exitTest (now : Now) (tag arg : Nat) : Statement (.exitTest now tag arg) := ⟨rfl, rfl⟩
theorem testTimeout : Statement .testTimeout := ⟨rfl, rfl⟩
theorem displayFullRefresh (now : Now) (tag arg : Nat) : Statement (.displayFullRefresh now tag arg) := ⟨rfl, rfl⟩
theorem plannedSwitchover (now : Now) (tag arg : Nat) : Statement (.plannedSwitchover now tag arg) := ⟨rfl, rfl⟩
theorem dmaMove (ch : Nat) : Statement (.dmaMove ch) := ⟨rfl, rfl⟩
theorem dmaLoop (ch : Nat) : Statement (.dmaLoop ch) := ⟨rfl, rfl⟩
theorem dmaWait (ch : Nat) : Statement (.dmaWait ch) := ⟨rfl, rfl⟩
theorem dmaSignal (ch : Nat) (ack : Bool) : Statement (.dmaSignal ch ack) := ⟨rfl, rfl⟩
theorem dmaEnd (ch : Nat) (ack : Bool) : Statement (.dmaEnd ch ack) := ⟨rfl, rfl⟩
theorem dmaBurst : Statement .dmaBurst := ⟨rfl, rfl⟩
theorem dmaWaitComplete (ch : Nat) : Statement (.dmaWaitComplete ch) := ⟨rfl, rfl⟩
theorem dmaWaitTimeout (ch : Nat) : Statement (.dmaWaitTimeout ch) := ⟨rfl, rfl⟩
theorem dmaImageRestart (ch sinceUs : Nat) : Statement (.dmaImageRestart ch sinceUs) := ⟨rfl, rfl⟩
theorem dmaDomainHoldTimeout (ch heldUs : Nat) : Statement (.dmaDomainHoldTimeout ch heldUs) := ⟨rfl, rfl⟩
theorem displayEvaluation (now : Now) : Statement (.displayEvaluation now) := ⟨rfl, rfl⟩
theorem keyPress (now : Now) (lowMs : Nat) : Statement (.keyPress now lowMs) := ⟨rfl, rfl⟩
theorem screenTimeout (now : Now) : Statement (.screenTimeout now) := ⟨rfl, rfl⟩
theorem displayFrameBoundary (now : Now) (missedRows : List Nat) : Statement (.displayFrameBoundary now missedRows) := ⟨rfl, rfl⟩
theorem railCheck (now : Now) (rails : Rails) : Statement (.railCheck now rails) := ⟨rfl, rfl⟩
theorem railLockoutEnd (now : Now) : Statement (.railLockoutEnd now) := ⟨rfl, rfl⟩
theorem panelTempMeasure (ntc internal : Int) : Statement (.panelTempMeasure ntc internal) := ⟨rfl, rfl⟩
theorem heartbeatTimer (now : Now) : Statement (.heartbeatTimer now) := ⟨rfl, rfl⟩
theorem hello (now : Now) (frame : PeerFrame) : Statement (.hello now frame) := ⟨rfl, rfl⟩
theorem heartbeat (now : Now) (frame : PeerFrame) : Statement (.heartbeat now frame) := ⟨rfl, rfl⟩
theorem record (now : Now) (frame : PeerFrame) : Statement (.record now frame) := ⟨rfl, rfl⟩
theorem ring (now : Now) (frame : PeerFrame) : Statement (.ring now frame) := ⟨rfl, rfl⟩
theorem ack (now : Now) (frame : PeerFrame) : Statement (.ack now frame) := ⟨rfl, rfl⟩
theorem resend (now : Now) (frame : PeerFrame) : Statement (.resend now frame) := ⟨rfl, rfl⟩
theorem movorFrameError (now : Now) (seenSeq : Option Nat) : Statement (.movorFrameError now seenSeq) := ⟨rfl, rfl⟩
theorem powerFail (now : Now) (frame : PeerFrame) : Statement (.powerFail now frame) := ⟨rfl, rfl⟩
theorem pfHandoverTimeout (now : Now) : Statement (.pfHandoverTimeout now) := ⟨rfl, rfl⟩
theorem failed (now : Now) (frame : PeerFrame) : Statement (.failed now frame) := ⟨rfl, rfl⟩
theorem switchFrame (now : Now) (frame : PeerFrame) : Statement (.switchFrame now frame) := ⟨rfl, rfl⟩
theorem switchDone (now : Now) (frame : PeerFrame) : Statement (.switchDone now frame) := ⟨rfl, rfl⟩
theorem peerEvent (now : Now) (frame : PeerFrame) : Statement (.peerEvent now frame) := ⟨rfl, rfl⟩
theorem syncEnd (now : Now) (frame : PeerFrame) : Statement (.syncEnd now frame) := ⟨rfl, rfl⟩
theorem movorLinkFault (cause ageMs : Nat) : Statement (.movorLinkFault cause ageMs) := ⟨rfl, rfl⟩
theorem peerLost (now : Now) (peerOkLowMs quietMs : Nat) : Statement (.peerLost now peerOkLowMs quietMs) := ⟨rfl, rfl⟩
theorem unmirroredActivation (now : Now) (peerOkLowMs quietMs runMs : Nat) : Statement (.unmirroredActivation now peerOkLowMs quietMs runMs) := ⟨rfl, rfl⟩
theorem switchoverHandover (now : Now) (upsets : List (Nat × Upset)) : Statement (.switchoverHandover now upsets) := ⟨rfl, rfl⟩
theorem switchoverAbandoned (now : Now) : Statement (.switchoverAbandoned now) := ⟨rfl, rfl⟩
theorem movorCableRestored : Statement .movorCableRestored := ⟨rfl, rfl⟩
theorem framesStopped (now : Now) : Statement (.framesStopped now) := ⟨rfl, rfl⟩
theorem storeSpent (landed : Nat) : Statement (.storeSpent landed) := ⟨rfl, rfl⟩

/-- The same for every command. -/
theorem all (i : Instr) : Statement i := by cases i <;> exact ⟨rfl, rfl⟩

end Sys2Proof.Laws.Untouched
end

