-- ==== Sys2Proof/Laws/Reading.lean ====
section
/-! SUPPORT. Reading one channel, one DMA channel or the queue after the shared operations, and when the shared operations of the host
link run their bodies. -/

set_option Elab.async false

namespace Sys2Proof.Machine

/-- The first element. -/
theorem nth_0 {α} (a : α) l d : nth (a :: l) 0 d = a := by rw [nth]

/-- The second element. -/
theorem nth_1 {α} (a b : α) l d : nth (a :: b :: l) 1 d = b := by rw [nth, nth]

/-- The third element. -/
theorem nth_2 {α} (a b c : α) l d : nth (a :: b :: c :: l) 2 d = c := by rw [nth, nth, nth]

/-- The fourth element. -/
theorem nth_3 {α} (a b c e : α) l d : nth (a :: b :: c :: e :: l) 3 d = e := by rw [nth, nth, nth, nth]

/-- A filtered list is empty when no element passes. -/
theorem isEmpty_filter {α} (p : α → Bool) (l : List α) : (l.filter p).isEmpty = !l.any p := by
  induction l with
  | nil => rfl
  | cons a l ih => by_cases h : p a <;> simp [h, ih]

/-- Reading a channel after an update of one channel. -/
theorem ch_onCh (s : State) (n m : Nat) (f : Chan → Chan) (h1 : 1 ≤ n) (h2 : n ≤ 40) (h3 : 1 ≤ m) (h4 : m ≤ 40) :
    (s.onCh n f).ch m = if m = n then f (s.ch n) else s.ch m := by
  have e : ∀ (v : Vector Chan 40) (k : Nat) (hk : k < 40) (d : Chan), vget v k d = v[k] := by
    intro v k hk d; simp [vget, hk]
  have hm : m - 1 < 40 := by omega
  have hn : n - 1 < 40 := by omega
  simp only [State.onCh, State.setCh, State.ch, e _ _ hm, e _ _ hn]
  rw [Vector.getElem_setIfInBounds]
  by_cases h : m = n
  · subst h; simp
  · rw [if_neg (by omega), if_neg h]

/-- A channel is a function of the channels. -/
theorem ch_congr {a b : State} {n : Nat} (h : a.chans = b.chans) : a.ch n = b.ch n := by simp only [State.ch, h]

/-- The measurement sequencer holds no channel. -/
theorem onMeas_ch (s : State) (f : Meas → Meas) (n : Nat) : (s.onMeas f).ch n = s.ch n := rfl

/-- An update of every channel, read at one channel. -/
theorem forCh_map (f : Chan → Chan) (w : State) (m : Nat) (h1 : 1 ≤ m) (h2 : m ≤ 40) :
    (w.forCh allCh fun n t => t.onCh n f).ch m = f (w.ch m) := by
  have key : ∀ (l : List Nat) (u : State), (∀ n ∈ l, 1 ≤ n ∧ n ≤ 40) → l.Nodup →
      (l.foldl (fun t n => t.onCh n f) u).ch m = if m ∈ l then f (u.ch m) else u.ch m := by
    intro l; induction l with
    | nil => intro u _ _; simp
    | cons a l ih =>
      intro u hl hnd
      obtain ⟨ha1, ha2⟩ := hl a (by simp)
      have hn := List.nodup_cons.1 hnd
      rw [List.foldl_cons, ih _ (fun n hn => hl n (by simp [hn])) hn.2, ch_onCh _ _ _ _ ha1 ha2 h1 h2]
      by_cases hma : m = a
      · subst hma; simp [hn.1]
      · simp [hma]
  have := key allCh w (by intro n hn; simp [allCh] at hn; omega) (by decide)
  rw [State.forCh, this, if_pos]
  simp [allCh]; exact ⟨m - 1, by omega, by omega⟩

/-- A state that differs in its channels at most is the other with its channels replaced. -/
theorem chans_only {u : State} (v : State) (h : Moves [.chans] u v) : v = { u with chans := v.chans } := by
  have e := fun g (k : ([.chans] : List Group).contains g = false) => h.same g k
  have e1 := e .pending rfl; have e2 := e .otp rfl; have e3 := e .hoard rfl; have e4 := e .sram rfl; have e5 := e .queue rfl
  have e6 := e .marks rfl; have e7 := e .flt rfl; have e8 := e .log rfl; have e9 := e .pwr rfl; have e10 := e .img rfl
  have e11 := e .meas rfl; have e12 := e .tcs rfl; have e13 := e .outs rfl; have e14 := e .bridge rfl; have e15 := e .tamper rfl
  have e16 := e .rtc rfl; have e17 := e .pair rfl; have e18 := e .radio rfl; have e19 := e .sec rfl; have e20 := e .sess rfl
  have e21 := e .mbus rfl; have e22 := e .alc rfl; have e23 := e .hl rfl; have e24 := e .dma rfl; have e25 := e .disp rfl
  have e26 := e .free rfl
  rcases u with ⟨_, _, ⟨_⟩⟩; rcases v with ⟨_, _, ⟨_⟩⟩
  simp only [Group.same] at *
  obtain ⟨f1, f2, f3⟩ := e6
  simp_all

/-- Reading a DMA channel after an update of one DMA channel. -/
theorem dc_setDc (s : State) (k j : Nat) (c : DmaCh) (hk : k < 16) (hj : j < 16) : (s.setDc k c).dc j = if j = k then c else s.dc j := by
  have e : ∀ (v : Vector DmaCh 16) (i : Nat) (hi : i < 16) (d : DmaCh), vget v i d = v[i] := by
    intro v i hi d; simp [vget, hi]
  simp only [State.setDc, State.dc, State.onDma, e _ _ hj]
  rw [Vector.getElem_setIfInBounds]
  by_cases h : j = k
  · subst h; simp
  · rw [if_neg (by omega), if_neg h]

/-- A conditional update of several DMA channels, read at one of them. -/
theorem dcFold (p : Nat → DmaCh → Bool) (f : DmaCh → DmaCh) (l : List Nat) (hl : ∀ k ∈ l, k < 16) (hn : l.Nodup) (s : State) (j : Nat) (hj : j < 16) :
    (l.foldl (fun t k => if p k (t.dc k) then t.setDc k (f (t.dc k)) else t) s).dc j = if j ∈ l ∧ p j (s.dc j) = true then f (s.dc j) else s.dc j := by
  induction l generalizing s with
  | nil => simp
  | cons a l ih =>
    have ha := hl a (by simp)
    rw [List.foldl_cons, ih (fun k hk => hl k (by simp [hk])) (List.nodup_cons.1 hn).2]
    have hna := (List.nodup_cons.1 hn).1
    by_cases hp : p a (s.dc a) = true
    · rw [if_pos hp, dc_setDc _ _ _ _ ha hj]
      by_cases hja : j = a
      · subst hja; simp [hna, hp]
      · simp [hja]
    · rw [if_neg hp]
      by_cases hja : j = a
      · subst hja; simp [hna, hp]
      · simp [hja]

/-- A doorbell event latches in the running channels of the host domain. -/
theorem dmaEvent_dc (s : State) (ev j : Nat) (hj : j < 16) (he : 32 ≤ ev ∧ ev < 36) :
    (s.dmaEvent ev).dc j = if (s.dc j).run = true ∧ 12 ≤ j then { s.dc j with latches := (s.dc j).latches ||| 2 ^ ev } else s.dc j := by
  have := dcFold (fun k c => c.run && (if ev = 36 ∨ ev = 37 then true else if ev < 16 then !dmaHost k else dmaHost k))
    (fun c => { c with latches := c.latches ||| 2 ^ ev }) (List.range 16) (by simp) List.nodup_range s j hj
  rw [State.dmaEvent]; refine Eq.trans this ?_
  have h1 : ¬ (ev = 36 ∨ ev = 37) := by omega
  have h2 : ¬ ev < 16 := by omega
  simp [hj, dmaHost, h1, h2]

/-- A doorbell write latches its four bits in the running channels of the host domain (R511). -/
theorem doorbell_dc (s : State) (v j : Nat) (hj : j < 16) :
    (s.doorbell v).dc j = if (s.dc j).run = true ∧ 12 ≤ j then { s.dc j with latches := (s.dc j).latches ||| (v % 16 * 2 ^ 32) } else s.dc j := by
  have one : ∀ (t : State) (k : Nat), k < 4 → ((if Word.bit v k then t.dmaEvent (32 + k) else t).dc j) =
      if (t.dc j).run = true ∧ 12 ≤ j then { t.dc j with latches := (t.dc j).latches ||| (if Word.bit v k then 2 ^ (32 + k) else 0) } else t.dc j := by
    intro t k hk
    split
    · rw [dmaEvent_dc _ _ _ hj ⟨by omega, by omega⟩]
    · simp
  have hv : (v % 16 * 2 ^ 32) = (if Word.bit v 0 then 2 ^ (32 + 0) else 0) ||| (if Word.bit v 1 then 2 ^ (32 + 1) else 0) ||| (if Word.bit v 2 then 2 ^ (32 + 2) else 0) ||| (if Word.bit v 3 then 2 ^ (32 + 3) else 0) := by
    have h0 : ∀ k, k < 4 → Word.bit v k = Word.bit (v % 16) k := by
      intro k hk; simp only [Word.bit]; congr 1
      interval_cases k <;> omega
    rw [h0 0 (by omega), h0 1 (by omega), h0 2 (by omega), h0 3 (by omega)]
    have : v % 16 < 16 := Nat.mod_lt _ (by omega)
    generalize v % 16 = w at *
    interval_cases w <;> rfl
  unfold State.doorbell
  simp only [List.foldl_cons, List.foldl_nil]
  rw [one _ 3 (by omega), one _ 2 (by omega), one _ 1 (by omega), one _ 0 (by omega)]
  by_cases hc : (s.dc j).run = true ∧ 12 ≤ j
  · simp only [hc, and_self, if_true, hv, Nat.or_assoc]
  · simp only [hc, if_false]

/-- A fold whose steps change the DMA channels at most changes the DMA channels at most. -/
theorem foldDma {α : Type} (g : State → α → State) (hg : ∀ t a, (g t a).dma = { t.dma with chs := (g t a).dma.chs }) (l : List α) (s : State) :
    (l.foldl g s).dma = { s.dma with chs := (l.foldl g s).dma.chs } := by
  induction l generalizing s with
  | nil => rfl
  | cons a l ih => rw [List.foldl_cons, ih, hg s a]

/-- An event changes the DMA channels at most. -/
theorem dmaEvent_dma (s : State) (ev : Nat) : (s.dmaEvent ev).dma = { s.dma with chs := (s.dmaEvent ev).dma.chs } := by
  unfold State.dmaEvent
  refine foldDma _ (fun t k => ?_) _ s
  dsimp only
  repeat' split
  all_goals rfl

/-- A doorbell changes the DMA channels at most. -/
theorem doorbell_dma (s : State) (v : Nat) : (s.doorbell v).dma = { s.dma with chs := (s.doorbell v).dma.chs } := by
  unfold State.doorbell
  refine foldDma _ (fun t k => ?_) _ s
  split
  · exact dmaEvent_dma _ _
  · rfl

/-- An entry of the event log, below its limit of the hour in a SOLO module, is one record behind the HOARD queue. -/
theorem event_queue (code ch : Nat) (data : List Byte) (s : State) (ha : alarmOf code data = none) (hp : s.pair.phase = 0)
    (hh : s.log.hour = s.rtc.count / 3600) (ho : onsets code ch s.log.counts < 8) :
    (s.event code ch data).mem.queue = s.mem.queue ++ [{ kind := .entry (0x210000 + 32 * ((s.log.next - 1) % 4096)), body := eventBytes s.log.next s.rtc.count (0 + s.untrusted) code ch data }] := by
  unfold State.event State.onsetAt
  have h1 : s.alarmOnset code ch data = s := by simp only [State.alarmOnset, ha]
  have h2 : s.rollHour = s := by unfold State.rollHour; exact if_pos hh
  rw [h1, h2, if_pos ho, State.writeEvent, if_neg (by show ¬ (2 ≤ s.pair.phase ∧ _); omega), if_neg (by show ¬ (s.pair.phase = 1); omega)]
  unfold State.enqueue State.mirror
  dsimp only
  rw [if_pos (.inl (by show s.pair.phase < 2; omega))]
  rfl

/-- A register write that is taken runs its body. -/
theorem asWrite_takes {s : State} {a : Nat} {f : State → State} (h : s.takesWrite a = true) : s.asWrite a f = f s := by
  simp only [State.takesWrite, Bool.and_eq_true, Bool.not_eq_true'] at h
  simp [State.asWrite, h.1.1.1, h.1.1.2, h.1.2, h.2]

/-- A frame that passes checks 1 to 5 runs its body on its data. -/
theorem takeFrame_good {s : State} {cmd : Nat} {now : Now} {f : HostFrame} {body : List Byte → State → State}
    (h : s.goodFrame cmd f = true) : s.takeFrame cmd now f body = body f.data (s.heard now) := by
  simp only [State.goodFrame, Bool.and_eq_true, decide_eq_true_eq, Bool.not_eq_true'] at h
  obtain ⟨⟨⟨⟨⟨⟨h1, h2⟩, h7⟩, h8, h3⟩, h4⟩, h5⟩, h6⟩ := h
  have h2' := h2
  simp only [State.hostServed, Bool.and_eq_true, decide_eq_true_eq] at h2'
  have ha : s.asleep = false := by simp [State.asleep, h2'.2.1]
  have hl : (le 2 f.crc.toNat).length = 2 := rfl
  unfold State.takeFrame
  rw [if_neg (by simp [h1, h2'.1]), if_neg (by simp [ha]), if_neg (by simp [h2])]
  dsimp only
  rw [h8, if_neg (by rw [List.length_append, hl, h3]; omega), if_neg (by show ¬ (s.linkBusy = true); simp [h7])]
  have e1 : (f.data ++ le 2 f.crc.toNat).take (frameDataLen cmd f) = f.data := by rw [← h3]; simp
  have e2 : slice (f.data ++ le 2 f.crc.toNat) (frameDataLen cmd f) 2 = le 2 f.crc.toNat := by
    rw [slice, ← h3]; simp [hl]
  rw [e1, e2, if_neg (by rw [not_not]; exact h4.symm), if_neg]
  · rfl
  · rintro (h | h)
    · revert h h5; dsimp only [State.onHl, State.onPwr]
      cases s.pwr.straps.hostmode <;> cases f.hdr.getLsbD 0 <;> cases (cmd == 1 || cmd == 3) <;> simp
    · have h' : (!State.rangeOk cmd (f.addr % 2 ^ 24) (f.len % 65536) s) = true := h
      rw [h6] at h'
      exact absurd h' Bool.false_ne_true

/-- A host command that is taken and passes the checks of R457 runs its own operation. -/
theorem hostCommand_own {s : State} {now : Now} {code tag arg : Nat} (hs : s.hostServed = true) (hb : s.linkBusy = false) (ht : tag < 256) (ha : arg < 2 ^ 32)
    (hr : s.hl.running = false) (hp : s.pwr.pfActive = false) (hd : s.deepMode = false) (hv : s.serviceHeld = true)
    (hn : s.hl.taken ≠ some (code, tag)) (hc : code ≠ 4 ∧ 1 ≤ code ∧ code ≤ 9) (h5 : code = 5 ∨ arg = 0) :
    s.hostCommand code tag arg now = s.noteMode (
      let r := (s.onHl fun h => { h with arg := arg, taken := some (code, tag), running := true }).ownCommand code arg now
      match r.1 with
      | none => r.2
      | some v => if code = 3 then (r.2.setResult v).warmBegin 6 now.ms else r.2.setResult v) := by
  have e1 : arg % 2 ^ 32 = arg := Nat.mod_eq_of_lt ha
  have e2 : tag % 256 = tag := Nat.mod_eq_of_lt ht
  rw [State.hostCommand, if_neg (by simp [hs, hb]), e1, e2]
  refine congrArg _ ?_
  rw [State.runCommand, if_neg (by exact hn), if_neg (by show ¬ (s.hl.running = true); simp [hr])]
  dsimp only
  rw [if_neg hc.1]
  show State.answerCommand code arg now (s.onHl fun h => { h with arg := arg, taken := some (code, tag), running := true }) = _
  rw [State.answerCommand]
  have hk : (s.onHl fun h => { h with arg := arg, taken := some (code, tag), running := true }).cmdCheck code arg = 0 := by
    rw [State.cmdCheck, if_neg (by show ¬ (s.pwr.pfActive = true); simp [hp]), if_neg (by show ¬ (s.deepMode = true); simp [hd]), if_neg (by show ¬ ((!(s.serviceHeld)) = true); simp [hv]), if_neg]
    rintro (h | h | ⟨h, h'⟩) <;> omega
  dsimp only
  rw [hk]
  rfl

/-- A slewing second changes the slew, its phase and the place of the prescaler at most. -/
theorem slewSecond_form (r : Rtc) :
    r.slewSecond = { r with slew := r.slewSecond.slew, slewPhase := r.slewSecond.slewPhase, subBase := r.slewSecond.subBase } := by
  unfold Rtc.slewSecond; split <;> rfl

/-- What a second of the real-time clock does while SETT has power. -/
theorem rtcSecond_cases (s : State) (h : s.rtc.settLost = false) : exec .rtcSecond s = .next (
    let s1 := (s.onRtc Rtc.slewSecond).onPwr fun p => { p with settRun := true }
    if 12622780799 ≤ s.rtc.count then s1.onRtc (fun r => { r with count := 12622780799 })
    else if s.rtc.count = 12622780798 then (s1.onRtc fun r => { r with count := 12622780799 }).setOsf 2
    else if (s.rtc.count + 1) % 3600 = 0 then
      (s1.onRtc fun r => { r with count := r.count + 1 }).onFlt fun f => { f with scrubAge := Word.sat 255 (f.scrubAge + 1) }
    else s1.onRtc fun r => { r with count := r.count + 1 }) := by
  show execRtcSecond s = _
  have : s.rtc.slewSecond.count = s.rtc.count := by rw [slewSecond_form]
  rw [execRtcSecond, if_neg (by simp [h])]
  dsimp only [State.onRtc, State.onPwr]
  rw [this]
  by_cases hc : 12622780799 ≤ s.rtc.count
  · rw [show min countMax (s.rtc.count + 1) = 12622780799 by unfold countMax; omega, if_pos (by unfold countMax; omega), if_pos hc]
  · rw [show min countMax (s.rtc.count + 1) = s.rtc.count + 1 by unfold countMax; omega, if_neg (by unfold countMax; omega), if_neg hc]
    by_cases h1 : s.rtc.count = 12622780798
    · rw [if_pos (by unfold countMax; omega), if_pos h1, h1]
    · rw [if_neg (by unfold countMax; omega), if_neg h1]

end Sys2Proof.Machine
end

