-- ==== Sys2Proof/Tests/Slice0.lean ====
section
/-! SUPPORT. Tests: a state that meets the hypotheses of each obligation, the checks of well-formedness, and worked examples. -/

set_option Elab.async false

open Sys2Proof Sys2Proof.Machine

namespace Sys2Proof.Tests

/-! ### Small states -/

/-- A SOLO module in Run that is served: NORMAL, ticks running, no image. -/
def ready : State := { State.reset with
  pwr := { Pwr.reset with state := .run, phase := .running, mode := .normal, vbusOk := true, settRun := true, rootOk := true, vioHost := true },
  rtc := { Rtc.reset with settLost := false } }
/-- A module under HALT with nothing written. -/
def halted : State := { ready with rtc := { ready.rtc with halt := true } }
/-- A good frame that writes 27 to CHSEL, from the example after R464. -/
def chselFrame : HostFrame :=
  { hdr := 0x9E#8, unknown := none, addr := 0x11C, len := 4, data := [27#8, 0#8, 0#8, 0#8],
    crc := crc16 0x1021#16 0xFFFF#16 [0x9E#8, 2#8, 0x1C#8, 1#8, 0#8, 4#8, 0#8, 27#8, 0#8, 0#8, 0#8] }
/-- The accepted image of a module with a service key. -/
def serviceImage : Image :=
  { seq := 1, digest := zeros 32, lDigest := zeros 32, bDigest := zeros 32, oDigest := zeros 32, identity := zeros 8, retBanks := 0,
    dst := false, pulses := [], chans := Vector.replicate 40 ChanCfg.off, flowCals := [], tempCals := [], gasDefs := [],
    tariff := none,
    billing := { annualMonth := 0, annualDay := 0, monthlyDay := 0, sliding := false, demandMin := 0, demandSub := 0,
                 profileOn := false, cond1 := { qty := 0, cmp := 0, limit := 0 }, cond2 := { qty := 0, cmp := 0, limit := 0 } },
    prepay := none,
    radio := { mode := 1, nChan := 0, txDbm := 0, jitter := 0, dutyA := 0, dutyB := 0, dutyN := 0, rxEn := 0, last := [] },
    telegrams := [], keys := [{ index := 0, use := 3, key := zeros 16 }], allocs := none, display := none, waves := [], dma := [],
    dmaProg := [], members := none, host := some { svcKey := 0, flags := 3, svcIdle := 60 }, reverify := none }
/-- A module in NORMAL whose power-fail sequence runs. -/
def failing : State := { ready with pwr := { ready.pwr with pfActive := true, vbusOk := false, cellPresent := true } }
/-- One heat channel, CH5. -/
def heatImage : Image :=
  { serviceImage with chans := (Vector.replicate 40 ChanCfg.off).setIfInBounds 4 { ChanCfg.off with type := .heat } }
/-- A module in BACKUP to which VBUS has returned. -/
def returning : State := { ready with pwr := { ready.pwr with mode := .backup, onCell := true } }
/-- An image without a channel that is not OFF, accepted. -/
def accepted : State := { ready with
  img := { ready.img with image := some { serviceImage with keys := [] }, accepted := true } }
/-- A zero calibration of CH5 and CH9 in a phase, begun at tick 100. -/
def calibrating (phase : Nat) : State := { ready with
  meas := { ready.meas with tick := 220, calTick := some 100, calPhase := phase, calChans := [5, 9], calDur := 30 } }
/-- A SOLO module in NORMAL with one heat channel, CH5, at tick 8. -/
def metering : State := { ready with
  img := { ready.img with image := some heatImage, accepted := true }
  meas := { ready.meas with tick := 8 } }

/-! ### A witness for the hypotheses of each obligation -/

/-! #### EmptyQueueIdles -/

theorem witness_EmptyQueueIdles : ready.pending = [] := by decide

/-! #### WellFormedCommandsComplete -/

theorem witness_WellFormedCommandsComplete : (Instr.tick ⟨24000, 0, 0, true⟩ ⟨true, false, false, false, false⟩ 0).wf = true ∧
    (Instr.dmaMove 16).wf = false := by decide

/-! #### EveryCommandKeepsWhatItDoesNotTouch -/

theorem witness_EveryCommandKeepsWhatItDoesNotTouch : ∃ t, exec .rtcSecond ready = .next t := ⟨_, rfl⟩

/-! #### EveryStepKeepsMemoriesCanonical -/

theorem witness_EveryStepKeepsMemoriesCanonical : ready.MemOk ∧ ∃ t, step ready = .next t :=
  ⟨by decide, _, rfl⟩

/-! #### CommandsOfOneChannelLeaveTheOthers -/

theorem witness_CommandsOfOneChannelLeaveTheOthers : 1 ≤ (40 : Nat) ∧ (40 : Nat) ≤ 40 ∧
    Instr.tdShortStopEnd 40 ∈ [Instr.tofSlot 40 0 ⟨[], 0⟩, .tdShortStopEnd 40, .lowQRecovery 40, .stepClose 40 ⟨none, false⟩,
      .stepOverrun 40, .zeroTrackWindow 40, .calTrackCommit 40] ∧
    ∃ t, exec (.tdShortStopEnd 40) ready = .next t := ⟨by decide, by decide, by decide, _, rfl⟩

/-! #### RtcSecondAdvancesTheCount -/

theorem witness_RtcSecondAdvancesTheCount : ready.rtc.settLost = false ∧ ready.rtc.count < 12622780798 := by decide
theorem witness_RtcSecondAdvancesTheCount_top :
    ({ Rtc.reset with settLost := false, count := 12622780798 } : Rtc).settLost = false ∧
      ({ Rtc.reset with settLost := false, count := 12622780798 } : Rtc).count = 12622780798 ∧
      ({ Rtc.reset with settLost := false, count := 12622780799 } : Rtc).count = 12622780799 := by decide

/-! #### SlewMovesOneCycleInTenThousand -/

theorem witness_SlewMovesOneCycleInTenThousand : ready.takesWrite 0xD8 = true ∧ ready.timeChanges = true := by decide
theorem witness_SlewMovesOneCycleInTenThousand_second :
    ({ Rtc.reset with settLost := false, slew := -262144 } : Rtc).settLost = false ∧
      ({ Rtc.reset with settLost := false, slew := -262144 } : Rtc).slew ≠ 0 := by decide

/-! #### HaltHoldsTheRegistersAndNotTheCount -/

theorem witness_HaltHoldsTheRegistersAndNotTheCount : ready.takesWrite 0xC0 = true := by decide
theorem witness_HaltHoldsTheRegistersAndNotTheCount_release : halted.takesWrite 0xC0 = true ∧ halted.timeChanges = true ∧
    halted.rtc.halt = true ∧ halted.rtc.pendDate = none ∧ halted.rtc.pendTime = none := by decide
theorem witness_HaltHoldsTheRegistersAndNotTheCount_auto : halted.rtc.halt = true ∧ halted.rtc.haltMs + 2000 ≤ 2000 ∧
    1999 < halted.rtc.haltMs + 2000 ∧ ready.rtc.halt = false ∧ halted.pair.phase = 0 ∧ halted.log.hour = halted.rtc.count / 3600 ∧ onsets 0x24 0 halted.log.counts < 8 := by decide
theorem witness_HaltHoldsTheRegistersAndNotTheCount_second : exec .rtcSecond halted =
    .next { halted with rtc := { halted.rtc with count := 1 } } := rfl

/-! #### DateAndTimeWritesAreCheckedAsAWhole -/

theorem witness_DateAndTimeWritesAreCheckedAsAWhole : halted.takesWrite 0xC8 = true ∧ halted.takesWrite 0xCC = true ∧
    halted.timeChanges = true := by decide

/-! #### ReleaseSetsTheTime -/

/-- Under HALT with 2000-01-02 written. -/
def dated : State := { halted with rtc := { halted.rtc with pendDate := some 0x07D00102 } }
theorem witness_ReleaseSetsTheTime : dated.takesWrite 0xC0 = true ∧ dated.timeChanges = true ∧
    dated.rtc.halt = true ∧ (dated.rtc.pendDate.isSome = true ∨ dated.rtc.pendTime.isSome = true) := by decide
/-- The same with the last second that the counter holds written, 2399-12-31 23:59:59. -/
theorem witness_ReleaseSetsTheTime_top : 12622780799 ≤ wordsCount 0x095F0C1F 0x00173B3B ∧ dated.rtc.count ≠ 12622780799 := by decide +kernel
theorem witness_ReleaseSetsTheTime_step : wordsCount 0x07D00102 (timeWord 0) = 86400 ∧ dated.pair.phase = 0 ∧
    ({ dated.log with hour := 24 } : EvLog).hour = 86400 / 3600 ∧ onsets 0x21 0 dated.log.counts < 8 := by decide

/-! #### RtcReadsLatchOneInstant -/

theorem witness_RtcReadsLatchOneInstant : ready.hostServed = true ∧ ready.linkBusy = false ∧ ready.rtc.halt = false ∧ ready.rtc.pendDate = none ∧
    ready.rtc.pendTime = none ∧ ready.rtc.latched = false := by decide
/-- A module whose RTC registers are latched. -/
def readLatched : State := { ready with rtc := { ready.rtc with latched := true, latch := [1, 2, 3, 4] } }
theorem witness_RtcReadsLatchOneInstant_latched : readLatched.hostServed = true ∧ readLatched.linkBusy = false ∧ readLatched.rtc.halt = false ∧
    readLatched.rtc.latched = true ∧ readLatched.rtc.latch = [1, 2, 3, 4] := by decide

/-! #### CounterReadsAnswerAndClear -/

theorem witness_CounterReadsAnswerAndClear : ready.hostServed = true ∧ ready.linkBusy = false := by decide

/-! #### ChselLatchesTheChannelWindow -/

theorem witness_ChselLatchesTheChannelWindow : ready.takesWrite 0x11C = true := by decide

/-! #### ChannelEventAndCaptureWrites -/

theorem witness_ChannelEventAndCaptureWrites : ready.takesWrite 0x148 = true ∧ ready.takesWrite 0x1B8 = true ∧
    1 ≤ ready.meas.chsel ∧ ready.meas.chsel ≤ 40 := by decide

/-! #### PostedWritesWaitInTheWriteBuffer -/

theorem witness_PostedWritesWaitInTheWriteBuffer : ready.goodFrame 2 chselFrame = true := by decide +kernel
/-- A good frame that writes one byte at the start of B5. -/
def mailFrame : HostFrame :=
  { hdr := 0x9E#8, unknown := none, addr := 0x50000, len := 1, data := [27#8],
    crc := crc16 0x1021#16 0xFFFF#16 [0x9E#8, 4#8, 0#8, 0#8, 5#8, 1#8, 0#8, 27#8] }
theorem witness_PostedWritesWaitInTheWriteBuffer_mem : ready.goodFrame 4 mailFrame = true ∧
    mailFrame.addr % 2 ^ 24 < 0x400000 := by decide +kernel

/-! #### BufferedWritesExecuteInOrder -/

/-- A module whose write buffer holds the given entry. -/
def posted (e : PostedWrite) : State := { ready with hl := { ready.hl with wbuf := [e] } }
theorem witness_BufferedWritesExecuteInOrder (e : PostedWrite) : (posted e).hostServed = true ∧ (posted e).linkBusy = false ∧
    (posted e).MemOk ∧ (posted e).hl.wbuf = e :: [] ∧ (posted e).mem.queue = [] ∧ (posted e).pwr.nvInhibit = false :=
  ⟨rfl, rfl, ⟨rfl, rfl⟩, rfl, rfl, rfl⟩
theorem witness_BufferedWritesExecuteInOrder_empty : ready.hostServed = true ∧ ready.MemOk ∧ ready.hl.wbuf = [] :=
  ⟨rfl, ⟨rfl, rfl⟩, rfl⟩
theorem witness_BufferedWritesExecuteInOrder_entries :
    (0x400000 ≤ (PostedWrite.mk 0x4007FC [1#8, 0#8, 0#8, 0#8]).addr ∧ (PostedWrite.mk 0x4007FC [1#8, 0#8, 0#8, 0#8]).data.length = 4) ∧
    (0x50000 ≤ (PostedWrite.mk 0x5FFFF [1#8]).addr ∧ (PostedWrite.mk 0x5FFFF [1#8]).addr < 0x60000) ∧
    (0x2F0000 ≤ (PostedWrite.mk 0x2F0000 [1#8]).addr ∧ (PostedWrite.mk 0x2F0000 [1#8]).addr < 0x300000) := by decide

/-! #### ReadFramesAnswerWhatIsHeld -/

/-- A good frame that reads one register. -/
def readFrame : HostFrame :=
  { hdr := 0x9F#8, unknown := none, addr := 0x14, len := 4, data := [],
    crc := crc16 0x1021#16 0xFFFF#16 [0x9F#8, 1#8, 0x14#8, 0#8, 0#8, 4#8, 0#8] }
theorem witness_ReadFramesAnswerWhatIsHeld : ready.goodFrame 1 readFrame = true ∧ ready.hl.wbuf = [] ∧
    readFrame.len % 65536 = 4 := by decide +kernel
/-- A good frame that reads four bytes at an address of the map. -/
def peekFrame (a : Nat) : HostFrame :=
  { hdr := 0x9F#8, unknown := none, addr := a, len := 4, data := [],
    crc := crc16 0x1021#16 0xFFFF#16 ([0x9F#8, 3#8] ++ le 3 a ++ [4#8, 0#8]) }
theorem witness_ReadFramesAnswerWhatIsHeld_mem : ready.goodFrame 3 (peekFrame 0x400014) = true ∧
    ready.goodFrame 3 (peekFrame 0x5FFFC) = true ∧ ready.goodFrame 3 (peekFrame 0x2EFFFC) = true ∧
    ready.mem.soft = [] ∧ ready.mem.bad = [] ∧ ready.mem.parity = [] := by decide +kernel

/-! #### DiscardedFramesAreOnlyCounted -/

/-- The write of 27 to CHSEL with a wrong CRC. -/
def badCrcFrame : HostFrame := { chselFrame with crc := chselFrame.crc ^^^ 1#16 }
theorem witness_DiscardedFramesAreOnlyCounted : (2, Instr.regWrite { cyc := 0, sub := 0, ms := 0 } badCrcFrame) ∈
    [(1, Instr.regRead { cyc := 0, sub := 0, ms := 0 } badCrcFrame), (2, Instr.regWrite { cyc := 0, sub := 0, ms := 0 } badCrcFrame),
     (3, Instr.memRead { cyc := 0, sub := 0, ms := 0 } badCrcFrame), (4, Instr.memWrite { cyc := 0, sub := 0, ms := 0 } badCrcFrame)] ∧
    ready.namesModule badCrcFrame.hdr = true ∧ ready.hostServed = true ∧ ready.linkBusy = false ∧ badCrcFrame.unknown = none ∧
    badCrcFrame.data.length = frameDataLen 2 badCrcFrame ∧
    le 2 badCrcFrame.crc.toNat ≠ hostCrc (ready.crcBytes 2 badCrcFrame badCrcFrame.data) := by decide +kernel
/-- A frame whose HDR bit 0 says read while CMD says write. -/
def badHdrFrame : HostFrame :=
  { chselFrame with
    hdr := 0x9F#8
    crc := crc16 0x1021#16 0xFFFF#16 [0x9F#8, 2#8, 0x1C#8, 1#8, 0#8, 4#8, 0#8, 27#8, 0#8, 0#8, 0#8] }
theorem witness_DiscardedFramesAreOnlyCounted_malformed : ready.namesModule badHdrFrame.hdr = true ∧
    badHdrFrame.data.length = frameDataLen 2 badHdrFrame ∧
    le 2 badHdrFrame.crc.toNat = hostCrc (ready.crcBytes 2 badHdrFrame badHdrFrame.data) ∧
    ready.goodFrame 2 badHdrFrame = false := by decide +kernel

/-! #### RegisterWritesClearSetOrAreIgnored -/

theorem witness_RegisterWritesClearSetOrAreIgnored : [0x018, 0x01C, 0x028, 0x090, 0x204, 0x208, 0x214, 0x284, 0x2C4, 0x304, 0x344,
    0x360, 0x384, 0x000, 0x7FC].all ready.takesWrite = true := by decide +kernel

/-! #### DoorbellsRaiseEventsAndCreditsSaturate -/

theorem witness_DoorbellsRaiseEventsAndCreditsSaturate : ready.takesWrite 0x38C = true ∧ ready.takesWrite 0x390 = true := by decide

/-! #### ServiceIsUnlockedByTheTagOnly -/

theorem witness_ServiceIsUnlockedByTheTagOnly : ready.takesWrite 0x380 = true ∧ ready.serviceKey = none := by decide
/-- A module with a service key and a pending challenge. -/
def challenged : State := { ready with
  img := { ready.img with image := some serviceImage }, hl := { ready.hl with challenge := some (zeros 16, 0) } }
theorem witness_ServiceIsUnlockedByTheTagOnly_key : challenged.takesWrite 0x380 = true ∧ challenged.hl.lockedOut = false ∧
    challenged.serviceKey = some (zeros 16) ∧ challenged.hl.challenge = some (zeros 16, 0) := by decide +kernel
/-- The module with serial 1 and the right tag for its pending challenge in B5. -/
def tagged : State :=
  let tag := cmac (zeros 16) (ascii ['E', 'T', 'Y', 'S'] ++ le 8 1 ++ zeros 16)
  { challenged with
    otp := { challenged.otp with serial := 1 }
    mem := { challenged.mem with sram := Memory.writeBytes [] 0x5FFF0 tag } }
theorem witness_ServiceIsUnlockedByTheTagOnly_tag : tagged.takesWrite 0x380 = true ∧
    tagged.hl.challenge = some (zeros 16, 0) ∧ tagged.serviceKey = some (zeros 16) ∧
    tagged.mem.sram.readBytes 0x5FFF0 16 =
      cmac (zeros 16) (ascii ['E', 'T', 'Y', 'S'] ++ le 8 tagged.otp.serial ++ zeros 16) := by decide +kernel
theorem witness_ServiceIsUnlockedByTheTagOnly_levels : ({ ready.hl with service := true } : HostLink).service = true ∧
    ({ ready.hl with lockedOut := true } : HostLink).lockedOut = true ∧
    ({ ready.hl with lockUntil := 60000 } : HostLink).lockUntil ≤ 60000 := by decide

/-! #### LinkResetLeavesMetrologyAlone -/

theorem witness_LinkResetLeavesMetrologyAlone : ready.hostServed = true ∧ ready.hl.wbuf = [] ∧ ready.linkBusy = false ∧ ready.hl.running = false ∧
    ready.hl.taken ≠ some (4, 1 % 256) ∧ ready.pwr.straps.hostmode = true ∧ ready.namesModule 0x9E#8 = true := by decide
theorem witness_LinkResetLeavesMetrologyAlone_uart :
    ({ ready with pwr := { ready.pwr with straps := { ready.pwr.straps with hostmode := false } } } : State).hostServed = true ∧
    ({ ready.pwr.straps with hostmode := false } : StrapLevels).hostmode = false := by decide
/-- A HOST_SCRATCH write at the head of the buffer that a LINK reset waits for. -/
theorem witness_LinkResetLeavesMetrologyAlone_waits :
    let s : State := posted { addr := 0x2F0000, data := [1#8] }
    let u : State := { s with hl := { s.hl with linkDue := 2 ^ 17 } }
    s.hostServed = true ∧ s.hl.wbuf = [{ addr := 0x2F0000, data := [1#8] }] ∧ (0x2F0000 : Nat) + 1 ≤ 0x300000 ∧
      ({ s.pwr with nvInhibit := true } : Pwr).nvInhibit = true ∧ u.linkBusy = true ∧ u.hostServed = true ∧ u.mem.queue = [] ∧
      u.pwr.nvInhibit = false := by decide

/-! #### HostCommandsAreDecidedOnce -/

theorem witness_HostCommandsAreDecidedOnce : ready.hostServed = true ∧ ready.linkBusy = false ∧
    ({ ready with hl := { ready.hl with linkDue := 2 ^ 17 } } : State).linkBusy = true ∧ (7 : Nat) < 2 ^ 32 ∧ (1 : Nat) < 256 ∧
    ready.hl.taken ≠ some (6, 1) ∧ ready.hl.running = false ∧ ready.pwr.pfActive = false ∧ ready.deepMode = false ∧
    ready.serviceHeld = true := by decide
theorem witness_HostCommandsAreDecidedOnce_repeat :
    ({ ready.hl with taken := some (6, 1) } : HostLink).taken = some (6, 1) ∧
    ({ ready.hl with running := true } : HostLink).running = true ∧
    ({ ready.pwr with pfActive := true } : Pwr).pfActive = true ∧ ({ ready.pwr with mode := .hold } : Pwr).mode = .hold := by decide
theorem witness_HostCommandsAreDecidedOnce_observe :
    ({ ready with img := { ready.img with module_ := { ready.img.module_ with commissioned := true } } } : State).serviceHeld = false ∧
    ({ ready with img := { ready.img with module_ := { ready.img.module_ with commissioned := true } } } : State).deepMode = false :=
  by decide

/-! #### TestIsEnteredAndLeft -/

/-- An active module in NORMAL. -/
theorem witness_TestIsEnteredAndLeft : ready.hostServed = true ∧ ready.hl.running = false ∧ ready.pwr.pfActive = false ∧
    ready.deepMode = false ∧ ready.serviceHeld = true ∧ ready.hl.taken ≠ some (6, 1) ∧ ready.hl.taken ≠ some (7, 1) ∧
    ready.meas.test = false ∧ ready.active = true ∧ ready.normal = true := by decide
/-- The same under TEST, with a zero calibration in the given phase. -/
def testing (phase : Nat) : State := { ready with meas := { ready.meas with test := true, calPhase := phase } }
theorem witness_TestIsEnteredAndLeft_exit : (testing 0).hostServed = true ∧ (testing 0).meas.test = true ∧
    (testing 0).meas.calPhase = 0 ∧ (testing 1).meas.test = true ∧ (testing 1).meas.calPhase ≠ 0 ∧
    (testing 0).meas.tick < (testing 0).meas.testTick + 57600 ∧
    ({ (testing 0).meas with tick := 57600 } : Meas).testTick + 57600 ≤ 57600 := by decide

/-! #### ShippingCalibrationRefreshAndSwitchoverCommands -/

theorem witness_ShippingCalibrationRefreshAndSwitchoverCommands :
    ready.takesCommand 2 7 0 = true ∧ ready.takesCommand 5 7 0 = true ∧ ready.takesCommand 8 7 0 = true ∧
    ready.takesCommand 9 7 0 = true ∧ ready.img.module_.commissioned = false ∧ (ready.dispCfg.isSome && ready.dispNormal) = false := by
  decide
theorem witness_ShippingCalibrationRefreshAndSwitchoverCommands_test :
    let s : State := { ready with
      img := { ready.img with module_ := { ready.img.module_ with commissioned := true } }
      hl := { ready.hl with service := true } }
    s.takesCommand 2 7 0 = true ∧ s.img.module_.commissioned = true := by decide
theorem witness_ShippingCalibrationRefreshAndSwitchoverCommands_panel :
    let panel : DisplayCfg := { cols := 8, rows := 8, grey := 0, vcom := 0, regions := [], screens := [], fields := [] }
    let s : State := { ready with
      img := { ready.img with image := some { serviceImage with display := some panel } }
      hl := { ready.hl with service := true }, disp := { ready.disp with railsOn := true } }
    s.takesCommand 8 7 0 = true ∧ (s.dispCfg.isSome && s.dispNormal) = true ∧ s.disp.railsOn = true := by decide +kernel

/-! #### CommissionClearsAndCommissions -/

theorem witness_CommissionClearsAndCommissions_refused : ready.takesCommand 1 7 0 = true ∧ ready.img.commissioning = false ∧
    ready.mayCommission 0 = false ∧ ready.img.module_.commissioned = false := by decide
theorem witness_CommissionClearsAndCommissions : accepted.takesCommand 1 7 0 = true ∧ accepted.mayCommission 0 = true ∧
    accepted.img.commissioning = false := by decide +kernel
theorem witness_CommissionClearsAndCommissions_complete :
    let s : State := { accepted with img := { accepted.img with commissioning := true } }
    s.powered = true ∧ s.img.commissioning = true ∧ s.img.module_.commissioned = false ∧ s.canLand = true ∧
    s.takesCommand 1 7 0 = true := by decide +kernel

/-! #### ZeroCalibrationRunsInItsPhases -/

theorem witness_ZeroCalibrationRunsInItsPhases : (calibrating 1).meas.calTick = some 100 ∧ (calibrating 1).meas.calPhase = 1 ∧
    (calibrating 2).meas.calPhase = 2 ∧ (calibrating 3).meas.calPhase = 3 ∧
    (∀ n ∈ (calibrating 3).meas.calChans, 1 ≤ n ∧ n ≤ 40) ∧ (calibrating 3).meas.calChans.Nodup ∧
    100 + 8 ≤ (calibrating 1).meas.tick ∧ 100 + 72 ≤ (calibrating 2).meas.tick ∧
    100 + 4 * (calibrating 3).meas.calDur ≤ (calibrating 3).meas.tick := by decide
theorem witness_ZeroCalibrationRunsInItsPhases_judge :
    ({ ZeroCal.reset with
       shots := 1, sumRho := 65536, sumSnr := 40, n1 := 1, n2 := 1, sumT := 5 } : ZeroCal).judge = 1 ∧
    255 * ({ ZeroCal.reset with shots := 1 } : ZeroCal).sumRho < 242 * 65536 * ({ ZeroCal.reset with shots := 1 } : ZeroCal).shots :=
  by decide +kernel

/-! #### VbusLossStartsThePowerFailSequence -/

theorem witness_VbusLossStartsThePowerFailSequence : ready.powered = true ∧ ready.pwr.pfActive = false ∧ ready.pwr.onCell = false ∧
    ({ ready.pwr with pfActive := true } : Pwr).pfActive = true ∧
    ({ ready.pwr with onCell := true } : Pwr).onCell = true ∧ ready.pwr.holdReturn = false := by decide

/-! #### PowerFailSequenceCommitsAndSwitches -/

theorem witness_PowerFailSequenceCommitsAndSwitches : failing.pwr.pfActive = true ∧ failing.pwr.pfCommit = false ∧
    ({ failing.pwr with pfCommit := true } : Pwr).pfCommit = true ∧ failing.canLand = true ∧ failing.pwr.cellPresent = true ∧
    2000 ≤ (3500 : Nat) ∧ (1500 : Nat) < 2000 := by decide
/-- Steps 1 to 3 have ended when no frame is on the air and the panel is dark, and with the store faulted 1 ms after t0. -/
theorem witness_PowerFailSequenceCommitsAndSwitches_ended : failing.pwr.pfStoreBad = false ∧ failing.radio.txEnd ≤ 0 ∧
    failing.disp.darkAt ≤ 0 ∧ ¬ (failing.onDisp fun d => { d with panel := .down 0 }).disp.darkAt ≤ 29 ∧
    (let p : Pwr := { failing.pwr with pfStoreBad := true }; p.pfStoreBad = true ∧ p.pfAt + 9600 ≤ failing.grid 9600 ∧
      ¬ p.pfAt + 9600 ≤ failing.grid 9599) := by decide +kernel
theorem witness_PowerFailSequenceCommitsAndSwitches_commit :
    let s : State := { failing with img := { failing.img with image := some heatImage, accepted := true } }
    s.pair.phase = 0 ∧ s.normal = true ∧ 5 ∈ s.activeCh ∧ s.integrates 5 = true ∧
    s.grid 0 ≤ (s.ch 5).stepStart ∧ (s.ch 5).behind = [] := by decide +kernel

/-! #### StoreSpentEndsPower -/

theorem witness_StoreSpentEndsPower : failing.pwr.pfActive = true ∧
    ({ failing.pwr with nvInhibit := true } : Pwr).nvInhibit = true := by decide

/-! #### VbusReturnsThroughTheStore -/

theorem witness_VbusReturnsThroughTheStore : ready.pwr.state ≠ .off ∧ ready.rtc.settLost = false ∧ ready.powered = true ∧
    ready.pwr.vbusOk = true ∧ ready.pwr.storeWaived = false ∧ returning.pwr.state = .run ∧ returning.pwr.phase = .running ∧
    returning.pwr.onCell = true ∧ returning.pwr.vbusOk = true ∧ returning.pwr.pfActive = false ∧ 26000 ≤ (27000 : Nat) ∧
    returning.pwr.mode = .backup := by decide
theorem witness_VbusReturnsThroughTheStore_other :
    ({ returning.pwr with mode := .unconfigured } : Pwr).mode = .unconfigured ∧ ready.asleep = false ∧
    ({ ready with pwr := { ready.pwr with state := .deepSleep } } : State).asleep = true := by decide

/-! #### CellThresholdsAct -/

theorem witness_CellThresholdsAct : ready.powered = true ∧ ready.pwr.pfActive = false ∧ ready.pwr.onCell = false ∧
    returning.pwr.onCell = true ∧ returning.pwr.state = .run ∧ returning.pwr.phase = .running ∧ returning.pwr.mode = .backup ∧
    ready.pwr.nvInhibit = false ∧ ({ ready.pwr with nvInhibit := true } : Pwr).nvInhibit = true ∧
    ({ returning.pwr with state := .sleep } : Pwr).state = .sleep ∧ failing.powered = true ∧ failing.pwr.pfActive = true := by decide
theorem witness_CellThresholdsAct_unpowered : State.reset.powered = false ∧ State.reset.pwr.nvInhibit = false ∧
    ready.pwr.belowWarn = false ∧ ({ ready.pwr with belowWarn := true } : Pwr).belowWarn = true ∧
    returning.pwr.onCell = true := by decide

/-! #### CellIsTestedCountedAndTrimmed -/

theorem witness_CellIsTestedCountedAndTrimmed :
    let s : State := { ready with rtc := { ready.rtc with count := 806400000 } }
    s.normal = true ∧ s.pwr.cellCheck = false ∧ 10800 ≤ localTime s.dst 806410800 % 86400 ∧
    s.rtc.loadDay < localTime s.dst 806410800 / 86400 + 1 := by decide +kernel
theorem witness_CellIsTestedCountedAndTrimmed_replaced :
    ({ ready.pwr with cellCheck := true, vbatMv := 3000 } : Pwr).cellCheck = true ∧ 3000 ≤ ({ ready.pwr with vbatMv := 3000 } : Pwr).vbatMv ∧
    returning.normal = false ∧ localTime ready.dst ready.rtc.count % 86400 < 10800 := by decide +kernel
theorem witness_CellIsTestedCountedAndTrimmed_trim : ready.powered = true ∧ ready.pair.phase = 0 ∧ ready.pwr.settRun = true ∧
    ({ ready.pwr with rootStopped := false } : Pwr).rootStopped = false ∧ ready.pwr.rootOk = true ∧ ready.pwr.rootStopped = true ∧
    2000 * ((2457600000 : Int) - (2457600100 : Nat)).natAbs ≤ 2457600100 ∧
    2400000000 < 2000 * ((2457600000 : Int) - (2400000000 : Nat)).natAbs := by decide

/-! #### HoardRecordsLandAndAreScrubbed -/

theorem witness_HoardRecordsLandAndAreScrubbed :
    let s : State := { ready with mem := { ready.mem with queue := [chargeRec ready.pwr] } }
    s.powered = true ∧ s.pwr.nvInhibit = false ∧ s.mem.queue = chargeRec ready.pwr :: [] ∧ ready.mem.queue = [] ∧
    s.pwr.state = .run ∧ s.mem.bad = [] := by decide

/-! #### SleepIsEnteredAndWoken -/

/-- A module asleep in BACKUP. -/
def asleep : State := { returning with pwr := { returning.pwr with state := .sleep, vbusOk := false } }
theorem witness_SleepIsEnteredAndWoken :
    let s : State := { returning with
      pwr := { returning.pwr with vbusOk := false }
      meas := { returning.meas with tick := 1 } }
    s.onCellRun = true ∧ s.pwr.mode = .backup ∧ s.nothingDue 4800 = true ∧ s.radio.txEnd ≤ 5000 ∧
    s.pwr.lastHostMs + 200 ≤ 5000 ∧ s.pwr.lastBusMs + 1000 ≤ 5000 ∧ s.mem.queue = [] ∧ s.alc.run = none ∧
    s.dmaQuiet = true ∧ 100 < s.pwr.lastHostMs + 200 := by decide
theorem witness_SleepIsEnteredAndWoken_wakes : asleep.asleep = true ∧ asleep.pwr.straps.hostmode = true ∧
    (0x9E#8).toNat / 2 = 0x48 + asleep.pwr.straps.haddr.toNat ∧ (0x9C#8).toNat / 2 ≠ 0x48 + asleep.pwr.straps.haddr.toNat ∧
    asleep.pwr.state = .sleep ∧ [WakeSource.schedule] ++ asleep.pwr.wakes ≠ [] ∧
    WakeSource.vbatWarn ∉ [WakeSource.schedule] ++ asleep.pwr.wakes := by decide
theorem witness_SleepIsEnteredAndWoken_pattern :
    let edges := (List.range 20).map (· * 100)
    20 ≤ (edges.filter fun t => decide (t ≤ 2000)).length ∧ (edges.dropLast.filter fun t => decide (t ≤ 2000)).length < 20 ∧
    1000 ≤ (1000 : Nat) ∧ WakeSource.hostMatch ∈ [WakeSource.hostMatch] := by decide
theorem witness_SleepIsEnteredAndWoken_deep :
    let s : State := { asleep with
      pwr := { asleep.pwr with state := .deepSleep, straps := { strapsOpen with hostmode := false } } }
    s.asleep = true ∧ s.pwr.straps.hostmode = false ∧ s.pwr.state = .deepSleep := by decide

/-! #### DeepSleepHoldsAndWakes -/

/-- A module in HOLD, awake. -/
def holding : State := { returning with pwr := { returning.pwr with mode := .hold, vbusOk := false } }
theorem witness_DeepSleepHoldsAndWakes : holding.onCellRun = true ∧ holding.pwr.mode = .hold ∧ holding.radio.txEnd ≤ 5000 ∧
    holding.pwr.lastHostMs + 200 ≤ 5000 ∧ holding.mem.queue = [] ∧ holding.alc.run = none ∧ holding.hl.wbuf = [] ∧
    100 < holding.pwr.lastHostMs + 200 := by decide
theorem witness_DeepSleepHoldsAndWakes_wake :
    let s : State := { holding with
      pwr := { holding.pwr with state := .deepSleep, retSel := 255, sigs := (List.range 8).map fun k => (k, holding.mem.bankSig k) } }
    s.pwr.state = .deepSleep ∧ WakeSource.hostMatch ∈ [WakeSource.hostMatch] ∧ s.pwr.mode = .hold ∧ s.pwr.retSel = 255 ∧
    s.mem.parity = [] ∧ (∀ k, k < 8 → (k, s.mem.bankSig k) ∈ s.pwr.sigs) ∧ s.running = true :=
  ⟨rfl, by decide, rfl, rfl, rfl, fun k hk => List.mem_map.2 ⟨k, List.mem_range.2 hk, rfl⟩, rfl⟩
theorem witness_DeepSleepHoldsAndWakes_exit :
    let s : State := { holding with pwr := { holding.pwr with vbusOk := true } }
    s.pwr.mode = .hold ∧ s.pwr.vbusOk = true ∧ s.pwr.phase = .running ∧ s.pwr.state = .run ∧
    ([WakeSource.movor] ++ s.pwr.wakes).all (fun w => w == .uartActivity || w == .mbusStart || w == .movor || w == .vbatWarn) = true :=
  by decide

/-! #### WarmCausesHoldTheModuleInReset -/

theorem witness_WarmCausesHoldTheModuleInReset : ready.powered = true ∧ ready.pwr.phase ≠ .rootDead ∧
    ready.pwr.warmCause ≠ some 3 ∧ ({ ready.pwr with warmCause := some 3 } : Pwr).warmCause = some 3 ∧ 10 ≤ (10 : Nat) ∧
    (9 : Nat) < 10 ∧ ready.running = true ∧ ready.pwr.state = .run ∧ ready.paired = false ∧ ready.pwr.pfActive = false ∧
    ready.canLand = true ∧ ready.takesCommand 3 7 0 = true ∧ ready.pwr.phase = .running ∧
    ({ ready.flt with dmrPending := true } : Flt).dmrPending = true := by decide
theorem witness_WarmCausesHoldTheModuleInReset_pair :
    let s : State := { ready with pwr := { ready.pwr with strapRole := 1 } }
    s.running = true ∧ s.paired = true ∧ s.pwr.failSilent = false := by decide
theorem witness_WarmCausesHoldTheModuleInReset_root :
    ({ ready with pwr := { ready.pwr with phase := .reading } } : State).powered = true ∧
    ({ ready.pwr with phase := .rootDead } : Pwr).phase = .rootDead ∧ ready.pwr.warmCause = none ∧
    ({ ready with pwr := { ready.pwr with phase := .inReset } } : State).powered = true ∧
    ({ ready.pwr with phase := .rootDead, warmCause := some 7 } : Pwr).warmCause.isSome = true := by decide

/-! #### WarmRestartResumes -/

theorem witness_WarmRestartResumes :
    ({ ready.pwr with phase := .inReset, warmCause := some 3 } : Pwr).phase = .inReset ∧
    ({ ready.pwr with phase := .inReset, warmCause := some 3 } : Pwr).warmCause = some 3 := by decide

/-! #### ColdStartsBeginAndOffIsEntered -/

theorem witness_ColdStartsBeginAndOffIsEntered : State.reset.pwr.state = .off ∧ State.reset.pwr.onCell = false ∧
    ({ State.reset.pwr with state := .unpowered } : Pwr).state = .unpowered ∧ 11300 ≤ (24000 : Nat) ∧ (24000 : Nat) ≤ 33000 ∧
    100 ≤ (100 : Nat) ∧ 10 ≤ (10 : Nat) ∧ State.reset.rtc.settLost = true := by decide
theorem witness_ColdStartsBeginAndOffIsEntered_off :
    let s : State := { ready with pwr := { ready.pwr with shipping := true } }
    s.pwr.shipping = true ∧ s.powered = true ∧ s.canLand = true ∧ s.pwr.wakeHeld = false ∧
    ({ s.pwr with wakeHeld := true } : Pwr).wakeHeld = true ∧ s.pwr.state ≠ .off ∧
    ({ s.pwr with phase := .reading } : Pwr).phase = .reading ∧
    ({ s.pwr with phase := .inReset } : Pwr).phase = .inReset := by decide

/-! #### TicksCountAndBegin -/

theorem witness_TicksCountAndBegin : ready.pwr.state = .run ∧ ready.pwr.rootOk = true ∧ ready.pwr.onCell = false ∧
    ready.pwr.phase = .running ∧ ready.pwr.mode = .normal ∧
    ({ ready.pwr with phase := .waiting } : Pwr).phase = .waiting ∧ ready.pwr.vbusOk = true ∧ ready.pwr.pfActive = false ∧
    26000 ≤ (27000 : Nat) ∧ ready.img.commissioning = false ∧ ready.pwr.mode ≠ .unconfigured ∧ returning.powered = true ∧
    returning.pwr.onCell = true ∧ returning.rtc.settLost = false ∧ returning.backup = true ∧ returning.pwr.state = .run := by decide
theorem witness_TicksCountAndBegin_dma :
    (({ ready with dma := { ready.dma with chs := Vector.replicate 16 { DmaCh.reset with run := true } } } : State).dc 4).run = true := by
  decide +kernel

theorem witness_TicksCountAndBegin_first :
    let s : State := { ready with pwr := { ready.pwr with phase := .waiting, storeWaived := true } }
    s.pwr.phase = .waiting ∧ s.pwr.storeWaived = true ∧ s.pwr.mode ≠ .unconfigured ∧ s.img.accepted = false ∧ s.meas.started = false ∧
      ({ returning.pwr with phase := .waiting } : Pwr).phase = .waiting ∧ asleep.pwr.phase = .running ∧ asleep.pwr.state ≠ .run := by
  decide
theorem witness_TicksCountAndBegin_wake : asleep.backup = true ∧ asleep.pwr.onCell = true ∧ asleep.pwr.state = .sleep ∧
    WakeSource.vbatWarn ∉ asleep.pwr.wakes ∧ asleep.rtc.settLost = false := by decide

/-! #### ShotsFillTheirSlots -/

/-- The result of a shot that was not driven. -/
def anyShot : ShotRes := undriven
theorem witness_ShotsFillTheirSlots : metering.slotDriven 5 = true ∧ (metering.ch 5).flow.stop = false ∧ slotPair 5 (metering.rate 5) 36 = some (0, 0) ∧
    slotPair 5 (metering.rate 5) 37 = some (0, 1) ∧ slotPair 5 (metering.rate 5) 38 = none ∧ metering.calibrating 5 = false := by
  decide +kernel
theorem witness_ShotsFillTheirSlots_second :
    ((metering.onFlow 5 fun f => { f with first := some anyShot }).ch 5).flow.first = some anyShot ∧
    ((metering.onFlow 5 fun f => { f with goodSince := some 0, lowQ := true }).ch 5).flow.goodSince = some 0 ∧
    ((metering.onFlow 5 fun f => { f with goodSince := some 0, lowQ := true }).ch 5).flow.lowQ = true ∧
    metering.meas.tick < 0 + 240 := by decide +kernel

theorem witness_ShotsFillTheirSlots_stop :
    metering.meas.tick < ((metering.onFlow 5 fun f => { f with stopTick := 5 }).ch 5).flow.stopTick + 4 := by decide +kernel
theorem witness_ShotsFillTheirSlots_stopped : (metering.ch 5).flow.stopTick + 4 ≤ metering.meas.tick := by decide +kernel

/-! #### StepsCloseOnAgreement -/

theorem witness_StepsCloseOnAgreement :
    metering.integrates 5 = true ∧ metering.pwr.pfActive = false ∧ (metering.ch 5).stepStart < metering.lastStepEnd 5 * 2400000 := by
  decide +kernel
theorem witness_StepsCloseOnAgreement_compare :
    let i := metering.stepIn 5 (metering.lastStepEnd 5 * 2400000) (metering.lastStepEnd 5) false
    compareDatapaths noUpset (datapath i none Work.absent) (datapath i none Work.absent) = none ∧
    compareDatapaths { word := none, incr := true } (datapath i none Work.absent) (datapath i none Work.absent) = some 255 ∧
    (metering.ch 5).a = Work.absent ∧ (metering.ch 5).b = Work.absent ∧ metering.prepay 5 = none := by decide +kernel
theorem witness_StepsCloseOnAgreement_owed :
    ((metering.onCh 5 fun c => { c with owed := true }).ch 5).owed = true ∧ (metering.ch 5).merged = false ∧
    (metering.ch 5).owed = false := by decide +kernel

/-- A parity error in the memory of the integration, and none. -/
theorem witness_StepsCloseOnAgreement_parity :
    let s := metering.onMem fun m => { m with parity := [0x100] }
    s.mem.parityIn 0 0x30000 = true ∧ s.mem.parity = [0x100] ∧ s.integrates 5 = true ∧
    (s.ch 5).stepStart < s.lastStepEnd 5 * 2400000 ∧ metering.mem.parityIn 0 0x30000 = false := by decide +kernel

/-! #### ZeroAndTemperatureAreTracked -/

/-- A calibration record with its zero tracked 10 units away from the learned one. -/
def anyCal : Cal :=
  { imgSeq := 0, learnTime := 0, flags := 1, burstN := 0, burstCyc := 0, drive := 0, tapStep := 0, gainRef := 0, tElec := 0,
    zeroLearned := 0, zeroTracked := 10, tofRef := 0, cLearn := 0, thetaLearn := 0, ampRef := 0, trackTime := 0, learned := [],
    tracked := [] }
/-- CH5 with a calibration whose tracked values have changed, at tick 14,400. -/
def tracking : State := ({ metering with meas := { metering.meas with tick := 14400 } } : State).onFlow 5 fun f =>
  { f with cal := some anyCal, calDirty := true }
theorem witness_ZeroAndTemperatureAreTracked : tracking.normal = true ∧ tracking.integrates 5 = true ∧ tracking.meas.tick % 1200 = 0 ∧
    (tracking.ch 5).flow.cal = some anyCal ∧ (anyCal.zeroTracked - anyCal.zeroLearned).natAbs ≤ 65 ∧ tracking.pair.phase = 0 ∧
    tracking.active = true ∧ tracking.meas.tick % 14400 = 0 ∧ (tracking.ch 5).flow.calDirty = true := by decide +kernel
theorem witness_ZeroAndTemperatureAreTracked_slots : metering.convDriven 1 = true ∧ metering.pwr.mode = .normal ∧
    metering.meas.tick % 4 = 0 ∧ metering.slotSensor 1 1 = some (1, 0) := by decide +kernel
theorem witness_ZeroAndTemperatureAreTracked_sensor :
    let s : State := { metering with
      img := { metering.img with image := some { heatImage with
        chans := (Vector.replicate 40 ChanCfg.off).setIfInBounds 4 { ChanCfg.off with type := .heat, rtd := 1 } } } }
    s.slotSensor 1 3 = some (5, 0) ∧ s.slotDriven 5 = true ∧ (s.cfg 5).hasSup = true ∧
    ({ Temp.reset with supConv := some (8, some 5) } : Temp).supConv = some (8, some 5) := by decide +kernel

/-! #### PulsesStartInOrderAndEnd -/

/-- A module with a pulse waiting on output 2. -/
def pulsing : State := metering.setOut 2 { closed := false, waiting := [0, 40], last := none, backlog := true }
theorem witness_PulsesStartInOrderAndEnd : (pulsing.out 2).waiting = [0, 40] ∧ pulsing.pulsesDriven = true ∧
    0 ≤ pulsing.grid 0 ∧ (pulsing.out 3).waiting = [] ∧
    ((pulsing.setOut 2 { closed := true, waiting := [40], last := some 0, backlog := true }).out 2).last = some 0 ∧
    0 + ((pulsing.setOut 2 { closed := true, waiting := [40], last := some 0, backlog := true }).pulseCfg 2).2.2.1 * 9600 ≤
      pulsing.grid 0 := by decide +kernel
theorem witness_PulsesStartInOrderAndEnd_gap :
    let p : PulseOut := { closed := false, waiting := [5], last := some 1, backlog := false }
    p.waiting.length ≤ 65535 ∧ (p.last.toList ++ p.waiting).Pairwise (fun x y => x + 4 ≤ y) ∧
      (p.queue 4 [3, 20]).1.waiting = [5, 9, 20] := by decide +kernel

/-! #### ValveMovesStartAndComplete -/

/-- CH5 of a metering module has a valve, and a CLOSE command for it waits. -/
def valved : State := { metering with
  img := { metering.img with image := some { heatImage with
    chans := (Vector.replicate 40 ChanCfg.off).setIfInBounds 4 { ChanCfg.off with type := .heat, options := 4, valveTmax := 60 } } }
  bridge := { Bridge.reset with queue := [{ ch := 5, dir := 2, source := 1, ticket := 9 }] } }
/-- The same with the move in progress since 0 and one reading taken. -/
def moving (reading : Bool × Bool) : State := ({ valved with
  bridge := { Bridge.reset with moving := some { ch := 5, dir := 2, source := 1, ticket := 9 } } } : State).onCh 5 fun c =>
    { c with valve := { c.valve with hist := [reading] } }
theorem witness_ValveMovesStartAndComplete : valved.normal = true ∧ valved.active = true ∧ valved.pwr.pfActive = false ∧
    valved.pair.switching = false ∧ valved.bridge.moving = none ∧ valved.bridge.since = 0 ∧
    valved.bridge.queue = [{ ch := 5, dir := 2, source := 1, ticket := 9 }] ∧ (valved.ch 5).a.valve.position ≠ 2 ∧
    ((valved.onValve 5 fun v => { v with position := 2 }).ch 5).a.valve.position = 2 := by decide +kernel
theorem witness_ValveMovesStartAndComplete_sample : (valved.cfg 5).hasValve = true ∧ (moving (false, true)).normal = true ∧
    (moving (false, true)).bridge.moving = some { ch := 5, dir := 2, source := 1, ticket := 9 } ∧
    ((moving (false, true)).ch 5).valve.hist = [(false, true)] ∧ contactPos (false, true) = 2 ∧
    ((moving (true, false)).ch 5).valve.hist = [(true, false)] ∧ (1999 : Nat) < (moving (true, false)).bridge.since + 2000 ∧
    (valved.ch 5).valve.hist = [] := by decide +kernel

theorem witness_ValveMovesStartAndComplete_rest :
    let b : Bridge := { valved.bridge with since := 5000 }
    b.since ≠ 0 ∧ 5199 < b.since + 200 ∧ b.since + 200 ≤ 5200 ∧ (valved.ch 5).a.valve.position < 4 ∧ (valved.ch 5).valve.movedRun < 2 ∧
      (valved.bridge.queued 4) = none := by decide +kernel

/-! #### ValveFaultsStopTheMove -/

theorem witness_ValveFaultsStopTheMove :
    (moving (true, true)).bridge.moving = some { ch := 5, dir := 2, source := 1, ticket := 9 } ∧
    (moving (true, true)).bridge.since + 1000 * ((moving (true, true)).cfg 5).valveTmax ≤ 60000 ∧
    ((moving (true, true)).cfg 5).hasValve = true ∧ (moving (true, true)).normal = true ∧ (moving (true, true)).active = true ∧
    (moving (true, true)).pwr.pfActive = false ∧ ((moving (true, true)).ch 5).valve.hist = [(true, true)] ∧
    (let s := (moving (true, false)).onCh 5 fun c => { c with valve := { c.valve with opposite := some 2000 } };
      (s.ch 5).valve.opposite = some 2000 ∧ (s.ch 5).valve.hist = [(true, false)] ∧ s.bridge.since + 2000 ≤ 4000 ∧ s.normal = true) ∧
    valved.bridge.moving = none := by decide +kernel

/-! #### TamperEdgesAndCableLossAreRecorded -/

/-- The PRIMARY of a pair in NORMAL, unpaired. -/
def onLink : State := { metering with
  pwr := { metering.pwr with strapRole := 1 }
  pair := { metering.pair with phase := 1 } }
theorem witness_TamperEdgesAndCableLossAreRecorded : metering.running = true ∧ metering.pwr.settRun = true ∧
    metering.pwr.state ≠ .off ∧ State.reset.pwr.state = .off ∧ State.reset.pwr.settRun = false ∧ metering.pwr.state = .run ∧
    metering.tamper.latch = [] ∧ metering.pair.phase = 0 ∧ metering.log.hour = metering.rtc.count / 3600 ∧
    onsets (tamperCode .cover) 0 metering.log.counts < 8 ∧
    ({ metering with pwr := { metering.pwr with state := .sleep } } : State).pwr.state ≠ .run ∧
    8 ≤ (List.replicate 8 (TamperInput.cover, true, 0, false)).length := by decide +kernel
theorem witness_TamperEdgesAndCableLossAreRecorded_cable : onLink.paired = true ∧ onLink.pwr.phase = .running ∧
    onLink.powered = true ∧ metering.paired = false ∧ onLink.onMovor = true ∧ onLink.pair.cableLost = false ∧
    (onLink.onPair fun p => { p with cableLost := true }).onMovor = true ∧ metering.onMovor = false := by decide +kernel

/-! #### AllocatorFramesAreJudgedAndFrozen -/

/-- A metering module with one provisioned allocator, which has no key to decrypt with. -/
def collecting : State := { metering with
  img := { metering.img with image := some { heatImage with
    allocs := some [{ ident := [1, 2, 3, 4, 5, 6, 7, 8], key := some (zeros 16) }]
    billing := { heatImage.billing with annualMonth := 1, annualDay := 1 } } }
  rtc := { metering.rtc with count := 800000000 } }
/-- A frame of that allocator with an empty encrypted part. -/
def alcFrame : List Byte := [14#8, 0x44#8, 1, 2, 3, 4, 5, 6, 7, 8, 0x7A, 9, 0, 0x10, 5] ++ zeros 16
theorem witness_AllocatorFramesAreJudgedAndFrozen :
    let s := collecting.onRadio fun r => { r with rx := [alcFrame] }
    s.radio.rx = [alcFrame] ∧ s.allocs[0]? = some { ident := slice alcFrame 2 8, key := some (zeros 16) } ∧
    fieldAt alcFrame 10 1 = 0x7A ∧ fieldAt alcFrame 13 2 / 256 % 32 = 5 ∧ s.alc.run = none ∧ s.pair.phase = 0 ∧
    metering.allocs = [] ∧ s.alc.strangers = [] ∧ s.addressed alcFrame = false ∧ s.radio.rx = [] ++ alcFrame :: [] := by decide +kernel
theorem witness_AllocatorFramesAreJudgedAndFrozen_judge :
    let r : AlcRec := { AlcRec.start (zeros 8) with flags := 1, acc := 3, current := 10 }
    r.stored = true ∧ (AlcRec.start (zeros 8)).stored = false ∧ (130 + 256 - r.acc) % 256 = 127 ∧
      (131 + 256 - r.acc) % 256 = 128 ∧ dateRank r.dueDate < dateRank [0x21#8, 0x11#8] ∧ collecting.alc.runOf 0 < 8 ∧
      ¬ (collecting.alc.setRun 0 8).runOf 0 < 8 := by decide +kernel
theorem witness_AllocatorFramesAreJudgedAndFrozen_freeze : collecting.normal = true ∧ collecting.active = true ∧
    collecting.hasAllocs = true ∧ collecting.freezeDue.isSome = true ∧ collecting.allocs.length ≤ 480 ∧
    collecting.mem.queue.length + collecting.allocs.length < queueBound ∧ collecting.commitsOpen = true ∧
    (collecting.onCh 5 fun c => { c with stepStart := 10 ^ 9 }).commitsOpen = false := by decide +kernel

/-- A frame of an allocator whose buffer holds a parity error. -/
theorem witness_AllocatorFramesAreJudgedAndFrozen_parity :
    let s := (collecting.onRadio fun r => { r with rx := [alcFrame] }).onMem fun m => { m with parity := [0x3EFFF] }
    s.radio.rx = [] ++ alcFrame :: [] ∧ s.addressed alcFrame = false ∧ s.mem.parityIn 0x30000 0xF000 = true ∧
      collecting.mem.parityIn 0x30000 0xF000 = false := by decide +kernel

/-! #### OffersAreAcceptedOrRefused -/

/-- A billing telegram of CH5, each minute. -/
def telegram5 : TelegramEntry := { kind := 1, ch := 5, secMode := 5, key := 0, interval := 60, bkInterval := 0, records := 1 }
/-- A metering module whose image has that entry. -/
def sending : State := { metering with
  img := { metering.img with image := some { heatImage with
    telegrams := [telegram5]
    radio := { heatImage.radio with mode := 2, rxEn := 3, dutyA := 100 } } } }
theorem witness_OffersAreAcceptedOrRefused : sending.telegram 0 = some telegram5 ∧ sending.telegram 1 = none ∧
    telegram5.gridOf sending.gridNow = 60 ∧ sending.normal = true ∧ sending.offersAllowed = true ∧
    sending.radio.queue.length < 32 ∧ max (100 + 30) (sending.tail 100 + 5) ≤ 100 + 4000 ∧
    10 * (sending.windowUse 130 + airtime sending.radioCfg.1 sending.radioCfg.2.1 (sending.maxLen telegram5)) ≤ 9 * sending.budget ∧
    ({ sending with pair := { sending.pair with switching := true } } : State).offersAllowed = false ∧
    sending.radio.catchUps = [] ∧ sending.radio.snaps = [] ∧ metering.pwr.mode ≠ .hold := by decide +kernel
/-- With its phase re-anchored and no jitter, the entry's scheduled instant is its nominal one. -/
theorem witness_OffersAreAcceptedOrRefused_instant :
    let s : State := { (sending.onRadio fun r => { r with phases := [(0, 0, 7)] }) with rtc := { sending.rtc with count := 67 } }
    s.gridInstant 0 s.gridNow 60 67 = true ∧ s.gridInstant 0 s.gridNow 60 68 = false := by
  have h : sending.offsetMs 0 0 60 67 = 0 := by
    show (2 * (sending.jitterDraw 0 0 67 : Int) - 2 ^ 32) * ((0 * 60 * 10 : Nat) : Int) / 2 ^ 32 = 0
    simp
  refine ⟨?_, by decide +kernel⟩
  show ((67 % 60 == 7) && ((1000 * (67 : Nat) : Int) + sending.offsetMs 0 0 60 67) / 1000 == ((67 : Nat) : Int)) = true
  rw [h]
  decide

theorem witness_OffersAreAcceptedOrRefused_order : sending.inOrder 100 (.scheduled 0 67) = true ∧ sending.pwr.state = .run ∧
    (sending.onRadio fun r => { r with offered := some (100, 3) }).inOrder 100 (.scheduled 0 67) = false ∧
    ({ sending with pwr := { sending.pwr with state := .sleep } } : State).asleep = true ∧
    (∀ d, (0, sending.gridNow, 7, d) ∉ sending.radio.catchUps) := by
  refine ⟨by decide +kernel, by decide +kernel, by decide +kernel, by decide +kernel, fun d h => ?_⟩
  have e : sending.radio.catchUps = [] := rfl
  rw [e] at h
  exact List.not_mem_nil h

/-! #### FramesAreSentAndReceivedWithinTheBudget -/

/-- A module that sends has a frame of airtime 100 waiting for SETT ms 5,000. -/
def waiting : State := { sending with
  radio := { sending.radio with bins := [(0, 7)], queue := [{ entry := 0, start := 5000, air := 100, plan := 120, frame := [1#8, 2#8] }] } }
theorem witness_FramesAreSentAndReceivedWithinTheBudget :
    waiting.radio.queue = [{ entry := 0, start := 5000, air := 100, plan := 120, frame := [1#8, 2#8] }] ∧ waiting.pwr.pfActive = false ∧
    waiting.offersAllowed = true ∧ 10 * waiting.windowUse 5000 ≤ 9 * waiting.budget ∧ sending.radio.queue = [] ∧
    9 * waiting.budget < 10 * (waiting.onRadio fun r => { r with bins := [(0, 100000000000)] }).windowUse 5000 ∧
    waiting.opensWindow = true ∧ waiting.normal = true ∧ waiting.active = true ∧ waiting.radio.answer = none := by decide +kernel
theorem witness_FramesAreSentAndReceivedWithinTheBudget_received :
    waiting.listening 5000 = true ∧ waiting.windowOpen 5000 = false ∧ waiting.addressed [] = false ∧
    (waiting.onRadio fun r => { r with rx := List.replicate 8 [] }).radio.rx.length = 8 := by decide +kernel
theorem witness_FramesAreSentAndReceivedWithinTheBudget_answer :
    let a : Answer := { ctx := some 3, identity := 0, key := 0, acc := 1, cmd := 1, result := 0 }
    let s := ((waiting.setCtx 3 { Ctx.reset with st := .ready, frame := [1#8, 2#8] }).onRadio fun r => { r with answer := some a })
    s.radio.answer = some a ∧ a.ctx = some 3 ∧ (s.ctx 3).st = .ready ∧ s.normal = true ∧
      s.windowUse 0 + airtime s.radioCfg.1 s.radioCfg.2.1 (onAir s.radioCfg.1 [2#8]).length ≤ s.budget := by decide +kernel

/-- A response window that is open at its first instant; a frame that a transmission cut. -/
theorem witness_FramesAreSentAndReceivedWithinTheBudget_open :
    let s : State := waiting.onRadio fun r => { r with window := some waiting.winFrom, winDue := true }
    s.windowOpen s.winFrom = true ∧ s.winFrom ≤ s.winFrom ∧ s.radio.winDue = true := by
  have h : (waiting.onRadio fun r => { r with window := some waiting.winFrom, winDue := true }).receives = true := by decide +kernel
  refine ⟨?_, Nat.le_refl _, rfl⟩
  rw [State.windowOpen, h]
  exact decide_eq_true ⟨Nat.le_refl _, Nat.le_refl _⟩
theorem witness_FramesAreSentAndReceivedWithinTheBudget_cut :
    let s : State := waiting.onRadio fun r => { r with txStart := 100 }
    s.receives = true ∧ s.rxEnable ≠ 0 ∧ 99 < s.radio.txStart ∧ s.radio.txStart ≤ 100 ∧
      ({ waiting with pwr := { waiting.pwr with state := .sleep } } : State).asleep = true ∧ waiting.pwr.state = .run := by decide +kernel

/-- A queued frame whose buffer holds a parity error, and one whose does not. -/
theorem witness_FramesAreSentAndReceivedWithinTheBudget_parity :
    let s := waiting.onMem fun m => { m with parity := [0x30000] }
    s.mem.parityIn 0x30000 0xF000 = true ∧ waiting.mem.parityIn 0x30000 0xF000 = false ∧ s.pwr.state = .run ∧
      s.radio.queue.length = 1 := by decide +kernel

/-! #### SessionRequestsTakeContextsAndAreAnswered -/

/-- A metering module with a key for remote commands, and context 3 executed. -/
def serving : State := ({ metering with
  img := { metering.img with image := some { heatImage with keys := [{ index := 0, use := 2, key := zeros 16 }] } }
  sec := { metering.sec with next := List.replicate 41 0, floor := List.replicate 32 0 } } : State).setCtx 3
    { Ctx.reset with st := .running, partner := .radio [1], cmd := 1, done := some (0, [1#8]) }
theorem witness_SessionRequestsTakeContextsAndAreAnswered :
    (serving.ctx 3).st = .running ∧ (serving.ctx 3).done = some (0, [1#8]) ∧ (serving.keyEntry 0).isSome = true ∧
    serving.counterFree 0 = true ∧ serving.serves (.radio [1]) = true ∧ serving.ctxOf (.radio [1]) = some 3 ∧
    serving.ctxOf (.radio [2]) = none ∧ (serving.ctx 0).st = .free ∧ serving.sess.inbox = [] ∧
    (serving.onSess fun e => { e with inbox := [[1#8]] }).sess.inbox = [[1#8]] ∧
    serving.authenticate [] = none := by decide +kernel
theorem witness_SessionRequestsTakeContextsAndAreAnswered_states :
    ((serving.setCtx 3 { serving.ctx 3 with st := .ready }).ctx 3).st = .ready ∧
    ((serving.setCtx 3 { serving.ctx 3 with st := .idle }).ctx 3).st = .idle ∧
    ({ serving with sec := { serving.sec with next := List.replicate 41 70 } } : State).counterFree 0 = false ∧
    ({ identity := 0, key := { index := 0, use := 2, key := zeros 16 }, mcr := 7, acc := 1, cmd := 0x20, args := [1, 2, 3, 4, 5] }
      : Request).arguments = some [1, 2, 3, 4, 5] ∧ floorBound 0x20 = true ∧ nth serving.sec.floor 0 0 < 7 := by decide +kernel

/-- A frame of the bus master, and one of the reading system with address 1 to the module, that wait. -/
theorem witness_SessionRequestsTakeContextsAndAreAnswered_frames :
    let f : List Byte := [20#8, 0x44#8, 1, 2, 3, 4, 5, 6, 7, 8, 0x90] ++ zeros 16 ++ [0x5B#8] ++ longAddress (serving.identity 0)
    let s := (serving.onRadio fun r => { r with rx := [f] }).onSess fun e => { e with inbox := [[1#8]] }
    s.addressed f = true ∧ s.radio.rx = [] ++ f :: [] ∧ (s.takeRequestFrame (.radio (slice f 2 8)) (f.drop 10)).isSome = true ∧
      (s.takeRequestFrame .busMaster [1#8]).isSome = true ∧ s.takeRequestFrame .busMaster [2#8] = none ∧
      (s.ctx 3).since + 60000 ≤ 60000 ∧ (s.ctx 3).since + 900000 ≤ 900000 ∧ s.mem.parityIn 0x30000 0xF000 = false ∧
      (s.onMem fun m => { m with parity := [0x30010] }).mem.parityIn 0x30000 0xF000 = true := by decide +kernel

/-! #### RemoteCommandsExecuteInTheirContext -/

/-- Context 3 runs a remote command on identity 5, whose channel has a valve. -/
def commanded (cmd : Nat) (args : List Byte) : State := ({ valved with bridge := Bridge.reset } : State).setCtx 3
  { Ctx.reset with st := .running, identity := 5, cmd := cmd, args := args }
theorem witness_RemoteCommandsExecuteInTheirContext : (commanded 1 []).runs 3 0x01 = true ∧ (commanded 1 []).runs 3 0x02 = false ∧
    (commanded 2 [0, 0, 0x10, 128]).runs 3 0x02 = true ∧ fieldAt [0#8, 0, 0x10, 128] 0 3 = 0x100000 ∧
    (commanded 0x10 [2]).runs 3 0x10 = true ∧ (commanded 0x10 [2]).canLand = true ∧ ((commanded 0x10 [2]).cfg 5).hasValve = true ∧
    (commanded 0x10 [2]).prepay 5 = none ∧ (commanded 0x10 [2]).normal = true ∧
    ((commanded 0x10 [2]).ch 5).valve.showsBoth = false ∧ ((commanded 0x10 [2]).ch 5).a.valve.position ≠ 2 ∧
    (commanded 0x20 [1, 2, 3, 4, 0]).runs 3 0x20 = true ∧ (commanded 0x20 [1, 2, 3, 4, 0]).timeChanges = true ∧
    (commanded 0x21 [1, 2, 0, 0]).runs 3 0x21 = true ∧ fieldInt [1#8, 2, 0, 0] 0 4 = 513 := by decide +kernel
/-- A module whose CH5 is prepaid, with a token of 1,000 units for it in context 3. -/
def prepaid (token : List Byte) : State := ({ commanded 0x11 token with
  img := { metering.img with image := some { heatImage with
    keys := [{ index := 0, use := 4, key := zeros 16 }]
    prepay := some { entries := [{ ch := 5, unit := 0, tokenKey := 0, price := 1, initial := 0, grace := 0 }], prot := [] } } }
  otp := { metering.otp with serial := 77 } } : State)
/-- The token, with its MAC. -/
def token5 : List Byte :=
  let t := le 4 9 ++ le 1 5 ++ le 1 1 ++ zeros 2 ++ le 8 1000 ++ zeros 8
  t ++ (cmac (zeros 16) (ascii ['E', 'T', 'Y', 'T'] ++ le 8 77 ++ t)).take 8
theorem witness_RemoteCommandsExecuteInTheirContext_token : (prepaid token5).runs 3 0x11 = true ∧
    (prepaid token5).checkToken 5 token5 = 0 ∧ ((prepaid token5).ch 5).token = none ∧ fieldAt token5 4 1 = 5 ∧
    (prepaid token5).checkToken 4 token5 = 4 := by decide +kernel

theorem witness_RemoteCommandsExecuteInTheirContext_mirror :
    let s := (commanded 0x10 [2]).onPair fun p => { p with phase := 3, store := [.mk 1 3 (le 3 0x250000)] }
    (commanded 0x10 [2]).mirrorDone 0x250000 0 0 = true ∧ s.mirrorDone 0x250000 0 149 = false ∧ s.mirrorDone 0x250000 0 150 = true ∧
      ((commanded 0x10 [2]).onPwr fun p => { p with pfActive := true }).pwr.pfActive = true := by decide +kernel
theorem witness_RemoteCommandsExecuteInTheirContext_answer :
    (((prepaid token5).onCh 5 fun c => { c with token := some (9, 1000, 50) }).ch 5).token = some (fieldAt token5 0 4, 1000, 50) := by
  decide +kernel

/-! #### MBusFramesAreServedUnderTheSelection -/

/-- A metering module on the bus, with CH5 selected. -/
def selected : State := { serving with mbus := { serving.mbus with selected := some 5, last := some (true, [1#8]) } }
theorem witness_MBusFramesAreServedUnderTheSelection : selected.pwr.state = .run ∧ selected.onBus = true ∧
    selected.mbus.selected = some 5 ∧ selected.mbus.last = some (true, [1#8]) ∧ serving.mbus.selected = none ∧
    selected.busIdentities = [0, 5] ∧ (List.replicate 8 0xFF#8).length = 8 ∧
    matchesAddress (List.replicate 8 0xFF#8) (longAddress (selected.identity 5)) = true ∧
    matchesAddress (List.replicate 8 0xFF#8) (longAddress (selected.identity 0)) = true ∧
    matchesAddress (List.replicate 8 0#8) (longAddress (selected.identity 5)) = true ∧
    ({ selected with pwr := { selected.pwr with mode := .hold } } : State).onBus = false ∧ selected.mbus.direct = none ∧
    selected.ctxOf .busMaster = none ∧ selected.firstEntry 1 5 = none ∧
    ({ selected with pwr := { selected.pwr with state := .sleep } } : State).pwr.state ≠ .run := by decide +kernel
theorem witness_MBusFramesAreServedUnderTheSelection_ready :
    let s := selected.setCtx 3 { serving.ctx 3 with st := .ready, partner := .busMaster, identity := 5 }
    s.ctxOf .busMaster = some 3 ∧ (s.ctx 3).identity = 5 ∧ (s.ctx 3).st = .ready ∧ s.mbus.direct = none := by decide +kernel

/-! #### DmaInstructionsRunAsEncoded -/

/-- DC12 runs and stands at an instruction of four words at 0x05_0100. -/
def standing (w : List Nat) (f : DmaCh → DmaCh) : State :=
  (w.zipIdx.foldl (fun t e => t.sramWrite (0x50100 + 4 * e.2) (le 4 e.1)) metering).setDc 12
    (f { DmaCh.reset with run := true, pc := 0x50100 })
theorem witness_DmaInstructionsRunAsEncoded :
    let s := standing [0x20000005, 0x50000, 0, 0] id
    s.pwr.state = .run ∧ (s.dc 12).run = true ∧ (s.dc 12).move = none ∧ (s.dc 12).wait = none ∧ s.mem.faultIn (s.dc 12).pc 16 = false ∧
      s.dmaFetch 12 = [0x20000005, 0x50000, 0, 0] ∧ (s.dc 12).stop = false ∧ (s.dc 12).armed = none ∧ (s.dc 12).down = false ∧
      (s.dc 12).wrote = none ∧ dmaPcOk 12 0x50000 = true ∧ dmaPcOk 12 0x50110 = true ∧ dmaPcOk 12 0x50008 = false := by
  decide +kernel
theorem witness_DmaInstructionsRunAsEncoded_fault :
    let s := standing [0, 0, 0, 0] id
    (s.onMem fun m => { m with parity := [0x50104] }).mem.faultIn 0x50100 16 = true ∧ s.dmaFetch 12 = [0, 0, 0, 0] ∧
      metering.dc 12 = DmaCh.reset := by decide +kernel
theorem witness_DmaInstructionsRunAsEncoded_wait :
    let s := standing [0x38000000 + 2 ^ 21 * 37, 8, 0, 0] fun c => { c with wait := some (0, true, 37, 8) }
    s.dmaFetch 12 = [0x38000000 + 2 ^ 21 * 37, 8, 0, 0] ∧ (s.dc 12).wait = some (0, true, 37, 8) ∧ mayWait 12 true 37 = true ∧
      mayWait 12 true 3 = false ∧ Word.bit (s.dc 12).latches 37 = false ∧ Word.bit (2 ^ 37) 37 = true ∧ 0 + 8 ≤ s.meas.tick := by
  decide +kernel
theorem witness_DmaInstructionsRunAsEncoded_ends :
    (standing [0x44000000, 0, 0, 0] id).dmaFetch 12 = [0x44000000, 0, 0, 0] ∧
    (standing [0x40000000 + 2 ^ 20 * 16, 0, 0, 0] id).dmaFetch 12 = [0x40000000 + 2 ^ 20 * 16, 0, 0, 0] ∧
    (standing [0x50000000, 0, 0, 0] id).dmaFetch 12 = [0x50000000, 0, 0, 0] ∧
    (standing [0x58000000, 0x50000, 0, 0] id).dmaFetch 12 = [0x58000000, 0x50000, 0, 0] ∧
    (standing [0x52000000, 0, 0x50000, 0] fun c => { c with crc := some (1, 7) }).dmaFetch 12 = [0x52000000, 0, 0x50000, 0] ∧
    ((standing [0x52000000, 0, 0x50000, 0] fun c => { c with crc := some (1, 7) }).dc 12).crc = some (1, 7) := by decide +kernel
theorem witness_DmaInstructionsRunAsEncoded_move :
    (standing [0x10000000 + 1024 * 15, 0x116800, 0x50000, 255] id).dmaFetch 12 = [0x10003C00, 0x116800, 0x50000, 255] ∧
    dmaReads 12 0x116800 1024 false = true ∧ dmaWrites 12 0x50000 1024 false = true ∧ dmaWrites 12 0x60000 1024 false = false ∧
    (standing [0x12000000, 0, 0x50000, 4095] id).dmaFetch 12 = [0x12000000, 0, 0x50000, 4095] := by decide +kernel

/-! #### DmaBurstsStopsAndRestarts -/

/-- A MOVE of one word in B5. -/
def lastWord : MoveRun :=
  { src := 0x50300, dst := 0x50400, left := 1, srcFix := false, dstFix := false, crc := 0, paced := none, burst := 4, buf := [] }
/-- The host holds SERVICE and may use the DMA channels. -/
def serviced (s : State) : State := { s with
  img := { s.img with image := some serviceImage }
  hl := { s.hl with service := true } }
theorem witness_DmaBurstsStopsAndRestarts :
    let s := standing [1, 2, 3, 4] fun c => { c with move := some lastWord }
    s.grantNext = some (0, 12) ∧ (s.dc 12).move = some lastWord ∧ s.mem.faultIn lastWord.src 4 = false ∧ (s.dc 12).down = false ∧
      (s.dc 12).stop = false ∧ (s.dc 12).armed = none ∧ dmaPcOk 12 ((s.dc 12).pc + 16) = true ∧ metering.grantNext = none ∧
      s.burstReady 12 = true ∧ (s.dc 12).prio ≤ 3 ∧ s.atBoundary 12 = false ∧
      (s.onPwr fun p => { p with state := .sleep }).pwr.state ≠ .run := by decide +kernel
theorem witness_DmaBurstsStopsAndRestarts_written :
    let s := serviced (standing [1, 2, 3, 4] fun c => { c with wait := some (0, true, 37, 0) })
    s.takesWrite 0x210 = true ∧ s.takesWrite (0x224 + 16 * (12 - 12)) = true ∧ s.atBoundary 12 = true ∧ (s.dc 12).run = true ∧
      (s.dc 12).wait ≠ none ∧ (serviced metering).takesWrite (0x224 + 16 * (15 - 12)) = true ∧ (metering.dc 15).run = false ∧
      dmaPcOk 12 0x50000 = true ∧ ready.takesWrite 0x210 = false := by decide +kernel
theorem witness_DmaBurstsStopsAndRestarts_domain :
    let s := metering.setDc 6 { DmaCh.reset with run := true, wait := some (0, false, 6, 0) }
    let u := standing [1, 2, 3, 4] fun c => { c with wait := some (0, true, 37, 0) }
    (s.dc 6).run = true ∧ (s.dc 6).wait = some (0, false, 6, 0) ∧ (u.dc 12).move = none ∧ (u.dc 12).run = true ∧
      (u.dc 12).wait = some (0, true, 37, 0) ∧ (1999 : Nat) < 2000 ∧ (999 : Nat) < 1000 := by decide +kernel
theorem witness_DmaBurstsStopsAndRestarts_restart :
    let s : State := ({ metering with
      img := { metering.img with image := some { heatImage with dma := [{ en := true, prio := 2, start := 0x4A000 }] } } } : State).setDc 0
        { DmaCh.reset with restart := true }
    s.pwr.state = .run ∧ s.dmaEntry 0 = some { en := true, prio := 2, start := 0x4A000 } ∧ (s.dc 0).restart = true ∧ dmaPcOk 0 0x4A000 = true ∧
      metering.dmaEntry 0 = none := by decide +kernel

/-! #### DisplayUpdatesAreAskedRunAndGivenUp -/

/-- A panel of two regions and two screens. -/
def panel : DisplayCfg :=
  { cols := 16, rows := 8, grey := 2, vcom := 100
    regions := [{ x := 0, y := 0, w := 8, h := 8, minimum := 0 }, { x := 8, y := 0, w := 8, h := 8, minimum := 0 }]
    screens := [(0, 0), (0, 0)], fields := [] }
/-- A metering module with that panel, whose regions show what they are to show but for region 0. -/
def displaying : State := ({ metering with
  img := { metering.img with image := some { heatImage with
    display := some panel
    waves := List.replicate 8 { low := -100, high := 500, upd := List.replicate 30 0, clean := List.replicate 60 0 } } } } : State).onDisp
  fun d => { d with lastMs := some 0, texts := [(1, [])] }
/-- Its rails are on for one update. -/
def updating (t : Target) (frame : Nat) (started : Bool) : State := displaying.onDisp fun d => { d with
  railsOn := true
  updates := [{ Update.ask t .content false false with frame := frame, frames := 30, started := started, rendered := true }] }
theorem witness_DisplayUpdatesAreAskedRunAndGivenUp : displaying.dispCfg = some panel ∧ displaying.dispNormal = true ∧
    displaying.meas.tick % 4 = 0 ∧ displaying.disp.rom = 0 ∧ displaying.disp.want = none ∧ displaying.disp.lastMs = some 0 ∧
    displaying.disp.held = [] ∧ displaying.disp.textOf 1 = some (displaying.regionText panel displaying.disp.screen 1) ∧
    displaying.disp.textOf 0 ≠ some (displaying.regionText panel displaying.disp.screen 0) ∧ displaying.disp.railsOn = false ∧
    displaying.disp.updates = [] ∧ displaying.disp.lockout = false ∧
    displaying.tooSoon panel (.ask (.region 0) .content false false) 1000 = false ∧
    50 + 20 * displaying.framesOf displaying.waveRange false ≤ 3000 ∧ metering.dispCfg = none := by decide +kernel
theorem witness_DisplayUpdatesAreAskedRunAndGivenUp_shown :
    let s := displaying.onDisp fun d => { d with texts := [(0, []), (1, [])], screen := 1 }
    (∀ r, r < 2 → s.disp.textOf r = some (s.regionText panel s.disp.screen r)) ∧ s.disp.screen ≠ 0 ∧
      s.disp.keyMs + 300000 ≤ 300000 ∧ panel.screens.length ≤ s.disp.screen + 1 := by decide +kernel
theorem witness_DisplayUpdatesAreAskedRunAndGivenUp_frames :
    (updating (.region 0) 0 false).disp.updates.length = 1 ∧ (updating (.region 0) 0 false).disp.ramping = false ∧
    (updating (.region 0) 3 true).disp.railsOn = true ∧ (3 : Nat) + 1 < 30 ∧ (30 : Nat) ≤ 29 + 1 ∧
    panel.regions[0]? = some { x := 0, y := 0, w := 8, h := 8, minimum := 0 } ∧
    ((updating (.refresh 5) 29 true).onDisp fun d => { d with ramping := true }).disp.ramping = true ∧
    (updating (.refresh 5) 29 true).dispCfg = some panel ∧
    panel.railsOk { vsh := 15300, vsl := -14700, vgh := 21340, vgl := -19400, vcom := -10 * panel.vcom - 10 } = true ∧
    panel.railsOk { vsh := 15301, vsl := -14700, vgh := 21340, vgl := -19400, vcom := -10 * panel.vcom } = false := by decide +kernel
theorem witness_DisplayUpdatesAreAskedRunAndGivenUp_panel :
    let s := (updating (.region 0) 3 true).onDisp fun d => { d with panel := .frame 0, lockout := true }
    s.disp.framing = true ∧ (updating (.region 0) 3 true).disp.framing = false ∧ s.disp.lockMs + 60000 ≤ 60000 ∧
      59999 < s.disp.lockMs + 60000 ∧ panel.covers (.region 0) 7 7 = true ∧ panel.covers (.region 0) 8 7 = false ∧
      80 * 7 ≤ 639 ∧ 639 < 80 * (7 + 1) ∧ (20 : Nat) ≤ 20 ∧ (19 : Nat) < 20 := by decide +kernel

/-- Region 0 shows what it should, but a byte of its frame buffer holds a parity error. -/
theorem witness_DisplayUpdatesAreAskedRunAndGivenUp_parity :
    let s := (displaying.onDisp fun d => { d with railsOn := true }).onMem fun m => { m with parity := [0x40000 + 160 * 7 + 1] }
    s.disp.railsOn = true ∧ panel.holdsByte 0 (0x40000 + 160 * 7 + 1) = true ∧ panel.holdsByte 0 (0x40000 + 160 * 7 + 2) = false ∧
      s.dispNormal = true ∧ displaying.mem.parityIn 0x40000 0x9600 = false := by decide +kernel

/-! #### MovorFramesAreNumberedAndTakenInOrder -/

/-- A member of a pair that has paired: the strapped PRIMARY. -/
def inPair (active : Bool) : State := { metering with
  pwr := { metering.pwr with strapRole := 1 }
  pair := { metering.pair with active := active, phase := 3, ready := true, heard := true, rxSeq := 4 } }
/-- The peer's frame with a SEQ and a payload. -/
def peerFrame (seq : Nat) (payload : List Byte) : PeerFrame := { flags := 1#8, seq := seq, ack := 0, payload := payload }
theorem witness_MovorFramesAreNumberedAndTakenInOrder : (inPair false).onMovor = true ∧ (inPair false).active = false ∧
    (inPair true).active = true ∧ (inPair false).pair.phase = 3 ∧ (inPair false).pair.ahead = [] ∧ (inPair false).pair.waiting = [] ∧
    (inPair false).pair.syncEnd = none ∧ (peerFrame 5 []).seq = (inPair false).pair.rxSeq + 1 ∧ (inPair false).pair.store = [] ∧
    (inPair true).pair.stored + 32 ≤ 24576 ∧ (inPair false).pair.peerHand = none ∧ metering.onMovor = false ∧
    (inPair false).pwr.nvInhibit = false ∧ fieldAt (le 3 0x110400 ++ zeros 9) 0 3 = 0x110000 + 1024 * (2 - 1) ∧
    (inPair true).log.hour = (inPair true).rtc.count / 3600 ∧ onsets 0xA6 0 (inPair true).log.counts < 8 := by decide +kernel
theorem witness_MovorFramesAreNumberedAndTakenInOrder_beats : (inPair true).beatDue 489600 = true ∧ (inPair true).beatDue 9599 = false ∧
    (inPair false).beatDue 0 = true ∧ (inPair true).pwr.onCell = false ∧ (inPair true).pair.peerOnCell = false ∧
    ((inPair true).onPwr fun p => { p with pfActive := true }).pwr.pfActive = true := by decide +kernel
theorem witness_MovorFramesAreNumberedAndTakenInOrder_unpaired : onLink.onMovor = true ∧ onLink.pair.phase < 2 ∧ onLink.normal = true ∧
    onLink.img.module_.digest.length ≤ 32 ∧ (onLink.noteFlags 0 (peerFrame 1 (zeros 58))).pairCheck (peerFrame 1 (zeros 58)) = 1 ∧
    ({ onLink with pwr := { onLink.pwr with failSilent := true } } : State).paired = true ∧
    (inPair true).pair.record.epoch < fieldAt (zeros 11 ++ le 4 1) 11 4 := by decide +kernel
theorem witness_MovorFramesAreNumberedAndTakenInOrder_pairs :
    let s : State := { onLink with
      otp := { onLink.otp with serial := 7 }
      img := { onLink.img with image := some { heatImage with members := some (7, 8) } }
      pwr := { onLink.pwr with strapRole := 2 } }
    let f : PeerFrame := { flags := 0#8, seq := 1, ack := 0, payload := le 8 8 ++ s.img.module_.digest ++ [1#8, 3#8] ++ zeros 16 }
    (s.noteFlags 0 f).pairCheck f = 0 ∧ s.onMovor = true := by decide +kernel
theorem witness_MovorFramesAreNumberedAndTakenInOrder_ends :
    let s : State := { inPair false with
      img := { metering.img with module_ := { metering.img.module_ with commissioned := true } }
      pair := { (inPair false).pair with phase := 2 } }
    s.onMovor = true ∧ s.active = false ∧ s.pwr.onCell = false ∧ s.pair.phase = 2 ∧ s.pair.ahead = [] := by decide +kernel

theorem witness_MovorFramesAreNumberedAndTakenInOrder_line :
    let s := (inPair false).onPwr fun p => { p with state := .sleep }
    let f : PeerFrame := peerFrame 5 (le 4 6)
    s.onMovor = false ∧ s.paired = true ∧ s.running = true ∧ (inPair false).pair.missing = [] ∧ (inPair false).pair.rxSeq + 1 < 8 ∧
      (([.mk 6 3 []] : List MovorFrame).find? fun x => x.seq == fieldAt f.payload 0 4) = some (.mk 6 3 []) ∧
      (inPair true).drives = true := by decide +kernel

/-! #### TheActiveRolePassesOnlyByItsRules -/

/-- A passive member that may take over. -/
def watching (role : Nat) (ready : Bool) : State := { inPair false with
  pwr := { (inPair false).pwr with strapRole := role }
  img := { metering.img with module_ := { metering.img.module_ with commissioned := true } }
  pair := { (inPair false).pair with ready := ready, peerOkIn := true, pfWait := true } }
/-- An active member with an accepted switchover. -/
def switching (hand : Option Nat) : State := (inPair true).onPair fun p => { p with switching := true, handTick := hand }
theorem witness_TheActiveRolePassesOnlyByItsRules : (watching 2 true).mayTakeOver = true ∧ (watching 2 true).pair.ready = true ∧
    (watching 1 false).mayTakeOver = true ∧ (watching 1 false).pair.barred = false ∧ (watching 1 false).pair.pfWait = true ∧
    (watching 2 true).pair.heard = true ∧ (watching 2 true).pair.peerOkIn = true ∧ metering.mayTakeOver = false ∧
    (watching 2 true).onMovor = true ∧ 2 ≤ (watching 2 true).pair.phase ∧
    ((watching 2 true).onPair fun p => { p with store := [.mk 3 5 []] }).pair.store ≠ [] ∧
    ((watching 2 true).onPair fun p => { p with missing := [4] }).pair.missing ≠ [] ∧
    ((watching 2 true).onPair fun p => { p with waiting := [.mk 3 5 []] }).pair.waiting ≠ [] ∧
    ((watching 2 true).onPair fun p => { p with cableLost := true }).pair.cableLost = true ∧
    (watching 2 true).pair.heardMs + 250 ≤ 250 ∧ 249 < (watching 2 true).pair.heardMs + 250 := by decide +kernel
theorem witness_TheActiveRolePassesOnlyByItsRules_handover :
    let s := (watching 1 false).onPair fun p => { p with pfLeft := [5] }
    (watching 1 false).pfRecords = true ∧ s.pfRecords = false ∧ 249 < s.pair.pfSince + 250 ∧ s.pair.pfSince + 250 ≤ 250 ∧
      (watching 2 true).pair.barred = false ∧ (switching none).drives = true ∧
      (switching none).pair.switchAt + 30000 ≤ 30000 ∧ 29999 < (switching none).pair.switchAt + 30000 := by decide +kernel
theorem witness_TheActiveRolePassesOnlyByItsRules_switchover : (switching none).pair.switching = true ∧
    (switching none).active = true ∧ (switching none).switchDrained 0 = true ∧ (switching (some 8)).pair.handTick = some 8 ∧
    8 ≤ (switching (some 8)).meas.tick ∧ (switching (some 9)).meas.tick < 9 ∧
    ((switching none).onRadio fun r => { r with txEnd := 1 }).switchDrained 0 = false := by decide +kernel

/-! ### Well-formedness: each check refuses an ill-formed command -/

theorem test_wf_ch : (Instr.tdShortStopEnd 40).wf = true ∧ (Instr.tdShortStopEnd 41).wf = false ∧ (Instr.tdShortStopEnd 0).wf = false := by
  decide
theorem test_wf_tc (c : Conversion) : (Instr.rtdSlot 9 0 c).wf = false ∧ (Instr.rtdSlot 0 0 c).wf = false := ⟨rfl, rfl⟩
theorem test_wf_rtdSlot (c : Conversion) : (Instr.rtdSlot 8 5 c).wf = true ∧ (Instr.rtdSlot 8 6 c).wf = false := ⟨rfl, rfl⟩
theorem test_wf_po (n : Now) : (Instr.pulseStart 8 n).wf = true ∧ (Instr.pulseStart 9 n).wf = false ∧ (Instr.pulseEnd 0 n).wf = false :=
  ⟨rfl, rfl, rfl⟩
theorem test_wf_dma : (Instr.dmaMove 15).wf = true ∧ (Instr.dmaMove 16).wf = false := by decide
theorem test_wf_dmaHost (w : Word) : (Instr.dmaArm 12 w).wf = true ∧ (Instr.dmaArm 11 w).wf = false := ⟨rfl, rfl⟩
theorem test_wf_ctx : (Instr.cmdStatus 23).wf = true ∧ (Instr.cmdStatus 24).wf = false := by decide
/-- The table gives no row any bits. -/
theorem test_no_words : decodeTableWord 8 0 = none := rfl

/-! ### Examples of the spec -/

/-- R480: the check value of CRC-16. -/
theorem test_crc16_en13757 : crc16 0x3D65#16 0#16 (ascii ['1', '2', '3', '4', '5', '6', '7', '8', '9']) ^^^ 0xFFFF#16 = 0xC2B7#16 := by
  decide +kernel
/-- R109: the check value of the CRC-32 of IEEE 802.3. -/
theorem test_crc32 : crc32 (ascii ['1', '2', '3', '4', '5', '6', '7', '8', '9']) = 0xCBF43926#32 := by decide +kernel
/-- The example after R336: summer time of 2027. -/
theorem test_summer_2027 : summer 2027 = (859514400, 878263200) ∧ weekday (daysOf 2027 3 31) = 3 := by decide +kernel
/-- The same example: the repeated local hour runs from count 878,259,600 to 878,266,799. -/
theorem test_repeated_hour : localTime true 878259600 = localTime true 878263200 ∧ localTime true 878263199 = localTime true 878266799 ∧
    repeatedHour true 878263199 = none ∧ repeatedHour true 878263200 = some 878263199 ∧ repeatedHour true 878266800 = none := by
  decide +kernel
/-- The coefficients of IEC 60751 in the codes of the TEMPCAL section: the coefficients of IEC 60751, and 0 °C at R0 itself. -/
theorem test_cvd_zero : sensorTemp { r0 := 1000000, a := 1074305324, b := -1300414392 } 1000000000 = some 0 := by decide +kernel
/-- The example after R235: the supply sensor of CH27 at 70 °C, in microkelvins. -/
theorem test_supply_sensor : sensorTemp { r0 := 1000120, a := 1074305324, b := -1300414392 }
    (sensorOhms (127095458 * 2 ^ 30 / 100000000) (1000020 * 2 ^ 30 / 1000000) 999980000) = some 70000000 := by decide +kernel
/-- FIPS 197, appendix C.1. -/
theorem test_aes : aesEncrypt ((List.range 16).map (BitVec.ofNat 8)) ((List.range 16).map fun i => BitVec.ofNat 8 (17 * i)) =
    be 16 0x69C4E0D86A7B0430D8CDB78070B4C55A := by decide +kernel
/-- FIPS 180-4: the digest of "abc". -/
theorem test_sha : sha256 (ascii ['a', 'b', 'c']) =
    be 32 0xBA7816BF8F01CFEA414140DE5DAE2223B00361A396177A9CB410FF61F20015AD := by decide +kernel
/-- RFC 3394, section 4.1. -/
theorem test_key_unwrap : keyUnwrap ((List.range 16).map (BitVec.ofNat 8)) (be 24 0x1FA68B0A8112B447AEF34BD8FB5A7B829D3E862371D2CFE5) =
    some ((List.range 16).map fun i => BitVec.ofNat 8 (17 * i)) := by decide +kernel
/-- RFC 4493: the tag of the empty message. -/
theorem test_cmac_empty : cmac (be 16 0x2B7E151628AED2A6ABF7158809CF4F3C) [] = be 16 0xBB1D6929E95937287FA37D129B756746 := by decide +kernel
/-- The example after R281: CH3 closing since 22 s of 60 s, CH8 queued with 30 s, CH12 queued with 45 s: 114 s. -/
theorem test_valve_estimate :
    let chans := (((Vector.replicate 40 ChanCfg.off).set 2 { ChanCfg.off with valveTmax := 60 }).set 7 { ChanCfg.off with valveTmax := 30 }).set 11
      { ChanCfg.off with valveTmax := 45 }
    let cmd (n : Nat) : ValveCmd := { ch := n, dir := 1, source := 1, ticket := n }
    State.valveEstimate 12 22000 { ready with
      img := { ready.img with image := some { serviceImage with chans := chans } },
      bridge := { ready.bridge with moving := some (cmd 3), since := 0, queue := [cmd 8, cmd 12] } } = 114 := by
  decide +kernel
/-- The gas example of the integration chapter: the factor 0.983977. -/
theorem test_gas_factor :
    (fFix { index := 0, tBase := 0, pFactor := 102 * 2 ^ 30 / 100, hs := 11200, cSlope := 0, anomLimit := 0, cRef := [] } 100000 * 1000000000
      / 2 ^ 62 + 500) / 1000 = 983977 := by decide +kernel

/-- Step 1 of the integration example, with the spool in the return pipe. -/
def stepOfExample : StepIn :=
  { cfg := { ChanCfg.off with type := .heat, rtd := 3, options := 1 }, gas := none, thetaS := some 699982, thetaR := some 400000,
    faulted := false, start := 0, stop := 9600000,
    samples := [0, 2400000, 4800000, 7200000].map fun t => { at_ := t, q := 100000 * 65536, qB := 100000 * 65536, status := .valid },
    carry := none, tariffed := true, tick := 0, time := 0, osf := false, pf := false, degraded := false, merged := false, gap := none,
    cond1 := { qty := 0, cmp := 0, limit := 0 }, cond2 := { qty := 0, cmp := 0, limit := 0 } }
/-- The record of the integration example. -/
def recordOfExample : Work := { Work.absent with vFwd := 345678901 * 2 ^ 32 + 2 ^ 31, eHeat := 12345678 * 2 ^ 32 + 2 ^ 31 }
/-- The integration example: 119,304,647,111 units booked, REM_VFWD 3,840,000,000, V_FWD 345,678,929 with fraction 1,193,046,471,
E_HEAT 12,345,679 Wh and a fraction. -/
theorem test_integration :
    (let r := stepWork stepOfExample recordOfExample
     (r.2.dv, r.1.remVFwd, r.1.vFwd, r.2.flow, r.1.eHeat / 2 ^ 32)) =
      (119304647111, 3840000000, 345678929 * 2 ^ 32 + 1193046471, 100000, 12345679) := by decide +kernel
/-- The MOVE at 0x05_0810 of the double-buffer example: legal, 256 words in bursts of 16, from CH27's slot A to HOST_SCRATCH. -/
theorem test_dma_move :
    let w := [0x10003C00, 0x00116800, 0x00050000, 0xFF]
    moveIllegal 12 w = false ∧ ((decodeMove none w).src, (decodeMove none w).dst, (decodeMove none w).bytes, (decodeMove none w).burst) =
      (0x116800, 0x50000, 1024, 16) := by decide

/-! ### Steps -/

/-- R20, R463: the HDR of a write to the module with HADDR 0b101 is 0x9A. -/
theorem test_address : State.namesModule 0x9A#8 (ready.onPwr fun p => { p with straps := { p.straps with hostmode := true, haddr := 5#3 } }) = true := by
  decide
/-- R333: the count reads one more after a second. -/
theorem test_second : (match exec .rtcSecond (ready.onRtc fun r => { r with count := 41 }) with | .next t => t.rtc.count | _ => 0) = 42 := by
  decide +kernel
/-- A step takes the front of the queue and leaves the rest. -/
theorem test_step_takes_the_front : (match step { ready with pending := [.rtcSecond, .rtcSecond] } with | .next t => t.pending.length | _ => 9) = 1 := by
  decide +kernel
/-- An ill-formed command is refused by name. -/
theorem test_ill_formed : step { ready with pending := [.cmdStatus 24] } = .refused .illFormed := rfl

end Sys2Proof.Tests
end

section
/-! What a command can answer, and the rules by which the meanings are shown to answer it: the shape of a meaning (its guards, its
matches, its operations from the last to the first) is the shape of its proof. -/

set_option Elab.async false

namespace Sys2Proof.Machine

/-- What the meaning of a command answers from s: a next state that differs in the listed groups at most where its operands name
parts of the module, else the refusal. -/
inductive Answers (gs : List Group) (s : State) : Bool → Out → Prop
  | next {t : State} (m : Moves gs s t) : Answers gs s true (.next t)
  | illFormed : Answers gs s false (.refused .illFormed)

/-- An outcome is one that the command's entry in `Instr.touches` and its well-formedness allow. -/
abbrev Meets (i : Instr) (s : State) (o : Out) : Prop := Answers i.touches s i.wf o

section
variable {gs hs : List Group} {s t u : State} {o p : Out}

theorem Answers.still : Answers gs s true (.next s) := .next (Moves.refl gs s)

theorem Answers.ite {ok : Bool} {c : Prop} [Decidable c] (h : Answers gs s ok o) (k : Answers gs s ok p) :
    Answers gs s ok (if c then o else p) := by
  split
  · exact h
  · exact k

/-- A meaning that refuses first the operands that name no part of the module. -/
theorem Answers.checked {ok : Bool} {c : Prop} [Decidable c] (hc : ok = !decide c) (h : Answers gs s true o) :
    Answers gs s ok (if c then .refused .illFormed else o) := by
  subst hc
  split <;> rename_i hn
  · simpa [hn] using Answers.illFormed
  · simpa [hn] using h

theorem Answers.moves {ok : Bool} (h : Answers gs s ok (.next t)) : Moves gs s t := by
  cases h with
  | next m => exact m

theorem Answers.completes {ok : Bool} (h : Answers gs s ok o) :
    (ok = true → ∃ t, o = .next t) ∧ (ok = false → o = .refused .illFormed) := by
  cases h with
  | next m => exact ⟨fun _ => ⟨_, rfl⟩, Bool.noConfusion⟩
  | illFormed => exact ⟨Bool.noConfusion, fun _ => rfl⟩

/-- The last operation first, its groups among those allowed. -/
theorem Moves.after (h : Moves hs t u) (m : Moves gs s t) (k : hs.all gs.contains = true := by rfl) : Moves gs s u := h.step k m

/-- The only operation. -/
theorem Moves.alone (h : Moves hs s t) (k : hs.all gs.contains = true := by rfl) : Moves gs s t := h.sub k

end

/-! ### The checks of the operands -/

theorem chOk_eq (ch : Nat) : chOk ch = !decide (ch = 0 ∨ 40 < ch) := by
  unfold chOk
  rw [← decide_not]
  exact decide_eq_decide.mpr (by omega)

theorem tcOk_and_rtdSlotOk_eq (tc slot : Nat) : (tcOk tc && rtdSlotOk slot) = !decide (tc = 0 ∨ 8 < tc ∨ 5 < slot) := by
  unfold tcOk rtdSlotOk
  rw [← decide_not, ← Bool.decide_and]
  exact decide_eq_decide.mpr (by omega)

theorem poOk_eq (po : Nat) : poOk po = !decide (po = 0 ∨ 8 < po) := by
  unfold poOk
  rw [← decide_not]
  exact decide_eq_decide.mpr (by omega)

theorem dmaOk_eq (ch : Nat) : dmaOk ch = !decide (16 ≤ ch) := by
  unfold dmaOk
  rw [← decide_not]
  exact decide_eq_decide.mpr (by omega)

theorem dmaHostOk_eq (ch : Nat) : dmaHostOk ch = !decide (ch < 12 ∨ 16 ≤ ch) := by
  unfold dmaHostOk
  rw [← decide_not]
  exact decide_eq_decide.mpr (by omega)

theorem ctxOk_eq (ctx : Nat) : ctxOk ctx = !decide (24 ≤ ctx) := by
  unfold ctxOk
  rw [← decide_not]
  exact decide_eq_decide.mpr (by omega)

/-! ### Register writes -/

/-- A register write outside the four that a refusal counts for in `RTC_STATUS` moves what its body moves. -/
theorem State.asWrite_plain {gs : List Group} {a : Nat} {f : State → State} {s : State} (hf : Moves gs s (f s))
    (ha : rtcSetReg a = false := by rfl) : Moves gs s (s.asWrite a f) :=
  State.asWrite_moves gs a f s (fun h => absurd (ha ▸ h) Bool.false_ne_true) hf

theorem rtcSetReg_above {a : Nat} (h : 0xD8 < a) : rtcSetReg a = false := by
  simp only [rtcSetReg, Bool.or_eq_false_iff, beq_eq_false_iff_ne]
  omega

end Sys2Proof.Machine
end

section
/-! What each command of the supply, the starts, the ticks and the sleep states answers. -/

set_option Elab.async false

namespace Sys2Proof.Machine

/-! ### Supply, hold-up, the cell and HOARD (R43 to R70) -/

theorem execVbusFail_meets (now : Now) (sup : Supplies) (s : State) : Meets (.vbusFail now sup) s (execVbusFail now sup s) :=
  .ite .still (.next ((State.noteMode_moves _ _).after ((State.vbusLost_moves _ _ _).after (State.supplies_moves _ _).alone)))

theorem execVbusOv_meets (now : Now) (sup : Supplies) (s : State) : Meets (.vbusOv now sup) s (execVbusOv now sup s) :=
  .ite .still (.next ((State.noteMode_moves _ _).after ((State.vbusLost_moves _ _ _).after
    ((State.onPwr_moves _ _).after ((State.pwrRaise_moves _ _).after (State.supplies_moves _ _).alone)))))

theorem execPfFinalCommit_meets (now : Now) (upsets : List (Nat × Upset)) (s : State) :
    Meets (.pfFinalCommit now upsets) s (execPfFinalCommit now upsets s) :=
  .ite .still (.next ((State.onPwr_moves _ _).after (.ite
    (.forCh _ _ (fun _ _ => (State.commitStep_moves _ _ _ _).alone) (State.closeAll_moves _ _ _ _ _).alone)
    (State.closeAll_moves _ _ _ _ _).alone)))

theorem execPfCommitLanded_meets (now : Now) (sup : Supplies) (s : State) :
    Meets (.pfCommitLanded now sup) s (execPfCommitLanded now sup s) := by
  unfold execPfCommitLanded
  extract_lets s1
  have h : Moves (Instr.pfCommitLanded now sup).touches s s1 :=
    (State.pfHandOver_moves _ _).after <| (State.clearHeld_moves _).after <| (State.drain_moves _).after <|
      (State.handOwed_moves _).after <| (State.drain_moves _).after (State.supplies_moves _ _).alone
  exact .ite .still (.next ((State.noteMode_moves _ _).after
    (.ite ((State.toCell_moves _ _).after h) ((State.onPwr_moves _ _).after h))))

/-- The HOARD write in progress when the store is spent: n words of the head record reach HOARD, the queue is lost. -/
def Mem.cutHead (n : Nat) (m : Mem) : Mem :=
  match m.queue with
  | [] => m
  | r :: _ => ((m.recWrites r).take n).foldl Mem.writeWord { m with queue := [] }

theorem Mem.cutHead_sram (n : Nat) (m : Mem) : (m.cutHead n).sram = m.sram := by
  unfold Mem.cutHead
  split
  · rfl
  · exact Mem.writeWords_sram _ _

theorem Mem.cutHead_wf (n : Nat) (m : Mem) (h : m.hoard.wf = true) : (m.cutHead n).hoard.wf = true := by
  unfold Mem.cutHead
  split
  · exact h
  · exact (Mem.writeWords_wf _ { m with queue := [] } h).1

theorem State.cutHead_moves (n : Nat) (s : State) : Moves [.hoard, .queue, .marks] s (s.onMem (Mem.cutHead n)) := by
  refine ⟨fun g hg => ?_, fun ⟨hhoard, hsram⟩ => ⟨Mem.cutHead_wf n s.mem hhoard, (Mem.cutHead_sram n s.mem).symm ▸ hsram⟩⟩
  cases g with
  | sram => exact Mem.cutHead_sram n s.mem
  | hoard | queue | marks => simp at hg
  | _ => rfl

theorem execStoreSpent_meets (landed : Nat) (s : State) : Meets (.storeSpent landed) s (execStoreSpent landed s) :=
  .ite .still (.next ((State.noteMode_moves _ _).after ((State.unpower_moves _).after (State.cutHead_moves _ s).alone)))

theorem execVbusOk_meets (now : Now) (sup : Supplies) (s : State) : Meets (.vbusOk now sup) s (execVbusOk now sup s) := by
  unfold execVbusOk
  extract_lets s1 asleep s2
  have h1 : Moves (Instr.vbusOk now sup).touches s s1 := (State.onPwr_moves _ _).after (State.supplies_moves _ _).alone
  have h2 : Moves (Instr.vbusOk now sup).touches s s2 :=
    .ite ((State.onPwr_moves _ _).after ((State.setOsf_moves _ _).after ((State.onRtc_moves _ _).after h1))) h1
  exact .ite .still (.next (.ite ((State.onPwr_moves _ _).after h2) h2))

theorem execStoreFault_meets (now : Now) (sup : Supplies) (s : State) :
    Meets (.storeFault now sup) s (execStoreFault now sup s) :=
  .ite .still (.ite (.next (State.supplies_moves _ _).alone) (.next ((State.onPwr_moves _ _).after
    ((State.event_moves _ _ _ _).after ((State.pwrRaise_moves _ _).after (State.supplies_moves _ _).alone)))))

theorem execVbusReturn_meets (now : Now) (sup : Supplies) (upsets : List (Nat × Upset)) (s : State) :
    Meets (.vbusReturn now sup upsets) s (execVbusReturn now sup upsets s) := by
  unfold execVbusReturn
  extract_lets s1
  have h : Moves (Instr.vbusReturn now sup upsets).touches s s1 := (State.supplies_moves _ _).alone
  refine .ite .still (.ite (.next h) (.ite ?backup (.ite ?unconfigured (.next h))))
  case backup =>
    exact .next ((State.noteMode_moves _ _).after <| (State.normalResumed_moves _ _).after <| (State.dropPairs_moves _).after <|
      (State.offCell_moves _ _).after <| (State.closeAll_moves _ _ _ _ _).after h)
  case unconfigured =>
    exact .next ((State.noteMode_moves _ _).after <| (State.holdEnd_moves _).after <| (State.offCell_moves _ _).after h)

theorem execVbatWarn_meets (now : Now) (sup : Supplies) (upsets : List (Nat × Upset)) (s : State) :
    Meets (.vbatWarn now sup upsets) s (execVbatWarn now sup upsets s) := by
  unfold execVbatWarn
  extract_lets s1
  have h : Moves (Instr.vbatWarn now sup upsets).touches s s1 := (State.onPwr_moves _ _).after (State.supplies_moves _ _).alone
  exact .ite .still (.ite (.next h) (.ite (.next ((State.cellWeak_moves _).after h)) (.ite (.next ((State.onPwr_moves _ _).after h))
    (.next ((State.noteMode_moves _ _).after ((State.warnActs_moves _ _ _).after h))))))

theorem execVbatNvwInhibit_meets (s : State) : Meets .vbatNvwInhibit s (execVbatNvwInhibit s) :=
  .ite .still (.next (.ite ((State.onset_moves _ _ _ _ _).after (State.onPwr_moves s _).alone) (State.onPwr_moves s _).alone))

theorem execVbatNvwRelease_meets (s : State) : Meets .vbatNvwRelease s (execVbatNvwRelease s) :=
  .ite .still (.next (.ite ((State.ending_moves _ _ _ _ _).after (State.onPwr_moves s _).alone) (State.onPwr_moves s _).alone))

theorem execVbatSettLoss_meets (now : Now) (s : State) : Meets (.vbatSettLoss now) s (execVbatSettLoss now s) := by
  unfold execVbatSettLoss
  extract_lets s1 s2
  have h1 : Moves (Instr.vbatSettLoss now).touches s s1 := (State.onPwr_moves s _).alone
  have h2 : Moves (Instr.vbatSettLoss now).touches s s2 := (State.onPwr_moves s1 _).after h1
  exact .ite (.next (.ite h2 ((State.cellWeak_moves _).after h2)))
    (.next ((State.onPwr_moves _ _).after ((State.onRtc_moves _ _).after h1)))

theorem execCellLoadTest_meets (loadMv : Nat) (s : State) : Meets (.cellLoadTest loadMv) s (execCellLoadTest loadMv s) := by
  unfold execCellLoadTest
  extract_lets l due s1 new s2
  have h1 : Moves (Instr.cellLoadTest loadMv).touches s s1 := (State.onRtc_moves _ _).after (State.onPwr_moves s _).alone
  have h2 : Moves (Instr.cellLoadTest loadMv).touches s s2 := .ite ((State.cellWeak_moves _).after h1) h1
  exact .ite .still (.next (.ite ((State.cellReplaced_moves _ _).after h2) ((State.onPwr_moves _ _).after h2)))

theorem execCellChargeCommit_meets (now : Now) (sup : Supplies) (s : State) :
    Meets (.cellChargeCommit now sup) s (execCellChargeCommit now sup s) :=
  .ite .still (.next ((State.enqueue_moves _ _).after ((State.onPwr_moves _ _).after (State.supplies_moves _ _).alone)))

theorem execHoardRecordWrite_meets (s : State) : Meets .hoardRecordWrite s (execHoardRecordWrite s) :=
  .ite .still (.next ((State.commitsLanded_moves _).after <| (State.pumpAlc_moves _).after <| (State.clearHeld_moves _).after <|
    (State.handHeld_moves _).after (State.writeHead_moves s).alone))

theorem execHoardScrub_meets (s : State) : Meets .hoardScrub s (execHoardScrub s) :=
  .ite .still (.next ((State.onFlt_moves _ _).after <| (Moves.marks _ _ (·.bad) (·.parity)).after <|
    .foldl _ _ (fun _ _ => (State.hoardUncorr_moves _ _ _).alone) <|
      .foldl _ _ (fun _ _ => (State.hoardCorr_moves _ _).alone) (Moves.refl _ s)))

theorem execSettTrimWindow_meets (rootCycles : Nat) (s : State) :
    Meets (.settTrimWindow rootCycles) s (execSettTrimWindow rootCycles s) := by
  unfold execSettTrimWindow
  extract_lets aged d t
  have h : Moves (Instr.settTrimWindow rootCycles).touches s aged := (State.onPwr_moves s _).alone
  exact .ite .still (.ite (.next h) (.ite (.next ((State.event_moves _ _ _ _).after ((State.onPwr_moves _ _).after h)))
    (.next ((State.onPwr_moves _ _).after h))))

/-! ### Resets, starts and Off (R35, R77, R82, R95 to R97, R105, R107, R134) -/

theorem execResetPinAssert_meets (now : Now) (lowUs : Nat) (s : State) :
    Meets (.resetPinAssert now lowUs) s (execResetPinAssert now lowUs s) :=
  .ite .still (.next (State.warmBegin_moves _ _ _).alone)

theorem execWatchdogExpiry_meets (now : Now) (s : State) : Meets (.watchdogExpiry now) s (execWatchdogExpiry now s) :=
  .ite .still (.next ((State.noteMode_moves _ _).after
    (.ite (State.goFailSilent_moves _ _ _).alone (State.warmBegin_moves _ _ _).alone)))

theorem execRootFail_meets (now : Now) (atStart : Bool) (straps : StrapLevels) (sup : Supplies) (s : State) :
    Meets (.rootFail now atStart straps sup) s (execRootFail now atStart straps sup s) :=
  .ite .still (.ite (.next ((State.onPwr_moves _ _).after (State.coldRepeat_moves _ _ _).alone))
    (.next ((State.onPwr_moves _ _).after (.ite (State.onPwr_moves s _).alone (State.warmBegin_moves _ _ _).alone))))

theorem execRootStartRetry_meets (started : Bool) (straps : StrapLevels) (sup : Supplies) (s : State) :
    Meets (.rootStartRetry started straps sup) s (execRootStartRetry started straps sup s) :=
  .ite .still (.ite (.next (State.onPwr_moves s _).alone)
    (.next ((State.onPwr_moves _ _).after (State.coldRepeat_moves _ _ _).alone)))

theorem execWakePinEdge_meets (lowMs poweredMs highMs : Nat) (straps : StrapLevels) (sup : Supplies) (s : State) :
    Meets (.wakePinEdge lowMs poweredMs highMs straps sup) s (execWakePinEdge lowMs poweredMs highMs straps sup s) :=
  .ite .still (.ite (.next (State.coldStart_moves _ _ _ _).alone)
    (.ite (.next ((State.onPwr_moves _ _).after (State.startSupply_moves _ _).alone)) .still))

theorem execPowerOn_meets (straps : StrapLevels) (sup : Supplies) (s : State) :
    Meets (.powerOn straps sup) s (execPowerOn straps sup s) :=
  .ite .still (.next (State.coldStart_moves _ _ _ _).alone)

/-- The state of a module in Off keeps the queue, the factory data, the draws and HOARD (R82). -/
theorem off_moves (s1 : State) (p : Pwr) :
    Moves [.sram, .marks, .flt, .log, .pwr, .img, .meas, .chans, .tcs, .outs, .bridge, .tamper, .rtc, .pair, .radio, .sec, .sess, .mbus,
      .alc, .hl, .dma, .disp] s1
      { State.reset with
        pending := s1.pending, otp := s1.otp, free := s1.free, mem := { s1.mem with sram := [], parity := [] }, pwr := p } := by
  refine ⟨fun g hg => ?_, fun h => ⟨h.1, rfl⟩⟩
  cases g with
  | pending | otp | hoard | queue | free => rfl
  | _ => simp at hg

theorem execOffEntry_meets (straps : StrapLevels) (sup : Supplies) (s : State) :
    Meets (.offEntry straps sup) s (execOffEntry straps sup s) := by
  have h : Moves (Instr.offEntry straps sup).touches s s.drain.handOwed.drain :=
    (State.drain_moves _).after ((State.handOwed_moves _).after (State.drain_moves s).alone)
  exact .ite .still (.next (.ite ((State.coldStart_moves _ _ _ _).after ((off_moves _ _).after h)) ((off_moves _ _).after h)))

theorem execCardReadRetry_meets (byteIndex : Nat) (s : State) : Meets (.cardReadRetry byteIndex) s (execCardReadRetry byteIndex s) :=
  .ite .still (.ite (.next (State.onImg_moves s _).alone) (.next (State.onImg_moves s _).alone))

theorem execImageDecision_meets (now : Now) (card : CardRead) (sup : Supplies) (s : State) :
    Meets (.imageDecision now card sup) s (execImageDecision now card sup s) :=
  .ite .still (.next ((State.noteMode_moves _ _).after <| (State.lostTotals_moves _ _ _).after <| (State.onPair_moves _ _).after <|
    (State.decideStart_moves _ _ _ fun _ => (State.event_moves _ _ _ _).alone).after <|
      (State.onImg_moves _ _).after (State.supplies_moves _ _).alone))

/-! ### The WARM restart (R97) -/

/-- What a WARM reset of cause c leaves before the supplies and the card are read: the groups of the reset, with the tick count, the
restarts of the card read and SETT's part of the supply group kept, and the straps sampled (R97, R102). -/
def State.afterWarm (c : Nat) (straps : StrapLevels) (s : State) : State :=
  (((s.resetGroups true).onMeas fun m => { m with
    tick := s.meas.tick, started := s.meas.started, calCut := s.meas.calCut }).onImg fun g => { g with
    restarts := s.img.restarts, unreadable := s.img.unreadable, failByte := s.img.failByte,
    unconfLogged := s.img.unconfLogged }).onPwr fun p => { p with
    events := 0#32, vbusMv := 0, vbatMv := 0, loadMv := 0, lastState := 0, lastWake := 0, lastExit := 0, retSel := 0,
    retFail := 0, rebuilt := 0, cardReread := false, sigs := [], wakes := [], rootStopped := true, cause := 2 ^ c,
    warmCause := none, shipping := false, wakeHeld := false,
    straps := straps, strapRole := roleOf straps, peerOkOut := false, lastHostMs := 0, lastBusMs := 0,
    failSilent := false, failCause := 0 }

/-- The state of a WARM restart before a lost TOTALS record makes a member fail-silent: the card decided, the charge kept, and the
time without a frame from the peer begun. -/
def State.warmDecided (now : Now) (straps : StrapLevels) (card : CardRead) (sup : Supplies) (c : Nat) (s : State) : State :=
  ((((s.afterWarm c straps).supplies sup).decideStart card id).onPwr fun p => { p with
    chargeUah := s.pwr.chargeUah, remNc := s.pwr.remNc, replaced := s.pwr.replaced, chgFlags := s.pwr.chgFlags }).onPair
    fun p => { p with heardMs := now.ms }

/-- A module held in a WARM reset restarts. -/
theorem execWarmRestart_inReset (now : Now) (straps : StrapLevels) (card : CardRead) (sup : Supplies) {s : State} {c : Nat}
    (hp : s.pwr.phase = .inReset) (hc : s.pwr.warmCause = some c) :
    execWarmRestart now straps card sup s =
      .next (s.noteMode ((s.warmDecided now straps card sup c).lostTotals s.pwr.failCause now.ms)) := by
  rw [execWarmRestart, hp, hc]
  rfl

theorem State.afterWarm_moves (c : Nat) (straps : StrapLevels) (s : State) :
    Moves [.sram, .marks, .flt, .log, .pwr, .img, .meas, .chans, .tcs, .outs, .bridge, .tamper, .rtc, .pair, .radio, .sec, .sess, .mbus,
      .alc, .hl, .dma, .disp] s (s.afterWarm c straps) :=
  (State.onPwr_moves _ _).after <| (State.onImg_moves _ _).after <| (State.onMeas_moves _ _).after (State.resetGroups_moves true s).alone

theorem State.warmDecided_moves (now : Now) (straps : StrapLevels) (card : CardRead) (sup : Supplies) (c : Nat) (s : State) :
    Moves [.hoard, .sram, .queue, .marks, .flt, .log, .pwr, .img, .meas, .chans, .tcs, .outs, .bridge, .tamper, .rtc, .pair, .radio,
      .sec, .sess, .mbus, .alc, .hl, .dma, .disp] s (s.warmDecided now straps card sup c) :=
  (State.onPair_moves _ _).after <| (State.onPwr_moves _ _).after <| (State.decideStart_moves _ _ _ fun t => Moves.refl _ t).after <|
    (State.supplies_moves _ _).after (State.afterWarm_moves _ _ _).alone

theorem execWarmRestart_meets (now : Now) (straps : StrapLevels) (card : CardRead) (sup : Supplies) (s : State) :
    Meets (.warmRestart now straps card sup) s (execWarmRestart now straps card sup s) := by
  by_cases h : s.pwr.phase = .inReset ∧ s.pwr.warmCause.isSome = true
  · obtain ⟨hp, hc⟩ := h
    obtain ⟨c, hc⟩ := Option.isSome_iff_exists.mp hc
    rw [execWarmRestart_inReset _ _ _ _ hp hc]
    exact .next ((State.noteMode_moves _ _).after ((State.lostTotals_moves _ _ _).after (State.warmDecided_moves _ _ _ _ _ _).alone))
  · unfold execWarmRestart
    split
    · rename_i hp hc
      exact absurd ⟨hp, by simp [hc]⟩ h
    · exact .still

/-! ### Ticks, sleep and wake (R78 to R92, R153 to R161) -/

theorem execTick_meets (sup : Supplies) (pins : TickPins) (internalTemp : Int) (s : State) :
    Meets (.tick sup pins internalTemp) s (execTick sup pins internalTemp s) := by
  unfold execTick
  extract_lets s1 returning
  have h : Moves (Instr.tick sup pins internalTemp).touches s s1 := (State.supplies_moves _ _).alone
  have hc : Moves (Instr.tick sup pins internalTemp).touches s s1.countTick := (State.countTick_moves _).after h
  refine .ite .still ?_
  split
  · exact .next h
  · exact .next h
  · exact .next (.ite hc h)
  · exact .ite (.next ((State.noteMode_moves _ _).after ((State.tickWork_moves _ _ _ _ _).after ((State.firstTick_moves _ _).after h))))
      (.next (.ite hc h))
  · exact .next ((State.noteMode_moves _ _).after ((State.tickWork_moves _ _ _ _ _).after hc))

theorem execSettTickEdge_meets (sup : Supplies) (pins : TickPins) (internalTemp : Int) (s : State) :
    Meets (.settTickEdge sup pins internalTemp) s (execSettTickEdge sup pins internalTemp s) := by
  unfold execSettTickEdge
  have hc : Moves (Instr.settTickEdge sup pins internalTemp).touches s s.countTick := (State.countTick_moves _).alone
  refine .ite .still ?_
  split
  · exact .still
  · exact .still
  · exact .next (.ite hc (Moves.refl _ s))
  · exact .next ((State.noteMode_moves _ _).after <| (State.pairTick_moves _).after <| (State.settWork_moves _ _ _ _ _).after <|
      (State.firstTick_moves _ _).after (State.supplies_moves _ _).alone)
  · exact .ite (.next hc) (.next ((State.noteMode_moves _ _).after <| (State.pairTick_moves _).after <|
      (State.leaveUnconfigured_moves _).after <| (State.settWork_moves _ _ _ _ _).after <| (State.countTick_moves _).after
        (State.supplies_moves _ _).alone))

theorem execDegradedTickWake_meets (now : Now) (sup : Supplies) (pins : TickPins) (internalTemp : Int) (exit10us : Nat) (s : State) :
    Meets (.degradedTickWake now sup pins internalTemp exit10us) s
      (execDegradedTickWake now sup pins internalTemp exit10us s) := by
  unfold execDegradedTickWake
  extract_lets t sources s1 s2 s3 s4
  have h2 : Moves (Instr.degradedTickWake now sup pins internalTemp exit10us).touches s s2 :=
    .ite ((State.wakeWarn_moves _ _ _).after ((State.wakeTo_moves _ _ _ _ _).after (State.supplies_moves _ _).alone))
      ((State.enterState_moves _ _ _).after (State.supplies_moves _ _).alone)
  have h3 : Moves (Instr.degradedTickWake now sup pins internalTemp exit10us).touches s s3 :=
    (State.onMeas_moves _ _).after ((State.onPwr_moves _ _).after h2)
  have h4 : Moves (Instr.degradedTickWake now sup pins internalTemp exit10us).touches s s4 :=
    .ite ((State.onPwr_moves _ _).after h3) h3
  exact .ite .still (.ite
    (.next ((State.noteMode_moves _ _).after ((State.wakeServe_moves _ _).after ((State.samplePins_moves _ _).after h2))))
    (.next ((State.noteMode_moves _ _).after <| (State.pairTick_moves _).after <| (State.tickEvents_moves _).after <|
      (State.logOsf_moves _).after <| (State.transferLatch_moves _).after <| (State.correctRefs_moves _ _).after <|
      (State.samplePins_moves _ _).after h4)))

theorem execSleepEntry_meets (now : Now) (s : State) : Meets (.sleepEntry now) s (execSleepEntry now s) :=
  .ite (.next (State.enterState_moves _ _ _).alone) .still

theorem execDeepSleepEntry_meets (now : Now) (s : State) : Meets (.deepSleepEntry now) s (execDeepSleepEntry now s) :=
  .next (State.deepEnter_moves _ _).alone

theorem execHoldHostIdle_meets (now : Now) (s : State) : Meets (.holdHostIdle now) s (execHoldHostIdle now s) :=
  .next (State.deepEnter_moves _ _).alone

theorem execHostAddressMatch_meets (hdr : Byte) (vio : Bool) (s : State) :
    Meets (.hostAddressMatch hdr vio) s (execHostAddressMatch hdr vio s) :=
  .ite (.next ((State.raiseWake_moves _ _).after ((State.onHl_moves _ _).after (State.seeVio_moves _ _).alone)))
    (.next (State.seeVio_moves _ _).alone)

theorem execUartWake_meets (lowUs : Nat) (edges : List Nat) (vio : Bool) (s : State) :
    Meets (.uartWake lowUs edges vio) s (execUartWake lowUs edges vio s) :=
  .ite (.next (State.seeVio_moves _ _).alone) (.next ((State.raiseWake_moves _ _).after (State.seeVio_moves _ _).alone))

theorem execMbusStartBitWake_meets (s : State) : Meets .mbusStartBitWake s (execMbusStartBitWake s) :=
  .ite (.next (State.raiseWake_moves _ _).alone) .still

theorem execSleepWake_meets (now : Now) (sources : List WakeSource) (exit10us : Nat) (cardOut : Bool) (sup : Supplies) (s : State) :
    Meets (.sleepWake now sources exit10us cardOut sup) s (execSleepWake now sources exit10us cardOut sup s) :=
  .ite .still (.next ((State.noteMode_moves _ _).after <| (State.wakeWarn_moves _ _ _).after <| (State.wakeServe_moves _ _).after <|
    (State.sampleCard_moves _ _).after <| (State.wakeTo_moves _ _ _ _ _).after (State.supplies_moves _ _).alone))

theorem execDeepSleepWake_meets (now : Now) (sources : List WakeSource) (exit10us : Nat) (failedBanks : List Nat) (card : CardRead)
    (cardOut : Bool) (sup : Supplies) (s : State) :
    Meets (.deepSleepWake now sources exit10us failedBanks card cardOut sup) s
      (execDeepSleepWake now sources exit10us failedBanks card cardOut sup s) :=
  .ite .still (.next ((State.noteMode_moves _ _).after (State.deepExit_moves _ _ _ _ _ _ _ _).alone))

theorem execHoldExit_meets (now : Now) (sup : Supplies) (exit10us : Nat) (failedBanks : List Nat) (card : CardRead) (cardOut : Bool)
    (s : State) :
    Meets (.holdExit now sup exit10us failedBanks card cardOut) s
      (execHoldExit now sup exit10us failedBanks card cardOut s) :=
  .ite .still (.ite (.next ((State.noteMode_moves _ _).after (State.deepExit_moves _ _ _ _ _ _ _ _).alone))
    (.next ((State.onPwr_moves _ _).after (State.supplies_moves _ _).alone)))

theorem execHoldDueDateWake_meets (now : Now) (s : State) : Meets (.holdDueDateWake now) s (execHoldDueDateWake now s) :=
  .ite .still (.ite (.next (State.raiseWake_moves _ _).alone) (.ite .still
    (.next ((State.pumpAlc_moves _).after
      (.forCh _ _ (fun _ _ => (State.holdSnaps_moves _ _).alone) (State.freeze_moves _ _).alone)))))

theorem execDmrMismatchReaction_meets (now : Now) (s : State) :
    Meets (.dmrMismatchReaction now) s (execDmrMismatchReaction now s) := by
  unfold execDmrMismatchReaction
  extract_lets s1
  have h : Moves (Instr.dmrMismatchReaction now).touches s s1 := (State.onFlt_moves _ _).after (State.drain_moves s).alone
  exact .ite .still (.next ((State.noteMode_moves _ _).after
    (.ite ((State.goFailSilent_moves _ _ _).after h) ((State.warmBegin_moves _ _ _).after h))))

end Sys2Proof.Machine
end

section
/-! What each command of measurement, valves, the clock, the radio, sessions and the M-Bus answers. -/

set_option Elab.async false

namespace Sys2Proof.Machine

/-! ### Measurement, steps and zero calibration -/

theorem execTofSlot_meets (ch slot : Nat) (shot : Shot) (s : State) : Meets (.tofSlot ch slot shot) s (execTofSlot ch slot shot s) := by
  unfold execTofSlot
  refine .checked (chOk_eq ch) (.ite .still ?_)
  split
  · exact .still
  · rename_i pair dir _
    extract_lets s0 r
    have h0 : Moves (Instr.tofSlot ch slot shot).touches s s0 := .ite (State.onFlow_moves _ _ _).alone (Moves.refl _ s)
    have hr : Moves (Instr.tofSlot ch slot shot).touches s r.1 := (State.fireShot_moves _ _ _ _ _ _).after h0
    refine .ite (.next ((State.onFlow_moves _ _ _).after hr)) ?_
    split
    · exact .next hr
    · exact .next ((State.endPair_moves _ _ _ _ _).after ((State.onFlow_moves _ _ _).after hr))

theorem execTdShortStopEnd_meets (ch : Nat) (s : State) : Meets (.tdShortStopEnd ch) s (execTdShortStopEnd ch s) :=
  .checked (chOk_eq ch) (.ite (.next (State.onFlow_moves _ _ _).alone) .still)

theorem execLowQRecovery_meets (ch : Nat) (s : State) : Meets (.lowQRecovery ch) s (execLowQRecovery ch s) := by
  unfold execLowQRecovery
  refine .checked (chOk_eq ch) ?_
  extract_lets f
  split
  · exact .still
  · exact .ite (.next (State.putFlow_moves _ _ _ _).alone) .still

theorem execRtdSlot_meets (tc slot : Nat) (conv : Conversion) (s : State) : Meets (.rtdSlot tc slot conv) s (execRtdSlot tc slot conv s) := by
  unfold execRtdSlot
  refine .checked (tcOk_and_rtdSlotOk_eq tc slot) (.ite ?refs (.ite ?diagnostic ?sensors))
  case refs =>
    split
    · exact .still
    · exact .ite (.next (State.gainSample_moves _ _ _ _).alone) .still
  case diagnostic => exact .ite (.next (State.diagnostic_moves _ _ _).alone) .still
  case sensors =>
    split
    · exact .still
    · exact .ite (.next (State.sensorConversion_moves _ _ _ _).alone) .still

theorem execStepClose_meets (ch : Nat) (upset : Upset) (s : State) : Meets (.stepClose ch upset) s (execStepClose ch upset s) :=
  .checked (chOk_eq ch) (.ite .still (.next (State.closeStep_moves _ _ _ _ _ _ _).alone))

theorem execStepOverrun_meets (ch : Nat) (s : State) : Meets (.stepOverrun ch) s (execStepOverrun ch s) :=
  .checked (chOk_eq ch) (.ite .still (.next ((State.onCh_moves _ _ _).after ((State.event_moves _ _ _ _).after
    (State.onMeas_moves s _).alone))))

theorem execZeroTrackWindow_meets (ch : Nat) (s : State) : Meets (.zeroTrackWindow ch) s (execZeroTrackWindow ch s) := by
  unfold execZeroTrackWindow
  refine .checked (chOk_eq ch) (.ite .still ?_)
  extract_lets c z s1
  have h : Moves (Instr.zeroTrackWindow ch).touches s s1 := (State.onCh_moves _ _ _).alone
  split
  · exact .next h
  · exact .ite (.next h) (.next ((State.putFlow_moves _ _ _ _).after h))

theorem execCalTrackCommit_meets (ch : Nat) (s : State) : Meets (.calTrackCommit ch) s (execCalTrackCommit ch s) := by
  unfold execCalTrackCommit
  refine .checked (chOk_eq ch) ?_
  extract_lets f
  split
  · exact .still
  · exact .ite .still (.next ((State.enqueue_moves _ _).after (State.onFlow_moves _ _ _).alone))

theorem execZeroCalPhase_meets (s : State) : Meets .zeroCalPhase s (execZeroCalPhase s) := by
  unfold execZeroCalPhase
  split
  · exact .still
  · refine .ite (.next (.forCh _ _ (fun _ _ => ?_) (State.onMeas_moves _ _).alone))
      (.ite (.next (.forCh _ _ (fun _ _ => ?_) (State.onMeas_moves _ _).alone)) .still)
    · exact (State.onCh_moves _ _ _).after (State.draw_moves _).alone
    · exact (State.onCh_moves _ _ _).alone

theorem execZeroCalEnd_meets (now : Now) (s : State) : Meets (.zeroCalEnd now) s (execZeroCalEnd now s) := by
  unfold execZeroCalEnd
  split
  · exact .still
  · extract_lets chans commissioned pass s1 s2 m s3
    have h1 : Moves (Instr.zeroCalEnd now).touches s s1 :=
      .forCh _ _ (fun _ _ => (State.calResult_moves _ _ _).alone) (Moves.refl _ s)
    have h2 : Moves (Instr.zeroCalEnd now).touches s s2 :=
      .ite ((State.commitModule_moves _).after ((State.onImg_moves _ _).after h1)) h1
    have h3 : Moves (Instr.zeroCalEnd now).touches s s3 :=
      .ite (.forCh _ _ (fun _ _ => (State.writeAudit_moves _ _ _ _ _ _ _ _ _).alone) h2) h2
    exact .ite .still (.next ((State.noteMode_moves _ _).after ((State.calOver_moves _).after h3)))

theorem execTestTimeout_meets (s : State) : Meets .testTimeout s (execTestTimeout s) :=
  .ite .still (.ite (.next (State.onMeas_moves _ _).alone) (.next ((State.noteMode_moves _ _).after (State.onMeas_moves s _).alone)))

/-! ### Pulse outputs, valves and tamper -/

theorem execPulseStart_meets (po : Nat) (now : Now) (s : State) : Meets (.pulseStart po now) s (execPulseStart po now s) := by
  unfold execPulseStart
  refine .checked (poOk_eq po) ?_
  extract_lets p
  split
  · exact .still
  · exact .ite .still (.next (State.setOut_moves _ _ _).alone)

theorem execPulseEnd_meets (po : Nat) (now : Now) (s : State) : Meets (.pulseEnd po now) s (execPulseEnd po now s) := by
  unfold execPulseEnd
  refine .checked (poOk_eq po) ?_
  extract_lets p
  split
  · exact .still
  · exact .ite .still (.next (State.setOut_moves _ _ _).alone)

theorem execValveMoveStart_meets (now : Now) (s : State) : Meets (.valveMoveStart now) s (execValveMoveStart now s) :=
  .ite (.next (State.startMove_moves _ _).alone) .still

theorem execValveFeedbackSample_meets (now : Now) (ch : Nat) (fbOpen fbClosed : Bool) (s : State) :
    Meets (.valveFeedbackSample now ch fbOpen fbClosed) s (execValveFeedbackSample now ch fbOpen fbClosed s) := by
  unfold execValveFeedbackSample
  refine .checked (chOk_eq ch) (.ite .still ?_)
  extract_lets was s1
  have h : Moves (Instr.valveFeedbackSample now ch fbOpen fbClosed).touches s s1 := (State.onCh_moves _ _ _).alone
  split
  · exact .ite (.next ((State.movingSample_moves _ _ _ _ _).after h)) (.next ((State.idleSample_moves _ _ _ _).after h))
  · exact .next ((State.idleSample_moves _ _ _ _).after h)

theorem execValveTimeout_meets (now : Now) (s : State) : Meets (.valveTimeout now) s (execValveTimeout now s) :=
  .next (State.faultMoving_moves _ _ _ _).alone

theorem execValveOvercurrent_meets (now : Now) (s : State) : Meets (.valveOvercurrent now) s (execValveOvercurrent now s) :=
  .next (State.faultMoving_moves _ _ _ _).alone

theorem execValveOpenCoil_meets (now : Now) (s : State) : Meets (.valveOpenCoil now) s (execValveOpenCoil now s) :=
  .next (State.faultMoving_moves _ _ _ _).alone

theorem execTamperEdge_meets (input : TamperInput) (opened : Bool) (s : State) :
    Meets (.tamperEdge input opened) s (execTamperEdge input opened s) := by
  unfold execTamperEdge
  extract_lets s1
  have h : Moves (Instr.tamperEdge input opened).touches s s1 := (State.onTamper_moves _ _).alone
  exact .ite .still (.next (.ite ((State.transferLatch_moves _).after h) h))

theorem execMovorCableLoss_meets (highMs : Nat) (s : State) : Meets (.movorCableLoss highMs) s (execMovorCableLoss highMs s) :=
  .ite .still (.next ((State.reportCable_moves _).after (State.onPair_moves s _).alone))

theorem execMovorCableRestored_meets (s : State) : Meets .movorCableRestored s (execMovorCableRestored s) :=
  .ite (.next (State.onPair_moves s _).alone) (.next ((State.ending_moves _ _ _ _ _).after <| (State.onTamper_moves _ _).after <|
    (State.onPair_moves _ _).after (State.onPair_moves s _).alone))

/-! ### The real-time clock -/

theorem execRtcSecond_meets (s : State) : Meets .rtcSecond s (execRtcSecond s) := by
  unfold execRtcSecond
  extract_lets s1 s2
  have h : Moves Instr.rtcSecond.touches s s2 :=
    (State.onRtc_moves _ _).after ((State.onPwr_moves _ _).after (State.onRtc_moves s _).alone)
  exact .ite .still (.next (.ite h (.ite ((State.setOsf_moves _ _).after h) (.ite ((State.onFlt_moves _ _).after h) h))))

theorem execOscillatorStop_meets (s : State) : Meets .oscillatorStop s (execOscillatorStop s) :=
  .ite .still (.next ((State.onPwr_moves _ _).after (State.setOsf_moves _ _).alone))

theorem execHalt_meets (now : Now) (s : State) : Meets (.halt now) s (execHalt now s) :=
  .next (State.asWrite_moves _ _ _ s (fun _ => rfl) (State.haltWrite_moves _ _).alone)

theorem execHaltRelease_meets (now : Now) (s : State) : Meets (.haltRelease now) s (execHaltRelease now s) :=
  .next (State.asWrite_moves _ _ _ s (fun _ => rfl) (State.haltClear_moves _ _).alone)

theorem execHaltAutoRelease_meets (now : Now) (s : State) : Meets (.haltAutoRelease now) s (execHaltAutoRelease now s) :=
  .ite (.next ((State.event_moves _ _ _ _).after (State.onRtc_moves s _).alone)) .still

theorem execRtcDateWrite_meets (value : Word) (s : State) : Meets (.rtcDateWrite value) s (execRtcDateWrite value s) :=
  .next (State.asWrite_moves _ _ _ s (fun _ => rfl) (State.dateWrite_moves _ _).alone)

theorem execRtcTimeWrite_meets (value : Word) (s : State) : Meets (.rtcTimeWrite value) s (execRtcTimeWrite value s) :=
  .next (State.asWrite_moves _ _ _ s (fun _ => rfl) (State.timeWrite_moves _ _).alone)

theorem execRtcSlewWrite_meets (value : Word) (s : State) : Meets (.rtcSlewWrite value) s (execRtcSlewWrite value s) :=
  .next (State.asWrite_moves _ _ _ s (fun _ => rfl) (State.slewWrite_moves _ _).alone)

theorem execRtcTimeRead_meets (now : Now) (s : State) : Meets (.rtcTimeRead now) s (execRtcTimeRead now s) :=
  .next (State.readRow_moves' _ _ _ s rfl (State.rtcRead_moves 1 _ _).alone)

theorem execRtcSecondsLoRead_meets (now : Now) (s : State) : Meets (.rtcSecondsLoRead now) s (execRtcSecondsLoRead now s) :=
  .next (State.readRow_moves' _ _ _ s rfl (State.rtcRead_moves 3 _ _).alone)

theorem execRtcDateRead_meets (now : Now) (s : State) : Meets (.rtcDateRead now) s (execRtcDateRead now s) :=
  .next (State.readRow_moves' _ _ _ s rfl (State.rtcRead_moves 0 _ _).alone)

theorem execRtcSecondsHiRead_meets (now : Now) (s : State) : Meets (.rtcSecondsHiRead now) s (execRtcSecondsHiRead now s) :=
  .next (State.readRow_moves' _ _ _ s rfl (State.rtcRead_moves 2 _ _).alone)

/-! ### Radio, sessions and allocators -/

theorem execTelegramOffer_meets (now : Now) (offer : OfferKind) (s : State) :
    Meets (.telegramOffer now offer) s (execTelegramOffer now offer s) :=
  .ite .still (.next (State.inRun_moves _ _ s rfl fun _ => (State.makeOffer_moves _ _ _).alone))

theorem execFrameTransmit_meets (now : Now) (s : State) : Meets (.frameTransmit now) s (execFrameTransmit now s) := by
  unfold execFrameTransmit
  split
  · exact .still
  · exact .ite .still (.next (State.inRun_moves _ _ s rfl fun u =>
      (State.transmit_moves _ _ _ _ _).after (State.onRadio_moves u _).alone))

theorem execResponseWindow_meets (now : Now) (s : State) : Meets (.responseWindow now) s (execResponseWindow now s) := by
  unfold execResponseWindow
  refine .ite .still ?_
  split
  · extract_lets s0
    have h0 : Moves (Instr.responseWindow now).touches s s0 := (State.onRadio_moves s _).alone
    split
    · exact .next ((State.skipResponse_moves _).after h0)
    · rename_i body s1 hb
      exact .ite (.next ((State.skipResponse_moves _).after h0))
        (.next ((State.transmit_moves _ _ _ _ _).after ((State.answerFrame_moves _ _ _ _ _ hb).after h0)))
  · exact .ite (.next (State.onRadio_moves s _).alone) .still

theorem execRadioFrameReceived_meets (now : Now) (since : Nat) (crcOk : Bool) (frame : List Byte) (s : State) :
    Meets (.radioFrameReceived now since crcOk frame) s (execRadioFrameReceived now since crcOk frame s) :=
  .ite (.next (State.onRadio_moves s _).alone) (.ite .still (.ite (.next (State.onRadio_moves s _).alone)
    (.next ((State.onRadio_moves _ _).after (State.onRadio_moves s _).alone))))

theorem execDutyBinAdvance_meets (now : Now) (s : State) : Meets (.dutyBinAdvance now) s (execDutyBinAdvance now s) :=
  .next ((State.noteDuty_moves _ _).after (State.onRadio_moves s _).alone)

/-- Taking a request out of its buffer changes the receive buffer or the inbox of the bus. -/
theorem State.takeRequestFrame_moves {p : Partner} {frame : List Byte} {s t : State} (h : s.takeRequestFrame p frame = some t) :
    Moves [.radio, .sess] s t := by
  unfold State.takeRequestFrame at h
  split at h
  · obtain ⟨f, -, rfl⟩ := Option.map_eq_some_iff.mp h
    exact (State.onRadio_moves s _).alone
  · split at h
    · cases h
      exact (State.onSess_moves s _).alone
    · cases h

theorem execSessionRequest_meets (now : Now) (partner : Partner) (frame : List Byte) (s : State) :
    Meets (.sessionRequest now partner frame) s (execSessionRequest now partner frame s) := by
  unfold execSessionRequest
  split
  · exact .still
  · rename_i s1 h1
    have h : Moves (Instr.sessionRequest now partner frame).touches s s1 := (State.takeRequestFrame_moves h1).alone
    refine .ite (.next ((State.frameDiscard_moves _).after h)) (.ite (.next h) ?_)
    split
    · exact .next ((State.onSess_moves _ _).after h)
    · exact .next ((State.handle_moves _ _ _ _).after h)

theorem execCommandExecutionEnd_meets (now : Now) (ctx : Nat) (s : State) :
    Meets (.commandExecutionEnd now ctx) s (execCommandExecutionEnd now ctx s) := by
  unfold execCommandExecutionEnd
  refine .checked (ctxOk_eq ctx) ?_
  extract_lets c
  split
  · split
    · exact .next (State.skipResponse_moves _).alone
    · rename_i hr
      exact .next ((State.setCtx_moves _ _ _).after (State.respond_moves _ _ _ _ _ _ _ _ _ hr).alone)
  · exact .still

theorem execSessionReadyTimeout_meets (now : Now) (ctx : Nat) (s : State) :
    Meets (.sessionReadyTimeout now ctx) s (execSessionReadyTimeout now ctx s) :=
  .checked (ctxOk_eq ctx) (.ite (.next ((State.setCtx_moves _ _ _).after (State.forget_moves _ _).alone)) .still)

theorem execSessionIdleTimeout_meets (now : Now) (ctx : Nat) (s : State) :
    Meets (.sessionIdleTimeout now ctx) s (execSessionIdleTimeout now ctx s) :=
  .checked (ctxOk_eq ctx) (.ite (.next (State.setCtx_moves _ _ _).alone) .still)

theorem execCmdStatus_meets (ctx : Nat) (s : State) : Meets (.cmdStatus ctx) s (execCmdStatus ctx s) :=
  .checked (ctxOk_eq ctx) (.ite .still (.next (State.doneCtx_moves _ _ _ _).alone))

theorem execCmdReadHoard_meets (ctx : Nat) (s : State) : Meets (.cmdReadHoard ctx) s (execCmdReadHoard ctx s) :=
  .checked (ctxOk_eq ctx) (.ite .still (.ite (.next (State.doneCtx_moves _ _ _ _).alone)
    (.next ((State.doneCtx_moves _ _ _ _).after (State.hoardRead_moves _ _ _ _).alone))))

theorem execCmdValve_meets (now : Now) (ctx : Nat) (s : State) : Meets (.cmdValve now ctx) s (execCmdValve now ctx s) := by
  unfold execCmdValve
  refine .checked (ctxOk_eq ctx) (.ite .still ?_)
  split
  · exact .still
  · rename_i s0 hf
    extract_lets n dir r s1 accepted
    have h0 : Moves (Instr.cmdValve now ctx).touches s s0 := (State.floorLanded_moves _ _ _ _ hf).alone
    have hr : Moves (Instr.cmdValve now ctx).touches s r.1 := (State.submitValve_moves _ _ _ _).after h0
    have h1 : Moves (Instr.cmdValve now ctx).touches s s1 :=
      .ite hr (.ite ((State.event_moves _ _ _ _).after ((State.onCredit_moves _ _ _).after hr)) ((State.onCredit_moves _ _ _).after hr))
    have ha (data : List Byte) (result : Nat) : Moves (Instr.cmdValve now ctx).touches s (accepted data result) :=
      (State.doneCtx_moves _ _ _ _).after ((State.policy_moves _ _).after h1)
    refine .ite (.next ((State.doneCtx_moves _ _ _ _).after h0)) ?_
    split
    · exact .next (ha _ _)
    · exact .next (ha _ _)
    · exact .next ((State.doneCtx_moves _ _ _ _).after ((State.policy_moves _ _).after hr))
    · exact .next ((State.doneCtx_moves _ _ _ _).after ((State.policy_moves _ _).after hr))
    · exact .next ((State.doneCtx_moves _ _ _ _).after hr)

theorem execCmdTopup_meets (now : Now) (ctx : Nat) (s : State) : Meets (.cmdTopup now ctx) s (execCmdTopup now ctx s) :=
  .checked (ctxOk_eq ctx) (.ite .still (.ite .still (.ite
    (.next ((State.doneCtx_moves _ _ _ _).after (State.event_moves _ _ _ _).alone))
    (.next ((State.onCh_moves _ _ _).after ((State.enqueue_moves _ _).after (State.onCredit_moves _ _ _).alone))))))

theorem execTopupAnswer_meets (now : Now) (ctx : Nat) (s : State) : Meets (.topupAnswer now ctx) s (execTopupAnswer now ctx s) := by
  unfold execTopupAnswer
  refine .checked (ctxOk_eq ctx) (.ite .still ?_)
  extract_lets n
  split
  · exact .still
  · exact .ite .still (.next ((State.doneCtx_moves _ _ _ _).after <| (State.policy_moves _ _).after <|
      (State.event_moves _ _ _ _).after <| (State.onCh_moves _ _ _).after (State.drain_moves s).alone))

theorem execCmdSetTime_meets (now : Now) (ctx : Nat) (s : State) : Meets (.cmdSetTime now ctx) s (execCmdSetTime now ctx s) := by
  unfold execCmdSetTime
  refine .checked (ctxOk_eq ctx) (.ite .still ?_)
  split
  · exact .still
  · rename_i s0 hf
    have h0 : Moves (Instr.cmdSetTime now ctx).touches s s0 := (State.floorLanded_moves _ _ _ _ hf).alone
    exact .ite (.next ((State.doneCtx_moves _ _ _ _).after h0)) (.ite (.next ((State.doneCtx_moves _ _ _ _).after h0))
      (.next ((State.doneCtx_moves _ _ _ _).after ((State.applyTime_moves _ _ _ _).after h0))))

theorem execCmdAdjustTime_meets (now : Now) (ctx : Nat) (s : State) :
    Meets (.cmdAdjustTime now ctx) s (execCmdAdjustTime now ctx s) := by
  unfold execCmdAdjustTime
  refine .checked (ctxOk_eq ctx) (.ite .still ?_)
  split
  · exact .still
  · rename_i s0 hf
    have h0 : Moves (Instr.cmdAdjustTime now ctx).touches s s0 := (State.floorLanded_moves _ _ _ _ hf).alone
    have hr (f : Rtc → Rtc) (code : Nat) (data : List Byte) :
        Moves (Instr.cmdAdjustTime now ctx).touches s ((s0.onRtc f).doneCtx ctx code data) :=
      (State.doneCtx_moves _ _ _ _).after ((State.onRtc_moves _ _).after h0)
    exact .ite (.next ((State.doneCtx_moves _ _ _ _).after h0)) (.ite (.next (hr _ _ _)) (.ite (.next (hr _ _ _))
      (.next ((State.doneCtx_moves _ _ _ _).after h0))))

theorem execAllocatorParse_meets (s : State) : Meets .allocatorParse s (execAllocatorParse s) := by
  unfold execAllocatorParse
  split
  · exact .still
  · exact .ite (.next ((State.frameDiscard_moves _).after (State.onRadio_moves s _).alone))
      (.next ((State.parseFrame_moves _ _).after (State.onRadio_moves s _).alone))

theorem execAllocatorFreeze_meets (s : State) : Meets .allocatorFreeze s (execAllocatorFreeze s) :=
  .ite (.next ((State.pumpAlc_moves _).after (State.freeze_moves _ _).alone)) .still

/-! ### The wired M-Bus -/

theorem execSndNke_meets (now : Now) (address : Byte) (baud : Nat) (s : State) :
    Meets (.sndNke now address baud) s (execSndNke now address baud s) :=
  .next (State.busServe_moves _ _ _ _ s rfl fun t => .ite ((State.busAck_moves _).after (State.deselect_moves _).alone)
    (.ite (State.deselect_moves _).alone (Moves.refl _ t)))

theorem execSecondarySelect_meets (now : Now) (data : List Byte) (baud : Nat) (s : State) :
    Meets (.secondarySelect now data baud) s (execSecondarySelect now data baud s) := by
  refine .next (State.busServe_moves _ _ _ _ s rfl fun t => ?_)
  have h : Moves (Instr.secondarySelect now data baud).touches t t.deselect := (State.deselect_moves t).alone
  dsimp only
  split
  · exact h
  · exact (State.busAck_moves _).after ((State.onMBus_moves _ _).after h)
  · exact (State.onMBus_moves _ _).after ((State.busAck_moves _).after h)

theorem execReqUd1_meets (now : Now) (baud : Nat) (s : State) : Meets (.reqUd1 now baud) s (execReqUd1 now baud s) :=
  .next (State.whenSelected_moves _ _ _ _ s rfl fun _ _ => (State.busAck_moves _).alone)

theorem execReqUd2_meets (now : Now) (fcv fcb : Bool) (baud : Nat) (s : State) :
    Meets (.reqUd2 now fcv fcb baud) s (execReqUd2 now fcv fcb baud s) := by
  refine .next (State.whenSelected_moves _ _ _ _ s rfl fun i t => ?_)
  extract_lets again
  clear_value again
  cases again with
  | some f => exact (State.busAnswer_moves _ _).alone
  | none =>
    dsimp only
    split
    · exact .ite (Moves.refl _ t) (State.skipResponse_moves _).alone
    · rename_i hf
      exact (State.onMBus_moves _ _).after ((State.busAnswer_moves _ _).after (State.busFresh_moves _ _ _ _ _ hf).alone)

theorem execSndUdRequest_meets (now : Now) (frame : List Byte) (baud : Nat) (s : State) :
    Meets (.sndUdRequest now frame baud) s (execSndUdRequest now frame baud s) :=
  .next (State.whenSelected_moves _ _ _ _ s rfl fun _ _ =>
    .ite ((State.onSess_moves _ _).after (State.busAck_moves _).alone) (State.busAck_moves _).alone)

theorem execSndUdOther_meets (now : Now) (baud : Nat) (s : State) : Meets (.sndUdOther now baud) s (execSndUdOther now baud s) :=
  .next (State.whenSelected_moves _ _ _ _ s rfl fun _ _ => (State.busAck_moves _).alone)

theorem execBaudSwitch_meets (now : Now) (ci : Byte) (baud : Nat) (s : State) :
    Meets (.baudSwitch now ci baud) s (execBaudSwitch now ci baud s) :=
  .next (State.whenSelected_moves _ _ _ _ s rfl fun _ t => .ite (State.busAck_moves _).alone (Moves.refl _ t))

theorem execMbusFrameError_meets (now : Now) (s : State) : Meets (.mbusFrameError now) s (execMbusFrameError now s) :=
  .ite .still (.next ((State.onPwr_moves _ _).after (State.onMBus_moves s _).alone))

end Sys2Proof.Machine
end

section
/-! What each command of the DMA engine, the display, the pair and the host link answers. -/

set_option Elab.async false

namespace Sys2Proof.Machine

/-! ### The DMA engine -/

/-- An instruction of a DMA program, fetched and decoded (R478), refuses a channel that does not exist. -/
theorem State.dmaRun_answers {gs : List Group} {k op : Nat} {f : List Nat → State → State} {s : State} {ok : Bool}
    (hk : ok = !decide (16 ≤ k)) (hf : ∀ w u, Moves gs u (f w u)) (hg : ([.flt, .dma] : List Group).all gs.contains = true := by rfl) :
    Answers gs s ok (s.dmaRun k op f) := by
  subst hk
  by_cases h : 16 ≤ k
  · rw [State.dmaRun, if_pos h, decide_eq_true h]
    exact .illFormed
  · obtain ⟨t, ht⟩ : ∃ t, s.dmaRun k op f = .next t := by
      rw [State.dmaRun, if_neg h]
      dsimp only
      split_ifs <;> exact ⟨_, rfl⟩
    rw [ht, decide_eq_false h]
    exact .next (State.dmaRun_moves gs k op f s t hg hf ht)

theorem execDmaMove_meets (ch : Nat) (s : State) : Meets (.dmaMove ch) s (execDmaMove ch s) :=
  State.dmaRun_answers (dmaOk_eq ch) fun _ _ => (State.runMove_moves _ _ _).alone

theorem execDmaLoop_meets (ch : Nat) (s : State) : Meets (.dmaLoop ch) s (execDmaLoop ch s) :=
  State.dmaRun_answers (dmaOk_eq ch) fun _ _ => (State.runLoop_moves _ _ _).alone

theorem execDmaWait_meets (ch : Nat) (s : State) : Meets (.dmaWait ch) s (execDmaWait ch s) :=
  State.dmaRun_answers (dmaOk_eq ch) fun _ _ => (State.runWait_moves _ _ _).alone

theorem execDmaSignal_meets (ch : Nat) (ack : Bool) (s : State) : Meets (.dmaSignal ch ack) s (execDmaSignal ch ack s) :=
  State.dmaRun_answers (dmaOk_eq ch) fun _ _ => (State.runSignal_moves _ _ _ _).alone

theorem execDmaEnd_meets (ch : Nat) (ack : Bool) (s : State) : Meets (.dmaEnd ch ack) s (execDmaEnd ch ack s) :=
  State.dmaRun_answers (dmaOk_eq ch) fun _ _ => (State.runEnd_moves _ _ _ _).alone

theorem execDmaBurst_meets (s : State) : Meets .dmaBurst s (execDmaBurst s) := by
  unfold execDmaBurst
  split
  · exact .still
  · exact .next ((State.dmaBurstOf_moves _ _).after (State.onDma_moves s _).alone)

theorem execDmaWaitComplete_meets (ch : Nat) (s : State) : Meets (.dmaWaitComplete ch) s (execDmaWaitComplete ch s) := by
  unfold execDmaWaitComplete
  refine .checked (dmaOk_eq ch) ?_
  extract_lets c
  split
  · exact .still
  · exact .ite .still (.next ((State.dmaBoundary_moves _ _).after ((State.dmaGoto_moves _ _ _).after (State.setDc_moves _ _ _).alone)))

theorem execDmaWaitTimeout_meets (ch : Nat) (s : State) : Meets (.dmaWaitTimeout ch) s (execDmaWaitTimeout ch s) := by
  unfold execDmaWaitTimeout
  refine .checked (dmaOk_eq ch) ?_
  extract_lets c
  split
  · exact .still
  · exact .ite (.next (State.dmaFail_moves _ _ _ _).alone) .still

theorem execDmaImageRestart_meets (ch sinceUs : Nat) (s : State) :
    Meets (.dmaImageRestart ch sinceUs) s (execDmaImageRestart ch sinceUs s) :=
  .checked (dmaOk_eq ch) (.ite (.next ((State.dmaStart_moves _ _).after (State.setDc_moves _ _ _).alone)) .still)

theorem execDmaDomainHoldTimeout_meets (ch heldUs : Nat) (s : State) :
    Meets (.dmaDomainHoldTimeout ch heldUs) s (execDmaDomainHoldTimeout ch heldUs s) :=
  .checked (dmaOk_eq ch) (.ite .still (.next
    (.ite ((State.dmaBoundary_moves _ _).after (State.setDc_moves _ _ _).alone) (State.setDc_moves _ _ _).alone)))

theorem execDmaArm_meets (ch : Nat) (value : Word) (s : State) : Meets (.dmaArm ch value) s (execDmaArm ch value s) :=
  .checked (dmaHostOk_eq ch) (.next (State.asWrite_plain (State.dmaCtrlWrite_moves _ _ _).alone (rtcSetReg_above (by omega))))

theorem execDmaStop_meets (value : Word) (s : State) : Meets (.dmaStop value) s (execDmaStop value s) :=
  .next (State.asWrite_plain (State.dmaStopWrite_moves _ _).alone)

/-! ### The display -/

theorem execDisplayEvaluation_meets (now : Now) (s : State) : Meets (.displayEvaluation now) s (execDisplayEvaluation now s) := by
  unfold execDisplayEvaluation
  split
  · exact .still
  · refine .ite .still (.ite (.next ?composer) (.ite (.next ?unconfigured) (.ite (.next ?normal) .still)))
    case composer =>
      exact (State.decideIfOff_moves _ _ _).after <| (State.compareRegions_moves _ _ _).after <| (State.refreshDue_moves _ _).after
        (State.composerRead_moves _ _).alone
    case unconfigured => exact (State.decideIfOff_moves _ _ _).after (State.showRom_moves _ _ _).alone
    case normal => exact (State.decideIfOff_moves _ _ _).after (State.showRom_moves _ _ _).alone

theorem execKeyPress_meets (now : Now) (lowMs : Nat) (s : State) : Meets (.keyPress now lowMs) s (execKeyPress now lowMs s) := by
  unfold execKeyPress
  split
  · exact .still
  · exact .ite .still (.next ((State.decideIfOff_moves _ _ _).after ((State.compareRegions_moves _ _ _).after
      (State.onDisp_moves s _).alone)))

theorem execScreenTimeout_meets (now : Now) (s : State) : Meets (.screenTimeout now) s (execScreenTimeout now s) := by
  unfold execScreenTimeout
  split
  · exact .still
  · exact .ite .still (.next ((State.decideIfOff_moves _ _ _).after ((State.compareRegions_moves _ _ _).after
      (State.onDisp_moves s _).alone)))

theorem execDisplayFrameBoundary_meets (now : Now) (missedRows : List Nat) (s : State) :
    Meets (.displayFrameBoundary now missedRows) s (execDisplayFrameBoundary now missedRows s) := by
  unfold execDisplayFrameBoundary
  split
  · exact .still
  · exact .ite .still (.next ((State.nextFrame_moves _ _).after <| (State.renderNext_moves _ _).after <|
      (State.decideHeld_moves _ _ _).after <| (State.startUpdates_moves _ _ _).after <| (State.advanceUpdates_moves _ _ _).after
        (State.underrun_moves _ _ _).alone))

theorem execRailCheck_meets (now : Now) (rails : Rails) (s : State) : Meets (.railCheck now rails) s (execRailCheck now rails s) :=
  .ite .still (.ite (.next (State.onDisp_moves s _).alone) (.next ((State.dispRaise_moves _ _).after ((State.onDisp_moves _ _).after
    (State.dispGiveUp_moves _ _ _).alone))))

theorem execRailLockoutEnd_meets (now : Now) (s : State) : Meets (.railLockoutEnd now) s (execRailLockoutEnd now s) := by
  unfold execRailLockoutEnd
  refine .ite .still ?_
  extract_lets s1
  have h : Moves (Instr.railLockoutEnd now).touches s s1 := (State.onDisp_moves s _).alone
  split
  · exact .next h
  · exact .ite (.next h) (.next ((State.decideIfOff_moves _ _ _).after h))

theorem execPanelTempMeasure_meets (ntc internal : Int) (s : State) :
    Meets (.panelTempMeasure ntc internal) s (execPanelTempMeasure ntc internal s) :=
  .ite .still (.next ((State.dispRaise_moves _ _).after (State.onDisp_moves s _).alone))

/-! ### The redundant pair -/

theorem execHeartbeatTimer_meets (now : Now) (s : State) : Meets (.heartbeatTimer now) s (execHeartbeatTimer now s) :=
  .ite (.ite (.next (State.onPair_moves s _).alone) .still) (.ite .still (.ite (.ite (.next (State.onPair_moves s _).alone) .still)
    (.ite .still (.next ((State.sync_moves _).after (State.onPair_moves s _).alone)))))

theorem execHello_meets (now : Now) (frame : PeerFrame) (s : State) : Meets (.hello now frame) s (execHello now frame s) := by
  unfold execHello
  extract_lets s1 c peer known s2
  have h1 : Moves (Instr.hello now frame).touches s s1 := (State.noteFlags_moves _ _ _).after (State.unpair_moves _).alone
  have h2 : Moves (Instr.hello now frame).touches s s2 := (State.mirRaise_moves _ _).after ((State.onPair_moves _ _).after h1)
  exact .ite (.next (State.offLink_moves _).alone) (.ite (.next ((State.pairUp_moves _ _ _).after h1))
    (.next (.ite h2 ((State.event_moves _ _ _ _).after h2))))

theorem execHeartbeat_meets (now : Now) (frame : PeerFrame) (s : State) :
    Meets (.heartbeat now frame) s (execHeartbeat now frame s) :=
  .ite
    (.next ((State.noteMode_moves _ _).after <| (State.onPair_moves _ _).after <| (State.linkFaultBegin_moves _ _).after <|
      (State.demote_moves _ _).after (State.noteFlags_moves _ _ s).alone))
    (.next (State.receive_moves _ _ _ _ _ s rfl fun _ _ => (State.takeContent_moves _ _ _).alone))

theorem execRecord_meets (now : Now) (frame : PeerFrame) (s : State) : Meets (.record now frame) s (execRecord now frame s) :=
  .next (State.receive_moves _ _ _ _ _ s rfl fun _ _ => (State.takeContent_moves _ _ _).alone)

theorem execRing_meets (now : Now) (frame : PeerFrame) (s : State) : Meets (.ring now frame) s (execRing now frame s) :=
  .next (State.receive_moves _ _ _ _ _ s rfl fun _ _ => (State.takeContent_moves _ _ _).alone)

theorem execPowerFail_meets (now : Now) (frame : PeerFrame) (s : State) :
    Meets (.powerFail now frame) s (execPowerFail now frame s) :=
  .next (State.receive_moves _ _ _ _ _ s rfl fun _ _ => (State.takeContent_moves _ _ _).alone)

theorem execSwitchFrame_meets (now : Now) (frame : PeerFrame) (s : State) :
    Meets (.switchFrame now frame) s (execSwitchFrame now frame s) :=
  .next (State.receive_moves _ _ _ _ _ s rfl fun _ _ => (State.takeContent_moves _ _ _).alone)

theorem execSwitchDone_meets (now : Now) (frame : PeerFrame) (s : State) :
    Meets (.switchDone now frame) s (execSwitchDone now frame s) :=
  .next (State.receive_moves _ _ _ _ _ s rfl fun _ _ => (State.takeContent_moves _ _ _).alone)

theorem execPeerEvent_meets (now : Now) (frame : PeerFrame) (s : State) :
    Meets (.peerEvent now frame) s (execPeerEvent now frame s) :=
  .next (State.receive_moves _ _ _ _ _ s rfl fun _ _ => (State.takeContent_moves _ _ _).alone)

theorem execSyncEnd_meets (now : Now) (frame : PeerFrame) (s : State) : Meets (.syncEnd now frame) s (execSyncEnd now frame s) :=
  .next (State.receive_moves _ _ _ _ _ s rfl fun _ _ => (State.takeContent_moves _ _ _).alone)

theorem execAck_meets (now : Now) (frame : PeerFrame) (s : State) : Meets (.ack now frame) s (execAck now frame s) :=
  .ite (.next (State.offLink_moves _).alone) (.ite (.next (State.noteFlags_moves _ _ _).alone)
    (.next ((State.takeAck_moves _ _ _).after (State.noteFlags_moves _ _ _).alone)))

theorem execResend_meets (now : Now) (frame : PeerFrame) (s : State) : Meets (.resend now frame) s (execResend now frame s) :=
  .ite (.next (State.offLink_moves _).alone) (.ite (.next (State.noteFlags_moves _ _ _).alone)
    (.next ((State.sendAgain_moves _ _).after ((State.takeAck_moves _ _ _).after (State.noteFlags_moves _ _ _).alone))))

theorem execMovorFrameError_meets (now : Now) (seenSeq : Option Nat) (s : State) :
    Meets (.movorFrameError now seenSeq) s (execMovorFrameError now seenSeq s) := by
  unfold execMovorFrameError
  refine .ite (.next (State.offLink_moves _).alone) ?_
  extract_lets s1
  have h : Moves (Instr.movorFrameError now seenSeq).touches s s1 := (State.onPair_moves s _).alone
  split
  · exact .next h
  · exact .ite (.next h) (.next ((State.askMissing_moves _ _).after h))

theorem execFailed_meets (now : Now) (frame : PeerFrame) (s : State) : Meets (.failed now frame) s (execFailed now frame s) := by
  unfold execFailed
  extract_lets s1
  have h : Moves (Instr.failed now frame).touches s s1 := (State.onPair_moves _ _).after (State.noteFlags_moves _ _ _).alone
  exact .ite (.next (State.offLink_moves _).alone) (.next (.ite ((State.unpair_moves _).after h) h))

theorem execMovorLinkFault_meets (cause ageMs : Nat) (s : State) :
    Meets (.movorLinkFault cause ageMs) s (execMovorLinkFault cause ageMs s) :=
  .ite .still (.next ((State.linkFaultBegin_moves _ _).after (.ite (State.onPair_moves s _).alone (Moves.refl _ s))))

theorem execFramesStopped_meets (now : Now) (s : State) : Meets (.framesStopped now) s (execFramesStopped now s) :=
  .ite .still (.next ((State.onPair_moves _ _).after (State.linkFaultBegin_moves _ _).alone))

theorem execPeerLost_meets (now : Now) (peerOkLowMs quietMs : Nat) (s : State) :
    Meets (.peerLost now peerOkLowMs quietMs) s (execPeerLost now peerOkLowMs quietMs s) :=
  .ite .still (.next ((State.declare_moves _ _).after ((State.onPair_moves _ _).after (State.unpair_moves _).alone)))

theorem execUnmirroredActivation_meets (now : Now) (peerOkLowMs quietMs runMs : Nat) (s : State) :
    Meets (.unmirroredActivation now peerOkLowMs quietMs runMs) s (execUnmirroredActivation now peerOkLowMs quietMs runMs s) :=
  .ite .still (.next ((State.declare_moves _ _).after (.forCh _ _ (fun _ _ => (State.onCh_moves _ _ _).alone)
    ((State.jumpCounters_moves _).after ((State.onPair_moves _ _).after (State.unpair_moves _).alone)))))

theorem execPfHandoverTimeout_meets (now : Now) (s : State) : Meets (.pfHandoverTimeout now) s (execPfHandoverTimeout now s) :=
  .ite (.next (State.onPair_moves s _).alone) (.ite (.next (State.declare_moves _ _).alone) .still)

theorem execSwitchoverHandover_meets (now : Now) (upsets : List (Nat × Upset)) (s : State) :
    Meets (.switchoverHandover now upsets) s (execSwitchoverHandover now upsets s) := by
  unfold execSwitchoverHandover
  refine .ite .still ?_
  split
  · exact .ite (.next ((State.onPair_moves _ _).after (State.onPair_moves s _).alone)) .still
  · exact .ite (.next ((State.noteMode_moves _ _).after (State.handOver_moves _ _ _).alone)) .still

theorem execSwitchoverAbandoned_meets (now : Now) (s : State) :
    Meets (.switchoverAbandoned now) s (execSwitchoverAbandoned now s) :=
  .ite (.next (State.abandonSwitch_moves _ _).alone) .still

/-! ### Frames of the host link and its write buffer -/

theorem execRegRead_meets (now : Now) (frame : HostFrame) (s : State) : Meets (.regRead now frame) s (execRegRead now frame s) :=
  .next (State.takeFrame_moves _ _ _ _ _ s rfl fun _ _ => (State.readBehind_moves _ _ _ _).alone)

theorem execRegWrite_meets (now : Now) (frame : HostFrame) (s : State) : Meets (.regWrite now frame) s (execRegWrite now frame s) :=
  .next (State.takeFrame_moves _ _ _ _ _ s rfl fun _ _ => (State.postWrite_moves _ _ _ _).alone)

theorem execMemRead_meets (now : Now) (frame : HostFrame) (s : State) : Meets (.memRead now frame) s (execMemRead now frame s) :=
  .next (State.takeFrame_moves _ _ _ _ _ s rfl fun _ _ => (State.readBehind_moves _ _ _ _).alone)

theorem execMemWrite_meets (now : Now) (frame : HostFrame) (s : State) : Meets (.memWrite now frame) s (execMemWrite now frame s) :=
  .next (State.takeFrame_moves _ _ _ _ _ s rfl fun _ _ => (State.postWrite_moves _ _ _ _).alone)

theorem execProtocolReset_meets (now : Now) (hdr : Byte) (ffBytes : Nat) (s : State) :
    Meets (.protocolReset now hdr ffBytes) s (execProtocolReset now hdr ffBytes s) :=
  .ite .still (.ite (.next (State.wakeByFrame_moves _).alone) (.ite .still
    (.next (.ite ((State.linkReset_moves _ _ _).after (State.onPwr_moves s _).alone)
      ((State.countAborted_moves _).after (State.onPwr_moves s _).alone)))))

theorem execHostFrameAbort_meets (s : State) : Meets .hostFrameAbort s (execHostFrameAbort s) :=
  .next (.ite (State.countAborted_moves _).alone (Moves.refl _ s))

theorem execWriteBufferExecute_meets (now : Now) (s : State) : Meets (.writeBufferExecute now) s (execWriteBufferExecute now s) :=
  .ite (.next ((State.linkFinish_moves _).after (State.runHead_moves _ _).alone)) .still

theorem execUartBreak_meets (now : Now) (lenMs : Nat) (s : State) : Meets (.uartBreak now lenMs) s (execUartBreak now lenMs s) :=
  .ite .still (.next (State.linkReset_moves _ _ _).alone)

theorem execUartGapAbort_meets (gapUs : Nat) (s : State) : Meets (.uartGapAbort gapUs) s (execUartGapAbort gapUs s) :=
  .next (.ite (State.countAborted_moves _).alone (Moves.refl _ s))

/-! ### Register writes as rows -/

theorem execRegisterWrite_meets (now : Now) (address : Nat) (value : Word) (s : State) :
    Meets (.registerWrite now address value) s (execRegisterWrite now address value s) :=
  .next (State.asWrite_moves _ _ _ s (fun _ => rfl) (State.writeReg_moves _ _ _ _ _ (State.linkCmd_moves now)).alone)

theorem execChselWrite_meets (value : Word) (s : State) : Meets (.chselWrite value) s (execChselWrite value s) :=
  .next (State.asWrite_plain (State.chselWrite_moves _ _).alone)

theorem execChwEventsWrite_meets (value : Word) (s : State) : Meets (.chwEventsWrite value) s (execChwEventsWrite value s) :=
  .next (State.asWrite_plain (State.chwEventsWrite_moves _ _).alone)

theorem execChwCaptureCtrlWrite_meets (value : Word) (s : State) :
    Meets (.chwCaptureCtrlWrite value) s (execChwCaptureCtrlWrite value s) :=
  .next (State.asWrite_plain (State.captureWrite_moves _ _).alone)

theorem execHlDoorbell_meets (value : Word) (s : State) : Meets (.hlDoorbell value) s (execHlDoorbell value s) :=
  .next (State.asWrite_plain (State.doorbell_moves _ _).alone)

theorem execCreditReturn_meets (value : Word) (s : State) : Meets (.creditReturn value) s (execCreditReturn value s) :=
  .next (State.asWrite_plain (State.creditWrite_moves _ _).alone)

theorem execChal_meets (now : Now) (s : State) : Meets (.chal now) s (execChal now s) :=
  .next (State.asWrite_plain (State.challenge_moves _ _).alone)

theorem execUnlock_meets (now : Now) (s : State) : Meets (.unlock now) s (execUnlock now s) :=
  .next (State.asWrite_plain (State.unlockWrite_moves _ _).alone)

theorem execLock_meets (s : State) : Meets .lock s (execLock s) := .next (State.asWrite_plain (State.lockWrite_moves _).alone)

theorem execServiceIdleRelock_meets (now : Now) (s : State) : Meets (.serviceIdleRelock now) s (execServiceIdleRelock now s) :=
  .ite (.next ((State.hlRaise_moves _ _).after (State.lockWrite_moves _).alone)) .still

theorem execLockoutEnd_meets (now : Now) (s : State) : Meets (.lockoutEnd now) s (execLockoutEnd now s) :=
  .ite (.next (State.onHl_moves s _).alone) .still

/-! ### The fourteen counter reads (R8, R10) -/

theorem execMeasOverrunRead_meets (s : State) : Meets .measOverrunRead s (execMeasOverrunRead s) :=
  .next (State.readRow_moves' _ _ _ s rfl (State.onMeas_moves s _).alone)

theorem execRadTxqRead_meets (s : State) : Meets .radTxqRead s (execRadTxqRead s) :=
  .next (State.readRow_moves' _ _ _ s rfl (State.onRadio_moves s _).alone)

theorem execRadRxStatsRead_meets (s : State) : Meets .radRxStatsRead s (execRadRxStatsRead s) :=
  .next (State.readRow_moves' _ _ _ s rfl (State.onRadio_moves s _).alone)

theorem execSesActiveRead_meets (s : State) : Meets .sesActiveRead s (execSesActiveRead s) :=
  .next (State.readRow_moves' _ _ _ s rfl (State.onSess_moves s _).alone)

theorem execSesBusyRejectsRead_meets (s : State) : Meets .sesBusyRejectsRead s (execSesBusyRejectsRead s) :=
  .next (State.readRow_moves' _ _ _ s rfl (State.onSess_moves s _).alone)

theorem execAlcStatusRead_meets (s : State) : Meets .alcStatusRead s (execAlcStatusRead s) :=
  .next (State.readRow_moves' _ _ _ s rfl (State.onAlc_moves s _).alone)

theorem execMbusStatusRead_meets (s : State) : Meets .mbusStatusRead s (execMbusStatusRead s) :=
  .next (State.readRow_moves' _ _ _ s rfl (State.onMBus_moves s _).alone)

theorem execHlCrcErrorsRead_meets (s : State) : Meets .hlCrcErrorsRead s (execHlCrcErrorsRead s) :=
  .next (State.readRow_moves' _ _ _ s rfl (State.onHl_moves s _).alone)

theorem execHlStreamStatusRead_meets (s : State) : Meets .hlStreamStatusRead s (execHlStreamStatusRead s) :=
  .next (State.readRow_moves' _ _ _ s rfl (State.onHl_moves s _).alone)

theorem execMirCrcErrorsRead_meets (s : State) : Meets .mirCrcErrorsRead s (execMirCrcErrorsRead s) :=
  .next (State.readRow_moves' _ _ _ s rfl (State.onPair_moves s _).alone)

theorem execFltHoardCorrRead_meets (s : State) : Meets .fltHoardCorrRead s (execFltHoardCorrRead s) :=
  .next (State.readRow_moves' _ _ _ s rfl (State.onFlt_moves s _).alone)

theorem execFltHoardUncorrRead_meets (s : State) : Meets .fltHoardUncorrRead s (execFltHoardUncorrRead s) :=
  .next (State.readRow_moves' _ _ _ s rfl (State.onFlt_moves s _).alone)

theorem execFltSramParRead_meets (s : State) : Meets .fltSramParRead s (execFltSramParRead s) :=
  .next (State.readRow_moves' _ _ _ s rfl (State.onFlt_moves s _).alone)

theorem execFltDmrMismatchRead_meets (s : State) : Meets .fltDmrMismatchRead s (execFltDmrMismatchRead s) :=
  .next (State.readRow_moves' _ _ _ s rfl (State.onFlt_moves s _).alone)

/-! ### The commands of `MOD_COMMAND` (R456 to R458) -/

theorem execCommission_meets (now : Now) (tag arg : Nat) (s : State) :
    Meets (.commission now tag arg) s (execCommission now tag arg s) :=
  .next (State.hostCommand_own _ _ _ _ _ s (by decide) (by decide) rfl fun _ t => (State.cmdCommission_moves _ t).alone)

theorem execCommissionComplete_meets (now : Now) (s : State) :
    Meets (.commissionComplete now) s (execCommissionComplete now s) := by
  unfold execCommissionComplete
  extract_lets s1 s2
  have h : Moves (Instr.commissionComplete now).touches s s2 :=
    (State.commissionPair_moves _).after ((State.onImg_moves _ _).after (State.drain_moves s).alone)
  exact .ite .still (.next (.ite ((State.setResult_moves _ _).after h) h))

theorem execEnterShipping_meets (now : Now) (tag arg : Nat) (s : State) :
    Meets (.enterShipping now tag arg) s (execEnterShipping now tag arg s) :=
  .next (State.hostCommand_own _ _ _ _ _ s (by decide) (by decide) rfl fun _ t => (State.cmdShipping_moves _ t).alone)

theorem execWarmReset_meets (now : Now) (tag arg : Nat) (s : State) : Meets (.warmReset now tag arg) s (execWarmReset now tag arg s) :=
  .next (State.hostCommand_warm _ _ _ _).alone

theorem execLinkReset_meets (now : Now) (tag arg : Nat) (s : State) : Meets (.linkReset now tag arg) s (execLinkReset now tag arg s) :=
  .next (State.hostCommand_moves _ _ _ _ _ s rfl fun _ => rfl)

theorem execStartZeroCal_meets (now : Now) (tag arg : Nat) (s : State) :
    Meets (.startZeroCal now tag arg) s (execStartZeroCal now tag arg s) :=
  .next (State.hostCommand_own _ _ _ _ _ s (by decide) (by decide) rfl fun _ t => (State.cmdZeroCal_moves _ t).alone)

theorem execEnterTest_meets (now : Now) (tag arg : Nat) (s : State) : Meets (.enterTest now tag arg) s (execEnterTest now tag arg s) :=
  .next (State.hostCommand_own _ _ _ _ _ s (by decide) (by decide) rfl fun _ t => (State.cmdEnterTest_moves t).alone)

theorem execExitTest_meets (now : Now) (tag arg : Nat) (s : State) : Meets (.exitTest now tag arg) s (execExitTest now tag arg s) :=
  .next (State.hostCommand_own _ _ _ _ _ s (by decide) (by decide) rfl fun _ t => (State.cmdExitTest_moves t).alone)

theorem execDisplayFullRefresh_meets (now : Now) (tag arg : Nat) (s : State) :
    Meets (.displayFullRefresh now tag arg) s (execDisplayFullRefresh now tag arg s) :=
  .next (State.hostCommand_own _ _ _ _ _ s (by decide) (by decide) rfl fun _ t => (State.cmdRefresh_moves _ t).alone)

theorem execPlannedSwitchover_meets (now : Now) (tag arg : Nat) (s : State) :
    Meets (.plannedSwitchover now tag arg) s (execPlannedSwitchover now tag arg s) :=
  .next (State.hostCommand_own _ _ _ _ _ s (by decide) (by decide) rfl fun _ t => (State.cmdSwitchover_moves _ t).alone)

end Sys2Proof.Machine
end

section
/-! What every command answers, and the obligations that speak of every command (R4, R12). -/

set_option Elab.async false

namespace Sys2Proof.Machine

/-- What every command answers: a next state that differs in the groups of its entry in `Instr.touches` at most where its operands
name parts of the module, else the refusal (R12). -/
theorem exec_meets (i : Instr) (s : State) : Meets i s (exec i s) := by
  cases i with
  | vbusFail now sup => exact execVbusFail_meets now sup s
  | vbusOv now sup => exact execVbusOv_meets now sup s
  | pfFinalCommit now upsets => exact execPfFinalCommit_meets now upsets s
  | pfCommitLanded now sup => exact execPfCommitLanded_meets now sup s
  | vbusOk now sup => exact execVbusOk_meets now sup s
  | vbusReturn now sup upsets => exact execVbusReturn_meets now sup upsets s
  | holdExit now sup exit10us failedBanks card cardOut => exact execHoldExit_meets now sup exit10us failedBanks card cardOut s
  | storeFault now sup => exact execStoreFault_meets now sup s
  | vbatWarn now sup upsets => exact execVbatWarn_meets now sup upsets s
  | vbatNvwInhibit => exact execVbatNvwInhibit_meets s
  | vbatNvwRelease => exact execVbatNvwRelease_meets s
  | vbatSettLoss now => exact execVbatSettLoss_meets now s
  | cellLoadTest loadMv => exact execCellLoadTest_meets loadMv s
  | cellChargeCommit now sup => exact execCellChargeCommit_meets now sup s
  | hoardRecordWrite => exact execHoardRecordWrite_meets s
  | hoardScrub => exact execHoardScrub_meets s
  | settTrimWindow rootCycles => exact execSettTrimWindow_meets rootCycles s
  | rootFail now atStart straps sup => exact execRootFail_meets now atStart straps sup s
  | rootStartRetry started straps sup => exact execRootStartRetry_meets started straps sup s
  | watchdogExpiry now => exact execWatchdogExpiry_meets now s
  | sleepEntry now => exact execSleepEntry_meets now s
  | deepSleepEntry now => exact execDeepSleepEntry_meets now s
  | sleepWake now sources exit10us cardOut sup => exact execSleepWake_meets now sources exit10us cardOut sup s
  | deepSleepWake now sources exit10us failedBanks card cardOut sup =>
    exact execDeepSleepWake_meets now sources exit10us failedBanks card cardOut sup s
  | hostAddressMatch hdr vio => exact execHostAddressMatch_meets hdr vio s
  | uartWake lowUs edges vio => exact execUartWake_meets lowUs edges vio s
  | mbusStartBitWake => exact execMbusStartBitWake_meets s
  | holdHostIdle now => exact execHoldHostIdle_meets now s
  | holdDueDateWake now => exact execHoldDueDateWake_meets now s
  | wakePinEdge lowMs poweredMs highMs straps sup => exact execWakePinEdge_meets lowMs poweredMs highMs straps sup s
  | offEntry straps sup => exact execOffEntry_meets straps sup s
  | powerOn straps sup => exact execPowerOn_meets straps sup s
  | cardReadRetry byteIndex => exact execCardReadRetry_meets byteIndex s
  | imageDecision now card sup => exact execImageDecision_meets now card sup s
  | resetPinAssert now lowUs => exact execResetPinAssert_meets now lowUs s
  | warmRestart now straps card sup => exact execWarmRestart_meets now straps card sup s
  | tick sup pins internalTemp => exact execTick_meets sup pins internalTemp s
  | settTickEdge sup pins internalTemp => exact execSettTickEdge_meets sup pins internalTemp s
  | degradedTickWake now sup pins internalTemp exit10us => exact execDegradedTickWake_meets now sup pins internalTemp exit10us s
  | tofSlot ch slot shot => exact execTofSlot_meets ch slot shot s
  | tdShortStopEnd ch => exact execTdShortStopEnd_meets ch s
  | lowQRecovery ch => exact execLowQRecovery_meets ch s
  | rtdSlot tc slot conv => exact execRtdSlot_meets tc slot conv s
  | stepClose ch upset => exact execStepClose_meets ch upset s
  | dmrMismatchReaction now => exact execDmrMismatchReaction_meets now s
  | stepOverrun ch => exact execStepOverrun_meets ch s
  | zeroTrackWindow ch => exact execZeroTrackWindow_meets ch s
  | calTrackCommit ch => exact execCalTrackCommit_meets ch s
  | pulseStart po now => exact execPulseStart_meets po now s
  | pulseEnd po now => exact execPulseEnd_meets po now s
  | valveMoveStart now => exact execValveMoveStart_meets now s
  | valveFeedbackSample now ch fbOpen fbClosed => exact execValveFeedbackSample_meets now ch fbOpen fbClosed s
  | valveTimeout now => exact execValveTimeout_meets now s
  | valveOvercurrent now => exact execValveOvercurrent_meets now s
  | valveOpenCoil now => exact execValveOpenCoil_meets now s
  | allocatorFreeze => exact execAllocatorFreeze_meets s
  | tamperEdge input opened => exact execTamperEdge_meets input opened s
  | movorCableLoss highMs => exact execMovorCableLoss_meets highMs s
  | rtcSecond => exact execRtcSecond_meets s
  | oscillatorStop => exact execOscillatorStop_meets s
  | halt now => exact execHalt_meets now s
  | haltRelease now => exact execHaltRelease_meets now s
  | haltAutoRelease now => exact execHaltAutoRelease_meets now s
  | rtcDateWrite value => exact execRtcDateWrite_meets value s
  | rtcTimeWrite value => exact execRtcTimeWrite_meets value s
  | rtcSlewWrite value => exact execRtcSlewWrite_meets value s
  | rtcTimeRead now => exact execRtcTimeRead_meets now s
  | rtcSecondsLoRead now => exact execRtcSecondsLoRead_meets now s
  | rtcDateRead now => exact execRtcDateRead_meets now s
  | rtcSecondsHiRead now => exact execRtcSecondsHiRead_meets now s
  | telegramOffer now offer => exact execTelegramOffer_meets now offer s
  | frameTransmit now => exact execFrameTransmit_meets now s
  | responseWindow now => exact execResponseWindow_meets now s
  | radioFrameReceived now since crcOk frame => exact execRadioFrameReceived_meets now since crcOk frame s
  | dutyBinAdvance now => exact execDutyBinAdvance_meets now s
  | sessionRequest now partner frame => exact execSessionRequest_meets now partner frame s
  | commandExecutionEnd now ctx => exact execCommandExecutionEnd_meets now ctx s
  | sessionReadyTimeout now ctx => exact execSessionReadyTimeout_meets now ctx s
  | sessionIdleTimeout now ctx => exact execSessionIdleTimeout_meets now ctx s
  | cmdStatus ctx => exact execCmdStatus_meets ctx s
  | cmdReadHoard ctx => exact execCmdReadHoard_meets ctx s
  | cmdValve now ctx => exact execCmdValve_meets now ctx s
  | cmdTopup now ctx => exact execCmdTopup_meets now ctx s
  | topupAnswer now ctx => exact execTopupAnswer_meets now ctx s
  | cmdSetTime now ctx => exact execCmdSetTime_meets now ctx s
  | cmdAdjustTime now ctx => exact execCmdAdjustTime_meets now ctx s
  | allocatorParse => exact execAllocatorParse_meets s
  | sndNke now address baud => exact execSndNke_meets now address baud s
  | secondarySelect now data baud => exact execSecondarySelect_meets now data baud s
  | reqUd1 now baud => exact execReqUd1_meets now baud s
  | reqUd2 now fcv fcb baud => exact execReqUd2_meets now fcv fcb baud s
  | sndUdRequest now frame baud => exact execSndUdRequest_meets now frame baud s
  | sndUdOther now baud => exact execSndUdOther_meets now baud s
  | baudSwitch now ci baud => exact execBaudSwitch_meets now ci baud s
  | mbusFrameError now => exact execMbusFrameError_meets now s
  | regRead now frame => exact execRegRead_meets now frame s
  | regWrite now frame => exact execRegWrite_meets now frame s
  | memRead now frame => exact execMemRead_meets now frame s
  | memWrite now frame => exact execMemWrite_meets now frame s
  | protocolReset now hdr ffBytes => exact execProtocolReset_meets now hdr ffBytes s
  | hostFrameAbort => exact execHostFrameAbort_meets s
  | writeBufferExecute now => exact execWriteBufferExecute_meets now s
  | uartBreak now lenMs => exact execUartBreak_meets now lenMs s
  | uartGapAbort gapUs => exact execUartGapAbort_meets gapUs s
  | registerWrite now address value => exact execRegisterWrite_meets now address value s
  | chselWrite value => exact execChselWrite_meets value s
  | chwEventsWrite value => exact execChwEventsWrite_meets value s
  | chwCaptureCtrlWrite value => exact execChwCaptureCtrlWrite_meets value s
  | hlDoorbell value => exact execHlDoorbell_meets value s
  | creditReturn value => exact execCreditReturn_meets value s
  | chal now => exact execChal_meets now s
  | unlock now => exact execUnlock_meets now s
  | lock => exact execLock_meets s
  | serviceIdleRelock now => exact execServiceIdleRelock_meets now s
  | lockoutEnd now => exact execLockoutEnd_meets now s
  | dmaStop value => exact execDmaStop_meets value s
  | dmaArm ch value => exact execDmaArm_meets ch value s
  | measOverrunRead => exact execMeasOverrunRead_meets s
  | radTxqRead => exact execRadTxqRead_meets s
  | radRxStatsRead => exact execRadRxStatsRead_meets s
  | sesActiveRead => exact execSesActiveRead_meets s
  | sesBusyRejectsRead => exact execSesBusyRejectsRead_meets s
  | alcStatusRead => exact execAlcStatusRead_meets s
  | mbusStatusRead => exact execMbusStatusRead_meets s
  | hlCrcErrorsRead => exact execHlCrcErrorsRead_meets s
  | hlStreamStatusRead => exact execHlStreamStatusRead_meets s
  | mirCrcErrorsRead => exact execMirCrcErrorsRead_meets s
  | fltHoardCorrRead => exact execFltHoardCorrRead_meets s
  | fltHoardUncorrRead => exact execFltHoardUncorrRead_meets s
  | fltSramParRead => exact execFltSramParRead_meets s
  | fltDmrMismatchRead => exact execFltDmrMismatchRead_meets s
  | commission now tag arg => exact execCommission_meets now tag arg s
  | commissionComplete now => exact execCommissionComplete_meets now s
  | enterShipping now tag arg => exact execEnterShipping_meets now tag arg s
  | warmReset now tag arg => exact execWarmReset_meets now tag arg s
  | linkReset now tag arg => exact execLinkReset_meets now tag arg s
  | startZeroCal now tag arg => exact execStartZeroCal_meets now tag arg s
  | zeroCalPhase => exact execZeroCalPhase_meets s
  | zeroCalEnd now => exact execZeroCalEnd_meets now s
  | enterTest now tag arg => exact execEnterTest_meets now tag arg s
  | exitTest now tag arg => exact execExitTest_meets now tag arg s
  | testTimeout => exact execTestTimeout_meets s
  | displayFullRefresh now tag arg => exact execDisplayFullRefresh_meets now tag arg s
  | plannedSwitchover now tag arg => exact execPlannedSwitchover_meets now tag arg s
  | dmaMove ch => exact execDmaMove_meets ch s
  | dmaLoop ch => exact execDmaLoop_meets ch s
  | dmaWait ch => exact execDmaWait_meets ch s
  | dmaSignal ch ack => exact execDmaSignal_meets ch ack s
  | dmaEnd ch ack => exact execDmaEnd_meets ch ack s
  | dmaBurst => exact execDmaBurst_meets s
  | dmaWaitComplete ch => exact execDmaWaitComplete_meets ch s
  | dmaWaitTimeout ch => exact execDmaWaitTimeout_meets ch s
  | dmaImageRestart ch sinceUs => exact execDmaImageRestart_meets ch sinceUs s
  | dmaDomainHoldTimeout ch heldUs => exact execDmaDomainHoldTimeout_meets ch heldUs s
  | displayEvaluation now => exact execDisplayEvaluation_meets now s
  | keyPress now lowMs => exact execKeyPress_meets now lowMs s
  | screenTimeout now => exact execScreenTimeout_meets now s
  | displayFrameBoundary now missedRows => exact execDisplayFrameBoundary_meets now missedRows s
  | railCheck now rails => exact execRailCheck_meets now rails s
  | railLockoutEnd now => exact execRailLockoutEnd_meets now s
  | panelTempMeasure ntc internal => exact execPanelTempMeasure_meets ntc internal s
  | heartbeatTimer now => exact execHeartbeatTimer_meets now s
  | hello now frame => exact execHello_meets now frame s
  | heartbeat now frame => exact execHeartbeat_meets now frame s
  | record now frame => exact execRecord_meets now frame s
  | ring now frame => exact execRing_meets now frame s
  | ack now frame => exact execAck_meets now frame s
  | resend now frame => exact execResend_meets now frame s
  | movorFrameError now seenSeq => exact execMovorFrameError_meets now seenSeq s
  | powerFail now frame => exact execPowerFail_meets now frame s
  | pfHandoverTimeout now => exact execPfHandoverTimeout_meets now s
  | failed now frame => exact execFailed_meets now frame s
  | switchFrame now frame => exact execSwitchFrame_meets now frame s
  | switchDone now frame => exact execSwitchDone_meets now frame s
  | peerEvent now frame => exact execPeerEvent_meets now frame s
  | syncEnd now frame => exact execSyncEnd_meets now frame s
  | movorLinkFault cause ageMs => exact execMovorLinkFault_meets cause ageMs s
  | peerLost now peerOkLowMs quietMs => exact execPeerLost_meets now peerOkLowMs quietMs s
  | unmirroredActivation now peerOkLowMs quietMs runMs => exact execUnmirroredActivation_meets now peerOkLowMs quietMs runMs s
  | switchoverHandover now upsets => exact execSwitchoverHandover_meets now upsets s
  | switchoverAbandoned now => exact execSwitchoverAbandoned_meets now s
  | movorCableRestored => exact execMovorCableRestored_meets s
  | framesStopped now => exact execFramesStopped_meets now s
  | storeSpent landed => exact execStoreSpent_meets landed s

/-- Settles O1: the step is `exec` of the front command by definition. -/
theorem stepRunsTheFrontCommand : Obligations.StepRunsTheFrontCommand := by
  unfold Obligations.StepRunsTheFrontCommand
  intro c rest s
  rfl

/-- Settles O3: `exec_meets` decides between a next state and the refusal by well-formedness. -/
theorem wellFormedCommandsComplete : Obligations.WellFormedCommandsComplete := by
  unfold Obligations.WellFormedCommandsComplete
  intro i s
  exact (exec_meets i s).completes

/-- A command that answers a next state moves the groups of its entry in `Instr.touches` at most and keeps the memories canonical. -/
theorem exec_moves {i : Instr} {s t : State} (h : exec i s = .next t) : Moves i.touches s t := (h ▸ exec_meets i s).moves

/-- Settles O4: the frame of `exec_moves`. -/
theorem everyCommandKeepsWhatItDoesNotTouch : Obligations.EveryCommandKeepsWhatItDoesNotTouch := by
  unfold Obligations.EveryCommandKeepsWhatItDoesNotTouch
  intro i s t h
  obtain ⟨hkeeps, -⟩ := exec_moves h
  exact hkeeps

end Sys2Proof.Machine
end

section
/-! What a WARM restart leaves in the fields that survive its decision (R97). -/

set_option Elab.async false

namespace Sys2Proof.Machine

/-! ### The groups that the decision of a start and the way into fail-silent change in part -/

/-- What a start's decision leaves in the supply group: what the reset has recorded, the straps and the supply. -/
structure Pwr.StartKeeps (p q : Pwr) : Prop where
  warmCause : q.warmCause = p.warmCause
  cause : q.cause = p.cause
  warmCount : q.warmCount = p.warmCount
  straps : q.straps = p.straps
  strapRole : q.strapRole = p.strapRole
  onCell : q.onCell = p.onCell

/-- The charge record fills its own fields (R66, R570). -/
theorem State.loadCharge_pwr (s : State) : s.pwr.StartKeeps s.loadCharge.pwr := by
  have h : (s.loadRec 0x100800 fun f => { f with otherLost := true }).2.2.pwr = s.pwr := (State.loadRec_moves _ _ s).same .pwr rfl
  unfold State.loadCharge
  dsimp only [State.onPwr_pwr]
  rw [h]
  split <;> exact ⟨rfl, rfl, rfl, rfl, rfl, rfl⟩

/-- `unconfMark` sets in the image group only that the entry is written. -/
theorem State.unconfMark_img (s : State) : ∃ b, s.unconfMark.img = { s.img with unconfLogged := b } := by
  unfold State.unconfMark
  split
  · exact ⟨_, rfl⟩
  · exact ⟨true, by rw [State.onImg_img, State.onset_img]⟩

/-- `unconfEnd` sets in the image group only that the entry has ended. -/
theorem State.unconfEnd_img (s : State) : ∃ b, s.unconfEnd.img = { s.img with unconfLogged := b } := by
  unfold State.unconfEnd
  split
  · exact ⟨false, by rw [State.onImg_img, State.ending_img]⟩
  · exact ⟨_, rfl⟩

/-- The mode of a start (R107, R97): UNCONFIGURED unless an image is accepted on a commissioned module, else what the supply gives. -/
def startMode (i : Img) (onCell : Bool) : OpMode :=
  if i.accepted && i.module_.commissioned then (if onCell then .backup else .normal) else .unconfigured

theorem startMode_eq (i : Img) (onCell : Bool) : startMode i onCell =
    if !(i.accepted && i.module_.commissioned) then .unconfigured else if onCell then .backup else .normal := by
  unfold startMode
  cases i.accepted && i.module_.commissioned <;> rfl

theorem startMode_congr {g i : Img} {onCell : Bool} (ha : g.accepted = i.accepted) (hm : g.module_ = i.module_) :
    startMode g onCell = startMode i onCell := by
  rw [startMode, startMode, ha, hm]

/-- The decision of a start leaves the module awaiting its first tick, in the mode of its image. -/
theorem State.decideStart_pwr (card : CardRead) (s : State) :
    s.pwr.StartKeeps (s.decideStart card id).pwr ∧ (s.decideStart card id).pwr.phase = .waiting ∧
      (s.decideStart card id).pwr.mode = startMode (s.decideStart card id).img s.pwr.onCell := by
  unfold State.decideStart
  extract_lets c s1 s2 s3 v s4 s5 ready s6 s7
  have h1 : s1.pwr = s.pwr := by
    simp only [s1, id_eq, State.onImg_pwr]
    exact (State.loadLog_moves s).same .pwr rfl
  have h2 : s2.pwr = s.pwr := by
    simp only [s2]
    split
    · exact h1
    · rw [State.event_pwr, h1]
  have h3 : s.pwr.StartKeeps s3.pwr := by
    have hm : s2.loadModule.pwr = s.pwr := ((State.loadModule_moves s2).same .pwr rfl).trans h2
    rw [← hm]
    exact State.loadCharge_pwr _
  clear_value v s3
  have h4 : s4.pwr = s3.pwr := by
    simp only [s4]
    split
    · rfl
    · exact ((State.putVerdict_moves _ _).same .pwr rfl).trans ((State.recordVerdict_moves _ _).same .pwr rfl)
  clear_value s4
  have h5 : s5.pwr = s3.pwr :=
    calc s5.pwr
      _ = s4.loadRecords.loadChans.startTariffs.pwr := (State.loadProgram_moves _).same .pwr rfl
      _ = s4.loadRecords.loadChans.pwr := (State.startTariffs_moves _).same .pwr rfl
      _ = s4.loadRecords.pwr := (State.loadChans_moves _).same .pwr rfl
      _ = s4.pwr := (State.loadRecords_moves _).same .pwr rfl
      _ = s3.pwr := h4
  clear_value s5
  have hkeep : s.pwr.StartKeeps s6.pwr := by
    simp only [s6, State.onPwr_pwr, State.onImg_pwr, h5]
    exact ⟨h3.warmCause, h3.cause, h3.warmCount, h3.straps, h3.strapRole, h3.onCell⟩
  have hphase : s6.pwr.phase = .waiting := by simp only [s6, State.onPwr_pwr]
  have hmode (g : Img) (ha : g.accepted = s6.img.accepted) (hm : g.module_ = s6.img.module_) :
      s6.pwr.mode = startMode g s.pwr.onCell := by
    rw [startMode_congr ha hm, ← h3.onCell, ← h5]
    exact (startMode_eq s5.img s5.pwr.onCell).symm
  have h7 : s7.pwr = s6.pwr ∧ s7.img = s6.img := by
    simp only [s7]
    split
    · exact ⟨State.onDisp_pwr _ _, State.onDisp_img _ _⟩
    · exact ⟨rfl, rfl⟩
  obtain ⟨h7p, h7i⟩ := h7
  split
  · obtain ⟨b, hb⟩ := s7.unconfEnd_img
    rw [show s7.unconfEnd.pwr = s6.pwr from ((State.unconfEnd_moves _).same .pwr rfl).trans h7p, hb, h7i]
    exact ⟨hkeep, hphase, hmode _ rfl rfl⟩
  · obtain ⟨b, hb⟩ := s7.unconfMark_img
    rw [State.onRadio_pwr, State.onRadio_img,
      show s7.unconfMark.pwr = s6.pwr from ((State.unconfMark_moves _).same .pwr rfl).trans h7p, hb, h7i]
    exact ⟨hkeep, hphase, hmode _ rfl rfl⟩

/-- Going fail-silent sets three fields of the supply group (R556). -/
theorem State.goFailSilent_pwr (cause ms : Nat) (s : State) : ∃ silent why ok, (s.goFailSilent cause ms).pwr = { s.pwr with
    failSilent := silent, failCause := why, peerOkOut := ok } := by
  unfold State.goFailSilent
  split
  · exact ⟨_, _, _, rfl⟩
  · extract_lets s1 s2
    have h : s2.pwr = s.pwr :=
      calc s2.pwr
        _ = (s1.silence.dispStop ms).pwr := State.event_pwr _ _ _ _
        _ = s1.silence.pwr := (State.dispStop_moves _ _).same .pwr rfl
        _ = s1.pwr := (State.silence_moves _).same .pwr rfl
        _ = (s.interruptMove ms 1).calAbort.endTest.pwr := (State.dropPulses_moves _ _).same .pwr rfl
        _ = (s.interruptMove ms 1).calAbort.pwr := (State.endTest_moves _).same .pwr rfl
        _ = (s.interruptMove ms 1).pwr := (State.calAbort_moves _).same .pwr rfl
        _ = s.pwr := (State.interruptMove_moves _ _ _).same .pwr rfl
    exact ⟨_, _, _, by rw [State.onPair_pwr, State.onPwr_pwr, h]⟩

/-- The end of a zero calibration leaves the tick count and the channel that the host has selected. -/
theorem State.calAbort_tick_and_chsel (s : State) : s.calAbort.meas.tick = s.meas.tick ∧ s.calAbort.meas.chsel = s.meas.chsel := by
  unfold State.calAbort
  split
  · exact ⟨rfl, rfl⟩
  · have h : (s.calOver.forCh s.meas.calChans fun n t => t.calResult n 7).meas = s.calOver.meas :=
      (Moves.forCh _ _ (fun _ _ => State.calResult_moves _ _ _) (Moves.refl _ s.calOver)).same .meas rfl
    rw [h]
    exact ⟨rfl, rfl⟩

/-- Going fail-silent leaves the tick count and the channel that the host has selected. -/
theorem State.goFailSilent_tick_and_chsel (cause ms : Nat) (s : State) :
    (s.goFailSilent cause ms).meas.tick = s.meas.tick ∧ (s.goFailSilent cause ms).meas.chsel = s.meas.chsel := by
  unfold State.goFailSilent
  split
  · exact ⟨rfl, rfl⟩
  · extract_lets s1 s2
    have h2 : s2.meas = (s.interruptMove ms 1).calAbort.endTest.meas :=
      calc s2.meas
        _ = (s1.silence.dispStop ms).meas := State.event_meas _ _ _ _
        _ = s1.silence.meas := (State.dispStop_moves _ _).same .meas rfl
        _ = s1.meas := (State.silence_moves _).same .meas rfl
        _ = (s.interruptMove ms 1).calAbort.endTest.meas := (State.dropPulses_moves _ _).same .meas rfl
    have h0 : (s.interruptMove ms 1).meas = s.meas := (State.interruptMove_moves _ _ _).same .meas rfl
    rw [State.onPair_meas, State.onPwr_meas, h2, ← h0]
    exact State.calAbort_tick_and_chsel _

/-- A lost TOTALS record sets in the supply group what going fail-silent sets (R556). -/
theorem State.lostTotals_pwr (was ms : Nat) (s : State) : ∃ silent why ok, (s.lostTotals was ms).pwr = { s.pwr with
    failSilent := silent, failCause := why, peerOkOut := ok } := by
  unfold State.lostTotals
  split
  · exact State.goFailSilent_pwr _ _ _
  · exact ⟨_, _, _, rfl⟩

theorem State.lostTotals_tick_and_chsel (was ms : Nat) (s : State) :
    (s.lostTotals was ms).meas.tick = s.meas.tick ∧ (s.lostTotals was ms).meas.chsel = s.meas.chsel := by
  unfold State.lostTotals
  split
  · exact State.goFailSilent_tick_and_chsel _ _ _
  · exact ⟨rfl, rfl⟩

theorem State.noteMode_hl (old new : State) : ∃ events, (old.noteMode new).hl = { new.hl with events := events } := by
  unfold State.noteMode
  split <;> exact ⟨_, rfl⟩

/-- No channel of the engine runs after a reset (R95, R97). -/
theorem dc_run_of_reset {s : State} (h : s.dma = Dma.reset) (k : Nat) : (s.dc k).run = false := by
  have hk : s.dc k = DmaCh.reset := by
    simp only [State.dc, h, Dma.reset, vget, Vector.toArray_replicate, Array.getElem?_replicate]
    split <;> rfl
  rw [hk]
  rfl

/-! ### The restart -/

/-- What the decision of a WARM restart leaves in the supply group, in terms of the state held in the reset. -/
theorem State.warmDecided_pwr (now : Now) (straps : StrapLevels) (card : CardRead) (sup : Supplies) (c : Nat) (s : State) :
    let t := s.warmDecided now straps card sup c
    t.pwr.phase = .waiting ∧ t.pwr.warmCause = none ∧ t.pwr.cause = 2 ^ c ∧ t.pwr.warmCount = s.pwr.warmCount ∧
      t.pwr.straps = straps ∧ t.pwr.strapRole = roleOf straps ∧ t.pwr.chargeUah = s.pwr.chargeUah ∧
      t.pwr.mode = startMode t.img s.pwr.onCell := by
  obtain ⟨hkeep, hphase, hmode⟩ := State.decideStart_pwr card ((s.afterWarm c straps).supplies sup)
  dsimp only [State.warmDecided]
  generalize ((s.afterWarm c straps).supplies sup).decideStart card id = d at hkeep hphase hmode ⊢
  exact ⟨hphase, hkeep.warmCause, hkeep.cause, hkeep.warmCount, hkeep.straps, hkeep.strapRole, rfl, hmode⟩

/-- A group that neither the supplies nor the decision of a start moves is as the reset left it. -/
theorem State.warmDecided_same (now : Now) (straps : StrapLevels) (card : CardRead) (sup : Supplies) (c : Nat) (s : State) (g : Group)
    (hg : [Group.hoard, .sram, .queue, .marks, .flt, .log, .pwr, .img, .chans, .bridge, .tamper, .pair, .radio, .sec, .disp].contains g =
      false) : g.same (s.afterWarm c straps) (s.warmDecided now straps card sup c) :=
  Moves.same ((State.onPair_moves _ _).after <| (State.onPwr_moves _ _).after <|
    (State.decideStart_moves _ _ _ fun t => Moves.refl _ t).after (State.supplies_moves _ _).alone) g hg

/-- Settles O40: each field through the decision, the way into fail-silent and the mode event. -/
theorem warmRestartResumes : Obligations.WarmRestartResumes := by
  unfold Obligations.WarmRestartResumes
  intro s now straps card sup c hp hc
  refine ⟨_, execWarmRestart_inReset now straps card sup hp hc, ?_⟩
  obtain ⟨hphase, hwarm, hcause, hcount, hstraps, hrole, hcharge, hmode⟩ := s.warmDecided_pwr now straps card sup c
  have hsame := fun g => s.warmDecided_same now straps card sup c g
  generalize s.warmDecided now straps card sup c = d at hphase hwarm hcause hcount hstraps hrole hcharge hmode hsame ⊢
  have hlost := fun g => (State.lostTotals_moves s.pwr.failCause now.ms d).same g
  obtain ⟨_, _, _, hpwr⟩ := d.lostTotals_pwr s.pwr.failCause now.ms
  obtain ⟨htick, hchsel⟩ := d.lostTotals_tick_and_chsel s.pwr.failCause now.ms
  generalize d.lostTotals s.pwr.failCause now.ms = e at hlost hpwr htick hchsel ⊢
  have himg : e.img = d.img := hlost .img rfl
  have hrtc : e.rtc = s.rtc.afterReset := (hlost .rtc rfl).trans (hsame .rtc rfl)
  have hdma : e.dma = Dma.reset := (hlost .dma rfl).trans (hsame .dma rfl)
  have hhl : e.hl = (s.afterWarm c straps).hl := (hlost .hl rfl).trans (hsame .hl rfl)
  have hmeas : d.meas = (s.afterWarm c straps).meas := hsame .meas rfl
  obtain ⟨_, hnote⟩ := State.noteMode_hl s e
  simp only [State.noteMode_pwr, State.noteMode_meas, State.noteMode_rtc, State.noteMode_img, hnote, himg, hrtc, hhl, htick, hchsel,
    hmeas, hpwr]
  exact ⟨hphase, hwarm, hcause, hcount, hstraps, hrole, rfl, rfl, rfl, hcharge, rfl, rfl, rfl, rfl, rfl,
    fun k _ => dc_run_of_reset (by rw [State.noteMode_dma, hdma]) k, hmode⟩

end Sys2Proof.Machine
end

section
/-! Rows of the host link that read or write one register, and the module as it leaves the factory (R8, R10, R11, R440, R453). -/

set_option Elab.async false

namespace Sys2Proof.Machine

/-- A read row that is served answers the register's word and leaves what the read leaves. -/
theorem State.readStill_served {s : State} (a : Nat) (hs : s.hostServed = true) (hb : s.linkBusy = false) :
    s.readStill a =
      (s.readReg a { cyc := 0, sub := 0, ms := 0 }).2.sendResponse 0 (le 4 (s.readReg a { cyc := 0, sub := 0, ms := 0 }).1) := by
  rw [State.readStill, State.readRow, if_neg (by simp [hs]), if_neg (by simp [hb])]

/-- Settles O14: each row is a read of its register, whose word and cleared fields `readReg` gives by its address. -/
theorem counterReadsAnswerAndClear : Obligations.CounterReadsAnswerAndClear := by
  unfold Obligations.CounterReadsAnswerAndClear
  intro s hs hb
  have row (a : Nat) : (.next (s.readStill a) : Out) = .next _ := congrArg _ (State.readStill_served a hs hb)
  exact ⟨row 0x108, row 0x2CC, row 0x2D0, row 0x2D4, row 0x2D8, row 0x2DC, row 0x2E0, row 0x388, row 0x394, row 0x30C, row 0x348,
    row 0x34C, row 0x350, row 0x354⟩

/-- REGISTER_WRITE that takes effect is the write of the register at its address. -/
theorem exec_registerWrite {s : State} {now : Now} {a : Nat} {v : Word} (h : s.takesWrite a = true) :
    exec (.registerWrite now a v) s = .next (s.writeReg (State.linkCmd now) a v now) :=
  congrArg Host.Outcome.next (asWrite_takes h)

/-- A write to an address that no register occupies, or to a register without a writable field, is ignored (R8, R11). -/
theorem State.writeReg_ignored (link : State → State) (v : Word) (now : Now) (s : State) :
    ∀ a ∈ [0x000, 0x010, 0x02C, 0x030, 0x080, 0x100, 0x2C0, 0x300, 0x340, 0x394, 0x03C, 0x054, 0x0E0, 0x260, 0x7FC],
      s.writeReg link a v now = s := by
  simp only [List.forall_mem_cons]
  exact ⟨rfl, rfl, rfl, rfl, rfl, rfl, rfl, rfl, rfl, rfl, rfl, rfl, rfl, rfl, rfl, List.forall_mem_nil _⟩

/-- Settles O21: each write is the arm of `writeReg` at its address. -/
theorem registerWritesClearSetOrAreIgnored : Obligations.RegisterWritesClearSetOrAreIgnored := by
  unfold Obligations.RegisterWritesClearSetOrAreIgnored
  intro s now v
  have row {a : Nat} (h : s.takesWrite a = true) := exec_registerWrite (now := now) (v := v) h
  refine ⟨row, row, row, row, row, row, row, row, row, row, row, row, row, fun a ha h => ?_⟩
  rw [row h, State.writeReg_ignored _ _ _ _ a ha]

/-- Settles O6: each field, and each word of the register file, as the reset gives it. -/
theorem resetIsTheFactoryModule : Obligations.ResetIsTheFactoryModule := by
  unfold Obligations.ResetIsTheFactoryModule
  exact ⟨rfl, rfl, rfl, rfl, ⟨rfl, rfl⟩, rfl, rfl, fun k _ => dc_run_of_reset rfl k, rfl, rfl, fun _ => ⟨rfl, rfl, rfl, rfl⟩⟩

end Sys2Proof.Machine
end

section
/-! What begins a reset or a start: the queue written out, the field pins released, the groups that a COLD start begins with
(R39, R95, R107). -/

set_option Elab.async false

namespace Sys2Proof.Machine

/-! ### The HOARD queue written out -/

theorem Mem.writeWords_queue (l : List (Nat × List Byte)) (m : Mem) : (l.foldl Mem.writeWord m).queue = m.queue := by
  induction l generalizing m with
  | nil => rfl
  | cons w t ih => exact ih (m.writeWord w)

/-- Writing out the head leaves the rest of the queue. -/
theorem Mem.writeHead_queue (m : Mem) : m.writeHead.queue = m.queue.tail := by
  unfold Mem.writeHead
  split
  · rename_i e
    rw [e, List.tail_nil]
  · rename_i r t e
    rw [Mem.writeWords_queue, e, List.tail_cons]

theorem Mem.drainN_queue (n : Nat) (m : Mem) : (Mem.drainN n m).queue = m.queue.drop n := by
  induction n generalizing m with
  | zero => rfl
  | succ k ih => rw [Mem.drainN, ih, Mem.writeHead_queue, List.drop_tail]

/-- A drain leaves no record waiting. -/
@[simp] theorem State.drain_queue (s : State) : s.drain.mem.queue = [] :=
  (Mem.drainN_queue _ _).trans List.drop_length

/-! ### The pulse outputs and the valve bridge -/

/-- Reading a pulse output after another value is put into one. -/
theorem State.out_setOut (s : State) (p : PulseOut) {j k : Nat} (hj : 1 ≤ j) (hk : 1 ≤ k) (hk8 : k ≤ 8) :
    (s.setOut j p).out k = if k = j then p else s.out k := by
  have hlt : k - 1 < 8 := by omega
  have hread (v : Vector PulseOut 8) : vget v (k - 1) PulseOut.reset = v[k - 1] := by simp [vget, hlt]
  rw [State.out, State.out, State.setOut_outs, hread, hread, Vector.getElem_setIfInBounds]
  by_cases h : k = j
  · rw [if_pos (by omega), if_pos h]
  · rw [if_neg (by omega), if_neg h]

/-- A pulse output stands open with nothing waiting (R39, R272). -/
def PulseOut.Idle (p : PulseOut) : Prop := p.closed = false ∧ p.waiting = []

/-- What `dropPulses` does to output k. -/
def State.dropPulsesAt (lost : Bool) (t : State) (k : Nat) : State :=
  (if lost && !(t.out k).waiting.isEmpty then t.event 0x71 0 (le 1 k ++ le 4 (t.out k).waiting.length) else t).setOut k
    { t.out k with closed := false, waiting := [], backlog := false }

theorem State.dropPulses_eq_foldl (lost : Bool) (s : State) :
    s.dropPulses lost = ((List.range 8).map (· + 1)).foldl (State.dropPulsesAt lost) s := rfl

theorem State.dropPulsesAt_out (lost : Bool) (t : State) {j k : Nat} (hj : 1 ≤ j) (hk : 1 ≤ k) (hk8 : k ≤ 8) :
    (t.dropPulsesAt lost j).out k = if k = j then { t.out j with closed := false, waiting := [], backlog := false } else t.out k := by
  rw [State.dropPulsesAt, State.out_setOut _ _ hj hk hk8]
  congr 1
  split
  · rw [State.out, State.event_outs, State.out]
  · rfl

/-- Every output is idle once its pulses are dropped (R272). -/
theorem State.dropPulses_idle (lost : Bool) (s : State) {k : Nat} (hk : 1 ≤ k) (hk8 : k ≤ 8) :
    ((s.dropPulses lost).out k).Idle := by
  have key (l : List Nat) (hl : ∀ j ∈ l, 1 ≤ j) (t : State) (ht : k ∈ l ∨ (t.out k).Idle) :
      ((l.foldl (State.dropPulsesAt lost) t).out k).Idle := by
    induction l generalizing t with
    | nil => exact ht.resolve_left List.not_mem_nil
    | cons j l ih =>
      refine ih (fun i hi => hl i (List.mem_cons_of_mem j hi)) _ ?_
      rw [State.dropPulsesAt_out lost t (hl j List.mem_cons_self) hk hk8]
      split
      · exact .inr ⟨rfl, rfl⟩
      · rename_i hkj
        exact ht.imp_left fun h => (List.mem_cons.mp h).resolve_left hkj
  rw [State.dropPulses_eq_foldl]
  exact key _ (by simp) s (.inl (List.mem_map.mpr ⟨k - 1, List.mem_range.mpr (by omega), by omega⟩))

/-- An interrupted move leaves the bridge idle (R280). -/
theorem State.interruptMove_moving (ms flag : Nat) (s : State) : (s.interruptMove ms flag).bridge.moving = none := by
  unfold State.interruptMove
  split
  · assumption
  · rfl

/-! ### The COLD start -/

/-- The beginning of a COLD start with the given bits of `RESET_CAUSE` (R95, R103, R107, R346): what t is, begun from s. -/
structure State.ColdBegun (cause : Nat) (straps : StrapLevels) (s t : State) : Prop where
  phase : t.pwr.phase = .reading
  state : t.pwr.state = .run
  mode : t.pwr.mode = .unconfigured
  cause : t.pwr.cause = cause + (if s.rtc.settLost then 4 else 0)
  straps : t.pwr.straps = straps
  rootOk : t.pwr.rootOk = true
  hoard : t.mem.hoard = s.mem.hoard
  queue : t.mem.queue = []
  sram : t.mem.sram = []
  service : t.hl.service = false
  chsel : t.meas.chsel = 1
  settLost : t.rtc.settLost = false
  osf : s.rtc.settLost = true → t.rtc.osf = true
  count : s.rtc.settLost = false → t.rtc.count = s.rtc.count

theorem State.coldStart_begun (cause : Nat) (straps : StrapLevels) (sup : Supplies) (s : State) :
    State.ColdBegun cause straps s (s.coldStart cause straps sup) := by
  unfold State.coldStart
  extract_lets lost s1 r s2 s3 s4
  have hlost : s.rtc.settLost = lost := rfl
  clear_value lost
  cases lost with
  | true => exact ⟨rfl, rfl, rfl, by rw [hlost]; rfl, rfl, rfl, rfl, rfl, rfl, rfl, rfl, rfl, fun _ => rfl, by simp [hlost]⟩
  | false => exact ⟨rfl, rfl, rfl, by rw [hlost]; rfl, rfl, rfl, rfl, rfl, rfl, rfl, rfl, hlost, by simp [hlost], fun _ => rfl⟩

/-- The fields in a row. -/
theorem State.ColdBegun.conj {cause : Nat} {straps : StrapLevels} {s t : State} (h : State.ColdBegun cause straps s t) :
    t.pwr.phase = .reading ∧ t.pwr.state = .run ∧ t.pwr.mode = .unconfigured ∧
      t.pwr.cause = cause + (if s.rtc.settLost then 4 else 0) ∧ t.pwr.straps = straps ∧ t.mem.hoard = s.mem.hoard ∧
      t.mem.queue = [] ∧ t.mem.sram = [] ∧ t.hl.service = false ∧ t.meas.chsel = 1 ∧ t.rtc.settLost = false ∧
      (s.rtc.settLost = true → t.rtc.osf = true) ∧ (s.rtc.settLost = false → t.rtc.count = s.rtc.count) :=
  ⟨h.phase, h.state, h.mode, h.cause, h.straps, h.hoard, h.queue, h.sram, h.service, h.chsel, h.settLost, h.osf, h.count⟩

/-- A COLD start is fed from the cell unless VBUS lies between its thresholds (R46). -/
theorem State.coldStart_onCell (cause : Nat) (straps : StrapLevels) (sup : Supplies) (s : State) :
    (s.coldStart cause straps sup).pwr.onCell = !decide (11300 ≤ sup.vbus ∧ sup.vbus ≤ 33000) := by
  unfold State.coldStart
  extract_lets lost
  clear_value lost
  cases lost <;> rfl

end Sys2Proof.Machine
end

section
/-! The causes of a WARM reset and of fail-silent (R35, R77, R95, R96, R257, R458, R556). -/

set_option Elab.async false

namespace Sys2Proof.Machine

/-! ### The beginning of a WARM reset -/

theorem Word.sat_eq_min (top v : Nat) : Word.sat top v = min top v := by
  unfold Word.sat
  split <;> omega

theorem Pwr.chargeTo_warmCount (ms : Nat) (p : Pwr) : (p.chargeTo ms).warmCount = p.warmCount := by
  unfold Pwr.chargeTo
  split <;> rfl

/-- t is held in the reset of WARM cause c, begun from s (R31, R39, R95, R97, R103). -/
def State.HeldInReset (c : Nat) (s t : State) : Prop :=
  t.pwr.phase = .inReset ∧ t.pwr.state = .run ∧ t.pwr.warmCause = some c ∧ t.pwr.warmTick = s.meas.tick ∧
    t.pwr.warmCount = min 255 (s.pwr.warmCount + 1) ∧ t.meas.tick = s.meas.tick ∧ t.meas.test = false ∧ t.pwr.peerOkOut = false ∧
    t.bridge.moving = none ∧ t.rtc = s.rtc ∧ ∀ k, 1 ≤ k → k ≤ 8 → (t.out k).closed = false ∧ (t.out k).waiting = []

/-- What a WARM cause does before the reset is entered: the field pins go to the states of R39 and a pairing ends; `cut` are the channels
whose zero calibration ends. -/
def State.warmPins (ms : Nat) (cut : List Nat) (s : State) : State :=
  ((((s.interruptMove ms 1).calAbort.dropPulses true).dispStop ms).onMeas fun m => { m with calCut := cut }).unpair

theorem State.warmPins_pwr (ms : Nat) (cut : List Nat) (s : State) : (s.warmPins ms cut).pwr = s.pwr :=
  Moves.same (gs := [.queue, .log, .meas, .chans, .outs, .bridge, .tamper, .pair, .radio, .disp])
    ((State.unpair_moves _).after <| (State.onMeas_moves _ _).after <| (State.dispStop_moves _ _).after <|
      (State.dropPulses_moves _ _).after <| (State.calAbort_moves _).after (State.interruptMove_moves ms 1 s).alone) .pwr rfl

theorem State.warmPins_tick (ms : Nat) (cut : List Nat) (s : State) : (s.warmPins ms cut).meas.tick = s.meas.tick := by
  rw [State.warmPins, show ∀ u : State, u.unpair.meas = u.meas from fun u => (State.unpair_moves u).same .meas rfl, State.onMeas_meas,
    show ∀ u : State, (u.dispStop ms).meas = u.meas from fun u => (State.dispStop_moves ms u).same .meas rfl,
    show ∀ u : State, (u.dropPulses true).meas = u.meas from fun u => (State.dropPulses_moves true u).same .meas rfl]
  exact (State.calAbort_tick_and_chsel _).1.trans (congrArg Meas.tick ((State.interruptMove_moves ms 1 s).same .meas rfl))

theorem State.warmPins_moving (ms : Nat) (cut : List Nat) (s : State) : (s.warmPins ms cut).bridge.moving = none := by
  have h : (s.warmPins ms cut).bridge = (s.interruptMove ms 1).bridge :=
    Moves.same (gs := [.queue, .log, .meas, .chans, .outs, .tamper, .pair, .radio, .disp])
      ((State.unpair_moves _).after <| (State.onMeas_moves _ _).after <| (State.dispStop_moves _ _).after <|
        (State.dropPulses_moves _ _).after (State.calAbort_moves _).alone) .bridge rfl
  rw [h, State.interruptMove_moving]

theorem State.warmPins_idle (ms : Nat) (cut : List Nat) (s : State) {k : Nat} (hk : 1 ≤ k) (hk8 : k ≤ 8) :
    ((s.warmPins ms cut).out k).Idle := by
  have h : (s.warmPins ms cut).outs = ((s.interruptMove ms 1).calAbort.dropPulses true).outs :=
    Moves.same (gs := [.queue, .log, .meas, .pair, .radio, .disp])
      ((State.unpair_moves _).after <| (State.onMeas_moves _ _).after (State.dispStop_moves _ _).alone) .outs rfl
  rw [State.out, h]
  exact State.dropPulses_idle true _ hk hk8

/-- The reset is entered: the supply group as `warmBegin` leaves it, and TEST ended (R97, R103). -/
def State.enterReset (cause ms tick : Nat) (gap : Bool) (s : State) : State :=
  ((s.enterState .run ms).onPwr fun p => { p with
    warmGap := gap, warmTick := tick, warmCause := some cause, phase := .inReset, peerOkOut := false,
    warmCount := Word.sat 255 (p.warmCount + 1), pfCommit := p.pfCommit || p.pfActive, wakes := [] }).endTest

/-- A WARM cause releases the pins and enters the reset; what follows writes out the commits that were held. -/
theorem State.warmBegin_enters (cause ms : Nat) (s : State) : ∃ cut gap,
    Moves [.hoard, .queue, .marks, .chans, .pair] ((s.warmPins ms cut).enterReset cause ms s.meas.tick gap) (s.warmBegin cause ms) := by
  unfold State.warmBegin State.enterReset State.warmPins
  extract_lets gap cut
  exact ⟨cut, gap, .ite ((State.drain_moves _).after (State.handOwed_moves _).alone) (State.handOwed_moves _).alone⟩

/-- A WARM cause that takes effect holds the module in reset. -/
theorem State.warmBegin_heldInReset (cause ms : Nat) (s : State) : s.HeldInReset cause (s.warmBegin cause ms) := by
  have hrtc : (s.warmBegin cause ms).rtc = s.rtc := (State.warmBegin_moves cause ms s).same .rtc rfl
  obtain ⟨cut, gap, hmoves⟩ := s.warmBegin_enters cause ms
  have hwpwr := s.warmPins_pwr ms cut
  have hwtick := s.warmPins_tick ms cut
  have hwmoving := s.warmPins_moving ms cut
  have hwidle := fun k => s.warmPins_idle ms cut (k := k)
  generalize s.warmPins ms cut = w at hmoves hwpwr hwtick hwmoving hwidle
  generalize s.warmBegin cause ms = t at hrtc hmoves ⊢
  have hpwr : t.pwr = (w.enterReset cause ms s.meas.tick gap).pwr := hmoves.same .pwr rfl
  have hcount : (w.enterReset cause ms s.meas.tick gap).pwr.warmCount = min 255 (s.pwr.warmCount + 1) := by
    show Word.sat 255 ((w.pwr.chargeTo ms).warmCount + 1) = _
    rw [Word.sat_eq_min, Pwr.chargeTo_warmCount, hwpwr]
  have hmeas : t.meas = { w.meas with test := false, testOver := false } := hmoves.same .meas rfl
  have hbridge : t.bridge = w.bridge := hmoves.same .bridge rfl
  have houts : t.outs = w.outs := hmoves.same .outs rfl
  refine ⟨by rw [hpwr]; rfl, by rw [hpwr]; rfl, by rw [hpwr]; rfl, by rw [hpwr]; rfl, by rw [hpwr, hcount],
    by rw [hmeas, hwtick], by rw [hmeas], by rw [hpwr]; rfl, by rw [hbridge, hwmoving], hrtc, fun k hk hk8 => ?_⟩
  rw [State.out, houts]
  exact hwidle k hk hk8

/-- The mode event leaves the module held. -/
theorem State.HeldInReset.noteMode {c : Nat} {s t : State} (old : State) (h : s.HeldInReset c t) : s.HeldInReset c (old.noteMode t) := by
  unfold State.noteMode
  split
  · exact h
  · exact h

/-- So does a stop of ROOT (R77). -/
theorem State.HeldInReset.rootStopped {c : Nat} {s t : State} (h : s.HeldInReset c t) :
    s.HeldInReset c (t.onPwr fun p => { p with rootOk := false, rootStopped := true }) := h

/-! ### Fail-silent -/

theorem State.failSilent_of_running {s : State} (h : s.running = true) : s.pwr.failSilent = false := by
  simp only [State.running, Bool.and_eq_true, Bool.not_eq_true'] at h
  exact h.2

@[simp] theorem State.noteMode_active (old new : State) : (old.noteMode new).active = new.active := by
  rw [State.active, State.noteMode_pwr, State.noteMode_pair, State.active]

/-- A member that was not fail-silent becomes so with a cause, passive, its bridge idle and PEER_OK_OUT deasserted (R556). -/
theorem State.goFailSilent_enters (cause ms : Nat) {s : State} (h : s.pwr.failSilent = false) :
    (s.goFailSilent cause ms).pwr.failSilent = true ∧ (s.goFailSilent cause ms).pwr.failCause = cause ∧
      (s.goFailSilent cause ms).active = false ∧ (s.goFailSilent cause ms).pwr.peerOkOut = false ∧
      (s.goFailSilent cause ms).bridge.moving = none := by
  rw [State.goFailSilent, if_neg (by simp [h])]
  extract_lets s1 s2
  have h2 : Moves [.queue, .log, .meas, .chans, .outs, .tamper, .pair, .radio, .mbus, .disp] (s.interruptMove ms 1) s2 :=
    (State.event_moves _ _ _ _).after <| (State.dispStop_moves _ _).after <| (State.silence_moves _).after <|
      (State.dropPulses_moves _ _).after <| (State.endTest_moves _).after (State.calAbort_moves _).alone
  refine ⟨rfl, rfl, rfl, rfl, ?_⟩
  rw [State.onPair_bridge, State.onPwr_bridge, show s2.bridge = (s.interruptMove ms 1).bridge from h2.same .bridge rfl,
    State.interruptMove_moving]

/-! ### The commands -/

/-- The state of DMR_MISMATCH_REACTION before it acts: the commits that agreed have landed (R257). -/
def State.mismatchTaken (s : State) : State := s.drain.onFlt fun f => { f with dmrPending := false }

/-- The state of a WARM_RESET that has its result and has not begun the reset (R456, R458). -/
def State.warmTaken (tag : Nat) (s : State) : State :=
  (s.onHl fun h => { h with arg := 0, taken := some (3, tag), running := true }).setResult 0

theorem hostCommand_warmReset {s : State} {tag : Nat} (now : Now) (h : s.takesCommand 3 tag 0 = true) :
    s.hostCommand 3 tag 0 now = s.noteMode ((s.warmTaken tag).warmBegin 6 now.ms) := by
  simp only [State.takesCommand, Bool.and_eq_true, Bool.not_eq_true', decide_eq_true_eq] at h
  obtain ⟨⟨⟨⟨⟨⟨⟨hserved, hbusy⟩, htag, harg⟩, hrun⟩, hpf⟩, hdeep⟩, hservice⟩, hnew⟩ := h
  have hown : ∀ arg t, State.ownCommand 3 arg now t = (some 0, t) := fun _ _ => rfl
  rw [hostCommand_own hserved hbusy htag harg hrun hpf hdeep hservice hnew (by decide) (.inr rfl)]
  simp only [hown, if_true, State.warmTaken]

/-- A repeated COLD start begins from ROOT's failure, with SETT_LOST also where the start that it repeats had it (R77). -/
theorem State.coldRepeat_cause (straps : StrapLevels) (sup : Supplies) (s : State) :
    (s.coldRepeat straps sup).pwr.cause = 128 + (if s.rtc.settLost || s.pwr.settNew then 4 else 0) := by
  rw [State.coldRepeat, State.onPwr_pwr, (State.coldStart_begun 128 straps sup s).cause]
  cases s.rtc.settLost <;> cases s.pwr.settNew <;> rfl

/-- Settles O39: every WARM cause begins its reset by `warmBegin`, a repeated COLD start is one of `coldStart`. -/
theorem warmCausesHoldTheModuleInReset : Obligations.WarmCausesHoldTheModuleInReset := by
  unfold Obligations.WarmCausesHoldTheModuleInReset
  refine ⟨?pin, ?watchdog, ?mismatch, ?command, ?root, ?cold, ?retry⟩
  case pin =>
    intro s now us hpow hdead
    refine ⟨fun hus hcause => ⟨_, if_neg ?_, State.warmBegin_heldInReset 3 now.ms s⟩, fun hno => if_pos ?_⟩
    · simp [hpow, hdead, hcause, hus]
    · exact hno.elim (fun h => .inr (.inl h)) fun h => .inr (.inr (.inr h))
  case watchdog =>
    intro s now hrun hstate
    have hexec : exec (.watchdogExpiry now) s = .next (s.noteMode (if s.paired then s.goFailSilent 3 now.ms else s.warmBegin 4 now.ms)) :=
      if_neg (by simp [hrun, hstate])
    rw [hexec]
    refine ⟨fun hsolo => ⟨_, rfl, ?_⟩, fun hpair => ⟨_, rfl, ?_⟩⟩
    · rw [if_neg (by simp [hsolo])]
      exact (State.warmBegin_heldInReset 4 now.ms s).noteMode s
    · rw [if_pos hpair, State.noteMode_pwr, State.noteMode_bridge, State.noteMode_active]
      exact State.goFailSilent_enters 3 now.ms (State.failSilent_of_running hrun)
  case mismatch =>
    intro s now hpend hpf hland
    have hexec : exec (.dmrMismatchReaction now) s = .next (s.noteMode (if s.paired then s.mismatchTaken.goFailSilent 1 now.ms
        else s.mismatchTaken.warmBegin 5 now.ms)) := if_neg (by simp [hpend, hpf, hland])
    rw [hexec]
    refine ⟨fun hsolo => ⟨_, rfl, ?_⟩, fun hpair hactive => ⟨_, rfl, ?_⟩⟩
    · rw [if_neg (by simp [hsolo]), State.noteMode_flt]
      exact ⟨congrArg Flt.dmrPending ((State.warmBegin_moves 5 now.ms _).same .flt rfl),
        (State.warmBegin_heldInReset 5 now.ms s.mismatchTaken).noteMode s⟩
    · obtain ⟨hsilent, hcause, hpassive, -, -⟩ := State.goFailSilent_enters 1 now.ms (s := s.mismatchTaken) hactive
      rw [if_pos hpair, State.noteMode_flt, State.noteMode_pwr, State.noteMode_active]
      exact ⟨congrArg Flt.dmrPending ((State.goFailSilent_moves 1 now.ms _).same .flt rfl), hsilent, hcause, hpassive⟩
  case command =>
    intro s now tag h
    refine ⟨_, congrArg Host.Outcome.next (hostCommand_warmReset now h),
      (State.warmBegin_heldInReset 6 now.ms (s.warmTaken tag)).noteMode s, ?_⟩
    obtain ⟨_, hnote⟩ := State.noteMode_hl s ((s.warmTaken tag).warmBegin 6 now.ms)
    rw [hnote, show ((s.warmTaken tag).warmBegin 6 now.ms).hl = (s.warmTaken tag).hl from (State.warmBegin_moves _ _ _).same .hl rfl]
    exact ⟨rfl, rfl, rfl⟩
  case root =>
    intro s now straps sup hpow
    refine ⟨fun hphase => ?_, fun hreset => ?_⟩
    · have hdead : s.pwr.phase ≠ .rootDead := by rintro h; simp [h] at hphase
      have hout : s.pwr.phase ≠ .inReset := by rintro h; simp [h] at hphase
      refine ⟨(s.warmBegin 7 now.ms).onPwr fun p => { p with rootOk := false, rootStopped := true }, ?_,
        (State.warmBegin_heldInReset 7 now.ms s).rootStopped, rfl⟩
      show execRootFail now false straps sup s = _
      simp [execRootFail, hpow, hdead, hout]
    · show execRootFail now false straps sup s = _
      simp [execRootFail, hpow, hreset, State.onPwr, Word.sat_eq_min]
  case cold =>
    intro s now straps sup hpow hphase
    have hexec : exec (.rootFail now true straps sup) s = .next ((s.coldRepeat straps sup).onPwr Pwr.rootFailed) := by
      show execRootFail now true straps sup s = _
      simp [execRootFail, hpow, hphase]
    have hcold := State.coldStart_begun 128 straps sup s
    refine ⟨_, hexec, rfl, rfl, s.coldRepeat_cause straps sup, hcold.straps, hcold.mode, hcold.hoard, hcold.queue, ?_⟩
    show (if 3 ≤ s.pwr.rootFails + 1 then Phase.rootDead else (s.coldStart 128 straps sup).pwr.phase) = _
    rw [hcold.phase]
    congr 1
    exact propext (by omega)
  case retry =>
    intro s straps sup hphase
    refine ⟨if_pos (.inr rfl), fun hwarm => ?_, fun hwarm => ?_⟩
    · show execRootStartRetry true straps sup s = _
      simp [execRootStartRetry, hphase, hwarm, State.onPwr]
    · have hexec : exec (.rootStartRetry true straps sup) s =
          .next ((s.coldRepeat straps sup).onPwr fun p => { p with rootFails := 0 }) := by
        show execRootStartRetry true straps sup s = _
        simp [execRootStartRetry, hphase, hwarm]
      have hcold := State.coldStart_begun 128 straps sup s
      exact ⟨_, hexec, hcold.rootOk, rfl, hcold.phase, hcold.straps, s.coldRepeat_cause straps sup, hcold.hoard⟩

end Sys2Proof.Machine
end

section
/-! What the members of a pair send each other leaves the rest of the pair group (R542, R546, R547). -/

set_option Elab.async false

namespace Sys2Proof.Machine

/-- From s to t the pair group differs at most in the frames sent and waiting and in the events kept for the next pairing. -/
def State.PairSends (s t : State) : Prop :=
  ∃ n l w e, t.pair = { s.pair with txSeq := n, store := l, waiting := w, peerEvents := e }

section
variable {s t u : State}

theorem State.PairSends.of_pair_eq (h : t.pair = s.pair) : s.PairSends t := ⟨_, _, _, _, h⟩

theorem State.PairSends.refl (s : State) : s.PairSends s := .of_pair_eq rfl

theorem State.PairSends.trans (h : s.PairSends t) (k : t.PairSends u) : s.PairSends u := by
  obtain ⟨_, _, _, _, h⟩ := h
  obtain ⟨n, l, w, e, k⟩ := k
  exact ⟨n, l, w, e, by rw [k, h]⟩

/-- An operation that does not move the pair group. -/
theorem State.PairSends.of_moves {gs : List Group} (h : Moves gs s t) (k : gs.contains .pair = false := by rfl) :
    s.PairSends t :=
  .of_pair_eq (h.same .pair k)

theorem State.PairSends.ite {c : Prop} [Decidable c] (h : s.PairSends t) (k : s.PairSends u) :
    s.PairSends (if c then t else u) := by
  split
  · exact h
  · exact k

theorem State.PairSends.foldl {α : Type} {f : State → α → State} (hf : ∀ (u : State) a, u.PairSends (f u a)) (l : List α) (s : State) :
    s.PairSends (l.foldl f s) := by
  induction l generalizing s with
  | nil => exact .refl s
  | cons a l ih => exact (hf s a).trans (ih _)

theorem State.PairSends.heardMs (h : s.PairSends t) : t.pair.heardMs = s.pair.heardMs := by
  obtain ⟨_, _, _, _, h⟩ := h
  rw [h]

end

/-! ### Frames, records and events -/

theorem State.send_pairSends (type : Nat) (payload : List Byte) (s : State) : s.PairSends (s.onPair (Pair.send type payload)) := by
  unfold State.PairSends
  rw [State.onPair_pair, Pair.send]
  split
  · exact ⟨_, _, _, _, rfl⟩
  · exact ⟨_, _, _, _, rfl⟩

theorem State.defer_pairSends (type : Nat) (payload : List Byte) (s : State) : s.PairSends (s.onPair (Pair.defer type payload)) :=
  ⟨_, _, _, _, rfl⟩

theorem State.mirror_pairSends (r : HoardRec) (s : State) : s.PairSends (s.mirror r) := by
  unfold State.mirror
  extract_lets a post s1
  have hpost (type : Nat) (payload : List Byte) (t : State) : t.PairSends (t.onPair (post type payload)) := by
    simp only [post]
    split
    · exact t.defer_pairSends type payload
    · exact t.send_pairSends type payload
  exact .ite (.refl s) (.ite ((hpost _ _ _).trans (hpost _ _ _)) (hpost _ _ _))

theorem State.enqueue_pairSends (r : HoardRec) (s : State) : s.PairSends (s.enqueue r) :=
  State.mirror_pairSends r (s.onMem fun m => { m with queue := m.queue ++ [r] })

theorem State.writeEvent_pairSends (time flags code ch : Nat) (data : List Byte) (s : State) :
    s.PairSends (s.writeEvent time flags code ch data) := by
  unfold State.writeEvent
  extract_lets e s1
  have h1 : s.PairSends s1 := .ite ⟨_, _, _, _, rfl⟩ (.refl s)
  exact .ite (s.send_pairSends 11 e) (h1.trans (State.enqueue_pairSends _ (s1.onLog fun l => { l with next := l.next + 1 })))

theorem State.rollHour_pairSends (s : State) : s.PairSends s.rollHour := by
  unfold State.rollHour
  exact .ite (.refl s) ((State.PairSends.foldl (fun _ _ => State.writeEvent_pairSends _ _ _ _ _ _) _ s).trans (.of_pair_eq rfl))

theorem State.onsetAt_pairSends (time flags code ch part : Nat) (hasEnd : Bool) (data : List Byte) (s : State) :
    s.PairSends (s.onsetAt time flags code ch part hasEnd data) := by
  unfold State.onsetAt
  extract_lets s1 n s2
  have h2 : s.PairSends s2 :=
    (State.PairSends.of_moves (State.alarmOnset_moves code ch data s)).trans ((State.rollHour_pairSends _).trans (.of_pair_eq rfl))
  exact .ite (h2.trans (State.writeEvent_pairSends _ _ _ _ _ s2)) (.ite (h2.trans (.of_pair_eq rfl)) h2)

theorem State.endAt_pairSends (time flags code ch part : Nat) (data : List Byte) (s : State) :
    s.PairSends (s.endAt time flags code ch part data) := by
  unfold State.endAt
  extract_lets s1
  have h1 : s.PairSends s1 := s.rollHour_pairSends
  exact .ite (h1.trans (.of_pair_eq rfl)) (h1.trans (State.writeEvent_pairSends _ _ _ _ _ s1))

theorem State.event_pairSends (code ch : Nat) (data : List Byte) (s : State) : s.PairSends (s.event code ch data) :=
  State.onsetAt_pairSends _ _ _ _ _ _ _ s

theorem State.change_pairSends (was is : Bool) (code ch part : Nat) (data : List Byte) (s : State) :
    s.PairSends (s.change was is code ch part data) :=
  .ite (State.onsetAt_pairSends _ _ _ _ _ _ _ s) (.ite (State.endAt_pairSends _ _ _ _ _ _ s) (.refl s))

theorem State.sensorDisc_pairSends (n sensor kind : Nat) (was is : Bool) (s : State) :
    s.PairSends (s.sensorDisc n sensor kind was is) :=
  .ite ((State.onsetAt_pairSends _ _ _ _ _ _ _ s).trans (.of_pair_eq rfl))
    (.ite ((State.endAt_pairSends _ _ _ _ _ _ s).trans (.of_pair_eq rfl)) (.refl s))

/-! ### A zero calibration, the pulses and the panel -/

theorem State.logFlow_pairSends (n : Nat) (f g : Flow) (qRaw : Rat) (s : State) : s.PairSends (s.logFlow n f g qRaw) := by
  unfold State.logFlow
  extract_lets c sig s1 s2 s3 s4 s5 s6 s7 s8 s9 s10 s11 s12
  have h3 : s.PairSends s3 :=
    ((State.change_pairSends _ _ _ _ _ _ s).trans (State.change_pairSends _ _ _ _ _ _ s1)).trans (State.sensorDisc_pairSends _ _ _ _ _ s2)
  have h8 : s3.PairSends s8 :=
    (State.change_pairSends _ _ _ _ _ _ s3).trans <| (State.change_pairSends _ _ _ _ _ _ s4).trans <|
      (State.change_pairSends _ _ _ _ _ _ s5).trans <| (State.change_pairSends _ _ _ _ _ _ s6).trans
        (State.change_pairSends _ _ _ _ _ _ s7)
  exact h3.trans <| h8.trans <| (State.change_pairSends _ _ _ _ _ _ s8).trans <| (State.change_pairSends _ _ _ _ _ _ s9).trans <|
    (State.change_pairSends _ _ _ _ _ _ s10).trans (State.change_pairSends _ _ _ _ _ _ s11)

theorem State.putFlow_pairSends (n : Nat) (g : Flow) (qRaw : Rat) (s : State) : s.PairSends (s.putFlow n g qRaw) :=
  State.logFlow_pairSends n _ g qRaw (s.onCh n fun c => { c with flow := (s.ch n).flow.raise g })

theorem State.calResult_pairSends (n result : Nat) (s : State) : s.PairSends (s.calResult n result) := by
  unfold State.calResult
  extract_lets c f k s0 g s1
  have h0 : s.PairSends s0 := .of_pair_eq rfl
  have h1 : s0.PairSends s1 :=
    .ite ((State.putFlow_pairSends _ _ _ s0).trans (State.enqueue_pairSends _ _)) (State.putFlow_pairSends _ _ _ s0)
  exact h0.trans (h1.trans (s1.event_pairSends _ _ _))

theorem State.calAbort_pairSends (s : State) : s.PairSends s.calAbort :=
  .ite (.refl s) ((State.PairSends.of_pair_eq rfl).trans (State.PairSends.foldl (fun _ _ => State.calResult_pairSends _ _ _) _ s.calOver))

theorem State.dropPulsesAt_pairSends (lost : Bool) (t : State) (k : Nat) : t.PairSends (t.dropPulsesAt lost k) := by
  unfold State.dropPulsesAt
  split
  · exact (t.event_pairSends _ _ _).trans (.of_pair_eq rfl)
  · exact .of_pair_eq rfl

theorem State.dropPulses_pairSends (lost : Bool) (s : State) : s.PairSends (s.dropPulses lost) :=
  .foldl (State.dropPulsesAt_pairSends lost) _ s

theorem State.dispStop_pairSends (ms : Nat) (s : State) : s.PairSends (s.dispStop ms) := by
  have h : s.PairSends (s.dispGiveUp (.cut ms) 0) := by
    unfold State.dispGiveUp
    extract_lets d mask want keys s1
    exact .ite (.refl s) (.ite (.of_pair_eq rfl) ((State.PairSends.of_pair_eq rfl).trans (s1.enqueue_pairSends _)))
  exact h.trans (.of_pair_eq rfl)

end Sys2Proof.Machine
end

section
/-! The decision of a start, Off and the restarts of the card read (R25, R82, R105, R107, R134, R556). -/

set_option Elab.async false

namespace Sys2Proof.Machine

/-! ### The decision -/

/-- A start up to its records restored: what it decides from (R107 steps 4 and 5). -/
def State.restored (card : CardRead) (logged : State → State) (s : State) : State :=
  let card := if s.img.unreadable ∧ card ≠ .noCard then .failed else card
  let s1 := logged (s.loadLog.onImg fun i => { i with cardPresent := decide (card ≠ .noCard) })
  let s2 := if s1.pwr.straps.role1 ∨ s1.pwr.straps.role0 then s1 else s1.event 0x03 0 (zeros 2)
  let s3 := s2.loadModule.loadCharge
  let s4 := if s3.flt.moduleLost then s3
    else
      let v := s3.decideCard card
      (s3.recordVerdict v).putVerdict v
  s4.loadRecords.loadChans.startTariffs.loadProgram

/-- Whether the module may run: an image is accepted and the module is commissioned (R107). -/
def Img.ready (i : Img) : Bool := i.accepted && i.module_.commissioned

/-- The image and the supply group at the end of a start; what it shows and logs follows (R107, R139, R141). -/
def State.readyFor (s : State) : State :=
  (s.onImg fun i => { i with restarts := 0, unreadable := false }).onPwr fun p => { p with
    phase := .waiting, rootFails := 0, rootOk := true,
    mode := if !s.img.ready then .unconfigured else if p.onCell then .backup else .normal }

/-- UNCONFIGURED is marked as begun or ended at the end of a start's decision (R141, R372). -/
def State.unconfNoted (ready : Bool) (count : Nat) (s : State) : State :=
  if ready then s.unconfEnd else s.unconfMark.onRadio fun r => { r with alarmAt := some (1000 * (count + 5)) }

/-- What the module shows and logs at the end of a start's decision (R139). -/
def State.startShown (count : Nat) (s : State) : State :=
  (if s.img.result = 4 then s.readyFor.onDisp fun d => { d with rom := 1, auditHold := true } else s.readyFor).unconfNoted s.img.ready count

theorem State.decideStart_eq (card : CardRead) (logged : State → State) (s : State) :
    s.decideStart card logged = (s.restored card logged).startShown s.rtc.count := by
  unfold State.decideStart State.restored
  extract_lets c s1 s2 s3 v s4 s5 ready s6 s7
  show _ = s5.startShown s.rtc.count
  clear_value s5
  rfl

/-- The mark sets nothing of the supply group, and of the image group only itself. -/
theorem State.unconfNoted_pwr_and_img (ready : Bool) (count : Nat) (s : State) : (s.unconfNoted ready count).pwr = s.pwr ∧
    ∃ b, (s.unconfNoted ready count).img = { s.img with unconfLogged := b } := by
  unfold State.unconfNoted
  split
  · exact ⟨(State.unconfEnd_moves s).same .pwr rfl, s.unconfEnd_img⟩
  · rw [State.onRadio_pwr, State.onRadio_img]
    exact ⟨(State.unconfMark_moves s).same .pwr rfl, s.unconfMark_img⟩

theorem State.startShown_pwr_and_img (count : Nat) (s : State) : (s.startShown count).pwr = s.readyFor.pwr ∧
    ∃ b, (s.startShown count).img = { s.readyFor.img with unconfLogged := b } := by
  unfold State.startShown
  split
  · exact State.unconfNoted_pwr_and_img s.img.ready count (s.readyFor.onDisp fun d => { d with rom := 1, auditHold := true })
  · exact State.unconfNoted_pwr_and_img s.img.ready count s.readyFor

/-- Restoring the records fills in the supply group what the charge record holds (R66, R570). -/
theorem State.restored_onCell (card : CardRead) {logged : State → State} (hlogged : ∀ t, (logged t).pwr = t.pwr) (s : State) :
    (s.restored card logged).pwr.onCell = s.pwr.onCell := by
  unfold State.restored
  extract_lets c s1 s2 s3 v s4
  have h1 : s1.pwr = s.pwr := by
    rw [show s1.pwr = _ from hlogged _, State.onImg_pwr]
    exact (State.loadLog_moves s).same .pwr rfl
  have h2 : s2.pwr = s.pwr := by
    simp only [s2]
    split
    · exact h1
    · rw [State.event_pwr, h1]
  have h3 : s.pwr.StartKeeps s3.pwr := by
    have hm : s2.loadModule.pwr = s.pwr := ((State.loadModule_moves s2).same .pwr rfl).trans h2
    rw [← hm]
    exact State.loadCharge_pwr _
  clear_value v s3
  have h4 : s4.pwr = s3.pwr := by
    simp only [s4]
    split
    · rfl
    · exact ((State.putVerdict_moves _ _).same .pwr rfl).trans ((State.recordVerdict_moves _ _).same .pwr rfl)
  clear_value s4
  have h5 : s4.loadRecords.loadChans.startTariffs.loadProgram.pwr = s4.pwr :=
    calc s4.loadRecords.loadChans.startTariffs.loadProgram.pwr
      _ = s4.loadRecords.loadChans.startTariffs.pwr := (State.loadProgram_moves _).same .pwr rfl
      _ = s4.loadRecords.loadChans.pwr := (State.startTariffs_moves _).same .pwr rfl
      _ = s4.loadRecords.pwr := (State.loadChans_moves _).same .pwr rfl
      _ = s4.pwr := (State.loadRecords_moves _).same .pwr rfl
  rw [h5, h4, h3.onCell]

/-- A start's decision whose own entry leaves the supply group ends the card read, its restarts counted no more, in the mode of its
image and of its supply (R105, R107). -/
theorem State.decideStart_decides (card : CardRead) {logged : State → State} (hlogged : ∀ t, (logged t).pwr = t.pwr) (s : State) :
    let t := s.decideStart card logged
    t.pwr.phase = .waiting ∧ t.pwr.rootFails = 0 ∧ t.img.restarts = 0 ∧ t.img.unreadable = false ∧ t.pwr.onCell = s.pwr.onCell ∧
      t.pwr.mode = startMode t.img s.pwr.onCell := by
  obtain ⟨hpwr, b, himg⟩ := State.startShown_pwr_and_img s.rtc.count (s.restored card logged)
  rw [State.decideStart_eq]
  have hcell := State.restored_onCell card hlogged s
  generalize s.restored card logged = u at hpwr himg hcell ⊢
  simp only [hpwr, himg, ← hcell]
  exact ⟨rfl, rfl, rfl, rfl, rfl, (startMode_eq _ _).symm⟩

/-- Going fail-silent leaves the instant of the peer's last frame: it logs events and sets the role. -/
theorem State.goFailSilent_heardMs (cause ms : Nat) (s : State) : (s.goFailSilent cause ms).pair.heardMs = s.pair.heardMs := by
  unfold State.goFailSilent
  split
  · rfl
  · extract_lets s1 s2
    have h1 : s.PairSends s1 :=
      (State.PairSends.of_moves (State.interruptMove_moves ms 1 s)).trans <| (State.calAbort_pairSends _).trans <|
        (State.PairSends.of_moves (State.endTest_moves _)).trans (State.dropPulses_pairSends true _)
    have h2 : s1.PairSends s2 :=
      (State.PairSends.of_moves (State.silence_moves s1)).trans <| (State.dispStop_pairSends ms _).trans (State.event_pairSends _ _ _ _)
    have hheard := (h1.trans h2).heardMs
    clear_value s2
    exact hheard

theorem State.lostTotals_heardMs (was ms : Nat) (s : State) : (s.lostTotals was ms).pair.heardMs = s.pair.heardMs := by
  unfold State.lostTotals
  split
  · exact State.goFailSilent_heardMs 2 ms s
  · rfl

/-- The state of a COLD start before a lost TOTALS record makes a member fail-silent: the card decided, and the time without a frame from
the peer begun. -/
def State.imageDecided (now : Now) (card : CardRead) (sup : Supplies) (s : State) : State :=
  (((s.supplies sup).onImg fun i => { i with unconfLogged := (s.supplies sup).mem.unconfOpen }).decideStart card
    fun t => t.event 0x01 0 (le 4 t.resetCause)).onPair fun p => { p with heardMs := now.ms }

theorem execImageDecision_reading (now : Now) (card : CardRead) (sup : Supplies) {s : State} (h : s.pwr.phase = .reading) :
    execImageDecision now card sup s = .next (s.noteMode ((s.imageDecided now card sup).lostTotals 0 now.ms)) :=
  if_neg (not_not.mpr h)

/-- What a COLD start's decision leaves, going fail-silent included. -/
theorem State.imageDecided_decides (now : Now) (card : CardRead) (sup : Supplies) (s : State) :
    let t := (s.imageDecided now card sup).lostTotals 0 now.ms
    t.pwr.phase = .waiting ∧ t.pwr.rootFails = 0 ∧ t.img.restarts = 0 ∧ t.img.unreadable = false ∧ t.pair.heardMs = now.ms ∧
      t.pwr.onCell = s.pwr.onCell ∧ t.pwr.mode = startMode t.img s.pwr.onCell := by
  obtain ⟨hphase, hfails, hrestarts, hreadable, hcell, hmode⟩ :=
    State.decideStart_decides card (logged := fun t => t.event 0x01 0 (le 4 t.resetCause)) (fun t => State.event_pwr t _ _ _)
      ((s.supplies sup).onImg fun i => { i with unconfLogged := (s.supplies sup).mem.unconfOpen })
  have hheard : (s.imageDecided now card sup).pair.heardMs = now.ms := rfl
  unfold State.imageDecided at hheard ⊢
  generalize State.decideStart card _ _ = d at hphase hfails hrestarts hreadable hcell hmode hheard ⊢
  have himg : ((d.onPair fun p => { p with heardMs := now.ms }).lostTotals 0 now.ms).img = d.img :=
    (State.lostTotals_moves _ _ _).same .img rfl
  obtain ⟨_, _, _, hpwr⟩ := State.lostTotals_pwr 0 now.ms (d.onPair fun p => { p with heardMs := now.ms })
  rw [State.onPair_pwr] at hpwr
  dsimp only
  rw [himg, hpwr, State.lostTotals_heardMs]
  exact ⟨hphase, hfails, hrestarts, hreadable, hheard, hcell, hmode⟩

/-! ### Off -/

/-- The module in Off (R82): as it leaves the factory, but for HOARD with its marks, the factory data and the inhibit. -/
def State.turnedOff (s : State) : State :=
  { State.reset with
    pending := s.pending, otp := s.otp, free := s.free, mem := { s.mem with sram := [], parity := [] },
    pwr := { Pwr.reset with nvInhibit := s.pwr.nvInhibit } }

theorem execOffEntry_enters {s : State} (straps : StrapLevels) (sup : Supplies) (hs : s.pwr.shipping = true) (hp : s.powered = true)
    (hl : s.canLand = true) : execOffEntry straps sup s =
      .next (if s.pwr.wakeHeld then s.drain.handOwed.drain.turnedOff.coldStart 2 straps sup else s.drain.handOwed.drain.turnedOff) :=
  if_neg (by simp [hs, hp, hl])

theorem wakeAnswered_iff (lowMs poweredMs highMs : Nat) :
    wakeAnswered lowMs poweredMs highMs = true ↔ 100 ≤ lowMs ∧ 100 ≤ poweredMs ∧ 10 ≤ highMs := by
  simp only [wakeAnswered, Bool.and_eq_true, decide_eq_true_eq, Nat.le_min, and_assoc]

/-- Settles O41: each COLD start is one of `coldStart`, Off is `turnedOff`, and the decision ends as `imageDecided_decides` says. -/
theorem coldStartsBeginAndOffIsEntered : Obligations.ColdStartsBeginAndOffIsEntered := by
  unfold Obligations.ColdStartsBeginAndOffIsEntered
  refine ⟨?power, ?inOff, ?wake, ?entry, ?retry, ?decision⟩
  case power =>
    intro s straps sup hstate hlow hhigh
    have hexec : exec (.powerOn straps sup) s = .next (s.coldStart 1 straps sup) :=
      if_neg (not_or.mpr ⟨by simp [hstate], by omega⟩)
    refine ⟨_, hexec, (State.coldStart_begun 1 straps sup s).conj, ?_⟩
    rw [State.coldStart_onCell, decide_eq_true ⟨hlow, hhigh⟩, Bool.not_true]
  case inOff =>
    intro s straps sup hstate hcell
    exact if_pos (.inl (by simp [hstate, hcell]))
  case wake =>
    intro s lowMs poweredMs highMs straps sup
    refine ⟨fun hlow hpow hhigh => ?_, fun hno => if_pos ?_⟩
    · have hans := (wakeAnswered_iff lowMs poweredMs highMs).mpr ⟨hlow, hpow, hhigh⟩
      refine ⟨fun hoff => ?_, fun hoff hship => ?_⟩
      · have hexec : exec (.wakePinEdge lowMs poweredMs highMs straps sup) s = .next (s.coldStart 2 straps sup) := by
          show execWakePinEdge _ _ _ straps sup s = _
          simp [execWakePinEdge, hans, hoff]
        exact ⟨_, hexec, (State.coldStart_begun 2 straps sup s).conj, State.coldStart_onCell 2 straps sup s⟩
      · have hexec : exec (.wakePinEdge lowMs poweredMs highMs straps sup) s =
            .next ((s.startSupply sup).onPwr fun p => { p with wakeHeld := true }) := by
          show execWakePinEdge _ _ _ straps sup s = _
          simp [execWakePinEdge, hans, hoff, hship]
        obtain ⟨hkeeps, -⟩ : Moves [.pwr] s ((s.startSupply sup).onPwr fun p => { p with wakeHeld := true }) :=
          (State.onPwr_moves _ _).after (State.startSupply_moves sup s).alone
        exact ⟨_, hexec, rfl, rfl, rfl, hkeeps⟩
    · have hans := (wakeAnswered_iff lowMs poweredMs highMs).not.mpr (by omega)
      simpa using hans
  case entry =>
    intro s straps sup hship hpow hland
    have hexec : exec (.offEntry straps sup) s = _ := execOffEntry_enters straps sup hship hpow hland
    have hqueue : s.drain.handOwed.drain.mem.queue = [] := State.drain_queue _
    have hotp : s.drain.handOwed.drain.otp = s.otp :=
      Moves.same (gs := [.hoard, .queue, .marks, .chans, .pair])
        ((State.drain_moves _).after ((State.handOwed_moves _).after (State.drain_moves s).alone)) .otp rfl
    rw [hexec]
    generalize s.drain.handOwed.drain = d at hqueue hotp ⊢
    refine ⟨fun hheld => ⟨_, rfl, ?_⟩, fun hheld => ⟨_, rfl, ?_⟩⟩
    · rw [if_neg (by simp [hheld])]
      exact ⟨rfl, rfl, hqueue, rfl, rfl, rfl, hotp⟩
    · have hcold := State.coldStart_begun 2 straps sup d.turnedOff
      rw [if_pos hheld]
      exact ⟨hcold.phase, hcold.state, hcold.cause, hcold.straps, hcold.osf rfl⟩
  case retry =>
    intro s k hphase
    show execCardReadRetry k s = _
    have hread : ¬ (s.pwr.phase ≠ .reading ∧ s.pwr.phase ≠ .inReset) := by tauto
    rw [execCardReadRetry, if_neg hread]
    split <;> rfl
  case decision =>
    intro s now card sup hphase
    refine ⟨_, execImageDecision_reading now card sup hphase, ?_⟩
    rw [State.noteMode_pwr, State.noteMode_img, State.noteMode_pair]
    exact State.imageDecided_decides now card sup s

end Sys2Proof.Machine
end

section
/-! The shared operations of the supply: the charge count and the mode event (R66, R468). -/

set_option Elab.async false

namespace Sys2Proof.Machine

/-- The charge count fills in its own fields (R66). -/
theorem Pwr.chargeTo_eq (ms : Nat) (p : Pwr) :
    ∃ uah nc, p.chargeTo ms = { p with chargeUah := uah, remNc := nc, chargeMs := ms } := by
  unfold Pwr.chargeTo
  split <;> exact ⟨_, _, rfl⟩

/-- A change of the supply group that leaves the mode, the power state and the role is no change of mode (R468). -/
theorem State.noteMode_supply {s t : State} (hkeeps : Keeps [.pwr] s t) (hmode : t.pwr.mode = s.pwr.mode)
    (hstate : t.pwr.state = s.pwr.state) (hphase : t.pwr.phase = s.pwr.phase) (hsilent : t.pwr.failSilent = s.pwr.failSilent)
    (hrole : t.pwr.strapRole = s.pwr.strapRole) : s.noteMode t = t := by
  have hmeas : t.meas = s.meas := hkeeps .meas (by decide)
  have hpair : t.pair = s.pair := hkeeps .pair (by decide)
  have hcode : s.modeCode = t.modeCode := by simp only [State.modeCode, hphase, hmode]
  have hdrives : s.drives = t.drives := by
    simp only [State.drives, State.active, State.normal, State.backup, State.running, hmode, hstate, hphase, hsilent, hrole, hpair]
  exact if_pos ⟨hcode, by rw [hmeas], hdrives⟩

@[simp] theorem State.noteMode_ch (old new : State) (n : Nat) : (old.noteMode new).ch n = new.ch n :=
  ch_congr (State.noteMode_chans new old)

end Sys2Proof.Machine
end

section
/-! Logging leaves the radio but for what the alarm entries keep (R371, R376). -/

set_option Elab.async false

namespace Sys2Proof.Machine

/-- From s to t the radio group differs at most in what the alarm entries keep. -/
def State.MarksAlarms (s t : State) : Prop := ∃ l, t.radio = { s.radio with alarms := l }

section
variable {s t u : State}

theorem State.MarksAlarms.of_radio_eq (h : t.radio = s.radio) : s.MarksAlarms t := ⟨s.radio.alarms, h⟩

theorem State.MarksAlarms.refl (s : State) : s.MarksAlarms s := .of_radio_eq rfl

theorem State.MarksAlarms.trans (h : s.MarksAlarms t) (k : t.MarksAlarms u) : s.MarksAlarms u := by
  obtain ⟨_, h⟩ := h
  obtain ⟨l, k⟩ := k
  exact ⟨l, by rw [k, h]⟩

/-- An operation that does not move the radio group. -/
theorem State.MarksAlarms.of_moves {gs : List Group} (h : Moves gs s t) (k : gs.contains .radio = false := by rfl) :
    s.MarksAlarms t :=
  .of_radio_eq (h.same .radio k)

theorem State.MarksAlarms.ite {c : Prop} [Decidable c] (h : s.MarksAlarms t) (k : s.MarksAlarms u) :
    s.MarksAlarms (if c then t else u) := by
  split
  · exact h
  · exact k

theorem State.MarksAlarms.foldl {α : Type} {f : State → α → State} (hf : ∀ (u : State) a, u.MarksAlarms (f u a)) (l : List α)
    (s : State) : s.MarksAlarms (l.foldl f s) := by
  induction l generalizing s with
  | nil => exact .refl s
  | cons a l ih => exact (hf s a).trans (ih _)

/-- What is sent and when a response is listened for stays. -/
theorem State.MarksAlarms.queue_and_window (h : s.MarksAlarms t) :
    t.radio.queue = s.radio.queue ∧ t.radio.window = s.radio.window := by
  obtain ⟨_, h⟩ := h
  rw [h]
  exact ⟨rfl, rfl⟩

end

theorem State.alarmOnset_marksAlarms (code ch : Nat) (data : List Byte) (s : State) : s.MarksAlarms (s.alarmOnset code ch data) := by
  unfold State.alarmOnset State.alarmMark
  split
  · exact .refl s
  · split
    · exact .refl s
    · exact ⟨_, rfl⟩

theorem State.onsetAt_marksAlarms (time flags code ch part : Nat) (hasEnd : Bool) (data : List Byte) (s : State) :
    s.MarksAlarms (s.onsetAt time flags code ch part hasEnd data) := by
  unfold State.onsetAt
  extract_lets s1 n s2
  have h2 : s.MarksAlarms s2 :=
    (State.alarmOnset_marksAlarms code ch data s).trans (.of_moves (gs := [.queue, .log, .pair])
      ((State.onLog_moves _ _).after (State.rollHour_moves _).alone))
  exact .ite (h2.trans (.of_moves (State.writeEvent_moves _ _ _ _ _ s2))) (.ite (h2.trans (.of_radio_eq rfl)) h2)

theorem State.event_marksAlarms (code ch : Nat) (data : List Byte) (s : State) : s.MarksAlarms (s.event code ch data) :=
  State.onsetAt_marksAlarms _ _ _ _ _ _ _ s

theorem State.change_marksAlarms (was is : Bool) (code ch part : Nat) (data : List Byte) (s : State) :
    s.MarksAlarms (s.change was is code ch part data) :=
  .ite (State.onsetAt_marksAlarms _ _ _ _ _ _ _ s) (.ite (.of_moves (State.ending_moves _ _ _ _ s)) (.refl s))

theorem State.sensorDisc_marksAlarms (n sensor kind : Nat) (was is : Bool) (s : State) :
    s.MarksAlarms (s.sensorDisc n sensor kind was is) :=
  .ite ((State.onsetAt_marksAlarms _ _ _ _ _ _ _ s).trans (.of_moves (State.onTamper_moves _ _)))
    (.ite (.of_moves (gs := [.queue, .log, .tamper, .pair]) ((State.onTamper_moves _ _).after (State.ending_moves _ _ _ _ s).alone))
      (.refl s))

theorem State.logFlow_marksAlarms (n : Nat) (f g : Flow) (qRaw : Rat) (s : State) : s.MarksAlarms (s.logFlow n f g qRaw) := by
  unfold State.logFlow
  extract_lets c sig s1 s2 s3 s4 s5 s6 s7 s8 s9 s10 s11 s12
  have h3 : s.MarksAlarms s3 :=
    ((State.change_marksAlarms _ _ _ _ _ _ s).trans (State.change_marksAlarms _ _ _ _ _ _ s1)).trans
      (State.sensorDisc_marksAlarms _ _ _ _ _ s2)
  have h8 : s3.MarksAlarms s8 :=
    (State.change_marksAlarms _ _ _ _ _ _ s3).trans <| (State.change_marksAlarms _ _ _ _ _ _ s4).trans <|
      (State.change_marksAlarms _ _ _ _ _ _ s5).trans <| (State.change_marksAlarms _ _ _ _ _ _ s6).trans
        (State.change_marksAlarms _ _ _ _ _ _ s7)
  exact h3.trans <| h8.trans <| (State.change_marksAlarms _ _ _ _ _ _ s8).trans <|
    (State.change_marksAlarms _ _ _ _ _ _ s9).trans <| (State.change_marksAlarms _ _ _ _ _ _ s10).trans
      (State.change_marksAlarms _ _ _ _ _ _ s11)

theorem State.putFlow_marksAlarms (n : Nat) (g : Flow) (qRaw : Rat) (s : State) : s.MarksAlarms (s.putFlow n g qRaw) :=
  State.logFlow_marksAlarms n _ g qRaw (s.onCh n fun c => { c with flow := (s.ch n).flow.raise g })

theorem State.calResult_marksAlarms (n result : Nat) (s : State) : s.MarksAlarms (s.calResult n result) := by
  unfold State.calResult
  extract_lets c f k s0 g s1
  have h1 : s0.MarksAlarms s1 :=
    .ite ((State.putFlow_marksAlarms _ _ _ s0).trans (.of_radio_eq (State.enqueue_radio _ _))) (State.putFlow_marksAlarms _ _ _ s0)
  exact (State.MarksAlarms.of_moves (State.onCh_moves s n _)).trans (h1.trans (s1.event_marksAlarms _ _ _))

theorem State.calAbort_marksAlarms (s : State) : s.MarksAlarms s.calAbort :=
  .ite (.refl s) ((State.MarksAlarms.of_moves (State.onMeas_moves s _)).trans
    (.foldl (fun _ _ => State.calResult_marksAlarms _ _ _) _ s.calOver))

theorem State.abandonSwitch_marksAlarms (cause : Nat) (s : State) : s.MarksAlarms (s.abandonSwitch cause) := by
  unfold State.abandonSwitch
  extract_lets s1
  have h1 : Moves [.pair] s s1 := (State.mirRaise_moves _ _).after (State.onPair_moves s _).alone
  exact .ite (.refl s) ((State.MarksAlarms.of_moves h1).trans (s1.event_marksAlarms _ _ _))

end Sys2Proof.Machine
end

section
/-! VBUS is lost: the power-fail sequence begins, or the loss is recorded (R43, R46, R51, R52, R57). -/

set_option Elab.async false

namespace Sys2Proof.Machine

theorem setBits_getLsbD {w : Word} {k : Nat} (mask : Nat) (h : w.getLsbD k = true) : (setBits w mask).getLsbD k = true := by
  rw [setBits, BitVec.getLsbD_or, h, Bool.true_or]

/-! ### The beginning of the sequence -/

/-- t0 of the power-fail sequence, recorded and logged (R51, R52, R306). -/
def State.pfMark (now : Now) (s : State) : State :=
  (s.onPwr fun p => { p with
    vbusOk := false, pfActive := true, pfStep := if s.disp.railsOn || s.disp.ramping then 2 else 3, pfAt := s.grid now.cyc,
    pfStoreBad := !s.pwr.storeRdy, pfCommit := false, storeWaived := false,
    events := setBits p.events 1 }).event 0x10 0 (le 2 s.pwr.vbusMv)

/-- What stops at t0 once the radio has: the valve, a zero calibration, the panel, HALT, a planned switchover and the pairs in progress
(R52, R342, R558). -/
def State.pfStops (ms : Nat) (bad : Bool) (s : State) : State :=
  ((((s.interruptMove ms 0).calAbort.dispPowerFail ms bad).onRtc Rtc.dropHalt).abandonSwitch 2).dropPairs

theorem State.pfBegin_eq (now : Now) (sup : Supplies) (s : State) : s.pfBegin now sup =
    ((s.pfMark now).pfRadio now.ms (!s.pwr.storeRdy)).pfStops now.ms (!s.pwr.storeRdy) := rfl

@[simp] theorem State.discardQueue_queue (s : State) : s.discardQueue.radio.queue = [] := by
  unfold State.discardQueue
  split
  · rename_i h
    exact List.isEmpty_iff.mp h
  · rfl

theorem State.pfRadio_queue_and_window (ms : Nat) (bad : Bool) (s : State) :
    (s.pfRadio ms bad).radio.queue = [] ∧ (s.pfRadio ms bad).radio.window = none :=
  ⟨State.discardQueue_queue _, rfl⟩

/-- A frame that is cut is recorded in `PWR_EVENTS`; nothing else of the supply group changes (R54, R72). -/
theorem State.pfRadio_pwr (ms : Nat) (bad : Bool) (s : State) : ∃ e, (s.pfRadio ms bad).pwr = { s.pwr with events := e } ∧
    (s.pwr.events.getLsbD 0 = true → e.getLsbD 0 = true) := by
  unfold State.pfRadio
  extract_lets s1
  rw [State.onRadio_pwr, show s1.discardQueue.pwr = s1.pwr from (State.discardQueue_moves s1).same .pwr rfl]
  simp only [s1]
  split
  · exact ⟨_, rfl, setBits_getLsbD 32⟩
  · exact ⟨_, rfl, id⟩

theorem State.pfStops_moves (ms : Nat) (bad : Bool) (s : State) :
    Moves [.sram, .queue, .marks, .log, .meas, .chans, .bridge, .tamper, .rtc, .pair, .radio, .disp] s (s.pfStops ms bad) :=
  (State.dropPairs_moves _).after <| (State.abandonSwitch_moves _ _).after <| (State.onRtc_moves _ _).after <|
    (State.dispPowerFail_moves _ _ _).after <| (State.calAbort_moves _).after (State.interruptMove_moves _ _ _).alone

theorem State.pfStops_moving (ms : Nat) (bad : Bool) (s : State) : (s.pfStops ms bad).bridge.moving = none := by
  have h : (s.pfStops ms bad).bridge = (s.interruptMove ms 0).bridge :=
    Moves.same (gs := [.sram, .queue, .marks, .log, .meas, .chans, .tamper, .rtc, .pair, .radio, .disp])
      ((State.dropPairs_moves _).after <| (State.abandonSwitch_moves _ _).after <| (State.onRtc_moves _ _).after <|
        (State.dispPowerFail_moves _ _ _).after (State.calAbort_moves _).alone) .bridge rfl
  rw [h, State.interruptMove_moving]

theorem State.pfStops_rtc (ms : Nat) (bad : Bool) (s : State) : (s.pfStops ms bad).rtc = s.rtc.dropHalt := by
  have hbefore : ((s.interruptMove ms 0).calAbort.dispPowerFail ms bad).rtc = s.rtc :=
    Moves.same (gs := [.sram, .queue, .marks, .log, .meas, .chans, .bridge, .tamper, .pair, .radio, .disp])
      ((State.dispPowerFail_moves _ _ _).after <| (State.calAbort_moves _).after (State.interruptMove_moves ms 0 s).alone) .rtc rfl
  have hafter (u : State) : (u.abandonSwitch 2).dropPairs.rtc = u.rtc :=
    Moves.same (gs := [.queue, .log, .chans, .pair, .radio])
      ((State.dropPairs_moves _).after (State.abandonSwitch_moves 2 u).alone) .rtc rfl
  rw [State.pfStops, hafter, State.onRtc_rtc, hbefore]

theorem State.pfStops_marksAlarms (ms : Nat) (bad : Bool) (s : State) : s.MarksAlarms (s.pfStops ms bad) :=
  (State.MarksAlarms.of_moves (State.interruptMove_moves ms 0 s)).trans <| (State.calAbort_marksAlarms _).trans <|
    (State.MarksAlarms.of_moves (State.dispPowerFail_moves ms bad _)).trans <|
      (State.MarksAlarms.of_moves (State.onRtc_moves _ _)).trans <| (State.abandonSwitch_marksAlarms 2 _).trans
        (.of_moves (State.dropPairs_moves _))

/-- No channel keeps a pair in progress (R52). -/
theorem State.pfStops_pairs (ms : Nat) (bad : Bool) (s : State) {n : Nat} (hn : 1 ≤ n) (hn40 : n ≤ 40) :
    ((s.pfStops ms bad).ch n).flow.first = none ∧ ((s.pfStops ms bad).ch n).temp.supConv = none := by
  rw [State.pfStops, State.dropPairs, forCh_map _ _ n hn hn40]
  exact ⟨rfl, rfl⟩

/-- What the beginning of the sequence sets in the supply group. -/
theorem State.pfBegin_pwr (now : Now) (sup : Supplies) (s : State) : ∃ e, (s.pfBegin now sup).pwr = { s.pwr with
    vbusOk := false, pfActive := true, pfStep := if s.disp.railsOn || s.disp.ramping then 2 else 3, pfAt := s.grid now.cyc,
    pfStoreBad := !s.pwr.storeRdy, pfCommit := false, storeWaived := false, events := e } ∧ e.getLsbD 0 = true := by
  obtain ⟨e, hpwr, hbit⟩ := (s.pfMark now).pfRadio_pwr now.ms (!s.pwr.storeRdy)
  refine ⟨e, ?_, hbit ?_⟩
  · rw [State.pfBegin_eq, (State.pfStops_moves _ _ _).same .pwr rfl, hpwr, State.pfMark, State.event_pwr]
    rfl
  · rw [State.pfMark, State.event_pwr]
    simp [setBits]

theorem State.pfBegin_queue_and_window (now : Now) (sup : Supplies) (s : State) :
    (s.pfBegin now sup).radio.queue = [] ∧ (s.pfBegin now sup).radio.window = none := by
  have hmarks :=
    State.pfStops_marksAlarms now.ms (!s.pwr.storeRdy) ((s.pfMark now).pfRadio now.ms (!s.pwr.storeRdy))
  obtain ⟨hqueue, hwindow⟩ := hmarks.queue_and_window
  rw [State.pfBegin_eq, hqueue, hwindow]
  exact State.pfRadio_queue_and_window _ _ _

theorem State.pfBegin_rtc (now : Now) (sup : Supplies) (s : State) : (s.pfBegin now sup).rtc = s.rtc.dropHalt := by
  have h : ((s.pfMark now).pfRadio now.ms (!s.pwr.storeRdy)).rtc = s.rtc :=
    ((State.pfRadio_moves _ _ _).same .rtc rfl).trans (State.event_rtc _ _ _ _)
  rw [State.pfBegin_eq, State.pfStops_rtc, h]

theorem State.pfBegin_moving (now : Now) (sup : Supplies) (s : State) : (s.pfBegin now sup).bridge.moving = none := by
  rw [State.pfBegin_eq, State.pfStops_moving]

theorem State.pfBegin_pairs (now : Now) (sup : Supplies) (s : State) {n : Nat} (hn : 1 ≤ n) (hn40 : n ≤ 40) :
    ((s.pfBegin now sup).ch n).flow.first = none ∧ ((s.pfBegin now sup).ch n).temp.supConv = none := by
  rw [State.pfBegin_eq]
  exact State.pfStops_pairs _ _ _ hn hn40

/-! ### The commands -/

/-- What VBUS_FAIL and VBUS_OV record before they handle the loss: q differs from p in the voltages, the flags of the supplies and
`PWR_EVENTS`. -/
structure Pwr.LossSeen (sup : Supplies) (p q : Pwr) : Prop where
  storeRdy : q.storeRdy = decide (26000 ≤ sup.store)
  mode : q.mode = p.mode
  state : q.state = p.state
  phase : q.phase = p.phase
  failSilent : q.failSilent = p.failSilent
  strapRole : q.strapRole = p.strapRole
  pfActive : q.pfActive = p.pfActive
  pfStep : q.pfStep = p.pfStep
  onCell : q.onCell = p.onCell
  holdReturn : q.holdReturn = p.holdReturn

theorem exec_vbusLost {now : Now} {sup : Supplies} {c : Instr} {s : State} (hc : c ∈ [Instr.vbusFail now sup, .vbusOv now sup])
    (hpow : s.powered = true) :
    ∃ p, s.pwr.LossSeen sup p ∧ exec c s = .next (s.noteMode (State.vbusLost now sup { s with pwr := p })) := by
  have hpowered : ¬ ((!s.powered) = true) := by simp [hpow]
  simp only [List.mem_cons, List.not_mem_nil, or_false] at hc
  obtain rfl | rfl := hc
  · exact ⟨(s.supplies sup).pwr, ⟨rfl, rfl, rfl, rfl, rfl, rfl, rfl, rfl, rfl, rfl⟩, if_neg hpowered⟩
  · exact ⟨{ ((s.supplies sup).pwrRaise 256).pwr with vbusOv := true }, ⟨rfl, rfl, rfl, rfl, rfl, rfl, rfl, rfl, rfl, rfl⟩,
      if_neg hpowered⟩

/-- Settles O30: on VBUS the loss is `pfBegin`; in the other two cases it sets flags of the supply group, which is no change of mode. -/
theorem vbusLossStartsThePowerFailSequence : Obligations.VbusLossStartsThePowerFailSequence := by
  unfold Obligations.VbusLossStartsThePowerFailSequence
  intro s now sup c hc hpow
  obtain ⟨p, seen, hexec⟩ := exec_vbusLost hc hpow
  rw [hexec]
  refine ⟨fun hidle hvbus => ?begins, fun hactive => ?runs, fun hidle hcell hstay => ?onCell⟩
  case begins =>
    have hlost : State.vbusLost now sup { s with pwr := p } = State.pfBegin now sup { s with pwr := p } := by
      rw [State.vbusLost, if_neg (by simp [seen.pfActive, hidle]), if_neg (by simp [seen.onCell, hvbus])]
    obtain ⟨e, hpwr, hbit⟩ := State.pfBegin_pwr now sup { s with pwr := p }
    obtain ⟨hqueue, hwindow⟩ := State.pfBegin_queue_and_window now sup { s with pwr := p }
    have hbad : (!p.storeRdy) = decide (sup.store < 26000) := by
      rw [seen.storeRdy, ← decide_not]
      exact decide_eq_decide.mpr (by omega)
    refine ⟨_, rfl, ?_⟩
    rw [hlost, State.noteMode_pwr, State.noteMode_bridge, State.noteMode_rtc, State.noteMode_radio, hpwr, State.pfBegin_rtc]
    refine ⟨rfl, rfl, rfl, rfl, hbad, seen.mode, hbit, State.pfBegin_moving _ _ _, rfl, hqueue, hwindow, fun n hn hn40 => ?_⟩
    rw [State.noteMode_ch]
    exact State.pfBegin_pairs _ _ _ hn hn40
  case runs =>
    have hlost : State.vbusLost now sup { s with pwr := p } = { s with pwr := { p with vbusOk := false } } :=
      if_pos (seen.pfActive.trans hactive)
    obtain ⟨hkeeps, -⟩ := Moves.pwr s { p with vbusOk := false }
    rw [hlost, State.noteMode_supply hkeeps seen.mode seen.state seen.phase seen.failSilent seen.strapRole]
    exact ⟨_, rfl, rfl, seen.pfActive.trans hactive, seen.pfStep, seen.mode, hkeeps⟩
  case onCell =>
    have hlost : State.vbusLost now sup { s with pwr := p } =
        { s with pwr := { p with vbusOk := false, storeWaived := false, holdReturn := false } } := by
      rw [State.vbusLost, if_neg (by simp [seen.pfActive, hidle]), if_pos (seen.onCell.trans hcell),
        if_neg (by simp [seen.holdReturn, hstay])]
      rfl
    obtain ⟨hkeeps, -⟩ := Moves.pwr s { p with vbusOk := false, storeWaived := false, holdReturn := false }
    rw [hlost, State.noteMode_supply hkeeps seen.mode seen.state seen.phase seen.failSilent seen.strapRole]
    exact ⟨_, rfl, rfl, seen.mode, seen.state, hkeeps⟩

end Sys2Proof.Machine
end

section
/-! The final commit of the power-fail sequence, and the change to the cell (R51, R52, R53, R57, R62). -/

set_option Elab.async false

namespace Sys2Proof.Machine

/-! ### Commits in the HOARD queue -/

theorem mem_allCh {n : Nat} : n ∈ allCh ↔ 1 ≤ n ∧ n ≤ 40 := by
  simp only [allCh, List.mem_map, List.mem_range]
  exact ⟨fun ⟨k, hk, e⟩ => by omega, fun h => ⟨n - 1, by omega, by omega⟩⟩

theorem State.mem_activeCh_range {s : State} {n : Nat} (h : n ∈ s.activeCh) : 1 ≤ n ∧ n ≤ 40 :=
  mem_allCh.mp (List.mem_of_mem_filter h)

theorem State.enqueue_queue (r : HoardRec) (s : State) : (s.enqueue r).mem.queue = s.mem.queue ++ [r] :=
  (State.mirror_moves r (s.onMem fun m => { m with queue := m.queue ++ [r] })).same .queue rfl

/-- A list of records joins the queue behind what is there. -/
theorem State.foldl_enqueue_queue (l : List HoardRec) (s : State) :
    (l.foldl (fun t r => t.enqueue r) s).mem.queue = s.mem.queue ++ l := by
  induction l generalizing s with
  | nil => exact (List.append_nil _).symm
  | cons r l ih => rw [List.foldl_cons, ih, State.enqueue_queue, List.append_assoc, List.singleton_append]

theorem State.foldl_enqueue_chans (l : List HoardRec) (s : State) : (l.foldl (fun t r => t.enqueue r) s).chans = s.chans :=
  (Moves.foldl _ l (fun u r => State.enqueue_moves r u) (Moves.refl _ s)).same .chans rfl

/-- A commit that is forced puts the channel's record and the ring entries behind it into the queue (R53, R168). -/
theorem State.commitStep_forced_queue (n : Nat) (entries : List HoardRec) (s : State) :
    (s.commitStep n true entries).mem.queue = s.mem.queue ++ totalsRec n (s.ch n).a :: ((s.ch n).behind ++ entries) := by
  rw [State.commitStep, if_neg (by simp), State.foldl_enqueue_queue, State.enqueue_queue, State.onCh_mem, List.append_assoc,
    List.singleton_append]

/-- A forced commit leaves every channel's totals. -/
theorem State.commitStep_forced_work {n m : Nat} (entries : List HoardRec) (s : State) (hn : 1 ≤ n ∧ n ≤ 40)
    (hm : 1 ≤ m ∧ m ≤ 40) :
    ((s.commitStep n true entries).ch m).a = (s.ch m).a := by
  rw [State.commitStep, if_neg (by simp), ch_congr ((State.foldl_enqueue_chans _ _).trans (State.enqueue_chans _ _)),
    ch_onCh s n m _ hn.1 hn.2 hm.1 hm.2]
  split
  · rename_i h
    rw [h]
  · rfl

/-- Forced commits of several channels put the record of each into the queue. -/
theorem State.forCh_commitStep_mem {n : Nat} (hn : 1 ≤ n ∧ n ≤ 40) {l : List Nat} (hl : ∀ m ∈ l, 1 ≤ m ∧ m ≤ 40)
    {w : Work} (s : State) (hw : (s.ch n).a = w) (h : n ∈ l ∨ totalsRec n w ∈ s.mem.queue) :
    totalsRec n w ∈ (s.forCh l fun m t => t.commitStep m true []).mem.queue := by
  induction l generalizing s with
  | nil => exact h.resolve_left List.not_mem_nil
  | cons m l ih =>
    refine ih (fun k hk => hl k (List.mem_cons_of_mem m hk)) (s.commitStep m true [])
      ((State.commitStep_forced_work [] s (hl m List.mem_cons_self) hn).trans hw) ?_
    rw [State.commitStep_forced_queue, List.mem_append, List.mem_cons]
    rcases h with h | h
    · rcases List.mem_cons.mp h with rfl | h
      · exact .inr (.inr (.inl (by rw [hw])))
      · exact .inl h
    · exact .inr (.inl h)

/-- Where no channel has a step to close, closing the steps of all channels changes nothing (R53). -/
theorem State.closeAll_of_closed {cyc : Nat} {s : State}
    (h : ∀ n ∈ s.activeCh.filter s.integrates, s.grid cyc ≤ (s.ch n).stepStart) (pf hold : Bool) (upsets : List (Nat × Upset)) :
    s.closeAll cyc pf hold upsets = s := by
  unfold State.closeAll
  extract_lets stop
  have hstop : s.grid cyc = stop := rfl
  clear_value stop
  rw [State.forCh]
  generalize s.activeCh.filter s.integrates = l at h
  induction l with
  | nil => rfl
  | cons n l ih =>
    rw [List.foldl_cons, if_pos (hstop ▸ h n List.mem_cons_self)]
    exact ih fun m hm => h m (List.mem_cons_of_mem n hm)

/-! ### PF_FINAL_COMMIT -/

/-- The final commit may be made (R51, R52): steps 1 to 3 have ended, or with the store faulted 1 ms has passed since t0. -/
theorem State.pfMayCommit_iff {now : Now} {s : State} (ha : s.pwr.pfActive = true) (hc : s.pwr.pfCommit = false) :
    s.pfMayCommit now = true ↔ if s.pwr.pfStoreBad then s.pwr.pfAt + 9600 ≤ s.grid now.cyc
      else s.radio.txEnd ≤ now.ms ∧ s.disp.darkAt ≤ now.ms := by
  rw [State.pfMayCommit, ha, hc]
  cases s.pwr.pfStoreBad <;> simp

/-- The commit of every channel's record, made at the commit instant (R53). -/
def State.pfCommitted (now : Now) (upsets : List (Nat × Upset)) (s : State) : State :=
  let idle := (s.activeCh.filter s.integrates).filter fun n => decide (s.grid now.cyc ≤ (s.ch n).stepStart)
  let s1 := s.closeAll now.cyc true false upsets
  if s.normal then s1.forCh idle fun n t => t.commitStep n true [] else s1

theorem execPfFinalCommit_commits {now : Now} (upsets : List (Nat × Upset)) {s : State} (h : s.pfMayCommit now = true) :
    execPfFinalCommit now upsets s = .next ((s.pfCommitted now upsets).onPwr fun p => { p with
      pfCommit := true, pfStep := if p.pfStoreBad then p.pfStep else 3 }) :=
  if_neg (by simp [h])

theorem State.pfCommitted_moves (now : Now) (upsets : List (Nat × Upset)) (s : State) :
    Moves [.queue, .flt, .log, .chans, .outs, .bridge, .tamper, .pair, .radio] s (s.pfCommitted now upsets) :=
  .ite (.forCh _ _ (fun _ _ => (State.commitStep_moves _ _ _ _).alone) (State.closeAll_moves _ _ _ _ _).alone)
    (State.closeAll_moves _ _ _ _ _).alone

/-- In NORMAL with no step to close the record of every channel that integrates is in the queue. -/
theorem State.pfCommitted_mem {now : Now} {s : State} {n : Nat} (hnormal : s.normal = true) (hn : n ∈ s.activeCh)
    (hint : s.integrates n = true) (hclosed : ∀ m, 1 ≤ m → m ≤ 40 → s.grid now.cyc ≤ (s.ch m).stepStart)
    (upsets : List (Nat × Upset)) : totalsRec n (s.ch n).a ∈ (s.pfCommitted now upsets).mem.queue := by
  have hrange (m : Nat) (hm : m ∈ s.activeCh.filter s.integrates) : 1 ≤ m ∧ m ≤ 40 :=
    State.mem_activeCh_range (List.mem_of_mem_filter hm)
  have hall (m : Nat) (hm : m ∈ s.activeCh.filter s.integrates) : s.grid now.cyc ≤ (s.ch m).stepStart :=
    hclosed m (hrange m hm).1 (hrange m hm).2
  have hmem : n ∈ s.activeCh.filter s.integrates := List.mem_filter.mpr ⟨hn, hint⟩
  rw [State.pfCommitted, State.closeAll_of_closed hall, if_pos hnormal]
  exact State.forCh_commitStep_mem (hrange n hmem) (fun m hm => hrange m (List.mem_of_mem_filter hm)) s rfl
    (.inl (List.mem_filter.mpr ⟨hmem, decide_eq_true (hall n hmem)⟩))

/-! ### PF_COMMIT_LANDED -/

/-- The state when the final commit has landed, held commits included, and a READY peer has been told (R52, R168, R554). -/
def State.pfLanded (now : Now) (sup : Supplies) (s : State) : State :=
  ((s.supplies sup).drain.handOwed).drain.clearHeld.pfHandOver now.ms

theorem execPfCommitLanded_lands {now : Now} {sup : Supplies} {s : State} (ha : s.pwr.pfActive = true) (hc : s.pwr.pfCommit = true)
    (hl : s.canLand = true) : execPfCommitLanded now sup s = .next (s.noteMode (
      if (s.pfLanded now sup).pwr.cellPresent then (s.pfLanded now sup).toCell now.ms
      else (s.pfLanded now sup).onPwr fun p => { p with pfStep := 5 })) :=
  if_neg (by simp [ha, hc, hl])

theorem State.pfLanded_pwr (now : Now) (sup : Supplies) (s : State) : (s.pfLanded now sup).pwr = (s.supplies sup).pwr :=
  Moves.same (gs := [.hoard, .queue, .marks, .log, .meas, .chans, .outs, .bridge, .tamper, .pair, .radio, .sess, .mbus, .disp])
    ((State.pfHandOver_moves _ _).after <| (State.clearHeld_moves _).after <| (State.drain_moves _).after <|
      (State.handOwed_moves _).after (State.drain_moves _).alone) .pwr rfl

/-- The mark of HOLD is an event of the supply group (R61, R72). -/
theorem State.holdMark_pwr (s : State) : ∃ e b, s.holdMark.pwr = { s.pwr with events := e, holdLogged := b } := by
  unfold State.holdMark
  split
  · exact ⟨_, _, rfl⟩
  · exact ⟨_, true, by rw [State.onPwr_pwr, State.onset_pwr]; rfl⟩

theorem State.enterHold_pwr (s : State) : ∃ e b, s.enterHold.pwr = { s.pwr with mode := .hold, events := e, holdLogged := b } := by
  unfold State.enterHold
  extract_lets s1
  have hafter : (s1.dropPulses true).discardQueue.gridsEnd.pwr = s1.pwr :=
    Moves.same (gs := [.queue, .log, .outs, .pair, .radio]) ((State.gridsEnd_moves _).after <|
      (State.discardQueue_moves _).after (State.dropPulses_moves true s1).alone) .pwr rfl
  rw [State.onRadio_pwr, hafter]
  exact State.holdMark_pwr (s.onPwr fun p => { p with mode := .hold })

/-- The mode on the cell: from NORMAL, HOLD for a running module whose cell is below VBAT_WARN, else BACKUP (R57, R62). -/
def Pwr.cellMode (p : Pwr) : OpMode :=
  if p.mode = .normal then (if p.belowWarn ∧ p.phase = .running then .hold else .backup) else p.mode

/-- Step 6 of the sequence ends it, on the cell (R52, R57). -/
theorem State.toCell_pwr (ms : Nat) (s : State) : ∃ e b, (s.toCell ms).pwr = { s.pwr with
    onCell := true, chargeMs := ms, pfActive := false, pfStep := 6, rootStopped := true, mode := s.pwr.cellMode, events := e,
    holdLogged := b } := by
  unfold State.toCell Pwr.cellMode
  extract_lets s1
  have h1 : s1.pwr = { s.pwr with onCell := true, chargeMs := ms, pfActive := false, pfStep := 6, rootStopped := true } := rfl
  have hend : s1.endTest.pwr = s1.pwr := rfl
  clear_value s1
  by_cases hmode : s.pwr.mode = .normal
  · rw [if_pos (by rw [h1]; exact hmode), if_pos hmode]
    by_cases hweak : s.pwr.belowWarn ∧ s.pwr.phase = .running
    · rw [if_pos (by rw [h1]; exact hweak), if_pos hweak]
      obtain ⟨e, b, h⟩ := s1.endTest.enterHold_pwr
      exact ⟨e, b, by rw [h, hend, h1]⟩
    · rw [if_neg (by rw [h1]; exact hweak), if_neg hweak]
      exact ⟨s.pwr.events, s.pwr.holdLogged, by
        rw [State.onPwr_pwr, show s1.endTest.gridsEnd.pwr = s1.pwr from rfl, h1]⟩
  · rw [if_neg (by rw [h1]; exact hmode), if_neg hmode]
    split
    · obtain ⟨e, b, h⟩ := s1.holdMark_pwr
      exact ⟨e, b, by rw [h, h1]⟩
    · exact ⟨_, _, h1⟩

/-- Settles O31: the final commit is `pfCommitted`, and `toCell` makes step 6 where the supplies show a usable cell. -/
theorem powerFailSequenceCommitsAndSwitches : Obligations.PowerFailSequenceCommitsAndSwitches := by
  unfold Obligations.PowerFailSequenceCommitsAndSwitches
  extract_lets ended
  have hmay {now : Now} {s : State} (ha : s.pwr.pfActive = true) (hc : s.pwr.pfCommit = false) :
      s.pfMayCommit now = true ↔ ended now s := State.pfMayCommit_iff ha hc
  clear_value ended
  refine ⟨?early, ?commits, ?usable, ?noCell, ?record⟩
  case early =>
    intro s now upsets ha hc hend
    have hno := (hmay ha hc).not.mpr hend
    exact if_pos (by simpa using hno)
  case commits =>
    intro s now upsets ha hc hend
    have hmoves := State.pfCommitted_moves now upsets s
    have hpwr : (s.pfCommitted now upsets).pwr = s.pwr := hmoves.same .pwr rfl
    refine ⟨_, execPfFinalCommit_commits upsets ((hmay ha hc).mpr hend), ?_, hmoves.same .rtc rfl, hmoves.same .meas rfl,
      hmoves.same .disp rfl, hmoves.same .hoard rfl⟩
    rw [State.onPwr_pwr, hpwr]
  case usable =>
    intro s now sup ha hc hl hcell hvbat
    have husable : (s.supplies sup).pwr.cellPresent = true := (if_pos hcell).trans (decide_eq_true hvbat)
    obtain ⟨e, b, hpwr⟩ := State.toCell_pwr now.ms (s.pfLanded now sup)
    refine ⟨_, execPfCommitLanded_lands ha hc hl, ?_⟩
    rw [if_pos (by rw [State.pfLanded_pwr, husable]), State.noteMode_pwr, hpwr, State.pfLanded_pwr]
    refine ⟨rfl, rfl, rfl, rfl, ?_⟩
    show (s.supplies sup).pwr.cellMode = _
    simp only [Pwr.cellMode, State.supplies, State.onPwr_pwr, Bool.and_eq_true, decide_eq_true_eq, and_assoc]
  case noCell =>
    intro s now sup ha hc hl hvbat
    have hnone : (s.supplies sup).pwr.cellPresent = false := by
      simp only [State.supplies, State.onPwr_pwr]
      split
      · exact decide_eq_false (by omega)
      · exact decide_eq_false (by omega)
    refine ⟨_, execPfCommitLanded_lands ha hc hl, ?_⟩
    rw [if_neg (by simp [State.pfLanded_pwr, hnone]), State.noteMode_pwr, State.onPwr_pwr, State.pfLanded_pwr]
    exact ⟨ha, rfl, rfl, rfl⟩
  case record =>
    intro s now upsets n ha hc hend hsolo hnormal hn hint hclosed
    exact ⟨_, execPfFinalCommit_commits upsets ((hmay ha hc).mpr hend),
      State.pfCommitted_mem hnormal hn hint (fun m hm hm40 => (hclosed m hm hm40).1) upsets⟩

end Sys2Proof.Machine
end

section
/-! The store is spent (R45, R51, R57, R271, R280). -/

set_option Elab.async false

namespace Sys2Proof.Machine

theorem Mem.cutHead_queue (n : Nat) (m : Mem) : (m.cutHead n).queue = [] := by
  unfold Mem.cutHead
  split
  · assumption
  · exact Mem.writeWords_queue _ _

/-- A write of which no word has landed leaves HOARD (R63). -/
theorem Mem.cutHead_zero_hoard (m : Mem) : (m.cutHead 0).hoard = m.hoard := by
  unfold Mem.cutHead
  split <;> rfl

/-- Every output is open with nothing waiting once power is gone (R271). -/
theorem State.unpower_idle (s : State) {k : Nat} (hk : 1 ≤ k) (hk8 : k ≤ 8) : (s.unpower.out k).Idle := by
  have hout : s.unpower.out k = PulseOut.reset := by
    show vget (Vector.replicate 8 PulseOut.reset) (k - 1) PulseOut.reset = _
    simp [vget, show k - 1 < 8 by omega]
  rw [hout]
  exact ⟨rfl, rfl⟩

/-- STORE_SPENT: the words of the head record that had landed stay, none under the inhibit, and power is gone (R48, R51). -/
theorem execStoreSpent_unpowers (landed : Nat) {s : State} (ha : s.pwr.pfActive = true) :
    execStoreSpent landed s =
      .next (s.noteMode ((s.onMem (Mem.cutHead (if s.pwr.nvInhibit then 0 else landed))).unpower)) :=
  if_neg (by simp [ha])

/-- Settles O32: power goes by `unpower`, on the memories that `cutHead` leaves. -/
theorem storeSpentEndsPower : Obligations.StoreSpentEndsPower := by
  unfold Obligations.StoreSpentEndsPower
  intro s landed ha
  have hhoard (h : landed = 0 ∨ s.pwr.nvInhibit = true) :
      (s.mem.cutHead (if s.pwr.nvInhibit then 0 else landed)).hoard = s.mem.hoard := by
    have hnone : (if s.pwr.nvInhibit then 0 else landed) = 0 := by
      rcases h with rfl | h
      · exact ite_self 0
      · exact if_pos h
    rw [hnone, Mem.cutHead_zero_hoard]
  refine ⟨_, execStoreSpent_unpowers landed ha, ?_⟩
  generalize (if s.pwr.nvInhibit then 0 else landed) = n at hhoard ⊢
  have hqueue (u : State) : (s.noteMode u).mem.queue = u.mem.queue := (State.noteMode_moves s u).same .queue rfl
  have hout (u : State) (k : Nat) : (s.noteMode u).out k = u.out k := by rw [State.out, State.noteMode_outs, State.out]
  rw [State.noteMode_pwr, State.noteMode_rtc, State.noteMode_hoard, State.noteMode_disp, State.noteMode_bridge,
    State.noteMode_chans, State.noteMode_img, State.noteMode_tamper, hqueue]
  refine ⟨rfl, rfl, rfl, rfl, rfl, rfl, rfl, rfl, rfl, Mem.cutHead_queue n s.mem, hhoard, fun k hk hk8 => ?_, rfl, rfl, rfl, rfl, rfl⟩
  rw [hout]
  exact State.unpower_idle _ hk hk8

end Sys2Proof.Machine
end

section
/-! VBUS returns (R46, R50, R51, R58, R62, R83). -/

set_option Elab.async false

namespace Sys2Proof.Machine

/-! ### VBUS_OK -/

/-- VBUS_OK sets the flags of the supplies, and the VBUS wake where the module sleeps (R46, R83). -/
theorem execVbusOk_notes {now : Now} {sup : Supplies} {s : State} (hoff : s.pwr.state ≠ .off) (hsett : s.rtc.settLost = false) :
    ∃ wakes, execVbusOk now sup s = .next ((s.supplies sup).onPwr fun p => { p with vbusOk := !p.vbusOv, wakes := wakes }) ∧
      (s.asleep = true → WakeSource.vbusReturn ∈ wakes) ∧ (s.asleep = false → wakes = s.pwr.wakes) := by
  unfold execVbusOk
  extract_lets s1 asleep s2
  have h2 : s2 = s1 := if_neg (by simp [hsett])
  have hasleep : s.asleep = asleep := rfl
  have hwakes : s1.pwr.wakes = s.pwr.wakes := rfl
  rw [if_neg hoff, h2, hasleep, hwakes]
  split
  · rename_i h
    exact ⟨s.pwr.wakes ++ [.vbusReturn], rfl, fun _ => by simp, fun ha => absurd h.1 (by simp [ha])⟩
  · rename_i h
    exact ⟨s.pwr.wakes, rfl, fun ha => by simpa [ha] using h, fun _ => rfl⟩

/-! ### The return -/

/-- NORMAL resumes with the mode and the event of the supply group (R58, R60, R72). -/
theorem State.normalResumed_pwr (left : Nat) (s : State) :
    (s.normalResumed left).pwr = { s.pwr with mode := .normal, events := setBits s.pwr.events 2 } := by
  unfold State.normalResumed
  extract_lets s0 s1 s2 s3
  have h0 : s0.pwr = { s.pwr with mode := .normal, events := setBits s.pwr.events 2 } := State.event_pwr _ _ _ _
  have h1 : s1.pwr = s0.pwr := State.onRadio_pwr _ _
  have h2 : s2.pwr = s1.pwr := (State.resumeValves_moves s1).same .pwr rfl
  have h3 : Moves [.queue, .log, .pair, .radio, .disp] s2 (if s3.standby then s3.unpair else s3) := by
    have hdisp : Moves [.queue, .log, .pair, .radio, .disp] s2 s3 := .ite (State.onDisp_moves _ _).alone (Moves.refl _ s2)
    exact .ite ((State.unpair_moves _).after hdisp) hdisp
  have hlast := h3.same .pwr rfl
  clear_value s0 s1 s2 s3
  exact hlast.trans (h2.trans (h1.trans h0))

/-- Leaving the cell counts its charge and ends PF_STEP (R58, R66). -/
theorem State.offCell_pwr (ms : Nat) (s : State) : ∃ uah nc, (s.offCell ms).pwr = { s.pwr with
    chargeUah := uah, remNc := nc, chargeMs := ms, onCell := false, pfStep := 0 } := by
  obtain ⟨uah, nc, h⟩ := s.pwr.chargeTo_eq ms
  exact ⟨uah, nc, by rw [State.offCell, State.onPwr_pwr, h]⟩

/-- The end of HOLD's mark (R61). -/
theorem State.holdEnd_pwr (s : State) : ∃ b, s.holdEnd.pwr = { s.pwr with holdLogged := b } := by
  unfold State.holdEnd
  split
  · exact ⟨false, by rw [State.onPwr_pwr, State.ending_pwr]⟩
  · exact ⟨_, rfl⟩

/-- From BACKUP at a tick edge: the DEGRADED step closes and NORMAL resumes on VBUS (R58). -/
def State.backupLeft (now : Now) (sup : Supplies) (upsets : List (Nat × Upset)) (s : State) : State :=
  ((((s.supplies sup).closeAll 0 false false upsets).offCell now.ms).dropPairs.normalResumed 1)

/-- UNCONFIGURED goes on, on VBUS (R62). -/
def State.unconfiguredOnVbus (now : Now) (sup : Supplies) (s : State) : State := ((s.supplies sup).offCell now.ms).holdEnd

/-- A return that may begin: on the cell in Run, with VBUS_OK and a store that is ready (R51, R58). -/
theorem execVbusReturn_returns {now : Now} {sup : Supplies} {upsets : List (Nat × Upset)} {s : State} (hrun : s.pwr.state = .run)
    (hphase : s.pwr.phase = .running) (hcell : s.pwr.onCell = true) (hvbus : s.pwr.vbusOk = true) (hidle : s.pwr.pfActive = false)
    (hstore : 26000 ≤ sup.store) : execVbusReturn now sup upsets s =
      if s.pwr.mode = .backup then .next (s.noteMode (s.backupLeft now sup upsets))
      else if s.pwr.mode = .unconfigured then .next (s.noteMode (s.unconfiguredOnVbus now sup)) else .next (s.supplies sup) := by
  have hpow : s.powered = true := by simp [State.powered, hrun]
  have hready : (s.supplies sup).pwr.vbusReady = true := by
    simp [State.supplies, Pwr.vbusReady, hvbus, hidle, hstore]
  unfold execVbusReturn
  extract_lets s1
  rw [if_neg (by simp [hpow]), if_neg (by
    rintro (h | h | h | h)
    · exact absurd h (by simp [s1, State.supplies, hcell])
    · exact absurd h (by simp [s1, hready])
    · exact h hrun
    · exact h hphase)]
  rfl

theorem State.backupLeft_pwr (now : Now) (sup : Supplies) (upsets : List (Nat × Upset)) (s : State) :
    (s.backupLeft now sup upsets).pwr.mode = .normal ∧ (s.backupLeft now sup upsets).pwr.onCell = false ∧
      (s.backupLeft now sup upsets).pwr.pfStep = 0 ∧ (s.backupLeft now sup upsets).pwr.events.getLsbD 1 = true := by
  obtain ⟨_, _, h⟩ := ((s.supplies sup).closeAll 0 false false upsets).offCell_pwr now.ms
  rw [State.backupLeft, State.normalResumed_pwr, show ∀ u : State, u.dropPairs.pwr = u.pwr from fun u =>
    (State.dropPairs_moves u).same .pwr rfl, h]
  exact ⟨rfl, rfl, rfl, by simp [setBits]⟩

theorem State.backupLeft_moves (now : Now) (sup : Supplies) (upsets : List (Nat × Upset)) (s : State) :
    Moves [.queue, .flt, .log, .pwr, .chans, .outs, .bridge, .tamper, .pair, .radio, .disp] s (s.backupLeft now sup upsets) :=
  (State.normalResumed_moves _ _).after <| (State.dropPairs_moves _).after <| (State.offCell_moves _ _).after <|
    (State.closeAll_moves _ _ _ _ _).after (State.supplies_moves sup s).alone

/-- Settles O33: VBUS_OK and STORE_FAULT by what they record, VBUS_RETURN by `backupLeft` and `unconfiguredOnVbus`. -/
theorem vbusReturnsThroughTheStore : Obligations.VbusReturnsThroughTheStore := by
  unfold Obligations.VbusReturnsThroughTheStore
  refine ⟨?ok, ?fault, ?returns⟩
  case ok =>
    intro s now sup hoff hsett
    obtain ⟨wakes, hexec, hraised, hkept⟩ := execVbusOk_notes (now := now) (sup := sup) hoff hsett
    obtain ⟨hkeeps, -⟩ : Moves [.pwr] s ((s.supplies sup).onPwr fun p => { p with vbusOk := !p.vbusOv, wakes := wakes }) :=
      (State.onPwr_moves _ _).after (State.supplies_moves sup s).alone
    exact ⟨_, hexec, rfl, rfl, rfl, rfl, rfl, hraised, hkept, hkeeps⟩
  case fault =>
    intro s now sup hpow hvbus hwaived
    have hexec : exec (.storeFault now sup) s =
        if !(s.supplies sup).pwr.vbusOk ∨ (s.supplies sup).pwr.storeRdy ∨ (s.supplies sup).pwr.storeWaived then
          .next (s.supplies sup)
        else .next ((((s.supplies sup).pwrRaise 64).event 0x15 0 (le 1 (s.supplies sup).pwr.storeV)).onPwr fun p => { p with
          storeWaived := true }) := if_neg (by simp [hpow])
    have hready : (!(s.supplies sup).pwr.vbusOk ∨ (s.supplies sup).pwr.storeRdy ∨ (s.supplies sup).pwr.storeWaived) ↔
        26000 ≤ sup.store := by simp [State.supplies, hvbus, hwaived]
    refine ⟨?_, Word.sat_eq_min 255 (sup.store / 200)⟩
    rw [hexec]
    simp only [hready]
    split <;> rfl
  case returns =>
    intro s now sup upsets hrun hphase hcell hvbus hidle hstore
    have hexec : exec (.vbusReturn now sup upsets) s = _ := execVbusReturn_returns hrun hphase hcell hvbus hidle hstore
    refine ⟨fun hmode => ?_, fun hmode => ?_⟩
    · have hmoves := s.backupLeft_moves now sup upsets
      obtain ⟨hnormal, hoff, hstep, hbit⟩ := s.backupLeft_pwr now sup upsets
      refine ⟨_, hexec.trans (if_pos hmode), ?_⟩
      rw [State.noteMode_pwr, State.noteMode_rtc, State.noteMode_meas]
      exact ⟨hnormal, hoff, hstep, hbit, hmoves.same .rtc rfl, hmoves.same .meas rfl⟩
    · have hmoves : Moves [.queue, .log, .pwr, .pair] s (s.unconfiguredOnVbus now sup) :=
        (State.holdEnd_moves _).after <| (State.offCell_moves _ _).after (State.supplies_moves sup s).alone
      obtain ⟨_, _, hcharge⟩ := (s.supplies sup).offCell_pwr now.ms
      obtain ⟨_, hend⟩ := ((s.supplies sup).offCell now.ms).holdEnd_pwr
      refine ⟨_, hexec.trans ((if_neg (by simp [hmode])).trans (if_pos hmode)), ?_⟩
      rw [State.noteMode_pwr, State.noteMode_rtc, State.noteMode_meas, State.noteMode_chans]
      refine ⟨?_, ?_, hmoves.same .rtc rfl, hmoves.same .meas rfl, hmoves.same .chans rfl⟩
      · rw [State.unconfiguredOnVbus, hend, hcharge]
        exact hmode
      · rw [State.unconfiguredOnVbus, hend, hcharge]

end Sys2Proof.Machine
end

section
/-! Deep Sleep: its entry, its wakes and what the exit leaves (R60, R79, R83, R88, R91 to R94, R98, R99). -/

set_option Elab.async false

namespace Sys2Proof.Machine

/-! ### The entry -/

/-- A change of the power state counts the charge of the one that ends (R66). -/
theorem State.enterState_pwr (st : PowerState) (ms : Nat) (s : State) : ∃ uah nc, (s.enterState st ms).pwr = { s.pwr with
    chargeUah := uah, remNc := nc, chargeMs := ms, state := st } := by
  obtain ⟨uah, nc, h⟩ := s.pwr.chargeTo_eq ms
  exact ⟨uah, nc, by rw [State.enterState, State.onPwr_pwr, h]⟩

/-- The banks that Deep Sleep retains: those of the image, B0 to B2 without one (R91). -/
def State.retained (s : State) : Nat :=
  match s.img.image with
  | none => 7
  | some im => im.retBanks

/-- Once everything that was being served is done the module enters Deep Sleep, with the DMA engine stopped and the signatures of the
retained banks formed (R91, R500). -/
theorem State.deepEnter_enters {ms : Nat} {s : State} (hrun : s.onCellRun = true) (hdeep : s.deepMode = true)
    (hquiet : s.quiet ms = true) (hwbuf : s.hl.wbuf = []) : ∃ uah nc, (s.deepEnter ms).pwr = { s.pwr with
      chargeUah := uah, remNc := nc, chargeMs := ms, state := .deepSleep, retSel := s.retained,
      sigs := ((List.range 8).filter (Word.bit s.retained)).map fun k => (k, s.mem.bankSig k) } := by
  rw [State.deepEnter, if_pos (by simp [hrun, hdeep, hquiet, hwbuf])]
  exact State.enterState_pwr .deepSleep ms ((s.dmaStopAll.onPwr fun p => { p with retSel := s.retained }).formSigs s.retained)

/-- What is still being served keeps the module awake. -/
theorem State.deepEnter_stays {ms : Nat} {s : State} (h : s.quiet ms = false) : s.deepEnter ms = s :=
  if_neg (by simp [h])

theorem State.quiet_iff {ms : Nat} {s : State} : s.quiet ms = true ↔
    (s.radio.txEnd ≤ ms ∧ s.pwr.lastHostMs + 200 ≤ ms) ∧ s.mem.queue = [] ∧ s.alc.run = none := by
  simp only [State.quiet, Bool.and_eq_true, decide_eq_true_eq, List.isEmpty_iff, Option.isNone_iff_eq_none, and_assoc]

theorem exec_deepEnter {now : Now} {c : Instr} (hc : c ∈ [Instr.deepSleepEntry now, .holdHostIdle now]) (s : State) :
    exec c s = .next (s.deepEnter now.ms) := by
  simp only [List.mem_cons, List.not_mem_nil, or_false] at hc
  obtain rfl | rfl := hc
  · rfl
  · rfl

/-! ### What serves every wake -/

theorem State.wakeTo_pwr (left ms : Nat) (sources : List WakeSource) (exit10us : Nat) (s : State) :
    ∃ uah nc host bus, (s.wakeTo left ms sources exit10us).pwr = { s.pwr with
      chargeUah := uah, remNc := nc, chargeMs := ms, state := .run, lastState := left, lastWake := firstWake sources,
      lastExit := min 65535 exit10us, wakes := [], lastHostMs := host, lastBusMs := bus } := by
  obtain ⟨uah, nc, h⟩ := s.enterState_pwr .run ms
  exact ⟨uah, nc, _, _, by rw [State.wakeTo, State.onPwr_pwr, h, Word.sat_eq_min]⟩

theorem State.sampleCard_pwr (out : Bool) (s : State) : (s.sampleCard out).pwr = s.pwr := (State.sampleCard_moves out s).same .pwr rfl

theorem State.sampleCard_img (out : Bool) (s : State) : (s.sampleCard out).img = { s.img with cardPresent := !out } := by
  unfold State.sampleCard
  extract_lets was s1 s2 s3
  have h3 : s3.img = s1.img :=
    Moves.same (gs := [.queue, .log, .tamper, .pair, .radio]) ((State.onTamper_moves _ _).after (State.change_moves _ _ _ _ _ _ s1).alone)
      .img rfl
  split
  · exact h3
  · exact h3

theorem State.logOsf_count (s : State) : s.logOsf.rtc.count = s.rtc.count := by
  unfold State.logOsf
  rw [show (s.rtc.osfPend.foldl _ (s.onRtc fun r => { r with osfPend := [] })).rtc = _ from
    (Moves.foldl _ _ (fun u e => State.onsetAt_moves _ _ _ _ _ _ _ u) (Moves.refl _ _)).same .rtc rfl]
  rfl

/-- Serving a wake reads the cell at most into the supply group, and keeps the clock (R71, R88). -/
theorem State.wakeServe_pwr (sup : Supplies) (s : State) : ∃ v, (s.wakeServe sup).pwr = { s.pwr with vbatMv := v } := by
  unfold State.wakeServe
  extract_lets s1
  have h1 : s1.pwr = s.pwr := ((State.logOsf_moves _).same .pwr rfl).trans ((State.transferLatch_moves s).same .pwr rfl)
  split
  · exact ⟨_, h1⟩
  · exact ⟨_, by rw [State.onPwr_pwr, h1]⟩

theorem State.wakeServe_count (sup : Supplies) (s : State) : (s.wakeServe sup).rtc.count = s.rtc.count := by
  have h1 : s.transferLatch.logOsf.rtc.count = s.rtc.count :=
    (State.logOsf_count _).trans (congrArg Rtc.count ((State.transferLatch_moves s).same .rtc rfl))
  unfold State.wakeServe
  extract_lets s1
  split
  · exact h1
  · exact h1

/-! ### The host partition after a LINK reset -/

/-- An update of channels leaves the other groups. -/
theorem State.forCh_onCh_moves (l : List Nat) (f : Chan → Chan) (s : State) :
    Moves [.chans] s (s.forCh l fun n t => t.onCh n f) :=
  .forCh _ _ (fun n u => State.onCh_moves u n f) (Moves.refl _ s)

theorem State.clearHostCounts_pwr (s : State) : s.clearHostCounts.pwr = { s.pwr with events := 0#32 } := by
  unfold State.clearHostCounts
  exact (State.forCh_onCh_moves allCh _ _).same .pwr rfl

theorem State.clearHostCounts_rtc (s : State) : s.clearHostCounts.rtc =
    { s.rtc with badWrite := false, slewRefused := false, autoRelease := false, stepped := false } := by
  unfold State.clearHostCounts
  exact (State.forCh_onCh_moves allCh _ _).same .rtc rfl

theorem State.dmaLinkReset_pwr (s : State) : s.dmaLinkReset.pwr = s.pwr := (State.dmaLinkReset_moves s).same .pwr rfl

theorem State.dmaLinkReset_rtc (s : State) : s.dmaLinkReset.rtc = s.rtc := (State.dmaLinkReset_moves s).same .rtc rfl

theorem State.dmaLinkReset_hl (s : State) : s.dmaLinkReset.hl = s.hl := (State.dmaLinkReset_moves s).same .hl rfl

/-- A LINK reset clears `PWR_EVENTS` in the supply group (R98). -/
theorem State.linkState_pwr (s : State) : s.linkState.pwr = { s.pwr with events := 0#32 } := by
  unfold State.linkState
  dsimp only
  rw [State.dmaLinkReset_pwr, State.onRtc_pwr, State.onHl_pwr, State.clearHostCounts_pwr]

/-- The count of seconds goes on over a LINK reset, which releases HALT (R98, R342). -/
theorem State.linkState_count (s : State) : s.linkState.rtc.count = s.rtc.count := by
  unfold State.linkState
  dsimp only
  rw [State.dmaLinkReset_rtc, State.onRtc_rtc, State.onHl_rtc, State.clearHostCounts_rtc]
  split <;> rfl

/-- The host link returns to OBSERVE; FAILS, LOCKED_OUT and the count of challenges are kept (R98, R454). -/
theorem State.linkState_hl (s : State) : s.linkState.hl = { HostLink.reset with
    fails := s.hl.fails, lockedOut := s.hl.lockedOut, lockUntil := s.hl.lockUntil, chalCount := s.hl.chalCount } := by
  have hcounts : s.clearHostCounts.hl = s.hl := (State.clearHostCounts_moves s).same .hl rfl
  unfold State.linkState
  dsimp only
  rw [State.dmaLinkReset_hl, State.onRtc_hl, State.onHl_hl, hcounts]

/-! ### The exit -/

/-- Every bank was retained and its signature agrees (R91, R92). -/
structure State.BanksSound (s : State) : Prop where
  retSel : s.pwr.retSel = 255
  parity : s.mem.parity = []
  sigs : ∀ k, k < 8 → (k, s.mem.bankSig k) ∈ s.pwr.sigs

/-- The module awake from Deep Sleep with every bank sound (R92 to R94). -/
def State.deepWoken (now : Now) (sources : List WakeSource) (exit10us : Nat) (cardOut : Bool) (sup : Supplies) (s : State) : State :=
  (((((s.supplies sup).wakeTo 2 now.ms sources exit10us).onPwr fun p => { p with
    retFail := 0, rebuilt := 0, cardReread := false, sigs := [] }).linkState.onRtc fun r => { r with latched := false }).sampleCard
      cardOut).wakeServe sup

/-- What an exit from Deep Sleep with every bank sound leaves in the supply group: q, from p (R83, R92, R99). -/
structure Pwr.Woken (sources : List WakeSource) (exit10us : Nat) (p q : Pwr) : Prop where
  state : q.state = .run
  mode : q.mode = p.mode
  lastState : q.lastState = 2
  lastWake : q.lastWake = firstWake sources
  lastExit : q.lastExit = min 65535 exit10us
  retFail : q.retFail = 0
  rebuilt : q.rebuilt = 0
  wakes : q.wakes = []
  sigs : q.sigs = []
  vbusOk : q.vbusOk = p.vbusOk

theorem State.deepWoken_pwr (now : Now) (sources : List WakeSource) (exit10us : Nat) (cardOut : Bool) (sup : Supplies) (s : State) :
    s.pwr.Woken sources exit10us (s.deepWoken now sources exit10us cardOut sup).pwr := by
  obtain ⟨_, _, _, _, hwake⟩ := (s.supplies sup).wakeTo_pwr 2 now.ms sources exit10us
  rw [State.deepWoken]
  obtain ⟨_, hserve⟩ := State.wakeServe_pwr sup (State.sampleCard cardOut _)
  rw [hserve, State.sampleCard_pwr, State.onRtc_pwr, State.linkState_pwr, State.onPwr_pwr, hwake]
  exact ⟨rfl, rfl, rfl, rfl, rfl, rfl, rfl, rfl, rfl, rfl⟩

theorem State.deepWoken_image (now : Now) (sources : List WakeSource) (exit10us : Nat) (cardOut : Bool) (sup : Supplies) (s : State) :
    (s.deepWoken now sources exit10us cardOut sup).img.image = s.img.image := by
  rw [State.deepWoken, show ∀ u : State, (u.wakeServe sup).img = u.img from fun u => (State.wakeServe_moves sup u).same .img rfl,
    State.sampleCard_img, State.onRtc_img,
    show ∀ u : State, u.linkState.img = u.img from fun u => (State.linkState_moves u).same .img rfl]
  rfl

theorem State.deepWoken_count (now : Now) (sources : List WakeSource) (exit10us : Nat) (cardOut : Bool) (sup : Supplies) (s : State) :
    (s.deepWoken now sources exit10us cardOut sup).rtc.count = s.rtc.count := by
  rw [State.deepWoken, State.wakeServe_count, show ∀ u : State, (u.sampleCard cardOut).rtc = u.rtc from fun u =>
    (State.sampleCard_moves cardOut u).same .rtc rfl, State.onRtc_rtc, State.linkState_count]
  rfl

theorem State.deepWoken_hl (now : Now) (sources : List WakeSource) (exit10us : Nat) (cardOut : Bool) (sup : Supplies) (s : State) :
    (s.deepWoken now sources exit10us cardOut sup).hl = { HostLink.reset with
      fails := s.hl.fails, lockedOut := s.hl.lockedOut, lockUntil := s.hl.lockUntil, chalCount := s.hl.chalCount } := by
  have hserved (u : State) : ((u.sampleCard cardOut).wakeServe sup).hl = u.hl :=
    Moves.same (gs := [.queue, .log, .img, .pwr, .tamper, .rtc, .pair, .radio])
      ((State.wakeServe_moves _ _).after (State.sampleCard_moves cardOut u).alone) .hl rfl
  rw [State.deepWoken, hserved, State.onRtc_hl, State.linkState_hl]
  rfl

/-- An exit with every bank sound rebuilds nothing and does not read the card again; a return of VBUS in HOLD is marked (R60, R92). -/
theorem State.deepExit_sound {s : State} (h : s.BanksSound) (now : Now) (sources : List WakeSource) (exit10us : Nat) (card : CardRead)
    (cardOut : Bool) (sup : Supplies) : ∃ back,
    s.deepExit now sources exit10us [] card cardOut sup =
      ((s.deepWoken now sources exit10us cardOut sup).onPwr fun p => { p with holdReturn := back }) ∧
    (WakeSource.vbusReturn ∈ sources → s.pwr.mode = .hold → back = s.pwr.vbusOk) := by
  unfold State.deepExit
  extract_lets sel failed rebuilt s1 s2 s3 v s4 s5
  have hsel : sel = List.range 8 := by
    simp only [sel, h.retSel]
    decide
  have hfailed : failed = [] := by
    refine List.filter_eq_nil_iff.mpr fun k hk => ?_
    have hsig := h.sigs k (List.mem_range.mp (hsel ▸ hk))
    simp [h.parity, hsig]
  have hrebuilt : rebuilt = [] := by
    simp only [rebuilt, hsel, hfailed]
    decide
  have h4 : s4 = s2 := by
    simp only [s4, s3, hrebuilt, hfailed]
    rfl
  have h5 : s5 = s.deepWoken now sources exit10us cardOut sup := by
    simp only [s5, h4, s2, s1, hrebuilt, hfailed]
    rfl
  have hwoken := s.deepWoken_pwr now sources exit10us cardOut sup
  rw [if_neg (by simp [hrebuilt]), h5]
  generalize s.deepWoken now sources exit10us cardOut sup = w at hwoken
  split
  · exact ⟨w.pwr.vbusOk, rfl, fun _ _ => hwoken.vbusOk⟩
  · rename_i hno
    refine ⟨w.pwr.holdReturn, rfl, fun hsource hhold => absurd ⟨?_, ?_⟩ hno⟩
    · exact List.contains_iff_mem.mpr hsource
    · rw [hwoken.mode, hhold]

/-! ### The commands -/

/-- Without a source that wakes from Deep Sleep nothing wakes the module (R83). -/
theorem filter_deep_eq_nil {l : List WakeSource}
    (h : l.all (fun w => w == .uartActivity || w == .mbusStart || w == .movor || w == .vbatWarn) = true) :
    l.filter WakeSource.deep = [] := by
  refine List.filter_eq_nil_iff.mpr fun w hw => ?_
  have hshallow := List.all_eq_true.mp h w hw
  cases w with
  | uartActivity | mbusStart | movor | vbatWarn => decide
  | schedule | hostMatch | uartPattern | tamper | vbusReturn => simp at hshallow

theorem execDeepSleepWake_exits (now : Now) {sources : List WakeSource} (exit10us : Nat) (failedBanks : List Nat) (card : CardRead)
    (cardOut : Bool) (sup : Supplies) {s : State} (hstate : s.pwr.state = .deepSleep)
    (hwake : (sources ++ s.pwr.wakes).filter WakeSource.deep ≠ []) :
    execDeepSleepWake now sources exit10us failedBanks card cardOut sup s = .next (s.noteMode
      (s.deepExit now ((sources ++ s.pwr.wakes).filter WakeSource.deep) exit10us failedBanks card cardOut sup)) :=
  if_neg (not_or.mpr ⟨not_not.mpr hstate, fun h => hwake (List.isEmpty_iff.mp h)⟩)

/-- VBUS_OK in HOLD: an awake module marks the return, a sleeping one leaves Deep Sleep for it (R60). -/
theorem execHoldExit_returns (now : Now) (sup : Supplies) (exit10us : Nat) (failedBanks : List Nat) (card : CardRead) (cardOut : Bool)
    {s : State} (hmode : s.pwr.mode = .hold) (hvbus : s.pwr.vbusOk = true) (hphase : s.pwr.phase = .running) :
    execHoldExit now sup exit10us failedBanks card cardOut s =
      if s.pwr.state = .deepSleep then
        .next (s.noteMode (s.deepExit now (.vbusReturn :: s.pwr.wakes) exit10us failedBanks card cardOut sup))
      else .next ((s.supplies sup).onPwr fun p => { p with holdReturn := true }) :=
  if_neg (by simp [hmode, hvbus, hphase])

/-- A return of VBUS comes first among the sources that LAST_WAKE reports (R83). -/
theorem firstWake_vbusReturn (l : List WakeSource) : firstWake (.vbusReturn :: l) = 7 := by
  rw [firstWake, List.find?_cons_of_pos (by simp)]
  rfl

theorem State.raiseWake_mem (w : WakeSource) (s : State) : w ∈ (s.raiseWake w).pwr.wakes := by
  rw [State.raiseWake, State.onPwr_pwr]
  dsimp only
  split
  · rename_i h
    exact List.contains_iff_mem.mp h
  · simp

/-- Settles O38: the entry is `deepEnter`, and every exit with sound banks is `deepWoken` with the return of VBUS marked or not. -/
theorem deepSleepHoldsAndWakes : Obligations.DeepSleepHoldsAndWakes := by
  unfold Obligations.DeepSleepHoldsAndWakes
  refine ⟨?entry, ?wake, ?holdExit, ?dueDate⟩
  case entry =>
    intro s now c hc hrun hmode
    rw [exec_deepEnter hc]
    refine ⟨fun htx hhost hqueue halc hwbuf => ?_, fun hserving => ?_⟩
    · have hquiet : s.quiet now.ms = true := State.quiet_iff.mpr ⟨⟨htx, hhost⟩, hqueue, halc⟩
      obtain ⟨_, _, hpwr⟩ := State.deepEnter_enters hrun (by simp [State.deepMode, hmode]) hquiet hwbuf
      obtain ⟨hkeeps, -⟩ := State.deepEnter_moves now.ms s
      refine ⟨_, rfl, ?_⟩
      rw [hpwr]
      refine ⟨rfl, hmode, rfl, fun k hk hbit => ?_, hkeeps⟩
      exact List.mem_map.mpr ⟨k, List.mem_filter.mpr ⟨List.mem_range.mpr hk, hbit⟩, rfl⟩
    · have hserved : ¬ s.quiet now.ms = true := by
        rw [State.quiet_iff]
        rintro ⟨⟨-, hhost⟩, hqueue, -⟩
        exact hserving.elim (fun h => h hqueue) (fun h => by omega)
      rw [State.deepEnter_stays (Bool.eq_false_iff.mpr hserved)]
  case wake =>
    intro s now sources exit10us card cardOut sup hstate
    refine ⟨fun hshallow => ?_, fun hmatch hmode hsel hparity hsigs => ?_⟩
    · exact if_pos (.inr (by rw [filter_deep_eq_nil hshallow]; rfl))
    · have hwake : WakeSource.hostMatch ∈ (sources ++ s.pwr.wakes).filter WakeSource.deep :=
        List.mem_filter.mpr ⟨List.mem_append_left _ hmatch, rfl⟩
      refine ⟨_, execDeepSleepWake_exits now exit10us [] card cardOut sup hstate (List.ne_nil_of_mem hwake), ?_⟩
      generalize (sources ++ s.pwr.wakes).filter WakeSource.deep = all
      obtain ⟨back, hexit, -⟩ := State.deepExit_sound ⟨hsel, hparity, hsigs⟩ now all exit10us card cardOut sup
      have hwoken := s.deepWoken_pwr now all exit10us cardOut sup
      have himage := s.deepWoken_image now all exit10us cardOut sup
      have hcount := s.deepWoken_count now all exit10us cardOut sup
      have hlink := s.deepWoken_hl now all exit10us cardOut sup
      rw [hexit]
      generalize s.deepWoken now all exit10us cardOut sup = w at hwoken himage hcount hlink
      obtain ⟨_, hnote⟩ := State.noteMode_hl s (w.onPwr fun p => { p with holdReturn := back })
      rw [State.noteMode_pwr, State.noteMode_img, State.noteMode_rtc, hnote, State.onPwr_hl, hlink]
      exact ⟨hwoken.state, hwoken.mode.trans hmode, hwoken.lastState, hwoken.lastExit, hwoken.retFail, hwoken.rebuilt,
        hwoken.wakes, hwoken.sigs, himage, hcount, rfl, rfl, rfl, rfl⟩
  case holdExit =>
    intro s now sup exit10us banks card cardOut hmode hvbus hphase
    have hexec : exec (.holdExit now sup exit10us banks card cardOut) s = _ :=
      execHoldExit_returns now sup exit10us banks card cardOut hmode hvbus hphase
    refine ⟨fun hstate => ?_, fun hstate hsel hparity hbanks hsigs => ?_⟩
    · obtain ⟨hkeeps, -⟩ : Moves [.pwr] s ((s.supplies sup).onPwr fun p => { p with holdReturn := true }) :=
        (State.onPwr_moves _ _).after (State.supplies_moves sup s).alone
      exact ⟨_, hexec.trans (if_neg (by simp [hstate])), rfl, hmode, hkeeps⟩
    · subst hbanks
      obtain ⟨back, hexit, hback⟩ :=
        State.deepExit_sound ⟨hsel, hparity, hsigs⟩ now (.vbusReturn :: s.pwr.wakes) exit10us card cardOut sup
      have hwoken := s.deepWoken_pwr now (.vbusReturn :: s.pwr.wakes) exit10us cardOut sup
      refine ⟨_, hexec.trans (if_pos hstate), ?_⟩
      rw [State.noteMode_pwr, hexit, State.onPwr_pwr]
      generalize s.deepWoken now (.vbusReturn :: s.pwr.wakes) exit10us cardOut sup = w at hwoken
      exact ⟨hwoken.state, (hback List.mem_cons_self hmode).trans hvbus, hwoken.mode.trans hmode, hwoken.lastState,
        hwoken.lastWake.trans (firstWake_vbusReturn _), hwoken.lastExit⟩
  case dueDate =>
    intro s now hmode hrun hstate
    have hexec : exec (.holdDueDateWake now) s = .next (s.raiseWake .schedule) := by
      show execHoldDueDateWake now s = _
      rw [execHoldDueDateWake, if_neg (by simp [hmode, hrun]), if_pos hstate]
    obtain ⟨hkeeps, -⟩ := State.raiseWake_moves .schedule s
    exact ⟨_, hexec, State.raiseWake_mem .schedule s, hkeeps⟩

end Sys2Proof.Machine
end

section
/-! Sleep: its entry, the wakes that it and Deep Sleep raise, and its exit into Run (R81, R83, R85 to R87, R99). -/

set_option Elab.async false

namespace Sys2Proof.Machine

/-! ### The entry -/

/-- The host and the bus have been silent for their times, and nothing is due or in progress (R81). -/
theorem execSleepEntry_enters {now : Now} {s : State} (hrun : s.onCellRun = true) (hmode : s.pwr.mode = .backup)
    (hdue : s.nothingDue now.cyc = true) (hquiet : s.quiet now.ms = true) (hbus : s.pwr.lastBusMs + 1000 ≤ now.ms)
    (hdma : s.dmaQuiet = true) : execSleepEntry now s = .next (s.enterState .sleep now.ms) :=
  if_pos (by simp [hrun, hmode, hdue, hquiet, hbus, hdma])

theorem execSleepEntry_stays {now : Now} {s : State} (h : s.quiet now.ms = false ∨ now.ms < s.pwr.lastBusMs + 1000) :
    execSleepEntry now s = .next s := by
  refine if_neg fun hall => ?_
  simp only [Bool.and_eq_true, decide_eq_true_eq] at hall
  obtain ⟨⟨⟨-, hquiet⟩, hbus⟩, -⟩ := hall
  exact h.elim (fun hno => by simp [hquiet] at hno) fun hno => by omega

/-! ### The wakes -/

/-- A wake that the host pins raise leaves everything but the supply group (R33). -/
theorem State.seeVio_raiseWake_keeps (vio : Bool) (w : WakeSource) (s : State) : Keeps [.pwr] s ((s.seeVio vio).raiseWake w) :=
  (Moves.after (State.raiseWake_moves w _) (State.seeVio_moves vio s)).1

theorem execUartWake_ignored {lowUs : Nat} {edges : List Nat} {vio : Bool} {s : State}
    (h : vio = false ∨ s.pwr.straps.hostmode = true ∨ (s.pwr.state = .deepSleep ∧ wakePattern lowUs edges = false)) :
    execUartWake lowUs edges vio s = .next (s.seeVio vio) := by
  refine if_pos ?_
  obtain rfl | hmode | ⟨hstate, hpattern⟩ := h
  · exact .inr (.inl rfl)
  · exact .inr (.inr (.inl hmode))
  · exact .inr (.inr (.inr ⟨hstate, by rw [hpattern]; rfl⟩))

theorem execUartWake_raises {lowUs : Nat} {edges : List Nat} {s : State} (hasleep : s.asleep = true)
    (hmode : s.pwr.straps.hostmode = false) (h : wakePattern lowUs edges = true ∨ s.pwr.state = .sleep) :
    execUartWake lowUs edges true s =
      .next ((s.seeVio true).raiseWake (if wakePattern lowUs edges then .uartPattern else .uartActivity)) := by
  refine if_neg ?_
  rintro (hno | hno | hno | ⟨hdeep, hno⟩)
  · simp [hasleep] at hno
  · exact absurd hno (by decide)
  · have hon : s.pwr.straps.hostmode = true := hno
    simp [hmode] at hon
  · have hdeep' : s.pwr.state = .deepSleep := hdeep
    exact h.elim (fun hp => by simp [hp] at hno) fun hs => by simp [hs] at hdeep'

theorem wakePattern_iff {lowUs : Nat} {edges : List Nat} :
    wakePattern lowUs edges = true ↔ 1000 ≤ lowUs ∧ 20 ≤ (edges.filter fun t => decide (t ≤ 2000)).length := by
  rw [wakePattern, Bool.and_eq_true, decide_eq_true_eq, decide_eq_true_eq]

/-! ### The exit -/

/-- The source that LAST_WAKE reports, where the VBAT_WARN filter is none of them and there is at least one (R83). -/
theorem firstWake_eq {l : List WakeSource} (hne : l ≠ []) (hwarn : WakeSource.vbatWarn ∉ l) : firstWake l =
    if WakeSource.vbusReturn ∈ l then 7 else if WakeSource.tamper ∈ l then 6 else if WakeSource.schedule ∈ l then 1
    else if WakeSource.movor ∈ l then 8 else if WakeSource.mbusStart ∈ l then 5 else if WakeSource.hostMatch ∈ l then 2
    else if WakeSource.uartPattern ∈ l then 4 else 3 := by
  have hstep (w : WakeSource) (r : List WakeSource) : ((w :: r).find? l.contains).elim 0 WakeSource.code =
      if w ∈ l then WakeSource.code w else (r.find? l.contains).elim 0 WakeSource.code := by
    by_cases hw : w ∈ l
    · rw [List.find?_cons_of_pos (List.contains_iff_mem.mpr hw), if_pos hw]
      rfl
    · rw [List.find?_cons_of_neg fun h => hw (List.contains_iff_mem.mp h), if_neg hw]
  simp only [firstWake, hstep, if_neg hwarn, WakeSource.code]
  by_cases hactivity : WakeSource.uartActivity ∈ l
  · rw [if_pos hactivity]
  · obtain ⟨w, hw⟩ := List.exists_mem_of_ne_nil l hne
    cases w with
    | uartActivity => exact absurd hw hactivity
    | vbatWarn => exact absurd hw hwarn
    | schedule | hostMatch | uartPattern | mbusStart | tamper | vbusReturn | movor => simp [hw]

/-- The module awake from Sleep, before the VBAT_WARN filter is acted on (R79, R83, R88). -/
def State.sleepWoken (now : Now) (sources : List WakeSource) (exit10us : Nat) (cardOut : Bool) (sup : Supplies) (s : State) : State :=
  (((s.supplies sup).wakeTo 1 now.ms sources exit10us).sampleCard cardOut).wakeServe sup

theorem execSleepWake_exits (now : Now) {sources : List WakeSource} (exit10us : Nat) (cardOut : Bool) (sup : Supplies) {s : State}
    (hstate : s.pwr.state = .sleep) (hne : sources ++ s.pwr.wakes ≠ []) (hwarn : .vbatWarn ∉ sources ++ s.pwr.wakes) :
    execSleepWake now sources exit10us cardOut sup s =
      .next (s.noteMode (s.sleepWoken now (sources ++ s.pwr.wakes) exit10us cardOut sup)) := by
  have hacts (u : State) : u.wakeWarn now.cyc (sources ++ s.pwr.wakes) = u :=
    if_neg fun h => hwarn (List.contains_iff_mem.mp h)
  rw [execSleepWake, if_neg (not_or.mpr ⟨not_not.mpr hstate, fun h => hne (List.isEmpty_iff.mp h)⟩)]
  exact congrArg (fun u => Host.Outcome.next (s.noteMode u)) (hacts _)

theorem State.sleepWoken_pwr (now : Now) (sources : List WakeSource) (exit10us : Nat) (cardOut : Bool) (sup : Supplies) (s : State) :
    ∃ v, (s.sleepWoken now sources exit10us cardOut sup).pwr =
      { ((s.supplies sup).wakeTo 1 now.ms sources exit10us).pwr with vbatMv := v } := by
  obtain ⟨v, hserve⟩ := State.wakeServe_pwr sup (((s.supplies sup).wakeTo 1 now.ms sources exit10us).sampleCard cardOut)
  exact ⟨v, by rw [State.sleepWoken, hserve, State.sampleCard_pwr]⟩

/-- A frame of the host that woke the module is the host's last one (R81, R88). -/
theorem State.wakeTo_lastHostMs {sources : List WakeSource} (h : .hostMatch ∈ sources) (left ms exit10us : Nat) (s : State) :
    (s.wakeTo left ms sources exit10us).pwr.lastHostMs = ms :=
  if_pos (by simp [hostWoke, h])

/-- A frame of the bus that woke the module is the bus's last one (R81, R87). -/
theorem State.wakeTo_lastBusMs {sources : List WakeSource} (h : .mbusStart ∈ sources) (left ms exit10us : Nat) (s : State) :
    (s.wakeTo left ms sources exit10us).pwr.lastBusMs = ms :=
  if_pos (List.contains_iff_mem.mpr h)

/-- Settles O37: the entry is `enterState` where R81 allows it, a wake is `raiseWake` on the state that has seen VIO_HOST, and the exit
is `wakeTo` with what serves every wake. -/
theorem sleepIsEnteredAndWoken : Obligations.SleepIsEnteredAndWoken := by
  unfold Obligations.SleepIsEnteredAndWoken
  refine ⟨?entry, ?address, ?uart, ?bus, ?exit⟩
  case entry =>
    intro s now hrun hmode
    refine ⟨fun hdue htx hhost hbus hqueue halc hdma => ?_, fun hserving => ?_⟩
    · exact execSleepEntry_enters hrun hmode hdue (State.quiet_iff.mpr ⟨⟨htx, hhost⟩, hqueue, halc⟩) hbus hdma
    · refine execSleepEntry_stays ?_
      rw [← Bool.not_eq_true, State.quiet_iff]
      rcases hserving with hqueue | htx | hhost | hbus
      · exact .inl fun h => hqueue h.2.1
      · exact .inl fun h => by omega
      · exact .inl fun h => by omega
      · exact .inr hbus
  case address =>
    intro s hdr vio hasleep hmode
    refine ⟨fun haddr hvio => ?_, fun hno => if_neg ?_, fun lowUs edges => execUartWake_ignored (.inr (.inl hmode))⟩
    · have hkeeps : Keeps [.pwr, .hl] s (((s.seeVio vio).onHl fun h => { h with out := [0x3C#8] }).raiseWake .hostMatch) :=
        (Moves.after (State.raiseWake_moves .hostMatch _) <| (State.onHl_moves _ _).after (State.seeVio_moves vio s).alone).1
      exact ⟨_, if_pos ⟨hasleep, hvio, hmode, haddr⟩, rfl, State.raiseWake_mem .hostMatch _, rfl, hvio, hkeeps⟩
    · rintro ⟨-, hvio, -, haddr⟩
      exact hno.elim (fun h => h haddr) fun h => by simp [h] at hvio
  case uart =>
    intro s lowUs edges vio hasleep hmode pattern
    have hpattern : wakePattern lowUs edges = true ↔ pattern := wakePattern_iff
    refine ⟨fun hvio hwakes => ?_, fun hno => execUartWake_ignored ?_⟩
    · subst hvio
      refine ⟨_, execUartWake_raises hasleep hmode (hwakes.imp_left hpattern.mpr), ?_, rfl, State.seeVio_raiseWake_keeps true _ s⟩
      simp only [hpattern]
      exact State.raiseWake_mem _ _
    · exact hno.imp_right fun ⟨hno, hstate⟩ => .inr ⟨hstate, Bool.eq_false_iff.mpr (mt hpattern.mp hno)⟩
  case bus =>
    intro s
    refine ⟨fun hstate => ?_, fun hstate => if_neg (by simp [hstate])⟩
    exact ⟨_, if_pos hstate, State.raiseWake_mem .mbusStart s, (State.raiseWake_moves .mbusStart s).1⟩
  case exit =>
    intro s now sources exit10us cardOut sup hstate hne hwarn
    refine ⟨_, execSleepWake_exits now exit10us cardOut sup hstate hne hwarn, ?_⟩
    generalize hall : sources ++ s.pwr.wakes = all at hne hwarn
    obtain ⟨_, hpwr⟩ := s.sleepWoken_pwr now all exit10us cardOut sup
    have hhost (h : .hostMatch ∈ all) := (s.supplies sup).wakeTo_lastHostMs h 1 now.ms exit10us
    have hbus (h : .mbusStart ∈ all) := (s.supplies sup).wakeTo_lastBusMs h 1 now.ms exit10us
    obtain ⟨_, _, _, _, hwake⟩ := (s.supplies sup).wakeTo_pwr 1 now.ms all exit10us
    rw [hwake] at hhost hbus
    rw [State.noteMode_pwr, hpwr, hwake]
    exact ⟨rfl, rfl, rfl, rfl, rfl, hhost, hbus, firstWake_eq hne hwarn⟩

end Sys2Proof.Machine
end

section
/-! Host commands that are taken and answered at once, and the mode event that follows them (R456 to R458, R468). -/

set_option Elab.async false

namespace Sys2Proof.Machine

/-! ### No change of mode -/

/-- s and t agree in what the mode event compares: MODE, TEST and what drives the field pins (R468). -/
structure State.SameMode (s t : State) : Prop where
  mode : t.pwr.mode = s.pwr.mode
  state : t.pwr.state = s.pwr.state
  phase : t.pwr.phase = s.pwr.phase
  failSilent : t.pwr.failSilent = s.pwr.failSilent
  strapRole : t.pwr.strapRole = s.pwr.strapRole
  test : t.meas.test = s.meas.test
  pairActive : t.pair.active = s.pair.active

theorem State.SameMode.of_same {s t : State} (hpwr : t.pwr = s.pwr) (htest : t.meas.test = s.meas.test) (hpair : t.pair = s.pair) :
    s.SameMode t :=
  ⟨by rw [hpwr], by rw [hpwr], by rw [hpwr], by rw [hpwr], by rw [hpwr], htest, by rw [hpair]⟩

theorem State.SameMode.trans {s t u : State} (h : s.SameMode t) (k : t.SameMode u) : s.SameMode u :=
  ⟨k.mode.trans h.mode, k.state.trans h.state, k.phase.trans h.phase, k.failSilent.trans h.failSilent,
    k.strapRole.trans h.strapRole, k.test.trans h.test, k.pairActive.trans h.pairActive⟩

theorem State.SameMode.noteMode_eq {s t : State} (h : s.SameMode t) : s.noteMode t = t := by
  refine if_pos ⟨?_, h.test.symm, ?_⟩
  · simp only [State.modeCode, h.phase, h.mode]
  · simp only [State.drives, State.active, State.normal, State.backup, State.running, h.mode, h.state, h.phase, h.failSilent,
      h.strapRole, h.pairActive]

/-! ### A command with its result at once -/

/-- The state of a command that is taken and has no result yet (R456). -/
def State.commandTaken (code tag arg : Nat) (s : State) : State :=
  s.onHl fun h => { h with arg := arg, taken := some (code, tag), running := true }

theorem State.commandTaken_sameMode (code tag arg : Nat) (s : State) : s.SameMode (s.commandTaken code tag arg) :=
  .of_same rfl rfl rfl

theorem State.setResult_answered {s t : State} {code tag arg : Nat} (h : t.hl = (s.commandTaken code tag arg).hl) (result : Nat) :
    t.setResult result = { t with hl := s.hl.answered code tag arg result } := by
  simp only [State.setResult, State.onHl, h]
  rfl

/-- A command that is taken has its own operation, and then its result (R456, R458). -/
theorem hostCommand_answers {s t : State} {now : Now} {code tag arg result : Nat} (h : s.takesCommand code tag arg = true)
    (hcode : code ≠ 3 ∧ code ≠ 4 ∧ 1 ≤ code ∧ code ≤ 9) (harg : code = 5 ∨ arg = 0)
    (hown : (s.commandTaken code tag arg).ownCommand code arg now = (some result, t)) (hmode : s.SameMode t)
    (hhl : t.hl = (s.commandTaken code tag arg).hl) :
    s.hostCommand code tag arg now = { t with hl := s.hl.answered code tag arg result } := by
  simp only [State.takesCommand, Bool.and_eq_true, Bool.not_eq_true', decide_eq_true_eq] at h
  obtain ⟨⟨⟨⟨⟨⟨⟨hserved, hbusy⟩, htag, hword⟩, hrun⟩, hpf⟩, hdeep⟩, hservice⟩, hnew⟩ := h
  have hsame : s.SameMode (t.setResult result) := hmode.trans (.of_same rfl rfl rfl)
  rw [hostCommand_own hserved hbusy htag hword hrun hpf hdeep hservice hnew hcode.2 harg]
  unfold State.commandTaken at hown
  simp only [hown, if_neg hcode.1]
  exact hsame.noteMode_eq.trans (State.setResult_answered hhl result)

/-- A command that its own conditions refuse changes nothing but its answer. -/
theorem hostCommand_refuses {s : State} {now : Now} {code tag arg result : Nat} (h : s.takesCommand code tag arg = true)
    (hcode : code ≠ 3 ∧ code ≠ 4 ∧ 1 ≤ code ∧ code ≤ 9) (harg : code = 5 ∨ arg = 0)
    (hown : (s.commandTaken code tag arg).ownCommand code arg now = (some result, s.commandTaken code tag arg)) :
    s.hostCommand code tag arg now = { s with hl := s.hl.answered code tag arg result } :=
  hostCommand_answers (t := s.commandTaken code tag arg) h hcode harg hown (s.commandTaken_sameMode code tag arg) rfl

end Sys2Proof.Machine
end

section
/-! ENTER_SHIPPING, START_ZERO_CAL, DISPLAY_FULL_REFRESH and PLANNED_SWITCHOVER (R80, R145, R149, R458, R527, R557). -/

set_option Elab.async false

namespace Sys2Proof.Machine

/-! ### ENTER_SHIPPING -/

theorem State.PairSends.active {s t : State} (h : s.PairSends t) : t.pair.active = s.pair.active := by
  obtain ⟨_, _, _, _, h⟩ := h
  rw [h]

/-- Off is to be entered: the radio and the bus are silent and the panel is left (R80, R82). -/
def State.shippingBegun (ms : Nat) (s : State) : State := (s.silence.dispStop ms).onPwr fun p => { p with shipping := true }

theorem State.shippingBegun_pwr (ms : Nat) (s : State) : (s.shippingBegun ms).pwr = { s.pwr with shipping := true } := by
  rw [State.shippingBegun, State.onPwr_pwr, show (s.silence.dispStop ms).pwr = s.silence.pwr from
    (State.dispStop_moves ms s.silence).same .pwr rfl]
  rfl

/-- The panel is left with what the silence of the radio leaves in the other groups. -/
theorem State.shippingBegun_same (ms : Nat) (s : State) (g : Group)
    (hg : [Group.queue, .pair, .disp, .pwr].contains g = false) : g.same s.silence (s.shippingBegun ms) :=
  Moves.same ((State.onPwr_moves _ _).after (State.dispStop_moves ms s.silence).alone) g hg

theorem State.shippingBegun_sameMode (ms : Nat) (s : State) : s.SameMode (s.shippingBegun ms) := by
  have hpwr := s.shippingBegun_pwr ms
  have hmeas : (s.shippingBegun ms).meas = s.meas := s.shippingBegun_same ms .meas rfl
  exact ⟨by rw [hpwr], by rw [hpwr], by rw [hpwr], by rw [hpwr], by rw [hpwr], by rw [hmeas],
    (State.dispStop_pairSends ms s.silence).active⟩

/-! ### START_ZERO_CAL -/

/-- The answer to START_ZERO_CAL (R145, R149). -/
def State.zeroCalAnswer (arg : Nat) (s : State) : Nat :=
  let ch := arg % 256
  let dur := arg / 256 % 65536
  if 2 ^ 24 ≤ arg ∨ 40 < ch ∨ (dur ≠ 0 ∧ (dur < 30 ∨ 600 < dur)) then 4
  else if s.img.accepted = false ∨ (s.img.module_.commissioned = true ∧ s.meas.test = false) ∨
    (if s.img.module_.commissioned then s.active = false else s.pwr.strapRole = 2) then 2
  else if ch ≠ 0 ∧ (s.cfg ch).type = .off then 4
  else if s.meas.calPhase ≠ 0 then 1
  else 0

/-- The sequencer with the run that waits for the next tick (R145). -/
def State.zeroCalWaits (arg : Nat) (s : State) : Meas :=
  { s.meas with
    calChans := if arg % 256 = 0 then s.activeCh else [arg % 256], calPhase := 1,
    calDur := if arg / 256 % 65536 = 0 then 120 else arg / 256 % 65536, calTick := none }

theorem State.cmdZeroCal_eq (arg : Nat) (s : State) : s.cmdZeroCal arg = (some (s.zeroCalAnswer arg),
    { s with meas := if s.zeroCalAnswer arg = 0 then s.zeroCalWaits arg else s.meas }) := by
  have hch : Word.bits arg 0 8 = arg % 256 := by simp [Word.bits]
  have hdur : Word.bits arg 8 16 = arg / 256 % 65536 := by simp [Word.bits]
  have hstandby : (if s.img.module_.commissioned then s.active = false else s.pwr.strapRole = 2) ↔
      (if s.img.module_.commissioned then !s.active else s.pwr.strapRole == 2) = true := by
    split <;> simp
  simp only [State.cmdZeroCal, State.zeroCalAnswer, hch, hdur, hstandby, Bool.not_eq_true']
  generalize (if s.img.module_.commissioned then !s.active else s.pwr.strapRole == 2) = standby
  split
  · rfl
  split
  · rfl
  split
  · rfl
  split
  · rfl
  · rfl

/-! ### DISPLAY_FULL_REFRESH -/

theorem State.cmdRefresh_answer (ms : Nat) (s : State) :
    (s.cmdRefresh ms).1 = some (if s.dispCfg.isSome && s.dispNormal then 0 else 2) := by
  unfold State.cmdRefresh
  split
  · rename_i hcfg
    simp [hcfg]
  · rename_i c hcfg
    cases hnormal : s.dispNormal <;> simp [hcfg]

theorem State.cmdRefresh_refused (ms : Nat) {s : State} (h : (s.dispCfg.isSome && s.dispNormal) = false) : (s.cmdRefresh ms).2 = s := by
  unfold State.cmdRefresh
  split
  · rfl
  · rename_i c hcfg
    rw [if_pos (by simpa [hcfg] using h)]

/-- A request for a full refresh is held, or one that waits already stands for it (R527). -/
theorem Disp.hold_isRefresh {u : Update} (hu : u.isRefresh = true) (d : Disp) :
    ∃ v ∈ (d.hold u).held ++ (d.hold u).updates, v.isRefresh = true := by
  unfold Disp.hold
  split
  · rename_i hwaits
    simp only [hu, Bool.true_and, List.any_eq_true, List.mem_append, List.mem_filter] at hwaits
    obtain ⟨v, hv, hrefresh⟩ := hwaits
    exact ⟨v, List.mem_append.mpr (hv.imp_right And.left), hrefresh⟩
  · split
    · rename_i hsame
      obtain ⟨v, hv, htarget⟩ := List.any_eq_true.mp hsame
      refine ⟨{ u with why := if v.why = .screen then .screen else u.why }, List.mem_append_left _ ?_, hu⟩
      exact List.mem_map.mpr ⟨v, hv, if_pos htarget⟩
    · exact ⟨u, by simp, hu⟩

theorem State.cmdRefresh_asks (ms : Nat) {s : State} (h : (s.dispCfg.isSome && s.dispNormal) = true) (hrails : s.disp.railsOn = true) :
    ∃ u ∈ (s.cmdRefresh ms).2.disp.held ++ (s.cmdRefresh ms).2.disp.updates, u.isRefresh = true := by
  rw [Bool.and_eq_true] at h
  obtain ⟨c, hcfg⟩ := Option.isSome_iff_exists.mp h.1
  have hheld : (s.cmdRefresh ms).2.disp = s.disp.hold (.ask (.refresh 2) .screen false true) := by
    have hon : (s.ask (.ask (.refresh 2) .screen false true)).disp.railsOn = true := by
      rw [State.ask, State.onDisp_disp]
      unfold Disp.hold
      split
      · exact hrails
      · split <;> exact hrails
    simp only [State.cmdRefresh, hcfg, h.2, State.decideIfOff, hon]
    rfl
  rw [hheld]
  exact Disp.hold_isRefresh rfl s.disp

/-! ### PLANNED_SWITCHOVER -/

theorem State.maySwitch_iff {s : State} : s.maySwitch = true ↔ s.paired = true ∧ s.active = true ∧ s.normal = true ∧
    s.meas.test = false ∧ s.meas.calPhase = 0 ∧ s.pair.switching = false ∧ s.pair.phase = 3 ∧ s.pair.ready = true ∧
    s.pair.peerVbus = true := by
  simp only [State.maySwitch, Bool.and_eq_true, Bool.not_eq_true', beq_iff_eq, and_assoc]

/-- Settles O27: each command is decided by its own operation on the state that has taken it, and none of them changes the mode. -/
theorem shippingCalibrationRefreshAndSwitchoverCommands : Obligations.ShippingCalibrationRefreshAndSwitchoverCommands := by
  unfold Obligations.ShippingCalibrationRefreshAndSwitchoverCommands
  refine ⟨?shipping, ?zeroCal, ?refresh, ?switchover⟩
  case shipping =>
    intro s now tag h
    refine ⟨fun hcomm => congrArg Host.Outcome.next (hostCommand_refuses h (by decide) (.inr rfl) (if_pos hcomm)), fun hcomm => ?_⟩
    have hown : (s.commandTaken 2 tag 0).ownCommand 2 0 now = (some 0, (s.commandTaken 2 tag 0).shippingBegun now.ms) :=
      if_neg (Bool.eq_false_iff.mp hcomm)
    have hsame := (s.commandTaken 2 tag 0).shippingBegun_same now.ms
    have hmode : s.SameMode ((s.commandTaken 2 tag 0).shippingBegun now.ms) :=
      (s.commandTaken_sameMode 2 tag 0).trans (State.shippingBegun_sameMode now.ms _)
    refine ⟨_, congrArg Host.Outcome.next (hostCommand_answers h (by decide) (.inr rfl) hown hmode (hsame .hl rfl)),
      (s.commandTaken 2 tag 0).shippingBegun_pwr now.ms, rfl, ?_, ?_, ?_, rfl, hsame .rtc rfl, hsame .chans rfl⟩
    · exact congrArg Radio.queue (hsame .radio rfl)
    · exact congrArg Radio.window (hsame .radio rfl)
    · exact congrArg MBus.selected (hsame .mbus rfl)
  case zeroCal =>
    intro s now tag arg h
    refine congrArg Host.Outcome.next ((hostCommand_answers h (by decide) (.inl rfl) (State.cmdZeroCal_eq arg _) ?_ rfl).trans rfl)
    refine ⟨rfl, rfl, rfl, rfl, rfl, ?_, rfl⟩
    show (if _ then _ else _ : Meas).test = _
    split
    · rfl
    · rfl
  case refresh =>
    intro s now tag h
    have hmoves := State.cmdRefresh_moves now.ms (s.commandTaken 8 tag 0)
    have hown : (s.commandTaken 8 tag 0).ownCommand 8 0 now = (some (if s.dispCfg.isSome && s.dispNormal then 0 else 2), _) :=
      Prod.ext (State.cmdRefresh_answer now.ms _) rfl
    have hmode : s.SameMode ((s.commandTaken 8 tag 0).cmdRefresh now.ms).2 :=
      .of_same (hmoves.same .pwr rfl) (congrArg Meas.test (hmoves.same .meas rfl)) (hmoves.same .pair rfl)
    refine ⟨_, congrArg Host.Outcome.next (hostCommand_answers h (by decide) (.inr rfl) hown hmode (hmoves.same .hl rfl)),
      hmoves.same .pwr rfl, hmoves.same .meas rfl, hmoves.same .chans rfl, rfl, fun hno => ?_, fun hyes hrails => ?_⟩
    · have hsame : ((s.commandTaken 8 tag 0).cmdRefresh now.ms).2 = s.commandTaken 8 tag 0 := State.cmdRefresh_refused now.ms hno
      show ((s.commandTaken 8 tag 0).cmdRefresh now.ms).2.disp = s.disp
      rw [hsame]
      rfl
    · exact State.cmdRefresh_asks now.ms (s := s.commandTaken 8 tag 0) hyes hrails
  case switchover =>
    intro s now tag h
    by_cases hmay : s.maySwitch = true
    · have hown : (s.commandTaken 9 tag 0).ownCommand 9 0 now = (some 0, (s.commandTaken 9 tag 0).onPair fun p =>
        { p with switching := true, handTick := none, switchAt := now.ms }) := if_pos hmay
      rw [if_pos (State.maySwitch_iff.mp hmay)]
      exact congrArg Host.Outcome.next
        (hostCommand_answers h (by decide) (.inr rfl) hown ⟨rfl, rfl, rfl, rfl, rfl, rfl, rfl⟩ rfl)
    · rw [if_neg (mt State.maySwitch_iff.mpr hmay)]
      exact congrArg Host.Outcome.next (hostCommand_refuses h (by decide) (.inr rfl) (if_neg hmay))

end Sys2Proof.Machine
end

section
/-! What a LINK reset leaves (R98, R103, R342, R454, R469, R498). -/

set_option Elab.async false

namespace Sys2Proof.Machine

/-! ### DC12 to DC15 -/

/-- Steps that each put one DMA channel with a property: those put have it, the others are as they were. -/
theorem dc_foldl_setDc {P : DmaCh → Prop} {g : State → Nat → State} {l : List Nat} {s t : State} (ht : t = l.foldl g s)
    (hl : ∀ k ∈ l, k < 16) (hg : ∀ u k, ∃ c, P c ∧ g u k = u.setDc k c) {j : Nat} (hj : j < 16) :
    (j ∉ l → t.dc j = s.dc j) ∧ (j ∈ l → P (t.dc j)) := by
  subst ht
  induction l generalizing s with
  | nil => exact ⟨fun _ => rfl, fun h => absurd h (by simp)⟩
  | cons a l ih =>
    obtain ⟨c, hc, hput⟩ := hg s a
    have ha : a < 16 := hl a (by simp)
    obtain ⟨hkept, hdone⟩ := ih (s := g s a) fun k hk => hl k (by simp [hk])
    refine ⟨fun h => ?_, fun h => ?_⟩
    · rw [List.mem_cons, not_or] at h
      rw [List.foldl_cons, hkept h.2, hput, dc_setDc s a j c ha hj, if_neg h.1]
    · by_cases hmem : j ∈ l
      · exact hdone hmem
      · have hja : j = a := (List.mem_cons.mp h).resolve_right hmem
        rw [List.foldl_cons, hkept hmem, hput, dc_setDc s a j c ha hj, if_pos hja]
        exact hc

/-- A channel of the host that a LINK reset has stopped or has asked to stop: no staged or armed set (R98, R498). -/
def DmaCh.LinkStopped (c : DmaCh) : Prop := c.armed = none ∧ c.stagePc = 0 ∧ c.stagePrio = 0 ∧ (c.run = true → c.stop = true)

theorem State.dmaLinkReset_dc (s : State) {k : Nat} (hk : k < 16) :
    (k < 12 → s.dmaLinkReset.dc k = s.dc k) ∧ (12 ≤ k → (s.dmaLinkReset.dc k).LinkStopped) := by
  obtain ⟨hkept, hdone⟩ := dc_foldl_setDc (P := DmaCh.LinkStopped) (t := s.dmaLinkReset) (l := [12, 13, 14, 15]) rfl (by decide)
    (fun u k => by
      dsimp only
      split
      · exact ⟨_, ⟨rfl, rfl, rfl, Bool.noConfusion⟩, rfl⟩
      · exact ⟨_, ⟨rfl, rfl, rfl, fun _ => rfl⟩, rfl⟩) hk
  exact ⟨fun h => hkept (by simp; omega), fun h => hdone (by simp; omega)⟩

/-- The registers of the engine are as they were. -/
theorem State.dmaLinkReset_dma (s : State) : s.dmaLinkReset.dma = { s.dma with chs := s.dmaLinkReset.dma.chs } := by
  unfold State.dmaLinkReset
  refine foldDma _ (fun t k => ?_) _ s
  dsimp only
  split
  · rfl
  · rfl

/-! ### The reset of the host partition -/

/-- The host partition reset, before DC12 to DC15 are stopped (R98, R342). -/
def State.hostCleared (s : State) : State :=
  (s.clearHostCounts.onHl fun h => { HostLink.reset with
    fails := h.fails, lockedOut := h.lockedOut, lockUntil := h.lockUntil, chalCount := h.chalCount }).onRtc fun c =>
      if c.halt then c.dropHalt else c

theorem State.linkState_eq (s : State) : s.linkState = s.hostCleared.dmaLinkReset := rfl

/-- The W1C event registers and the RC counters of the units other than the host link, the clock and the DMA engine are 0, and the
rest of their groups is as it was (R98). -/
structure State.CountsCleared (s t : State) : Prop where
  meas : t.meas = { s.meas with overrun := 0, window := updAt s.meas.window 2 fun _ => 0 }
  radio : t.radio = { s.radio with events := 0#32, rejected := 0, discarded := 0, frames := 0, crcErr := 0, dropped := 0 }
  sess : t.sess = { s.sess with evictions := 0, dups := 0, busy := 0, authFail := 0, replays := 0 }
  alc : t.alc = { s.alc with refused := 0 }
  mbus : t.mbus = { s.mbus with frameErr := 0, answered := 0 }
  pair : t.pair = { s.pair with events := 0#32, crcErrors := 0, resends := 0, resendFail := 0 }
  flt : t.flt = { s.flt with
    events := 0#32, corr := 0, corrScrub := 0, uncorr := 0, parCount := 0, parBanks := 0, dmrCount := 0, dmrCh := 0, dmrWord := 0 }
  tamper : t.tamper = { s.tamper with events := 0#32 }
  disp : t.disp = { s.disp with events := 0#32 }

theorem State.CountsCleared.of_moves {gs : List Group} {s t u : State} (h : s.CountsCleared t) (hmoves : Moves gs t u)
    (hgs : [Group.meas, .radio, .sess, .alc, .mbus, .pair, .flt, .tamper, .disp].all (fun g => !gs.contains g) = true := by rfl) :
    s.CountsCleared u := by
  have same (g : Group) (hg : g ∈ [Group.meas, .radio, .sess, .alc, .mbus, .pair, .flt, .tamper, .disp]) : g.same t u :=
    hmoves.same g (Bool.not_eq_true' _ ▸ List.all_eq_true.mp hgs g hg)
  exact ⟨(same .meas (by decide)).trans h.meas, (same .radio (by decide)).trans h.radio, (same .sess (by decide)).trans h.sess,
    (same .alc (by decide)).trans h.alc, (same .mbus (by decide)).trans h.mbus, (same .pair (by decide)).trans h.pair,
    (same .flt (by decide)).trans h.flt, (same .tamper (by decide)).trans h.tamper, (same .disp (by decide)).trans h.disp⟩

theorem State.clearHostCounts_countsCleared (s : State) : s.CountsCleared s.clearHostCounts := by
  unfold State.clearHostCounts
  refine State.CountsCleared.of_moves ?_ (State.forCh_onCh_moves allCh _ _)
  exact ⟨rfl, rfl, rfl, rfl, rfl, rfl, rfl, rfl, rfl⟩

theorem State.linkState_countsCleared (s : State) : s.CountsCleared s.linkState := by
  have hmoves : Moves [.hl, .rtc, .dma] s.clearHostCounts s.linkState := (State.dmaLinkReset_moves s.hostCleared).after <|
    (State.onRtc_moves _ _).after (State.onHl_moves s.clearHostCounts _).alone
  exact s.clearHostCounts_countsCleared.of_moves hmoves

theorem State.linkState_rtc (s : State) : ∃ date time, s.linkState.rtc = { s.rtc with
    halt := false, pendDate := date, pendTime := time, badWrite := false, slewRefused := false, autoRelease := false,
    stepped := false } := by
  rw [State.linkState_eq, State.dmaLinkReset_rtc, State.hostCleared, State.onRtc_rtc, State.onHl_rtc, State.clearHostCounts_rtc]
  dsimp only
  split
  · exact ⟨_, _, rfl⟩
  · rename_i hhalt
    have hreleased : s.rtc.halt = false := Bool.eq_false_iff.mpr hhalt
    exact ⟨s.rtc.pendDate, s.rtc.pendTime, by rw [← hreleased]⟩

theorem State.hostCleared_dma (s : State) : s.hostCleared.dma = { s.dma with events := 0#32, eventEn := 0#32, errBits := 0#32 } := by
  rw [State.hostCleared, State.onRtc_dma, State.onHl_dma]
  unfold State.clearHostCounts
  exact (State.forCh_onCh_moves allCh _ _).same .dma rfl

theorem State.linkState_dma (s : State) : ∃ chs, s.linkState.dma = { s.dma with
    events := 0#32, eventEn := 0#32, errBits := 0#32, chs := chs } :=
  ⟨_, by rw [State.linkState_eq, State.dmaLinkReset_dma, State.hostCleared_dma]⟩

theorem State.linkState_dc (s : State) {k : Nat} (hk : k < 16) :
    (k < 12 → s.linkState.dc k = s.dc k) ∧ (12 ≤ k → (s.linkState.dc k).LinkStopped) := by
  have hcleared : s.hostCleared.dc k = s.dc k := by simp only [State.dc, State.hostCleared_dma]
  obtain ⟨hkept, hstopped⟩ := s.hostCleared.dmaLinkReset_dc hk
  exact ⟨fun h => (hkept h).trans hcleared, hstopped⟩

/-- The live event latch of every channel is 0 (R98, R212). -/
theorem State.linkState_ch (s : State) {n : Nat} (h1 : 1 ≤ n) (h40 : n ≤ 40) :
    s.linkState.ch n = { s.ch n with flow := { (s.ch n).flow with events := 0#32 } } := by
  have hchans : s.linkState.chans = s.clearHostCounts.chans := (State.dmaLinkReset_moves s.hostCleared).same .chans rfl
  rw [ch_congr hchans, State.clearHostCounts]
  exact forCh_map _ _ n h1 h40

/-! ### The LINK reset and its cause -/

theorem State.linkDone_pwr (causes : Nat) (s : State) : (s.linkDone causes).pwr = { s.pwr with
    events := 0#32, cause := s.pwr.cause ||| causes ||| s.hl.linkDue } := by
  rw [State.linkDone, State.onPwr_pwr, State.linkState_pwr]

theorem State.linkDone_hl (causes : Nat) (s : State) : (s.linkDone causes).hl = { HostLink.reset with
    fails := s.hl.fails, lockedOut := s.hl.lockedOut, lockUntil := s.hl.lockUntil, chalCount := s.hl.chalCount } := by
  rw [State.linkDone, State.onPwr_hl, State.linkState_hl]

theorem State.linkDone_rtc (causes : Nat) (s : State) : (s.linkDone causes).rtc = s.linkState.rtc := by
  rw [State.linkDone, State.onPwr_rtc]

theorem State.linkDone_dma (causes : Nat) (s : State) : (s.linkDone causes).dma = s.linkState.dma := by
  rw [State.linkDone, State.onPwr_dma]

theorem State.linkDone_dc (causes : Nat) (s : State) (k : Nat) : (s.linkDone causes).dc k = s.linkState.dc k := by
  rw [State.dc, State.linkDone_dma, State.dc]

theorem State.linkDone_ch (causes : Nat) (s : State) (n : Nat) : (s.linkDone causes).ch n = s.linkState.ch n :=
  ch_congr (by rw [State.linkDone, State.onPwr_chans])

theorem State.linkDone_countsCleared (causes : Nat) (s : State) : s.CountsCleared (s.linkDone causes) :=
  s.linkState_countsCleared.of_moves (State.onPwr_moves _ _)

/-- A LINK reset is no change of mode (R468). -/
theorem State.linkDone_sameMode (causes : Nat) (s : State) : s.SameMode (s.linkDone causes) := by
  have hpwr := s.linkDone_pwr causes
  have hcounts := s.linkDone_countsCleared causes
  exact ⟨by rw [hpwr], by rw [hpwr], by rw [hpwr], by rw [hpwr], by rw [hpwr], by rw [hcounts.meas], by rw [hcounts.pair]⟩

/-- Without posted writes the reset takes effect at once (R98). -/
theorem State.linkReset_of_empty {s : State} (h : s.hl.wbuf = []) (cause : Nat) (now : Now) :
    s.linkReset cause now = s.linkDone (2 ^ cause) := by
  rw [State.linkReset, h]
  rfl

/-- A write to HOST_SCRATCH waits for the HOARD controller (R48, R449). -/
theorem State.entryReady_scratch {e : PostedWrite} (hlo : 0x2F0000 ≤ e.addr) (hhi : e.addr < 0x300000) (s : State) :
    s.entryReady e = (s.mem.queue.isEmpty && !s.pwr.nvInhibit) := by
  simp [State.entryReady, hlo, hhi]

/-- A posted write that waits makes the reset wait for it (R98). -/
theorem State.linkReset_waits {s : State} {e : PostedWrite} {rest : List PostedWrite} (hbuf : s.hl.wbuf = e :: rest)
    (hready : s.entryReady e = false) (cause : Nat) (now : Now) :
    s.linkReset cause now = s.onHl fun h => { h with linkDue := h.linkDue ||| 2 ^ cause } := by
  rw [State.linkReset, hbuf]
  simp only [List.length_cons, State.linkN, hbuf]
  exact if_neg (by simp [hready])

/-- The state in which a LINK reset begins: its command has been taken, or its frame has been heard. -/
def State.linkBegins (ms arg : Nat) (taken : Option (Nat × Nat)) (running : Bool) (s : State) : State :=
  (s.onPwr fun p => { p with lastHostMs := ms }).onHl fun h => { h with arg := arg, taken := taken, running := running }

/-- A break has begun the reset in the state that it met. -/
theorem State.linkBegins_self (s : State) : s.linkBegins s.pwr.lastHostMs s.hl.arg s.hl.taken s.hl.running = s := rfl

theorem State.linkBegins_sameMode (ms arg : Nat) (taken : Option (Nat × Nat)) (running : Bool) (s : State) :
    s.SameMode (s.linkBegins ms arg taken running) :=
  ⟨rfl, rfl, rfl, rfl, rfl, rfl, rfl⟩

theorem State.linkBegins_moves (ms arg : Nat) (taken : Option (Nat × Nat)) (running : Bool) (s : State) :
    Moves [.pwr, .hl] s (s.linkBegins ms arg taken running) :=
  (State.onHl_moves _ _).after (State.onPwr_moves s _).alone

theorem State.linkBegins_linkReset {s : State} (h : s.hl.wbuf = []) (ms arg : Nat) (taken : Option (Nat × Nat)) (running : Bool)
    (cause : Nat) (now : Now) : (s.linkBegins ms arg taken running).linkReset cause now =
      (s.linkBegins ms arg taken running).linkDone (2 ^ cause) :=
  State.linkReset_of_empty (s := s.linkBegins ms arg taken running) h cause now

/-! ### The commands -/

theorem State.linkDue_of_not_linkBusy {s : State} (h : s.linkBusy = false) : s.hl.linkDue = 0 := by
  simpa [State.linkBusy] using h

theorem execLinkReset_resets {s : State} (now : Now) {tag : Nat} (arg : Nat) (hserved : s.hostServed = true) (hbuf : s.hl.wbuf = [])
    (hbusy : s.linkBusy = false) (hrun : s.hl.running = false) (hnew : s.hl.taken ≠ some (4, tag % 256)) :
    exec (.linkReset now tag arg) s =
      .next ((s.linkBegins s.pwr.lastHostMs (arg % 2 ^ 32) (some (4, tag % 256)) true).linkDone (2 ^ 16)) := by
  have htaken : (s.onHl fun h => { h with arg := arg % 2 ^ 32 }).runCommand (State.linkCmd now) 4 (tag % 256) now =
      (s.linkBegins s.pwr.lastHostMs (arg % 2 ^ 32) (some (4, tag % 256)) true).linkReset 16 now :=
    (if_neg hnew).trans (if_neg (Bool.eq_false_iff.mp hrun))
  show Host.Outcome.next (s.hostCommand 4 tag arg now) = _
  rw [State.hostCommand, if_neg (by simp [hserved, hbusy]), htaken, State.linkBegins_linkReset hbuf]
  rw [((s.linkBegins_sameMode _ _ _ _).trans (State.linkDone_sameMode _ _)).noteMode_eq]

theorem execProtocolReset_resets {s : State} (now : Now) {hdr : Byte} {n : Nat} (hserved : s.hostServed = true)
    (hbuf : s.hl.wbuf = []) (hmode : s.pwr.straps.hostmode = true) (hname : s.namesModule hdr = true) (hn : 6 ≤ n) :
    exec (.protocolReset now hdr n) s =
      .next ((s.linkBegins now.ms s.hl.arg s.hl.taken s.hl.running).linkDone (2 ^ 17)) := by
  have hplace := hserved
  simp only [State.hostServed, Bool.and_eq_true, decide_eq_true_eq] at hplace
  obtain ⟨hvio, hstate, -⟩ := hplace
  show execProtocolReset now hdr n s = _
  rw [execProtocolReset, if_neg (by simp [hmode, hname, hvio]), if_neg (by simp [State.asleep, hstate]), if_neg (by simp [hserved])]
  have hheard : (s.onPwr fun p => { p with lastHostMs := now.ms }) = s.linkBegins now.ms s.hl.arg s.hl.taken s.hl.running := rfl
  rw [hheard]
  dsimp only
  rw [if_pos hn, State.linkBegins_linkReset hbuf]

theorem execUartBreak_resets {s : State} (now : Now) {ms : Nat} (hserved : s.hostServed = true)
    (hmode : s.pwr.straps.hostmode = false) (hms : 10 ≤ ms) : exec (.uartBreak now ms) s = .next (s.linkReset 17 now) :=
  if_neg (by simp [hmode, hserved, hms])

/-- The last posted write, one to HOST_SCRATCH, executes, and the reset that waited for it follows (R98, R449). -/
theorem execWriteBufferExecute_finishes {s : State} (now : Now) {e : PostedWrite} (hserved : s.hostServed = true)
    (hbuf : s.hl.wbuf = [e]) (hlo : 0x80000 ≤ e.addr) (hhi : e.addr < 0x400000) (hready : s.entryReady e = true)
    (hbusy : s.linkBusy = true) : exec (.writeBufferExecute now) s =
      .next (((s.onHl fun h => { h with wbuf := [] }).scratchWrite e.addr e.data).linkDone 0) := by
  have hhead : s.runHead now = (s.onHl fun h => { h with wbuf := [] }).scratchWrite e.addr e.data := by
    simp only [State.runHead, hbuf]
    rw [if_pos hready, State.runEntry, if_neg (by omega), if_neg (by omega)]
  show execWriteBufferExecute now s = _
  rw [execWriteBufferExecute, if_pos hserved, hhead]
  refine congrArg Host.Outcome.next (if_pos ?_)
  rw [Bool.and_eq_true]
  exact ⟨hbusy, rfl⟩

/-- Settles O24: each of the three commands is `linkDone` on the state in which its reset begins, a posted write that waits holds the
reset back, and its execution ends in `linkDone`. -/
theorem linkResetLeavesMetrologyAlone : Obligations.LinkResetLeavesMetrologyAlone := by
  unfold Obligations.LinkResetLeavesMetrologyAlone
  intro after
  have hreset {s : State} (hbusy : s.linkBusy = false) (ms arg taken running) (bit : Nat) :
      after s ((s.linkBegins ms arg taken running).linkDone (2 ^ bit)) bit := by
    have hdue : (s.linkBegins ms arg taken running).hl.linkDue = 0 := State.linkDue_of_not_linkBusy hbusy
    have hlink := (s.linkBegins ms arg taken running).linkDone_hl (2 ^ bit)
    have hpwr := (s.linkBegins ms arg taken running).linkDone_pwr (2 ^ bit)
    have hcounts := (s.linkBegins ms arg taken running).linkDone_countsCleared (2 ^ bit)
    obtain ⟨_, _, hrtc⟩ := (s.linkBegins ms arg taken running).linkState_rtc
    obtain ⟨_, hdma⟩ := (s.linkBegins ms arg taken running).linkState_dma
    have hdc (k : Nat) (hk : k < 16) := (s.linkBegins ms arg taken running).linkState_dc hk
    have hch (n : Nat) (h1 : 1 ≤ n) (h40 : n ≤ 40) := (s.linkBegins ms arg taken running).linkState_ch h1 h40
    have hmoves : Moves [.hl, .pwr, .rtc, .meas, .radio, .sess, .alc, .mbus, .pair, .flt, .tamper, .disp, .dma, .chans] s
        ((s.linkBegins ms arg taken running).linkDone (2 ^ bit)) :=
      (State.linkDone_moves _ _).after (s.linkBegins_moves ms arg taken running).alone
    simp only [← State.linkDone_rtc (2 ^ bit), ← State.linkDone_dma (2 ^ bit), ← State.linkDone_dc (2 ^ bit),
      ← State.linkDone_ch (2 ^ bit)] at hrtc hdma hdc hch
    rw [hdue, Nat.or_zero] at hpwr
    generalize (s.linkBegins ms arg taken running).linkDone (2 ^ bit) = t at *
    show t.hl = _ ∧ t.pwr.cause = _ ∧ t.pwr.events = _ ∧ _
    rw [hpwr, hrtc, hdma]
    exact ⟨hlink, rfl, rfl, rfl, rfl, rfl, rfl, rfl, rfl, rfl, rfl, hcounts.meas, hcounts.radio, hcounts.sess, hcounts.alc,
      hcounts.mbus, hcounts.pair, hcounts.flt, hcounts.tamper, hcounts.disp, rfl, rfl, rfl,
      fun k _ hk => (hdc k (by omega)).1 hk, fun k hk hk16 => (hdc k hk16).2 hk, hch, hmoves.1⟩
  refine ⟨fun s now hserved hbuf hbusy => ⟨?command, ?protocol, ?uart⟩,
    fun s now e rest hserved hbuf hlo hhi _ => ⟨?waits, ?finishes⟩⟩
  case command =>
    intro tag arg hrun hnew
    exact ⟨_, execLinkReset_resets now arg hserved hbuf hbusy hrun hnew, hreset hbusy _ _ _ _ 16⟩
  case protocol =>
    intro hdr n hmode hname hn
    exact ⟨_, execProtocolReset_resets now hserved hbuf hmode hname hn, hreset hbusy _ _ _ _ 17⟩
  case uart =>
    intro ms hmode hms
    have hexec := execUartBreak_resets now hserved hmode hms
    rw [State.linkReset_of_empty hbuf, ← s.linkBegins_self] at hexec
    exact ⟨_, hexec, hreset hbusy _ _ _ _ 17⟩
  case waits =>
    intro ms hmode hms hwaits
    have hready : s.entryReady e = false := by
      rw [State.entryReady_scratch hlo hhi]
      rcases hwaits with hqueue | hinhibit
      · simp [hqueue]
      · simp [hinhibit]
    rw [execUartBreak_resets now hserved hmode hms, State.linkReset_waits hbuf hready]
    rfl
  case finishes =>
    intro hrest hbusy hqueue hinhibit
    subst hrest
    have hready : s.entryReady e = true := by simp [State.entryReady_scratch hlo hhi, hqueue, hinhibit]
    refine ⟨_, execWriteBufferExecute_finishes now hserved hbuf (by omega) (by omega) hready hbusy, ?_⟩
    have hmoves := State.linkDone_moves 0 ((s.onHl fun h => { h with wbuf := [] }).scratchWrite e.addr e.data)
    obtain ⟨_, _, hrtc⟩ := ((s.onHl fun h => { h with wbuf := [] }).scratchWrite e.addr e.data).linkState_rtc
    rw [State.linkBusy, State.linkDone_hl, State.linkDone_pwr, State.linkDone_rtc, hrtc, Nat.or_zero]
    exact ⟨rfl, rfl, rfl, rfl, rfl, rfl, rfl, hmoves.same .hoard rfl, hmoves.same .outs rfl, hmoves.same .bridge rfl⟩

end Sys2Proof.Machine
end

section
/-! COMMISSION_COMPLETE in a pair: the PRIMARY's PAIR record joins the HOARD queue behind the records of COMMISSION (R148, R538, R559). -/

set_option Elab.async false

namespace Sys2Proof.Machine

/-- The PAIR record in its two slots, as the HOARD queue holds it (R538). -/
def PairRec.queued (p : PairRec) : HoardRec := { kind := .slots 0x100880 0x1008A0, body := p.bytes }

theorem State.commitPair_queue (s : State) : s.commitPair.mem.queue = s.mem.queue ++ [s.pair.record.queued] :=
  State.enqueue_queue _ s

/-- An activation puts the PAIR record with the next EPOCH behind what is in the queue (R538, R552). -/
theorem State.declare_queue (kind : Nat) (s : State) :
    ∃ p : PairRec, p.epoch = s.pair.record.epoch + 1 ∧ (s.declare kind).mem.queue = s.mem.queue ++ [p.queued] :=
  ⟨_, rfl, ((State.freeCtxs_moves _).same .queue rfl).trans (State.commitPair_queue _)⟩

/-- In a pair the commissioned member becomes active with EPOCH 1: its PAIR record joins the queue (R559). -/
theorem State.commissionPair_queue {s : State} (h : s.paired = true) :
    ∃ p : PairRec, p.epoch = 1 ∧ s.commissionPair.mem.queue = s.mem.queue ++ [p.queued] := by
  obtain ⟨p, hepoch, hqueue⟩ :=
    (s.onPair fun p => { p with record := { p.record with epoch := 0 } }).declare_queue 0
  refine ⟨p, hepoch, ?_⟩
  rw [State.commissionPair, if_neg (by simp [h])]
  dsimp only
  split
  · exact hqueue
  · exact hqueue

/-- On a member of a pair, COMMISSION_COMPLETE lands what was queued and leaves the PAIR record with EPOCH 1 waiting. -/
theorem exec_commissionComplete_queue {s : State} (now : Now) (hpow : s.powered = true) (hrun : s.img.commissioning = true)
    (hnot : s.img.module_.commissioned = false) (hland : s.canLand = true) (hpair : s.paired = true) :
    ∃ t, exec (.commissionComplete now) s = .next t ∧ ∃ p : PairRec, p.epoch = 1 ∧ t.mem.queue = [p.queued] := by
  refine ⟨_, if_neg (by simp [hpow, hrun, hnot, hland]), ?_⟩
  obtain ⟨p, hepoch, hqueue⟩ := State.commissionPair_queue
    (s := s.drain.onImg fun i => { i with module_ := { i.module_ with commissioned := true } }) hpair
  rw [State.onImg_mem, State.drain_queue, List.nil_append] at hqueue
  refine ⟨p, hepoch, ?_⟩
  split
  · exact hqueue
  · exact hqueue

/-- A PRIMARY in UNCONFIGURED on VBUS whose COMMISSION runs, and whose records have landed (R147, R148). -/
def commissioningPrimary : State := { State.reset with
  pwr := { Pwr.reset with
    state := .run, phase := .running, mode := .unconfigured, vbusOk := true, settRun := true, rootOk := true, strapRole := 1 },
  rtc := { Rtc.reset with settLost := false },
  img := { State.reset.img with accepted := true, commissioning := true } }

/-- Refutes O28: on a PRIMARY, COMMISSION_COMPLETE does not leave the HOARD queue empty. The member becomes active with EPOCH 1 (R559),
and its PAIR record waits in the queue. -/
theorem not_commissionClearsAndCommissions : ¬ Obligations.CommissionClearsAndCommissions := by
  unfold Obligations.CommissionClearsAndCommissions
  rintro ⟨-, -, hcomplete⟩
  have hpow : commissioningPrimary.powered = true := by decide
  have hland : commissioningPrimary.canLand = true := by decide
  obtain ⟨t, hexec, hempty, -⟩ := hcomplete commissioningPrimary ⟨0, 0, 0⟩ hpow rfl rfl hland
  obtain ⟨u, hexec', p, -, hqueue⟩ := exec_commissionComplete_queue ⟨0, 0, 0⟩ hpow rfl rfl hland (by decide)
  obtain rfl : t = u := Host.Outcome.next.inj (hexec.symm.trans hexec')
  rw [hempty] at hqueue
  exact List.cons_ne_nil _ _ hqueue.symm

end Sys2Proof.Machine
end

section
/-! The channel window: what a write to CHSEL latches, and what its registers read (R175). -/

set_option Elab.async false

namespace Sys2Proof.Machine

theorem exec_chselWrite {s : State} {v : Word} (h : s.takesWrite 0x11C = true) :
    exec (.chselWrite v) s = .next (s.chselWrite v.toNat) :=
  congrArg Host.Outcome.next (asWrite_takes h)

theorem State.windowOf_length (s : State) (n : Nat) : (s.windowOf n).length = 32 := rfl

theorem State.readReg_chsel (s : State) (now : Now) : s.readReg 0x11C now = (s.meas.chsel, s) := rfl

/-- Each of the 32 registers of the window reads its latched word, and the read clears nothing. -/
theorem State.readReg_window (s : State) (now : Now) {i : Nat} (h : i < 32) :
    s.readReg (0x140 + 4 * i) now = (nth s.meas.window i 0, s) := by
  interval_cases i <;> rfl

theorem nth_replicate {α : Type} (k i : Nat) (a : α) : nth (List.replicate k a) i a = a := by
  induction k generalizing i with
  | zero => rfl
  | succ k ih => cases i with
    | zero => rfl
    | succ i => exact ih i

/-- Settles O15: the write is `chselWrite`, and each register of the window reads the word that it latched. -/
theorem chselLatchesTheChannelWindow : Obligations.ChselLatchesTheChannelWindow := by
  unfold Obligations.ChselLatchesTheChannelWindow
  refine ⟨fun s v h => exec_chselWrite h, ⟨rfl, fun i _ => nth_replicate 32 i 0⟩, State.windowOf_length, ?chsel, ?window⟩
  case chsel => exact fun s now => Prod.ext_iff.mp (s.readReg_chsel now)
  case window => exact fun s now i h => Prod.ext_iff.mp (s.readReg_window now h)

end Sys2Proof.Machine
end

section
/-! One channel at a time: its flow path written, its other parts and the other channels as they were (R15). -/

set_option Elab.async false

namespace Sys2Proof.Machine

section
variable {n : Nat} {s t u : State}

theorem OthersSame.refl (n : Nat) (s : State) : OthersSame n s s := fun _ _ _ _ => rfl

theorem OthersSame.trans (h : OthersSame n s t) (k : OthersSame n t u) : OthersSame n s u :=
  fun m hm hm40 hne => (k m hm hm40 hne).trans (h m hm hm40 hne)

theorem OthersSame.of_chans (h : t.chans = s.chans) : OthersSame n s t := fun _ _ _ _ => ch_congr h

end

section
variable {n : Nat} (hn : 1 ≤ n) (hn40 : n ≤ 40)
include hn hn40

theorem State.onCh_ch_same (s : State) (f : Chan → Chan) : (s.onCh n f).ch n = f (s.ch n) := by
  rw [ch_onCh s n n f hn hn40 hn hn40, if_pos rfl]

theorem State.onCh_othersSame (s : State) (f : Chan → Chan) : OthersSame n s (s.onCh n f) := fun m hm hm40 hne => by
  rw [ch_onCh s n m f hn hn40 hm hm40, if_neg hne]

theorem State.onFlow_ch_same (s : State) (f : Flow → Flow) :
    (s.onFlow n f).ch n = { s.ch n with flow := f (s.ch n).flow } :=
  State.onCh_ch_same hn hn40 s _

theorem State.onFlow_othersSame (s : State) (f : Flow → Flow) : OthersSame n s (s.onFlow n f) :=
  State.onCh_othersSame hn hn40 s _

/-- Logging what changed leaves the channels: the flow state is put with the events that it raises (R212). -/
theorem State.putFlow_ch_same (s : State) (g : Flow) (qRaw : Rat) :
    (s.putFlow n g qRaw).ch n = { s.ch n with flow := (s.ch n).flow.raise g } :=
  (ch_congr ((State.logFlow_moves n _ g qRaw _).same .chans rfl)).trans (State.onCh_ch_same hn hn40 s _)

theorem State.putFlow_othersSame (s : State) (g : Flow) (qRaw : Rat) : OthersSame n s (s.putFlow n g qRaw) :=
  (State.onCh_othersSame hn hn40 s _).trans (.of_chans ((State.logFlow_moves n _ g qRaw _).same .chans rfl))

end

end Sys2Proof.Machine
end

section
/-! ToF slots: the first shot of a pair, the second one and its sample, and the ends of a drive stop and of LOW_Q (R154 to R159, R164,
R178 to R193). -/

set_option Elab.async false

namespace Sys2Proof.Machine

/-! ### The slots -/

/-- The two slots of a channel outside TRUNK, and the 64 of a TRUNK channel (R156). -/
theorem slotPair_eq_some_iff {n rate slot pair dir : Nat} : slotPair n rate slot = some (pair, dir) ↔
    if rate = 1 then slot = 8 * pair + dir ∧ pair < 32 ∧ dir < 2
    else pair = 0 ∧ slot = 8 * ((n - 1) % 10) + 4 + dir ∧ dir < 2 := by
  unfold slotPair posOf
  split
  case isTrue =>
    split
    · simp only [Option.some.injEq, Prod.mk.injEq]
      omega
    · simp only [reduceCtorEq, false_iff]
      omega
  case isFalse =>
    extract_lets b
    split
    · simp only [Option.some.injEq, Prod.mk.injEq]
      omega
    · split
      · simp only [Option.some.injEq, Prod.mk.injEq]
        omega
      · simp only [reduceCtorEq, false_iff]
        omega

/-! ### What a shot and a pair leave of the flow path -/

theorem Flow.drive_first (f : Flow) (who : Nat) (o sh : Bool) : (f.drive who o sh).first = f.first := by
  simp only [Flow.drive, apply_ite Flow.first, ite_self]

theorem Flow.pair_first (f : Flow) (cfg : ChanCfg) (fcal : Option FlowCal) (thetaV : Option Int) (rate : Nat) (x y : ShotRes)
    (r : PairRes) : (f.pair cfg fcal thetaV rate x y r).1.first = f.first := by
  unfold Flow.pair
  extract_lets qRaw mag impl ok failRun quiet quietRun validRun empty airHist weakN air sample q qB f1 f2 cutTo0 f3 fault out f4 noEcho
  have h2 : f2.first = f.first := by simp only [f2]; split <;> rfl
  have h3 : f3.first = f2.first := by simp only [f3]; split <;> rfl
  exact h3.trans h2

theorem StepAcc.pair_samples (a : StepAcc) (cfg : ChanCfg) (x y : ShotRes) (r : PairRes) (sm : Sample) :
    (a.pair cfg x y r sm).samples = sm :: a.samples := by
  unfold StepAcc.pair
  extract_lets b
  split <;> rfl

/-- Whether a step end is due for a channel follows from its step start, the supply, the sequencer and the image. -/
theorem State.stepDue_congr {s t : State} {n : Nat} (hstart : (t.ch n).stepStart = (s.ch n).stepStart) (hpwr : t.pwr = s.pwr)
    (hmeas : t.meas = s.meas) (himg : t.img = s.img) : t.stepDue n = s.stepDue n := by
  have hcfg : t.cfg n = s.cfg n := by rw [State.cfg, State.cfg, himg]
  have hrate : t.rate n = s.rate n := by rw [State.rate, State.rate, hpwr, hcfg]
  have hend : t.lastStepEnd n = s.lastStepEnd n := by rw [State.lastStepEnd, State.lastStepEnd, hrate, hpwr, hmeas]
  rw [State.stepDue, State.stepDue, hstart, hend]

/-- What a pair adds goes to what the step in progress gathers, or to what the next one gathers where a close is due (R159). -/
def Chan.gathers (c : Chan) (due : Bool) (f : StepAcc → StepAcc) : Chan :=
  if due then { c with late := f c.late } else { c with acc := f c.acc }

theorem Chan.gathers_track (c : Chan) (due : Bool) (f : StepAcc → StepAcc) (z : ZeroTrack) :
    { c.gathers due f with track := z } = ({ c with track := z } : Chan).gathers due f := by
  cases due <;> rfl

/-- The first shot of a pair: the capture control that is in force, the shot, and its result kept (R180, R216). -/
def State.firstShot (n slot pair : Nat) (shot : Shot) (s : State) : State :=
  let r := (s.onFlow n fun f => { f with capUse := f.capCtrl }).fireShot n slot pair 0 shot
  r.1.onFlow n fun f => { f with first := some r.2 }

/-- The second shot of a pair whose first was x. -/
def State.secondShot (n slot pair : Nat) (x : ShotRes) (shot : Shot) (s : State) : State :=
  let r := s.fireShot n slot pair 1 shot
  (r.1.onFlow n fun f => { f with first := none }).endPair n pair x r.2

/-- The sample that a pair hands to integration. -/
def PairOut.sample (o : PairOut) (at_ : Nat) : Sample := { at_ := at_, q := o.q, qB := o.qB, status := o.status }

/-! ### The operations of a slot -/

section
variable {n : Nat} (hn : 1 ≤ n) (hn40 : n ≤ 40)
include hn hn40

/-- From s to t channel n differs at most in its flow path, which keeps the first shot of the pair and the burst, and the other channels
agree. -/
def State.ShotKept (n : Nat) (s t : State) : Prop :=
  (∃ f, t.ch n = { s.ch n with flow := f } ∧ f.first = (s.ch n).flow.first ∧ f.burst = (s.ch n).flow.burst) ∧ OthersSame n s t

theorem State.onFlow_shotKept (s : State) (f : Flow → Flow) (hfirst : (f (s.ch n).flow).first = (s.ch n).flow.first)
    (hburst : (f (s.ch n).flow).burst = (s.ch n).flow.burst) : State.ShotKept n s (s.onFlow n f) :=
  ⟨⟨_, State.onFlow_ch_same hn hn40 s f, hfirst, hburst⟩, State.onFlow_othersSame hn hn40 s f⟩

omit hn hn40 in
theorem State.ShotKept.congr {s t s' t' : State} (h : State.ShotKept n s t) (hs : s'.chans = s.chans) (ht : t'.chans = t.chans) :
    State.ShotKept n s' t' := by
  obtain ⟨hflow, hothers⟩ := h
  refine ⟨?_, ((OthersSame.of_chans hs.symm).trans hothers).trans (.of_chans ht)⟩
  rw [ch_congr hs, ch_congr ht]
  exact hflow

/-- A capture that is exported or dropped counts in the export's own fields and raises CHW_EVENTS (R210, R212). -/
theorem State.exportCapture_shotKept (slot dir : Nat) (w0 : Int) (xs : List Int) (r : ShotRes) (tElec : Nat) (s : State) :
    State.ShotKept n s (s.exportCapture n slot dir w0 xs r tElec) := by
  unfold State.exportCapture
  extract_lets k f tof info rec_ svc s1
  split
  · exact (State.onFlow_shotKept hn hn40 s _ (by rfl) (by rfl)).congr rfl (State.onHl_chans _ _)
  · exact (State.onFlow_shotKept hn hn40 (s1.setDc k _) _ (by rfl) (by rfl)).congr rfl ((State.request_moves k _).same .chans rfl)

/-- A shot leaves of its channel everything but the flow path, and there the first shot of the pair; it sends the burst unless a drive
stop holds (R178, R193). -/
theorem State.fireShot_ch (slot pair dir : Nat) (shot : Shot) (s : State) :
    (∃ f, (s.fireShot n slot pair dir shot).1.ch n = { s.ch n with flow := f } ∧ f.first = (s.ch n).flow.first ∧
      ((s.ch n).flow.stop = false → f.burst = some ((s.cfg n).burst dir))) ∧
    OthersSame n s (s.fireShot n slot pair dir shot).1 := by
  unfold State.fireShot
  extract_lets cfg lim f0 drv f1 f s1 degraded pref p w xs amp r
  split
  case isTrue hstop => exact ⟨⟨_, rfl, rfl, fun h => absurd hstop (by simp [h])⟩, .refl n s⟩
  case isFalse =>
    have hfirst : f.first = (s.ch n).flow.first := Flow.drive_first _ dir lim.1 lim.2
    have hput : s1.ch n = { s.ch n with flow := (s.ch n).flow.raise f } := State.putFlow_ch_same hn hn40 s f 0
    have hothers : OthersSame n s s1 := State.putFlow_othersSame hn hn40 s f 0
    split
    · obtain ⟨⟨f', hexport, hfirst', hburst⟩, hrest⟩ := State.exportCapture_shotKept hn hn40 slot dir w.1 xs r (s.zeroOf n).1 s1
      rw [hput] at hexport hfirst' hburst
      exact ⟨⟨f', hexport, hfirst'.trans hfirst, fun _ => hburst⟩, hothers.trans hrest⟩
    · exact ⟨⟨_, hput, hfirst, fun _ => rfl⟩, hothers⟩

theorem State.gather_ch (f : StepAcc → StepAcc) (s : State) : (s.gather n f).ch n = (s.ch n).gathers (s.stepDue n) f := by
  unfold State.gather Chan.gathers
  split
  · exact State.onCh_ch_same hn hn40 s _
  · exact State.onCh_ch_same hn hn40 s _

theorem State.gather_othersSame (f : StepAcc → StepAcc) (s : State) : OthersSame n s (s.gather n f) := by
  unfold State.gather
  split
  · exact State.onCh_othersSame hn hn40 s _
  · exact State.onCh_othersSame hn hn40 s _

/-- A complete pair outside a zero calibration adds one sample, at its own instant, to what is gathered (R159, R185 to R193). -/
theorem State.endPair_ch (pair : Nat) (x y : ShotRes) (s : State) (hcal : s.calibrating n = false) :
    (∃ flow track f sample, (s.endPair n pair x y).ch n =
        ({ s.ch n with flow := flow, track := track } : Chan).gathers (s.stepDue n) f ∧
      flow.first = (s.ch n).flow.first ∧ sample.at_ = s.edge + 75000 * pair ∧ ∀ a : StepAcc, (f a).samples = sample :: a.samples) ∧
    OthersSame n s (s.endPair n pair x y) := by
  unfold State.endPair
  extract_lets cfg z r at_ v half s0 fcal p g s1 s2
  rw [if_neg (by simp [hcal])]
  have hfirst : g.first = (s.ch n).flow.first := Flow.pair_first _ _ _ _ _ _ _ _
  have hput : s1.ch n = { s.ch n with flow := (s.ch n).flow.raise g } := State.putFlow_ch_same hn hn40 s g _
  have hmoves : Moves [.queue, .log, .chans, .tamper, .pair, .radio] s s1 := State.putFlow_moves n g _ s
  have hdue : s1.stepDue n = s.stepDue n :=
    State.stepDue_congr (by rw [hput]) (hmoves.same .pwr rfl) (hmoves.same .meas rfl) (hmoves.same .img rfl)
  have hgather : s2.ch n = (s1.ch n).gathers (s1.stepDue n) fun a => a.pair cfg x y r (p.2.1.sample at_) :=
    State.gather_ch hn hn40 _ s1
  have hothers : OthersSame n s s2 := (State.putFlow_othersSame hn hn40 s g _).trans (State.gather_othersSame hn hn40 _ s1)
  rw [hdue, hput] at hgather
  split
  case isTrue =>
    have htrack := State.onCh_ch_same hn hn40 s2 fun c => { c with
      track := c.track.pair r (g.cut && !g.lowQ && !g.air) (decide (600 ≤ s.meas.tick % 1200)) v }
    rw [hgather, Chan.gathers_track] at htrack
    exact ⟨⟨_, _, _, p.2.1.sample at_, htrack, hfirst, rfl, fun a => a.pair_samples cfg x y r _⟩,
      hothers.trans (State.onCh_othersSame hn hn40 s2 _)⟩
  case isFalse => exact ⟨⟨_, _, _, p.2.1.sample at_, hgather, hfirst, rfl, fun a => a.pair_samples cfg x y r _⟩, hothers⟩

end

/-- The sequencer takes no part in a shot. -/
theorem State.firstShot_meas (n slot pair : Nat) (shot : Shot) (s : State) : (s.firstShot n slot pair shot).meas = s.meas :=
  ((State.fireShot_moves n slot pair 0 shot (s.onFlow n _)).same .meas rfl)

theorem State.secondShot_meas (n slot pair : Nat) (x : ShotRes) (shot : Shot) (s : State) :
    (s.secondShot n slot pair x shot).meas = s.meas :=
  ((State.endPair_moves n pair x _ _).same .meas rfl).trans ((State.fireShot_moves n slot pair 1 shot s).same .meas rfl)

/-! ### The commands -/

section
variable {n : Nat} {s : State} (hn : 1 ≤ n) (hn40 : n ≤ 40)
include hn hn40

/-- The first shot of a pair is kept with the capture control that is in force (R216). -/
theorem execTofSlot_first {slot pair : Nat} (shot : Shot) (hdriven : s.slotDriven n = true)
    (hslot : slotPair n (s.rate n) slot = some (pair, 0)) : execTofSlot n slot shot s = .next (s.firstShot n slot pair shot) := by
  rw [execTofSlot, if_neg (by omega), if_neg (by simp [hdriven]), hslot]
  rfl

/-- The second shot of a pair whose first is kept drops it and ends the pair. -/
theorem execTofSlot_second {slot pair : Nat} {x : ShotRes} (shot : Shot) (hdriven : s.slotDriven n = true)
    (hslot : slotPair n (s.rate n) slot = some (pair, 1)) (hfirst : (s.ch n).flow.first = some x) :
    execTofSlot n slot shot s = .next (s.secondShot n slot pair x shot) := by
  obtain ⟨⟨f, hch, hkept, -⟩, -⟩ := State.fireShot_ch hn hn40 slot pair 1 shot s
  have hx : ((s.fireShot n slot pair 1 shot).1.ch n).flow.first = some x := by rw [hch]; exact hkept.trans hfirst
  rw [execTofSlot, if_neg (by omega), if_neg (by simp [hdriven]), hslot]
  simp only [if_neg (by decide : ¬ (1 : Nat) = 0), hx]
  rfl

/-- What the first shot of a pair leaves: its result is kept, and its burst is sent from TA where no drive stop holds. -/
theorem State.firstShot_ch (slot pair : Nat) (shot : Shot) (s : State) :
    (∃ f, (s.firstShot n slot pair shot).ch n = { s.ch n with flow := f } ∧ f.first.isSome = true ∧
      ((s.ch n).flow.stop = false → f.burst = some ((s.cfg n).burst 0))) ∧ OthersSame n s (s.firstShot n slot pair shot) := by
  unfold State.firstShot
  extract_lets r
  have h0 := State.onFlow_ch_same hn hn40 s fun f => { f with capUse := f.capCtrl }
  obtain ⟨⟨f, hch, -, hburst⟩, hothers⟩ := State.fireShot_ch hn hn40 slot pair 0 shot (s.onFlow n fun f => { f with capUse := f.capCtrl })
  rw [h0] at hch hburst
  have hlast := State.onFlow_ch_same hn hn40 r.1 fun f => { f with first := some r.2 }
  rw [hch] at hlast
  exact ⟨⟨_, hlast, rfl, hburst⟩,
    ((State.onFlow_othersSame hn hn40 s _).trans hothers).trans (State.onFlow_othersSame hn hn40 r.1 _)⟩

/-- What the second shot of a pair leaves outside a zero calibration: no first shot, and one sample more (R159, R180). -/
theorem State.secondShot_ch (slot pair : Nat) (x : ShotRes) (shot : Shot) (hcal : s.calibrating n = false) :
    (∃ flow track f sample, (s.secondShot n slot pair x shot).ch n =
        ({ s.ch n with flow := flow, track := track } : Chan).gathers (s.stepDue n) f ∧
      flow.first = none ∧ sample.at_ = s.edge + 75000 * pair ∧ ∀ a : StepAcc, (f a).samples = sample :: a.samples) ∧
    OthersSame n s (s.secondShot n slot pair x shot) := by
  unfold State.secondShot
  extract_lets r
  have hmoves : Moves [.queue, .log, .chans, .tamper, .pair, .radio, .hl, .dma] s r.1 := State.fireShot_moves n slot pair 1 shot s
  obtain ⟨⟨f, hch, -, -⟩, hothers⟩ := State.fireShot_ch hn hn40 slot pair 1 shot s
  have hdrop : (r.1.onFlow n fun f => { f with first := none }).ch n = { s.ch n with flow := { f with first := none } } :=
    (State.onFlow_ch_same hn hn40 r.1 _).trans (by rw [hch])
  generalize hu : (r.1.onFlow n fun f => { f with first := none }) = u at hdrop ⊢
  have hmoves' : Moves [.queue, .log, .chans, .tamper, .pair, .radio, .hl, .dma] s u := hu ▸ (State.onFlow_moves n _ _).after hmoves
  have hmeas' : u.meas = s.meas := hmoves'.same .meas rfl
  have hdue : u.stepDue n = s.stepDue n :=
    State.stepDue_congr (by rw [hdrop]) (hmoves'.same .pwr rfl) hmeas' (hmoves'.same .img rfl)
  have hcal' : u.calibrating n = false := by rw [State.calibrating, hmeas']; exact hcal
  obtain ⟨⟨flow, track, f, sample, hend, hfirst, hat, hadd⟩, hrest⟩ := State.endPair_ch hn hn40 pair x r.2 u hcal'
  rw [hdue, hdrop] at hend
  rw [hdrop] at hfirst
  refine ⟨⟨flow, track, f, sample, hend, hfirst, ?_, hadd⟩, (hothers.trans ?_).trans hrest⟩
  · rw [hat, State.edge, State.edge, hmeas']
  · exact hu ▸ State.onFlow_othersSame hn hn40 r.1 _

/-- A slot that is not the channel's, or in which the channel is not driven, takes no shot (R154, R156). -/
theorem execTofSlot_idle {slot : Nat} (shot : Shot) (h : s.slotDriven n = false ∨ slotPair n (s.rate n) slot = none) :
    execTofSlot n slot shot s = .next s := by
  rw [execTofSlot, if_neg (by omega)]
  split
  case isTrue => rfl
  case isFalse hdriven => rw [h.resolve_left (by simpa using hdriven)]

theorem execTdShortStopEnd_eq : execTdShortStopEnd n s =
    .next (if (s.ch n).flow.stopTick + 4 ≤ s.meas.tick then s.onFlow n fun f => { f with stop := false } else s) := by
  rw [execTdShortStopEnd, if_neg (by omega), apply_ite Host.Outcome.next]

theorem execLowQRecovery_eq {k : Nat} (hgood : (s.ch n).flow.goodSince = some k) (hlow : (s.ch n).flow.lowQ = true) :
    execLowQRecovery n s =
      .next (if k + 240 ≤ s.meas.tick then s.putFlow n { (s.ch n).flow with lowQ := false } 0 else s) := by
  rw [execLowQRecovery, if_neg (by omega)]
  simp only [hgood, hlow, true_and, apply_ite Host.Outcome.next]

end

/-- Settles O43: a first shot is `firstShot`, a second one `secondShot`, and what each leaves of its channel says the rest. -/
theorem shotsFillTheirSlots : Obligations.ShotsFillTheirSlots := by
  unfold Obligations.ShotsFillTheirSlots
  refine ⟨fun n rate slot pair dir => slotPair_eq_some_iff, ?shots, fun x y e z => rfl, ?ends⟩
  case shots =>
    intro s n slot shot hn hn40
    refine ⟨execTofSlot_idle hn hn40 shot, ?first, ?second⟩
    case first =>
      intro pair hdriven hslot
      obtain ⟨⟨f, hch, hkept, hburst⟩, hothers⟩ := State.firstShot_ch hn hn40 slot pair shot s
      refine ⟨_, execTofSlot_first hn hn40 shot hdriven hslot, ?_⟩
      rw [hch]
      exact ⟨hkept, hburst, rfl, rfl, rfl, hothers, State.firstShot_meas n slot pair shot s⟩
    case second =>
      intro pair x hdriven hslot hcal hfirst
      obtain ⟨⟨flow, track, f, sample, hch, hdropped, hat, hadd⟩, hothers⟩ := State.secondShot_ch hn hn40 slot pair x shot hcal
      refine ⟨_, sample, execTofSlot_second hn hn40 shot hdriven hslot hfirst, ?_⟩
      have hmeas := State.secondShot_meas n slot pair x shot s
      rw [hch]
      unfold Chan.gathers
      split
      · exact ⟨hdropped, hat, ⟨hadd _, rfl⟩, rfl, hothers, hmeas⟩
      · exact ⟨hdropped, hat, ⟨hadd _, rfl⟩, rfl, hothers, hmeas⟩
  case ends =>
    intro s n hn hn40
    refine ⟨fun hlt => ?_, fun hle => ?_, fun k hgood hlow => ⟨fun hle => ?_, fun hlt => ?_⟩⟩
    · exact (execTdShortStopEnd_eq hn hn40).trans (by rw [if_neg (by omega)])
    · exact ⟨_, (execTdShortStopEnd_eq hn hn40).trans (by rw [if_pos hle]), State.onFlow_ch_same hn hn40 s _,
        State.onFlow_othersSame hn hn40 s _, (State.onFlow_moves n _ s).1⟩
    · refine ⟨_, (execLowQRecovery_eq hn hn40 hgood hlow).trans (by rw [if_pos hle]), ?_⟩
      rw [State.putFlow_ch_same hn hn40]
      exact ⟨rfl, rfl, rfl, State.putFlow_othersSame hn hn40 s _ 0⟩
    · exact (execLowQRecovery_eq hn hn40 hgood hlow).trans (by rw [if_neg (by omega)])

end Sys2Proof.Machine
end

section
/-! What the operations of a tick edge leave of the supply group (R46, R53, R60, R61, R68, R553, R596). -/

set_option Elab.async false

namespace Sys2Proof.Machine

/-! ### The mode that the supply gives -/

/-- The mode in which a module begins to measure: NORMAL on VBUS, on the cell HOLD below VBAT_WARN, else BACKUP (R596). -/
def Pwr.supplyMode (p : Pwr) : OpMode := if !p.onCell then .normal else if p.belowWarn then .hold else .backup

theorem State.measureMode_pwr (s : State) : ∃ step e b, s.measureMode.pwr = { s.pwr with
    mode := s.pwr.supplyMode, pfStep := step, events := e, holdLogged := b } := by
  unfold State.measureMode Pwr.supplyMode
  split
  · obtain ⟨b, h⟩ := (s.onPwr fun p => { p with mode := .normal, pfStep := 0 }).holdEnd_pwr
    exact ⟨0, s.pwr.events, b, h⟩
  · split
    · obtain ⟨e, b, h⟩ := s.enterHold_pwr
      exact ⟨s.pwr.pfStep, e, b, h⟩
    · obtain ⟨b, h⟩ := (s.onPwr fun p => { p with mode := .backup }).holdEnd_pwr
      exact ⟨s.pwr.pfStep, s.pwr.events, b, h⟩

/-- The first steps of the channels end the gap of a WARM reset at most (R258). -/
theorem State.beginSteps_pwr (s : State) : ∃ g, s.beginSteps.pwr = { s.pwr with warmGap := g } := by
  unfold State.beginSteps
  extract_lets on s1
  have h1 : s1.pwr = s.pwr := (Moves.forCh _ _ (fun n u => State.onCh_moves u n _) (Moves.refl [.chans] s)).same .pwr rfl
  split
  · exact ⟨false, by rw [State.onPwr_pwr, h1]⟩
  · exact ⟨_, h1⟩

/-! ### The operations of an edge -/

/-- A replaced cell begins a new account of its charge (R68). -/
theorem State.cellReplaced_pwr (atStart : Bool) (s : State) : ∃ e, (s.cellReplaced atStart).pwr = { s.pwr with
    events := e, chargeUah := 0, remNc := 0, replaced := s.rtc.count, chgFlags := Word.ofBool atStart, cellCheck := false } :=
  ⟨setBits s.pwr.events 128, by
    rw [State.cellReplaced, State.onPwr_pwr, State.pwrRaise, State.onPwr_pwr, State.event_pwr]⟩

theorem State.cellWatch_pwr (vbat : Nat) (s : State) : ∃ g e u n r f c, (s.cellWatch vbat).pwr = { s.pwr with
    cellGone := g, events := e, chargeUah := u, remNc := n, replaced := r, chgFlags := f, cellCheck := c } := by
  unfold State.cellWatch
  extract_lets g
  split
  · exact ⟨_, _, _, _, _, _, _, rfl⟩
  · split
    · exact ⟨_, _, _, _, _, _, _, rfl⟩
    · split
      · obtain ⟨e, h⟩ := s.cellReplaced_pwr false
        exact ⟨0, e, _, _, _, _, _, by rw [State.onPwr_pwr, h]⟩
      · exact ⟨_, _, _, _, _, _, _, rfl⟩

/-- An activation ends the gap of a WARM reset (R553). -/
theorem State.beginActive_pwr (kind : Nat) (s : State) : (s.beginActive kind).pwr = { s.pwr with warmGap := false } := by
  unfold State.beginActive
  extract_lets s0 s1 mirrored gaps most s2 s3 s4 e s5
  have h0 : Moves [.hoard, .queue, .marks, .log, .chans, .tamper, .pair, .radio, .sec] s s0 :=
    .ite (State.drain_moves s).alone (Moves.refl _ s)
  have h1 : Moves [.hoard, .queue, .marks, .log, .chans, .tamper, .pair, .radio, .sec] s s1 :=
    (State.mirRaise_moves _ _).after ((State.onPair_moves _ _).after h0)
  have h2 : Moves [.hoard, .queue, .marks, .log, .chans, .tamper, .pair, .radio, .sec] s s2 :=
    Moves.foldl _ gaps (fun u a => (State.onCh_moves _ _ _).after
      (.ite (Moves.refl _ u) (State.primeChan_moves _ _ _ _ _ _ u).alone)) h1
  have h3 : Moves [.hoard, .queue, .marks, .log, .chans, .tamper, .pair, .radio, .sec] s s3 :=
    (State.onSec_moves _ _).after ((State.startCounters_moves _).after ((State.onPair_moves _ _).after h2))
  have h4 : s4.pwr = { s.pwr with warmGap := false } := by
    rw [← h3.same .pwr rfl]
    exact ((State.dispActive_moves _ _).same .pwr rfl).trans ((State.resumeValves_moves _).same .pwr rfl)
  have h5 : s5.pwr = s4.pwr := Moves.same (gs := [.queue, .log, .pair, .radio]) (.ite (State.missedPulses_moves s4) (Moves.refl _ s4)) .pwr rfl
  have hlog (code ch : Nat) (data : List Byte) : (s5.event code ch data).pwr = { s.pwr with warmGap := false } :=
    (State.event_pwr s5 code ch data).trans (h5.trans h4)
  split
  · exact hlog _ _ _
  · split
    · exact hlog _ _ _
    · split
      · exact hlog _ _ _
      · exact h5.trans h4

theorem State.pairTick_pwr (s : State) : ∃ g, s.pairTick.pwr = { s.pwr with warmGap := g } := by
  have hdeclare (kind : Nat) : (s.declare kind).pwr = s.pwr := (State.declare_moves kind s).same .pwr rfl
  unfold State.pairTick
  split
  · split
    · exact ⟨false, State.beginActive_pwr _ s⟩
    · exact ⟨_, rfl⟩
  · split
    · exact ⟨false, by rw [State.beginActive_pwr, hdeclare]⟩
    · split
      · split
        · exact ⟨false, by rw [State.beginActive_pwr, hdeclare]⟩
        · exact ⟨_, rfl⟩
      · exact ⟨_, rfl⟩

/-! ### The first tick -/

/-- The mode from the first tick on: UNCONFIGURED goes on, any other module measures in the mode that the supply gives (R107, R596). -/
def Pwr.firstMode (p : Pwr) : OpMode := if p.mode = .unconfigured then .unconfigured else p.supplyMode

/-- The start is over: ticks run, and their count begins at 0 after a COLD start or goes on (R103, R107). -/
def State.ticksBegun (s : State) : State :=
  (((s.onMeas fun m => { m with started := true, tick := if m.started then (m.tick + 1) % 2 ^ 32 else 0 }).onPwr fun p => { p with
    phase := .running, cellCheck := p.cellCheck || p.settNew, settNew := false })).onHl fun h => { h with
      events := setBits h.events (2 ^ 18) }

/-- Behind the beginning of the count the first tick moves neither the sequencer nor the host link. -/
theorem State.firstTick_after (pins : TickPins) (s : State) :
    Moves [.queue, .log, .pwr, .chans, .outs, .bridge, .tamper, .pair, .radio, .dma, .disp] s.ticksBegun (s.firstTick pins) := by
  unfold State.firstTick
  extract_lets s1 s2 s3 s4 s5 s6 s7
  have h3 : Moves [.queue, .log, .pwr, .chans, .outs, .bridge, .tamper, .pair, .radio, .dma, .disp] s2 s3 :=
    .ite (Moves.refl _ s2) (State.event_moves _ _ _ s2).alone
  have h4 : Moves [.queue, .log, .pwr, .chans, .outs, .bridge, .tamper, .pair, .radio, .dma, .disp] s2 s4 :=
    (State.reportCable_moves _).after (.ite ((State.firstTamper_moves _ _ s3).after h3) h3)
  have h5 : Moves [.queue, .log, .pwr, .chans, .outs, .bridge, .tamper, .pair, .radio, .dma, .disp] s2 s5 :=
    .ite (.ite ((State.holdMark_moves s4).after h4) h4) ((State.measureMode_moves s4).after h4)
  have h7 : Moves [.queue, .log, .pwr, .chans, .outs, .bridge, .tamper, .pair, .radio, .dma, .disp] s2 s7 :=
    (State.onPwr_moves _ _).after <| (State.dmaStartAll_moves _).after <| (State.onDisp_moves _ _).after <|
      (State.beginSteps_moves s5).after h5
  exact .ite ((State.resumeValves_moves s7).after h7) h7

theorem State.firstTick_meas (pins : TickPins) (s : State) : (s.firstTick pins).meas =
    { s.meas with started := true, tick := if s.meas.started then (s.meas.tick + 1) % 2 ^ 32 else 0 } :=
  (s.firstTick_after pins).same .meas rfl

theorem State.firstTick_hl (pins : TickPins) (s : State) :
    (s.firstTick pins).hl = { s.hl with events := setBits s.hl.events (2 ^ 18) } :=
  (s.firstTick_after pins).same .hl rfl

/-- The module begins in its first mode: an UNCONFIGURED one that sleeps deep on its cell is marked (R62). -/
def State.modeBegun (s : State) : State :=
  if s.pwr.mode = .unconfigured then (if s.pwr.onCell ∧ s.pwr.belowWarn then s.holdMark else s) else s.measureMode

theorem State.modeBegun_pwr (s : State) : ∃ e b step, s.modeBegun.pwr = { s.pwr with
    mode := s.pwr.firstMode, events := e, holdLogged := b, pfStep := step } := by
  unfold State.modeBegun Pwr.firstMode
  split
  case isTrue hmode =>
    split
    · obtain ⟨e, b, h⟩ := s.holdMark_pwr
      exact ⟨e, b, s.pwr.pfStep, by rw [h, ← hmode]⟩
    · exact ⟨s.pwr.events, s.pwr.holdLogged, s.pwr.pfStep, by rw [← hmode]⟩
  case isFalse =>
    obtain ⟨step, e, b, h⟩ := s.measureMode_pwr
    exact ⟨e, b, step, h⟩

/-- Ticks run, in the mode that the supply gives, and PEER_OK_OUT shows a module that measures and is not fail-silent (R107, R596). -/
theorem State.firstTick_pwr (pins : TickPins) (s : State) : ∃ e b step g, (s.firstTick pins).pwr = { s.pwr with
    phase := .running, cellCheck := s.pwr.cellCheck || s.pwr.settNew, settNew := false, events := e, holdLogged := b, pfStep := step,
    warmGap := g, mode := s.pwr.firstMode,
    peerOkOut := decide (s.pwr.firstMode ≠ .unconfigured) && !s.pwr.failSilent } := by
  unfold State.firstTick
  extract_lets s1 s2 s3 s4 s5 s6 s7
  have h3 : Moves [.queue, .log, .tamper, .pair, .radio] s2 s3 := .ite (Moves.refl _ s2) (State.event_moves _ _ _ s2).alone
  have h4 : s4.pwr = s2.pwr :=
    Moves.same ((State.reportCable_moves _).after (.ite ((State.firstTamper_moves _ _ s3).after h3) h3)) .pwr rfl
  have hbegun : s5 = s4.modeBegun := rfl
  obtain ⟨e, b, step, h5⟩ := s4.modeBegun_pwr
  obtain ⟨g, h6⟩ := s5.beginSteps_pwr
  have h6' : s6.pwr = s5.beginSteps.pwr := State.onDisp_pwr _ _
  have h7 : s6.dmaStartAll.pwr = s6.pwr := (State.dmaStartAll_moves s6).same .pwr rfl
  have h : s7.pwr = (if s7.normal ∧ s7.active then s7.resumeValves else s7).pwr :=
    (Moves.same (.ite (State.resumeValves_moves s7) (Moves.refl _ s7)) .pwr rfl).symm
  refine ⟨e, b, step, g, ?_⟩
  rw [← h, State.onPwr_pwr, h7, h6', h6, hbegun, h5, h4]
  rfl

end Sys2Proof.Machine
end

section
/-! The pins of the pair that a tick samples stay as they were sampled for the rest of its work (R548, R562). -/

set_option Elab.async false

namespace Sys2Proof.Machine

/-- s and t agree in PEER_OK_IN and the harness level, as last sampled. -/
def State.SamePins (s t : State) : Prop := t.pair.peerOkIn = s.pair.peerOkIn ∧ t.pair.harness = s.pair.harness

section
variable {s t u : State}

theorem State.SamePins.refl (s : State) : s.SamePins s := ⟨rfl, rfl⟩

theorem State.SamePins.trans (h : s.SamePins t) (k : t.SamePins u) : s.SamePins u := ⟨k.1.trans h.1, k.2.trans h.2⟩

theorem State.SamePins.ite {c : Prop} [Decidable c] (h : s.SamePins t) (k : s.SamePins u) : s.SamePins (if c then t else u) := by
  split
  · exact h
  · exact k

/-- Frames that are sent leave the pins. -/
theorem State.PairSends.samePins (h : s.PairSends t) : s.SamePins t := by
  obtain ⟨_, _, _, _, h⟩ := h
  rw [State.SamePins, h]
  exact ⟨rfl, rfl⟩

/-- An operation that does not move the pair group. -/
theorem State.SamePins.of_moves {gs : List Group} (h : Moves gs s t) (k : gs.contains .pair = false := by rfl) : s.SamePins t :=
  (State.PairSends.of_moves h k).samePins

end

/-! ### Logging -/

theorem State.ending_pairSends (code ch part : Nat) (data : List Byte) (s : State) : s.PairSends (s.ending code ch part data) :=
  State.endAt_pairSends _ _ _ _ _ _ s

theorem State.onset_pairSends (code ch part : Nat) (data : List Byte) (s : State) : s.PairSends (s.onset code ch part data) :=
  State.onsetAt_pairSends _ _ _ _ _ _ _ s

theorem State.transferLatch_pairSends (s : State) : s.PairSends s.transferLatch := by
  unfold State.transferLatch
  exact (State.PairSends.foldl (fun u e => .ite (State.onsetAt_pairSends _ _ _ _ _ _ _ u) (State.endAt_pairSends _ _ _ _ _ _ u)) _
    (s.onTamper fun t => { t with latch := [] }))

theorem State.logOsf_pairSends (s : State) : s.PairSends s.logOsf := by
  unfold State.logOsf
  exact (State.PairSends.foldl (fun u e => State.onsetAt_pairSends _ _ _ _ _ _ _ u) _ (s.onRtc fun r => { r with osfPend := [] }))

theorem State.missedPulses_pairSends (s : State) : s.PairSends s.missedPulses := by
  refine .foldl (fun u k => ?_) _ s
  dsimp only
  split
  · exact .refl u
  · exact .ite (.refl u) (u.event_pairSends _ _ _)

theorem State.holdMark_pairSends (s : State) : s.PairSends s.holdMark :=
  .ite (.refl s) ((State.PairSends.of_moves (State.pwrRaise_moves 4 s)).trans <|
    (State.onset_pairSends _ _ _ _ _).trans (.of_moves (State.onPwr_moves _ _)))

theorem State.holdEnd_pairSends (s : State) : s.PairSends s.holdEnd :=
  .ite (s.ending_pairSends _ _ _ _) (.refl s)

theorem State.unconfEnd_pairSends (s : State) : s.PairSends s.unconfEnd :=
  .ite (s.ending_pairSends _ _ _ _) (.refl s)

theorem State.enterHold_pairSends (s : State) : s.PairSends s.enterHold := by
  unfold State.enterHold
  extract_lets s1
  have h1 : s.PairSends s1 := State.holdMark_pairSends (s.onPwr fun p => { p with mode := .hold })
  exact h1.trans <| (State.dropPulses_pairSends true s1).trans <| .of_moves (gs := [.radio]) <|
    (State.onRadio_moves _ _).after ((State.gridsEnd_moves _).after (State.discardQueue_moves _).alone)

theorem State.measureMode_pairSends (s : State) : s.PairSends s.measureMode :=
  .ite (State.holdEnd_pairSends (s.onPwr fun p => { p with mode := .normal, pfStep := 0 })) <|
    .ite s.enterHold_pairSends (State.holdEnd_pairSends (s.onPwr fun p => { p with mode := .backup }))

/-! ### The role of the member -/

theorem State.abandonSwitch_samePins (cause : Nat) (s : State) : s.SamePins (s.abandonSwitch cause) :=
  .ite (.refl s) (State.event_pairSends 0xA8 0 (le 1 cause)
    ((s.onPair fun p => { p with switching := false, handTick := none, peerHand := none }).mirRaise 64)).samePins

theorem State.unpair_samePins (s : State) : s.SamePins s.unpair := by
  unfold State.unpair
  extract_lets s1
  have h1 : s.SamePins s1 := ⟨rfl, rfl⟩
  exact .ite (.refl s) (h1.trans (s1.abandonSwitch_samePins 3))

theorem State.normalResumed_samePins (left : Nat) (s : State) : s.SamePins (s.normalResumed left) := by
  unfold State.normalResumed
  extract_lets s0 s1 s2 s3
  have h0 : s.SamePins s0 :=
    (State.event_pairSends 0x11 0 (le 1 left) ((s.gridsEnd.onPwr fun p => { p with mode := .normal }).pwrRaise 2)).samePins
  have h3 : Moves [.chans, .bridge, .radio, .disp] s0 s3 :=
    have h2 := (State.resumeValves_moves s1).after (State.onRadio_moves s0 _).alone
    .ite ((State.onDisp_moves s2 _).after h2) h2
  have h : s.SamePins s3 := h0.trans (.of_moves h3)
  exact .ite (h.trans s3.unpair_samePins) h

theorem State.declare_samePins (kind : Nat) (s : State) : s.SamePins (s.declare kind) := by
  unfold State.declare
  extract_lets s1
  have h1 : s.SamePins s1 := ⟨rfl, rfl⟩
  exact h1.trans ((State.enqueue_pairSends _ s1).samePins.trans
    (.of_moves (gs := [.rtc, .radio, .sess, .mbus]) ((State.freeCtxs_moves _).after (State.onRtc_moves _ _).alone)))

theorem State.primeChan_pairSends (n : Nat) (w : Work) (lost : Bool) (cal : Option Cal) (ring : List (Nat × Nat)) (snap : Snap)
    (s : State) : s.PairSends (s.primeChan n w lost cal ring snap) := .of_pair_eq rfl

theorem State.startCounters_pairSends (s : State) : s.PairSends s.startCounters := by
  unfold State.startCounters State.reserve
  extract_lets lim short
  have h (f : Sec → Sec) (u : State) : u.PairSends (u.onSec f) := .of_moves (State.onSec_moves u f)
  exact .ite (h _ s) ((h _ s).trans ((h _ _).trans (State.enqueue_pairSends _ _)))

theorem State.beginActive_samePins (kind : Nat) (s : State) : s.SamePins (s.beginActive kind) := by
  unfold State.beginActive
  extract_lets s0 s1 mirrored gaps most s2 s3 s4 e s5
  have h0 : s.SamePins s0 := .of_moves (.ite (State.drain_moves s) (Moves.refl _ s))
  have h1 : s0.SamePins s1 := ⟨rfl, rfl⟩
  have h2 : s1.PairSends s2 := .foldl (fun u g =>
    (State.PairSends.ite (.refl u) (State.primeChan_pairSends _ _ _ _ _ _ u)).trans (.of_moves (State.onCh_moves _ _ _))) gaps s1
  have h3 : s2.SamePins s3 :=
    (show s2.SamePins (s2.onPair _) from ⟨rfl, rfl⟩).trans <|
      (State.startCounters_pairSends _).samePins.trans (.of_moves (State.onSec_moves _ _))
  have h4 : s3.SamePins s4 := .of_moves (gs := [.pwr, .chans, .bridge, .disp])
    ((State.dispActive_moves _ _).after ((State.resumeValves_moves _).after (State.onPwr_moves _ _).alone))
  have h5 : s4.PairSends s5 := .ite s4.missedPulses_pairSends (.refl s4)
  have h : s.SamePins s5 := h0.trans <| h1.trans <| h2.samePins.trans <| h3.trans <| h4.trans h5.samePins
  have hlog (code ch : Nat) (data : List Byte) : s.SamePins (s5.event code ch data) := h.trans (s5.event_pairSends _ _ _).samePins
  exact .ite (hlog _ _ _) (.ite (hlog _ _ _) (.ite (hlog _ _ _) h))

theorem State.pairTick_samePins (s : State) : s.SamePins s.pairTick := by
  have hboth (kind : Nat) : s.SamePins ((s.declare kind).beginActive kind) :=
    (s.declare_samePins kind).trans (State.beginActive_samePins kind _)
  unfold State.pairTick
  split
  · exact .ite (s.beginActive_samePins _) (.refl s)
  · split
    · exact hboth 3
    · split
      · exact .ite (hboth 4) (.refl s)
      · exact .refl s

/-! ### The mode that a tick begins -/

theorem State.leaveHold_samePins (s : State) : s.SamePins s.leaveHold := by
  unfold State.leaveHold
  extract_lets s1
  have h1 : s.SamePins s1 := (State.holdEnd_pairSends
    (s.onPwr fun p => { p with holdReturn := false, onCell := false, pfStep := 0, warmGap := false })).samePins
  exact .ite (h1.trans ((s1.normalResumed_samePins 2).trans (.of_moves (gs := [.pwr, .chans, .dma])
    ((State.dmaStartAll_moves _).after ((State.beginSteps_moves _).after (State.zeroRings_moves _).alone))))) (.refl s)

theorem State.leaveUnconfigured_samePins (s : State) : s.SamePins s.leaveUnconfigured := by
  unfold State.leaveUnconfigured
  extract_lets s1 s2 s3
  have h1 : s.PairSends s1 := State.unconfEnd_pairSends (s.onImg fun i => { i with commissioning := false })
  have h2 : s1.PairSends s2 := State.measureMode_pairSends s1.endTest
  have h3 : s.SamePins s3 := (h1.trans h2).samePins.trans (.of_moves (gs := [.pwr, .chans])
    ((State.onPwr_moves _ _).after (State.beginSteps_moves s2).alone))
  exact .ite (.ite (h3.trans (.of_moves (gs := [.chans, .bridge, .disp])
    ((State.resumeValves_moves _).after (State.dispActive_moves true s3).alone))) h3) (.refl s)

end Sys2Proof.Machine
end

section
/-! Ticks: the edges that ROOT and SETT time, and the DEGRADED measurement tick (R51, R97, R107, R153, R158, R160, R161, R486, R596). -/

set_option Elab.async false

namespace Sys2Proof.Machine

/-! ### What an edge reads -/

theorem State.readSupplies_pwr (sup : Supplies) (first : Bool) (s : State) : (s.readSupplies sup first).pwr = { s.pwr with
    vbusMv := if s.pwr.state = .run then min 65535 sup.vbus else s.pwr.vbusMv,
    vbatMv := if first || (s.pwr.vbusOk && s.meas.tick % 256 == 0) then min 65535 sup.vbat else s.pwr.vbatMv } := by
  rw [State.readSupplies, State.onPwr_pwr, Word.sat_eq_min, Word.sat_eq_min]

/-- What a tick on VBUS reads of the supplies, the cell and the levels. -/
def State.readLevels (sup : Supplies) (pins : TickPins) (first : Bool) (s : State) : State :=
  ((s.readSupplies sup first).cellWatch sup.vbat).samplePins pins

/-- The SETT latch and time trust, and where they are due the references (R89, R223, R346). -/
def State.takeLatches (internalTemp : Int) (refs : Prop) [Decidable refs] (s : State) : State :=
  if refs then (s.transferLatch.logOsf).correctRefs internalTemp else s.transferLatch.logOsf

/-- The reading part of a tick on VBUS. -/
def State.tickRead (sup : Supplies) (pins : TickPins) (internalTemp : Int) (first : Bool) (s : State) : State :=
  (s.readLevels sup pins first).takeLatches internalTemp (s.meas.tick % 4 = 0)

theorem State.tickWork_eq (sup : Supplies) (pins : TickPins) (internalTemp : Int) (first : Bool) (s : State) :
    s.tickWork sup pins internalTemp first =
      ((s.tickRead sup pins internalTemp first).leaveHold.leaveUnconfigured.calBegin.tickEvents).pairTick := rfl

theorem State.takeLatches_moves (internalTemp : Int) (refs : Prop) [Decidable refs] (s : State) :
    Moves [.queue, .log, .tcs, .tamper, .rtc, .pair, .radio] s (s.takeLatches internalTemp refs) :=
  have h := (State.logOsf_moves _).after (State.transferLatch_moves s).alone
  .ite ((State.correctRefs_moves internalTemp _).after h) h

theorem State.takeLatches_samePins (internalTemp : Int) (refs : Prop) [Decidable refs] (s : State) :
    s.SamePins (s.takeLatches internalTemp refs) :=
  have h : s.SamePins s.transferLatch.logOsf := s.transferLatch_pairSends.samePins.trans (State.logOsf_pairSends _).samePins
  .ite (h.trans (.of_moves (State.correctRefs_moves internalTemp _))) h

section
variable (sup : Supplies) (pins : TickPins) (internalTemp : Int) (first : Bool) (s : State)

theorem State.readLevels_moves : Moves [.queue, .log, .pwr, .img, .tamper, .pair, .radio] s (s.readLevels sup pins first) :=
  (State.samplePins_moves _ _).after <| (State.cellWatch_moves _ _).after (State.readSupplies_moves sup first s).alone

/-- The readings, and what they make of the cell's account and the events (R68, R71). -/
theorem State.readLevels_pwr : ∃ g e u n r f c, (s.readLevels sup pins first).pwr = { (s.readSupplies sup first).pwr with
    cellGone := g, events := e, chargeUah := u, remNc := n, replaced := r, chgFlags := f, cellCheck := c } := by
  obtain ⟨g, e, u, n, r, f, c, h⟩ := (s.readSupplies sup first).cellWatch_pwr sup.vbat
  exact ⟨g, e, u, n, r, f, c, by rw [State.readLevels, State.samplePins, State.onPair_pwr, State.sampleCard_pwr, h]⟩

theorem State.readLevels_img : (s.readLevels sup pins first).img = { s.img with cardPresent := !pins.cardOut } := by
  have h : ((s.readSupplies sup first).cellWatch sup.vbat).img = s.img :=
    ((State.cellWatch_moves _ _).same .img rfl).trans ((State.readSupplies_moves sup first s).same .img rfl)
  rw [State.readLevels, State.samplePins, State.onPair_img, State.sampleCard_img, h]

theorem State.tickRead_moves : Moves [.queue, .log, .pwr, .img, .tcs, .tamper, .rtc, .pair, .radio] s
    (s.tickRead sup pins internalTemp first) :=
  (State.takeLatches_moves _ _ _).after (s.readLevels_moves sup pins first).alone

theorem State.tickRead_pwr : (s.tickRead sup pins internalTemp first).pwr = (s.readLevels sup pins first).pwr :=
  (State.takeLatches_moves _ _ _).same .pwr rfl

theorem State.tickRead_img : (s.tickRead sup pins internalTemp first).img = { s.img with cardPresent := !pins.cardOut } :=
  ((State.takeLatches_moves _ _ _).same .img rfl).trans (s.readLevels_img sup pins first)

theorem State.tickRead_pins : (s.tickRead sup pins internalTemp first).pair.peerOkIn = pins.peerOkIn ∧
    (s.tickRead sup pins internalTemp first).pair.harness = pins.harness :=
  State.takeLatches_samePins internalTemp (s.meas.tick % 4 = 0) (s.readLevels sup pins first)

end

/-! ### The end of HOLD and of UNCONFIGURED -/

theorem State.leaveHold_eq {s : State} (h : s.pwr.mode ≠ .hold) : s.leaveHold = s := if_neg fun hc => h hc.1

theorem State.leaveUnconfigured_eq {s : State}
    (h : s.pwr.mode ≠ .unconfigured ∨ s.img.accepted = false ∨ s.img.module_.commissioned = false) : s.leaveUnconfigured = s := by
  refine if_neg fun hc => ?_
  obtain ⟨hmode, hacc, hcom, -, -⟩ := hc
  rcases h with h | h | h
  · exact h hmode
  · simp [h] at hacc
  · simp [h] at hcom

theorem State.holdEnd_vbusMv (s : State) : s.holdEnd.pwr.vbusMv = s.pwr.vbusMv := by
  obtain ⟨_, h⟩ := s.holdEnd_pwr
  rw [h]

theorem State.beginSteps_vbusMv (s : State) : s.beginSteps.pwr.vbusMv = s.pwr.vbusMv := by
  obtain ⟨_, h⟩ := s.beginSteps_pwr
  rw [h]

theorem State.measureMode_vbusMv (s : State) : s.measureMode.pwr.vbusMv = s.pwr.vbusMv := by
  obtain ⟨_, _, _, h⟩ := s.measureMode_pwr
  rw [h]

theorem State.pairTick_vbusMv (s : State) : s.pairTick.pwr.vbusMv = s.pwr.vbusMv := by
  obtain ⟨_, h⟩ := s.pairTick_pwr
  rw [h]

theorem State.leaveHold_vbusMv (s : State) : s.leaveHold.pwr.vbusMv = s.pwr.vbusMv := by
  unfold State.leaveHold
  extract_lets s1
  split
  · have h1 : s1.pwr.vbusMv = s.pwr.vbusMv := State.holdEnd_vbusMv _
    have hafter : (s1.normalResumed 2).zeroRings.beginSteps.dmaStartAll.pwr = (s1.normalResumed 2).zeroRings.beginSteps.pwr :=
      (State.dmaStartAll_moves _).same .pwr rfl
    have hrings : (s1.normalResumed 2).zeroRings.pwr = (s1.normalResumed 2).pwr := (State.zeroRings_moves _).same .pwr rfl
    rw [hafter, State.beginSteps_vbusMv, hrings, State.normalResumed_pwr, h1]
  · rfl

theorem State.leaveUnconfigured_vbusMv (s : State) : s.leaveUnconfigured.pwr.vbusMv = s.pwr.vbusMv := by
  unfold State.leaveUnconfigured
  extract_lets s1 s2 s3
  split
  · have h1 : s1.endTest.pwr = s.pwr :=
      Moves.same (gs := [.queue, .log, .img, .meas, .pair, .radio]) ((State.endTest_moves _).after <| (State.onRadio_moves _ _).after <|
        (State.unconfEnd_moves _).after (State.onImg_moves s _).alone) .pwr rfl
    have h2 : s2.pwr.vbusMv = s.pwr.vbusMv := (State.measureMode_vbusMv s1.endTest).trans (by rw [h1])
    have hlast : (if s3.normal ∧ s3.active then (s3.dispActive true).resumeValves else s3).pwr = s3.pwr :=
      Moves.same (gs := [.chans, .bridge, .disp])
        (.ite ((State.resumeValves_moves _).after (State.dispActive_moves true s3).alone) (Moves.refl _ s3)) .pwr rfl
    rw [hlast, State.onPwr_pwr, ← h2]
    exact State.beginSteps_vbusMv s2
  · rfl

/-- An edge that ends UNCONFIGURED ends TEST, and keeps the count (R149). -/
theorem State.leaveUnconfigured_tick_and_started (s : State) :
    s.leaveUnconfigured.meas.tick = s.meas.tick ∧ s.leaveUnconfigured.meas.started = s.meas.started := by
  unfold State.leaveUnconfigured
  extract_lets s1 s2 s3
  split
  · have h1 : s1.meas = s.meas :=
      Moves.same (gs := [.queue, .log, .img, .pair, .radio]) ((State.onRadio_moves _ _).after <|
        (State.unconfEnd_moves _).after (State.onImg_moves s _).alone) .meas rfl
    have h3 : s3.meas = s1.endTest.meas := Moves.same (gs := [.queue, .log, .pwr, .chans, .outs, .pair, .radio])
      ((State.onPwr_moves _ _).after <| (State.beginSteps_moves _).after (State.measureMode_moves s1.endTest).alone) .meas rfl
    have hlast : (if s3.normal ∧ s3.active then (s3.dispActive true).resumeValves else s3).meas = s3.meas :=
      Moves.same (gs := [.chans, .bridge, .disp])
        (.ite ((State.resumeValves_moves _).after (State.dispActive_moves true s3).alone) (Moves.refl _ s3)) .meas rfl
    rw [hlast, h3, ← h1]
    exact ⟨rfl, rfl⟩
  · exact ⟨rfl, rfl⟩

/-! ### The DMA events of an edge -/

theorem State.calBegin_meas (s : State) : ∃ c, s.calBegin.meas = { s.meas with calTick := c } := by
  unfold State.calBegin
  split
  · exact ⟨_, rfl⟩
  · exact ⟨some s.meas.tick, (Moves.forCh _ _ (fun n u => State.onCh_moves u n _) (Moves.refl [.chans] _)).same .meas rfl⟩

/-- A DMA channel is a function of the engine. -/
theorem dc_congr {s t : State} (h : t.dma = s.dma) (k : Nat) : t.dc k = s.dc k := by rw [State.dc, State.dc, h]

/-- The tick's own events latch in every running channel (R486). -/
theorem State.dmaEvent_tick_dc {ev : Nat} (h : ev = 36 ∨ ev = 37) (s : State) {k : Nat} (hk : k < 16) : (s.dmaEvent ev).dc k =
    if (s.dc k).run then { s.dc k with latches := (s.dc k).latches ||| 2 ^ ev } else s.dc k := by
  have hfold := dcFold (fun k c => c.run && (if ev = 36 ∨ ev = 37 then true else if ev < 16 then !dmaHost k else dmaHost k))
    (fun c => { c with latches := c.latches ||| 2 ^ ev }) (List.range 16) (by simp) List.nodup_range s k hk
  refine Eq.trans hfold ?_
  simp [hk, h]

/-- A tick event keeps what runs and what is latched. -/
theorem State.dmaEvent_tick_keeps {ev : Nat} (h : ev = 36 ∨ ev = 37) (s : State) {k : Nat} (hk : k < 16)
    (hrun : (s.dc k).run = true) : ((s.dmaEvent ev).dc k).run = true ∧ ((s.dmaEvent ev).dc k).latches.testBit ev = true ∧
      ∀ i, (s.dc k).latches.testBit i = true → ((s.dmaEvent ev).dc k).latches.testBit i = true := by
  rw [State.dmaEvent_tick_dc h s hk, if_pos hrun]
  refine ⟨hrun, by simp, fun i hi => ?_⟩
  rw [Nat.testBit_or, hi, Bool.true_or]

theorem and_two_pow_ne_zero {x i : Nat} (h : x.testBit i = true) : x &&& 2 ^ i ≠ 0 := by
  rw [Nat.and_two_pow, h]
  simp

theorem State.tickEvents_latches (s : State) {k : Nat} (hk : k < 16) (hrun : (s.dc k).run = true) :
    (s.tickEvents.dc k).latches &&& 2 ^ 36 ≠ 0 := by
  unfold State.tickEvents
  extract_lets s1 due s2
  have h1 : (s1.dc k).run = true := by
    simp only [s1]
    split
    · exact (State.dmaEvent_tick_keeps (.inr rfl) s hk hrun).1
    · exact hrun
  obtain ⟨hrun2, hbit, -⟩ := State.dmaEvent_tick_keeps (.inl rfl) s1 hk h1
  have h2 : s2.dc k = (s1.dmaEvent 36).dc k := dc_congr (State.onMeas_dma _ _) k
  rw [← h2] at hrun2 hbit
  obtain ⟨-, -, hkept⟩ := State.dmaEvent_tick_keeps (.inr rfl) s2 hk hrun2
  have hlatched : ((if due then s2 else s2.dmaEvent 37).dc k).latches.testBit 36 = true := by
    split
    · exact hbit
    · exact hkept 36 hbit
  exact and_two_pow_ne_zero hlatched

theorem State.tickEvents_meas (s : State) : ∃ d, s.tickEvents.meas = { s.meas with commitsDue := d } := by
  unfold State.tickEvents
  extract_lets s1 due s2
  have h1 : s1.meas = s.meas := Moves.same (.ite (State.dmaEvent_moves 37 s) (Moves.refl _ s)) .meas rfl
  have h2 : s2.meas = { s1.meas with commitsDue := due } :=
    congrArg (fun m : Meas => { m with commitsDue := due }) ((State.dmaEvent_moves 36 s1).same .meas rfl)
  have h3 : (if due then s2 else s2.dmaEvent 37).meas = s2.meas :=
    Moves.same (.ite (Moves.refl _ s2) (State.dmaEvent_moves 37 s2)) .meas rfl
  exact ⟨due, by rw [h3, h2, h1]⟩

/-! ### The work of a tick on VBUS -/

section
variable (sup : Supplies) (pins : TickPins) (internalTemp : Int) (first : Bool) (s : State)

/-- The work of an edge keeps its count. -/
theorem State.tickWork_tick_and_started : (s.tickWork sup pins internalTemp first).meas.tick = s.meas.tick ∧
    (s.tickWork sup pins internalTemp first).meas.started = s.meas.started := by
  rw [State.tickWork_eq]
  generalize hu : (s.tickRead sup pins internalTemp first).leaveHold = u
  have hread : u.meas = s.meas :=
    hu ▸ ((State.leaveHold_moves _).same .meas rfl).trans ((s.tickRead_moves sup pins internalTemp first).same .meas rfl)
  obtain ⟨_, hcal⟩ := u.leaveUnconfigured.calBegin_meas
  obtain ⟨_, hevents⟩ := u.leaveUnconfigured.calBegin.tickEvents_meas
  have hpair : ∀ v : State, v.pairTick.meas = v.meas := fun v => (State.pairTick_moves v).same .meas rfl
  rw [hpair, hevents, hcal, ← hread]
  exact u.leaveUnconfigured_tick_and_started

theorem State.tickWork_hl : (s.tickWork sup pins internalTemp first).hl = s.hl :=
  (s.tickWork_moves sup pins internalTemp first).same .hl rfl

/-- The pins of the pair are those that the edge has sampled (R548, R562). -/
theorem State.tickWork_pins : (s.tickWork sup pins internalTemp first).pair.peerOkIn = pins.peerOkIn ∧
    (s.tickWork sup pins internalTemp first).pair.harness = pins.harness := by
  have hevents (u : State) : u.SamePins u.calBegin.tickEvents :=
    .of_moves (gs := [.meas, .chans, .dma]) ((State.tickEvents_moves _).after (State.calBegin_moves u).alone)
  have hafter (u : State) : u.SamePins (u.leaveHold.leaveUnconfigured.calBegin.tickEvents).pairTick :=
    u.leaveHold_samePins.trans <| u.leaveHold.leaveUnconfigured_samePins.trans <| (hevents _).trans (State.pairTick_samePins _)
  rw [State.tickWork_eq]
  obtain ⟨hpeer, hharness⟩ := hafter (s.tickRead sup pins internalTemp first)
  obtain ⟨hpeer0, hharness0⟩ := s.tickRead_pins sup pins internalTemp first
  exact ⟨hpeer.trans hpeer0, hharness.trans hharness0⟩

theorem State.calBegin_tickEvents_pwr (u : State) : u.calBegin.tickEvents.pwr = u.pwr :=
  Moves.same (gs := [.meas, .chans, .dma]) ((State.tickEvents_moves _).after (State.calBegin_moves u).alone) .pwr rfl

/-- VBUS reads what the edge has measured (R71). -/
theorem State.tickWork_vbusMv :
    (s.tickWork sup pins internalTemp first).pwr.vbusMv = if s.pwr.state = .run then min 65535 sup.vbus else s.pwr.vbusMv := by
  obtain ⟨_, _, _, _, _, _, _, hlevels⟩ := s.readLevels_pwr sup pins first
  rw [State.tickWork_eq, State.pairTick_vbusMv, State.calBegin_tickEvents_pwr, State.leaveUnconfigured_vbusMv, State.leaveHold_vbusMv,
    State.tickRead_pwr, hlevels, State.readSupplies_pwr]

end

/-- A module that leaves neither HOLD nor UNCONFIGURED at this edge. -/
def State.goesOn (s : State) : Prop :=
  s.pwr.mode ≠ .hold ∧ (s.pwr.mode ≠ .unconfigured ∨ s.img.accepted = false ∨ s.img.module_.commissioned = false)

section
variable {s : State} (h : s.goesOn) (sup : Supplies) (pins : TickPins) (internalTemp : Int) (first : Bool)
include h

theorem State.tickWork_goesOn : s.tickWork sup pins internalTemp first =
    ((s.tickRead sup pins internalTemp first).calBegin.tickEvents).pairTick := by
  obtain ⟨hhold, hunconf⟩ := h
  obtain ⟨_, _, _, _, _, _, _, hlevels⟩ := s.readLevels_pwr sup pins first
  have hmode : (s.tickRead sup pins internalTemp first).pwr.mode = s.pwr.mode := by
    rw [State.tickRead_pwr, hlevels, State.readSupplies_pwr]
  rw [State.tickWork_eq, State.leaveHold_eq (by rw [hmode]; exact hhold), State.leaveUnconfigured_eq]
  rw [hmode, State.tickRead_img]
  exact hunconf

/-- What a tick leaves of the supply group (R71): readings, the cell's account, and the end of a WARM reset's gap. -/
theorem State.tickWork_pwr : ∃ g e u n r f c w, (s.tickWork sup pins internalTemp first).pwr =
    { (s.readSupplies sup first).pwr with cellGone := g, events := e, chargeUah := u, remNc := n, replaced := r, chgFlags := f,
                                           cellCheck := c, warmGap := w } := by
  obtain ⟨g, e, u, n, r, f, c, hlevels⟩ := s.readLevels_pwr sup pins first
  obtain ⟨w, hpair⟩ := (s.tickRead sup pins internalTemp first).calBegin.tickEvents.pairTick_pwr
  exact ⟨g, e, u, n, r, f, c, w, by
    rw [State.tickWork_goesOn h, hpair, State.calBegin_tickEvents_pwr, State.tickRead_pwr, hlevels]⟩

/-- EV36 is latched in every running channel (R486). -/
theorem State.tickWork_latches {k : Nat} (hk : k < 16) (hrun : (s.dc k).run = true) :
    ((s.tickWork sup pins internalTemp first).dc k).latches &&& 2 ^ 36 ≠ 0 := by
  have hbefore : (s.tickRead sup pins internalTemp first).calBegin.dma = s.dma :=
    ((State.calBegin_moves _).same .dma rfl).trans ((s.tickRead_moves sup pins internalTemp first).same .dma rfl)
  have hrun' : ((s.tickRead sup pins internalTemp first).calBegin.dc k).run = true := by
    rw [dc_congr hbefore k]
    exact hrun
  have hpair (u : State) : u.pairTick.dc k = u.dc k := dc_congr ((State.pairTick_moves u).same .dma rfl) k
  rw [State.tickWork_goesOn h, hpair]
  exact State.tickEvents_latches _ hk hrun'

end

end Sys2Proof.Machine
end

section
/-! TICK, SETT_TICK_EDGE and DEGRADED_TICK_WAKE (R51, R71, R97, R107, R158, R160, R161, R596). -/

set_option Elab.async false

namespace Sys2Proof.Machine

/-! ### TICK -/

section
variable {s : State} (sup : Supplies) (pins : TickPins) (internalTemp : Int)

/-- A tick on VBUS once ticks run. -/
def State.ticked (s : State) : State := (s.supplies sup).countTick.tickWork sup pins internalTemp false

/-- The first tick of a start on VBUS. -/
def State.firstTicked (s : State) : State := ((s.supplies sup).firstTick pins).tickWork sup pins internalTemp true

theorem execTick_running (hstate : s.pwr.state = .run) (hroot : s.pwr.rootOk = true) (hcell : s.pwr.onCell = false)
    (hphase : s.pwr.phase = .running) : execTick sup pins internalTemp s = .next (s.noteMode (s.ticked sup pins internalTemp)) := by
  unfold execTick
  extract_lets s1 returning
  rw [if_neg (by simp [hstate, hroot, hcell]), hphase]
  rfl

/-- The store is ready, or its two seconds are waived (R51). -/
theorem State.supplies_vbusReady {sup : Supplies} (hvbus : s.pwr.vbusOk = true) (hidle : s.pwr.pfActive = false)
    (hstore : 26000 ≤ sup.store ∨ s.pwr.storeWaived = true) : (s.supplies sup).pwr.vbusReady = true := by
  simp [State.supplies, Pwr.vbusReady, hvbus, hidle, hstore]

theorem execTick_first (hstate : s.pwr.state = .run) (hroot : s.pwr.rootOk = true) (hcell : s.pwr.onCell = false)
    (hphase : s.pwr.phase = .waiting) (hready : (s.supplies sup).pwr.vbusReady = true) :
    execTick sup pins internalTemp s = .next (s.noteMode (s.firstTicked sup pins internalTemp)) := by
  unfold execTick
  extract_lets s1 returning
  rw [if_neg (by simp [hstate, hroot, hcell]), hphase]
  exact if_pos hready

theorem State.countTick_supplies_goesOn (hmode : s.pwr.mode = .normal) : (s.supplies sup).countTick.goesOn := by
  have h : (s.supplies sup).countTick.pwr.mode = .normal := hmode
  exact ⟨by simp [h], .inl (by simp [h])⟩

/-- What the first tick makes of the mode on VBUS (R107, R596). -/
theorem State.supplies_firstMode_vbus (hcell : s.pwr.onCell = false) :
    (s.supplies sup).pwr.firstMode = if s.pwr.mode = .unconfigured then .unconfigured else .normal := by
  simp [State.supplies, Pwr.firstMode, Pwr.supplyMode, hcell]

theorem State.firstTick_goesOn (hcell : s.pwr.onCell = false)
    (hconf : s.pwr.mode ≠ .unconfigured ∨ s.img.accepted = false ∨ s.img.module_.commissioned = false) :
    ((s.supplies sup).firstTick pins).goesOn := by
  obtain ⟨_, _, _, _, hpwr⟩ := (s.supplies sup).firstTick_pwr pins
  have himg : ((s.supplies sup).firstTick pins).img = s.img := (State.firstTick_moves pins _).same .img rfl
  have hmode : ((s.supplies sup).firstTick pins).pwr.mode = if s.pwr.mode = .unconfigured then .unconfigured else .normal := by
    rw [hpwr]
    exact s.supplies_firstMode_vbus sup hcell
  rw [State.goesOn, hmode, himg]
  by_cases hunconf : s.pwr.mode = .unconfigured
  · exact ⟨by simp [hunconf], .inr (hconf.resolve_left (not_not.mpr hunconf))⟩
  · exact ⟨by simp [hunconf], .inl (by simp [hunconf])⟩

/-- The mode event leaves the events that are raised (R468). -/
theorem State.noteMode_raised {old new : State} {k : Nat} (h : new.hl.events.getLsbD k = true) :
    (old.noteMode new).hl.events.getLsbD k = true := by
  unfold State.noteMode
  split
  · exact h
  · exact setBits_getLsbD _ h

theorem State.ticked_reads (hstate : s.pwr.state = .run) :
    (s.ticked sup pins internalTemp).meas.tick = (s.meas.tick + 1) % 2 ^ 32 ∧
    (s.ticked sup pins internalTemp).pwr.vbusMv = min 65535 sup.vbus ∧
    (s.ticked sup pins internalTemp).pair.peerOkIn = pins.peerOkIn ∧ (s.ticked sup pins internalTemp).pair.harness = pins.harness := by
  obtain ⟨htick, -⟩ := (s.supplies sup).countTick.tickWork_tick_and_started sup pins internalTemp false
  have hrun : (s.supplies sup).countTick.pwr.state = .run := hstate
  rw [State.ticked, htick, State.tickWork_vbusMv, if_pos hrun]
  exact ⟨rfl, rfl, State.tickWork_pins sup pins internalTemp false _⟩

theorem State.ticked_normal (hmode : s.pwr.mode = .normal) : (s.ticked sup pins internalTemp).pwr.mode = .normal ∧
    ∀ k, k < 16 → (s.dc k).run = true → ((s.ticked sup pins internalTemp).dc k).latches &&& 2 ^ 36 ≠ 0 := by
  have hgoes := s.countTick_supplies_goesOn sup hmode
  obtain ⟨_, _, _, _, _, _, _, _, hpwr⟩ := State.tickWork_pwr hgoes sup pins internalTemp false
  refine ⟨?_, fun k hk hrun => State.tickWork_latches hgoes sup pins internalTemp false hk hrun⟩
  rw [State.ticked, hpwr, State.readSupplies_pwr]
  exact hmode

/-- The first tick on VBUS: ticks run and have begun, in NORMAL unless the module is UNCONFIGURED (R51, R107, R468, R596). -/
theorem State.firstTicked_begins (hcell : s.pwr.onCell = false)
    (hconf : s.pwr.mode ≠ .unconfigured ∨ s.img.accepted = false ∨ s.img.module_.commissioned = false) :
    (s.firstTicked sup pins internalTemp).pwr.phase = .running ∧ (s.firstTicked sup pins internalTemp).meas.started = true ∧
    (s.firstTicked sup pins internalTemp).hl.events.getLsbD 18 = true ∧
    (s.firstTicked sup pins internalTemp).meas.tick = (if s.meas.started then (s.meas.tick + 1) % 2 ^ 32 else 0) ∧
    (s.firstTicked sup pins internalTemp).pwr.mode = (if s.pwr.mode = .unconfigured then .unconfigured else .normal) ∧
    (s.firstTicked sup pins internalTemp).pwr.peerOkOut = (decide (s.pwr.mode ≠ .unconfigured) && !s.pwr.failSilent) := by
  obtain ⟨_, _, _, _, _, _, _, _, hpwr⟩ :=
    State.tickWork_pwr (State.firstTick_goesOn sup pins hcell hconf) sup pins internalTemp true
  obtain ⟨_, _, _, _, hfirst⟩ := (s.supplies sup).firstTick_pwr pins
  obtain ⟨htick, hstarted⟩ := ((s.supplies sup).firstTick pins).tickWork_tick_and_started sup pins internalTemp true
  have hmode : decide ((s.supplies sup).pwr.firstMode ≠ .unconfigured) = decide (s.pwr.mode ≠ .unconfigured) := by
    rw [s.supplies_firstMode_vbus sup hcell]
    split <;> simp [*]
  rw [State.firstTicked, htick, hstarted, hpwr, State.tickWork_hl, State.firstTick_meas, State.firstTick_hl, State.readSupplies_pwr, hfirst,
    hmode, s.supplies_firstMode_vbus sup hcell]
  exact ⟨rfl, rfl, by simp [setBits], rfl, rfl, rfl⟩

end

/-! ### SETT_TICK_EDGE -/

section
variable (sup : Supplies) (pins : TickPins) (internalTemp : Int) (first : Bool) (s : State)

/-- An edge of the SETT grid reads the supplies and leaves the rest of the supply group (R71). -/
theorem State.settWork_pwr : (s.settWork sup pins internalTemp first).pwr = (s.readSupplies sup first).pwr := by
  have h : Moves [.queue, .log, .img, .tcs, .tamper, .rtc, .pair, .radio] (s.readSupplies sup first)
      (s.settWork sup pins internalTemp first) :=
    (State.logOsf_moves _).after <| (State.transferLatch_moves _).after <| (State.correctRefs_moves _ _).after
      (State.samplePins_moves pins _).alone
  exact h.same .pwr rfl

/-- An edge of the SETT grid once ticks run, in a module in Run. -/
def State.settTicked : State := ((s.supplies sup).countTick.settWork sup pins internalTemp false).leaveUnconfigured.pairTick

/-- An edge of the SETT grid as the first tick of a start. -/
def State.settFirstTicked : State := (((s.supplies sup).firstTick pins).settWork sup pins internalTemp true).pairTick

variable {s}

theorem execSettTickEdge_phase (hpow : s.powered = true) (hcell : s.pwr.onCell = true) (hsett : s.rtc.settLost = false) :
    (s.pwr.phase = .running → s.pwr.state ≠ .run → execSettTickEdge sup pins internalTemp s = .next s.countTick) ∧
    (s.pwr.phase = .running → s.pwr.state = .run →
      execSettTickEdge sup pins internalTemp s = .next (s.noteMode (s.settTicked sup pins internalTemp))) ∧
    (s.pwr.phase = .waiting →
      execSettTickEdge sup pins internalTemp s = .next (s.noteMode (s.settFirstTicked sup pins internalTemp))) := by
  unfold execSettTickEdge
  rw [if_neg (by simp [hpow, hcell, hsett])]
  refine ⟨fun hphase hstate => ?_, fun hphase hstate => ?_, fun hphase => ?_⟩
  · rw [hphase]
    exact if_pos hstate
  · rw [hphase]
    exact if_neg (not_not.mpr hstate)
  · rw [hphase]
    rfl

theorem State.settTicked_goesOn (hmode : s.pwr.mode ≠ .unconfigured) :
    s.settTicked sup pins internalTemp = ((s.supplies sup).countTick.settWork sup pins internalTemp false).pairTick := by
  rw [State.settTicked, State.leaveUnconfigured_eq (.inl ?_)]
  rw [State.settWork_pwr, State.readSupplies_pwr]
  exact hmode

/-- An edge on the cell counts and reads VBUS (R71, R161). -/
theorem State.settTicked_counts (hmode : s.pwr.mode ≠ .unconfigured) (hstate : s.pwr.state = .run) :
    (s.settTicked sup pins internalTemp).meas = { s.meas with tick := (s.meas.tick + 1) % 2 ^ 32 } ∧
    (s.settTicked sup pins internalTemp).pwr.mode = s.pwr.mode ∧ (s.settTicked sup pins internalTemp).pwr.state = .run ∧
    (s.settTicked sup pins internalTemp).pwr.vbusMv = min 65535 sup.vbus := by
  rw [State.settTicked_goesOn sup pins internalTemp hmode]
  generalize hu : (s.supplies sup).countTick = u
  have hmeas : u.meas = { s.meas with tick := (s.meas.tick + 1) % 2 ^ 32 } := hu ▸ rfl
  have hrun : u.pwr.state = .run := hu ▸ hstate
  have hkept : u.pwr.mode = s.pwr.mode := hu ▸ rfl
  have hafter : (u.settWork sup pins internalTemp false).pairTick.meas = u.meas :=
    ((State.pairTick_moves _).same .meas rfl).trans ((State.settWork_moves _ _ _ _ u).same .meas rfl)
  obtain ⟨_, hpair⟩ := (u.settWork sup pins internalTemp false).pairTick_pwr
  rw [hafter, hpair, State.settWork_pwr, State.readSupplies_pwr]
  exact ⟨hmeas, hkept, hrun, if_pos hrun⟩

/-- The first tick on the cell: ticks run and have begun, in BACKUP, or in HOLD below VBAT_WARN (R71, R596). -/
theorem State.settFirstTicked_begins (hcell : s.pwr.onCell = true) (hmode : s.pwr.mode ≠ .unconfigured) :
    (s.settFirstTicked sup pins internalTemp).pwr.phase = .running ∧ (s.settFirstTicked sup pins internalTemp).meas.started = true ∧
    (s.settFirstTicked sup pins internalTemp).pwr.vbatMv = min 65535 sup.vbat ∧
    (s.settFirstTicked sup pins internalTemp).pwr.mode = (if s.pwr.belowWarn && decide (sup.vbat < 2900) then .hold else .backup) := by
  have hfirst : (s.supplies sup).pwr.firstMode = if s.pwr.belowWarn && decide (sup.vbat < 2900) then .hold else .backup := by
    simp [State.supplies, Pwr.firstMode, Pwr.supplyMode, hcell, hmode]
  unfold State.settFirstTicked
  obtain ⟨_, _, _, _, hpwr⟩ := (s.supplies sup).firstTick_pwr pins
  have hstarted : ((s.supplies sup).firstTick pins).meas.started = true := by rw [State.firstTick_meas]
  generalize (s.supplies sup).firstTick pins = u at hpwr hstarted
  have hafter : (u.settWork sup pins internalTemp true).pairTick.meas = u.meas :=
    ((State.pairTick_moves _).same .meas rfl).trans ((State.settWork_moves _ _ _ _ u).same .meas rfl)
  obtain ⟨_, hpair⟩ := (u.settWork sup pins internalTemp true).pairTick_pwr
  rw [hafter, hpair, State.settWork_pwr, State.readSupplies_pwr, hpwr, hfirst]
  exact ⟨rfl, hstarted, rfl, rfl⟩

end

/-! ### DEGRADED_TICK_WAKE -/

section
variable (now : Now) (sup : Supplies) (pins : TickPins) (internalTemp : Int) (exit10us : Nat) (s : State)

/-- The module in Run for a measurement tick: awake from Sleep with every source that has fired, or already there (R83, R160). -/
def State.degradedWoken : State :=
  if s.pwr.state = .sleep then (s.supplies sup).wakeTo 1 now.ms (.schedule :: s.pwr.wakes) exit10us
  else (s.supplies sup).enterState .run now.ms

/-- The work of a measurement tick: its readings and its place in the count (R71, R158, R587). -/
def State.degradedMeasured (s : State) : State :=
  let t := nextMeasTick s.meas.tick s.meas.degAt
  let s3 := ((s.degradedWoken now sup exit10us).onPwr fun p => { p with
    vbatMv := Word.sat 65535 sup.vbat, vbusMv := Word.sat 65535 sup.vbus }).onMeas fun m => { m with tick := t, degAt := some t }
  if s.active then s3.onPwr (Pwr.addCharge 375000) else s3

def State.degradedTicked (s : State) : State :=
  (((((s.degradedMeasured now sup exit10us).samplePins pins).correctRefs internalTemp).transferLatch.logOsf.tickEvents).pairTick)

/-- The wake leaves the mode, and a module that slept shows the source (R99). -/
theorem State.degradedWoken_pwr : (s.degradedWoken now sup exit10us).pwr.state = .run ∧
    (s.degradedWoken now sup exit10us).pwr.mode = s.pwr.mode ∧ (s.degradedWoken now sup exit10us).pwr.phase = s.pwr.phase ∧
    (s.degradedWoken now sup exit10us).pwr.failSilent = s.pwr.failSilent ∧
    (s.pwr.state = .sleep → (s.degradedWoken now sup exit10us).pwr.lastState = 1 ∧
      (s.degradedWoken now sup exit10us).pwr.lastExit = min 65535 exit10us ∧
      (s.degradedWoken now sup exit10us).pwr.lastWake = firstWake (.schedule :: s.pwr.wakes)) := by
  unfold State.degradedWoken
  split
  case isTrue =>
    obtain ⟨_, _, _, _, h⟩ := (s.supplies sup).wakeTo_pwr 1 now.ms (.schedule :: s.pwr.wakes) exit10us
    rw [h]
    exact ⟨rfl, rfl, rfl, rfl, fun _ => ⟨rfl, rfl, rfl⟩⟩
  case isFalse hawake =>
    obtain ⟨_, _, h⟩ := (s.supplies sup).enterState_pwr .run now.ms
    rw [h]
    exact ⟨rfl, rfl, rfl, rfl, fun hsleep => absurd hsleep hawake⟩

theorem State.degradedWoken_moves : Moves [.pwr] s (s.degradedWoken now sup exit10us) :=
  .ite ((State.wakeTo_moves _ _ _ _ _).after (State.supplies_moves sup s).alone)
    ((State.enterState_moves _ _ _).after (State.supplies_moves sup s).alone)

theorem State.degradedMeasured_pwr : ∃ uah nc, (s.degradedMeasured now sup exit10us).pwr = { (s.degradedWoken now sup exit10us).pwr with
    vbatMv := min 65535 sup.vbat, vbusMv := min 65535 sup.vbus, chargeUah := uah, remNc := nc } := by
  unfold State.degradedMeasured
  extract_lets t s3
  have h3 : s3.pwr = { (s.degradedWoken now sup exit10us).pwr with vbatMv := min 65535 sup.vbat, vbusMv := min 65535 sup.vbus } := by
    rw [State.onMeas_pwr, State.onPwr_pwr, Word.sat_eq_min, Word.sat_eq_min]
  split
  · exact ⟨_, _, by rw [State.onPwr_pwr, h3, Pwr.addCharge]⟩
  · exact ⟨_, _, h3⟩

theorem State.degradedMeasured_meas : (s.degradedMeasured now sup exit10us).meas =
    { s.meas with tick := nextMeasTick s.meas.tick s.meas.degAt, degAt := some (nextMeasTick s.meas.tick s.meas.degAt) } := by
  unfold State.degradedMeasured
  extract_lets t s3
  have h3 : s3.meas = { s.meas with tick := t, degAt := some t } :=
    congrArg (fun m : Meas => { m with tick := t, degAt := some t }) ((s.degradedWoken_moves now sup exit10us).same .meas rfl)
  split
  · exact h3
  · exact h3

/-- The rest of the tick's work leaves the supply group but for the end of a gap, and the sequencer but for what it has due. -/
theorem State.degradedTicked_pwr_and_meas : ∃ g d,
    (s.degradedTicked now sup pins internalTemp exit10us).pwr = { (s.degradedMeasured now sup exit10us).pwr with warmGap := g } ∧
    (s.degradedTicked now sup pins internalTemp exit10us).meas =
      { (s.degradedMeasured now sup exit10us).meas with commitsDue := d } := by
  unfold State.degradedTicked
  generalize hu : (((s.degradedMeasured now sup exit10us).samplePins pins).correctRefs internalTemp).transferLatch.logOsf = u
  have hmoves : Moves [.queue, .log, .img, .tcs, .tamper, .rtc, .pair, .radio] (s.degradedMeasured now sup exit10us) u :=
    hu ▸ ((State.logOsf_moves _).after <| (State.transferLatch_moves _).after <| (State.correctRefs_moves _ _).after
      (State.samplePins_moves pins _).alone)
  obtain ⟨g, hpair⟩ := u.tickEvents.pairTick_pwr
  obtain ⟨d, hevents⟩ := u.tickEvents_meas
  have hpwr : u.tickEvents.pwr = u.pwr := (State.tickEvents_moves u).same .pwr rfl
  have hmeas : u.tickEvents.pairTick.meas = u.tickEvents.meas := (State.pairTick_moves _).same .meas rfl
  exact ⟨g, d, by rw [hpair, hpwr, hmoves.same .pwr rfl], by rw [hmeas, hevents, hmoves.same .meas rfl]⟩

/-- The measurement tick in BACKUP: its place in the count, the cell's reading, and the wake that led to it (R71, R99, R158, R160). -/
theorem State.degradedTicked_measures (hmode : s.pwr.mode = .backup) :
    (s.degradedTicked now sup pins internalTemp exit10us).pwr.state = .run ∧
    (s.degradedTicked now sup pins internalTemp exit10us).pwr.mode = .backup ∧
    (s.degradedTicked now sup pins internalTemp exit10us).meas.tick = nextMeasTick s.meas.tick s.meas.degAt ∧
    (s.degradedTicked now sup pins internalTemp exit10us).meas.degAt =
      some (s.degradedTicked now sup pins internalTemp exit10us).meas.tick ∧
    (s.degradedTicked now sup pins internalTemp exit10us).pwr.vbatMv = min 65535 sup.vbat ∧
    (s.pwr.state = .sleep → (s.degradedTicked now sup pins internalTemp exit10us).pwr.lastState = 1 ∧
      (s.degradedTicked now sup pins internalTemp exit10us).pwr.lastExit = min 65535 exit10us ∧
      (s.degradedTicked now sup pins internalTemp exit10us).pwr.lastWake = firstWake (.schedule :: s.pwr.wakes)) := by
  obtain ⟨_, _, hpwr, hmeas⟩ := s.degradedTicked_pwr_and_meas now sup pins internalTemp exit10us
  obtain ⟨_, _, hmeasured⟩ := s.degradedMeasured_pwr now sup exit10us
  obtain ⟨hrun, hkept, -, -, hwoken⟩ := s.degradedWoken_pwr now sup exit10us
  rw [hpwr, hmeasured, hmeas, State.degradedMeasured_meas]
  exact ⟨hrun, hkept.trans hmode, rfl, rfl, rfl, hwoken⟩

variable {s}

theorem State.backup_mode (h : s.backup = true) : s.pwr.mode = .backup := by
  simpa using (Bool.and_eq_true_iff.mp h).2

/-- A wake without the VBAT_WARN filter leaves the module in BACKUP, and it measures (R57, R83, R160). -/
theorem execDegradedTickWake_measures (hbackup : s.backup = true) (hcell : s.pwr.onCell = true) (hsett : s.rtc.settLost = false)
    (hstate : s.pwr.state = .run ∨ s.pwr.state = .sleep) (hwarn : .vbatWarn ∉ s.pwr.wakes) :
    execDegradedTickWake now sup pins internalTemp exit10us s =
      .next (s.noteMode (s.degradedTicked now sup pins internalTemp exit10us)) := by
  have hserved : ¬ (!s.backup ∨ !s.pwr.onCell ∨ s.rtc.settLost ∨ (s.pwr.state ≠ .run ∧ s.pwr.state ≠ .sleep)) := by
    rcases hstate with h | h <;> simp [hbackup, hcell, hsett, h]
  unfold execDegradedTickWake
  rw [if_neg hserved]
  extract_lets t sources s1 s2 s3 s4
  have hacts (u : State) : u.wakeWarn now.cyc sources = u :=
    if_neg fun h => (List.mem_cons.mp (List.contains_iff_mem.mp h)).elim (fun h => WakeSource.noConfusion h) hwarn
  have h2 : s2 = s.degradedWoken now sup exit10us := by
    simp only [s2, hacts]
    rfl
  obtain ⟨hrun, hmode, hphase, hsilent, -⟩ := s.degradedWoken_pwr now sup exit10us
  have hrunning : s2.backup = true := by
    rw [h2]
    simp only [State.backup, State.running, hrun, hmode, hphase, hsilent, Bool.and_eq_true, decide_eq_true_eq] at hbackup ⊢
    exact ⟨⟨⟨hbackup.1.1.1, by decide, by decide⟩, hbackup.1.2⟩, hbackup.2⟩
  rw [if_neg (by simp [hrunning])]
  have h4 : s4 = s.degradedMeasured now sup exit10us := by
    simp only [s4, s3, h2]
    rfl
  rw [h4]
  rfl

end

/-- The source that a wake for a measurement tick reports (R83). -/
theorem firstWake_schedule {l : List WakeSource} (hwarn : .vbatWarn ∉ l) :
    firstWake (.schedule :: l) = if .vbusReturn ∈ l then 7 else if .tamper ∈ l then 6 else 1 := by
  rw [firstWake_eq (by simp) (by simp [hwarn])]
  simp

/-- Settles O42: TICK is `ticked` or, as the first of a start, `firstTicked`; SETT_TICK_EDGE the same on the cell; and
DEGRADED_TICK_WAKE is `degradedTicked`. -/
theorem ticksCountAndBegin : Obligations.TicksCountAndBegin := by
  unfold Obligations.TicksCountAndBegin
  refine ⟨?tick, ?sett, ?degraded⟩
  case tick =>
    intro s sup pins temp hstate hroot hcell
    refine ⟨fun hphase => ?_, fun hphase hvbus hidle hstore hconf => ?_⟩
    · refine ⟨_, execTick_running sup pins temp hstate hroot hcell hphase, ?_⟩
      rw [State.noteMode_meas, State.noteMode_pwr, State.noteMode_pair]
      simp only [dc_congr (State.noteMode_dma _ _)]
      obtain ⟨htick, hvbus, hpeer, hharness⟩ := State.ticked_reads sup pins temp hstate
      exact ⟨htick, hvbus, hpeer, hharness, State.ticked_normal sup pins temp⟩
    · refine ⟨_, execTick_first sup pins temp hstate hroot hcell hphase (State.supplies_vbusReady hvbus hidle hstore), ?_⟩
      rw [State.noteMode_meas, State.noteMode_pwr]
      obtain ⟨hrunning, hstarted, hraised, hrest⟩ := State.firstTicked_begins sup pins temp hcell hconf
      exact ⟨hrunning, hstarted, State.noteMode_raised hraised, hrest⟩
  case sett =>
    intro s sup pins temp hpow hcell hsett
    obtain ⟨hasleep, hrun, hfirst⟩ := execSettTickEdge_phase sup pins temp hpow hcell hsett
    refine ⟨hasleep, fun hphase hstate hmode => ⟨_, hrun hphase hstate, ?_⟩, fun hphase hmode => ⟨_, hfirst hphase, ?_⟩⟩
    · rw [State.noteMode_meas, State.noteMode_pwr]
      exact State.settTicked_counts sup pins temp hmode hstate
    · rw [State.noteMode_meas, State.noteMode_pwr]
      exact State.settFirstTicked_begins sup pins temp hcell hmode
  case degraded =>
    intro s now sup pins temp exit10us hbackup hcell hsett hstate hwarn
    refine ⟨_, execDegradedTickWake_measures now sup pins temp exit10us hbackup hcell hsett hstate hwarn, ?_⟩
    rw [State.noteMode_meas, State.noteMode_pwr, ← firstWake_schedule hwarn]
    exact s.degradedTicked_measures now sup pins temp exit10us (State.backup_mode hbackup)

end Sys2Proof.Machine
end

section
/-! The writable registers of the channel window: CHW_EVENTS and CHW_CAPTURE_CTRL (R166, R212, R216, R464). -/

set_option Elab.async false

namespace Sys2Proof.Machine

/-! ### A write through the window -/

/-- A write through the window: the flow path of the channel in CHSEL by f, word i of the window by g. -/
def State.writeShown (s : State) (i : Nat) (f : Flow → Flow) (g : Nat → Nat) : State :=
  (s.onFlow s.meas.chsel f).onMeas fun m => { m with window := updAt m.window i g }

/-- What a write through the window changes: the one channel's flow path and the one word. -/
theorem State.writeShown_effect {s : State} (hsel : 1 ≤ s.meas.chsel) (hsel40 : s.meas.chsel ≤ 40) (i : Nat)
    (f : Flow → Flow) (g : Nat → Nat) :
    (s.writeShown i f g).ch s.meas.chsel = { s.ch s.meas.chsel with flow := f (s.ch s.meas.chsel).flow } ∧
      (s.writeShown i f g).meas = { s.meas with window := updAt s.meas.window i g } ∧
      OthersSame s.meas.chsel s (s.writeShown i f g) ∧ Keeps [.chans, .meas] s (s.writeShown i f g) := by
  let u := s.onFlow s.meas.chsel f
  have hflow : Moves [.chans] s u := s.onCh_moves _ _
  have hwindow : Moves [.meas] u (s.writeShown i f g) := u.onMeas_moves _
  refine ⟨?channel, rfl, ?others, ?groups⟩
  case channel => exact (onMeas_ch u _ _).trans (State.onFlow_ch_same hsel hsel40 s f)
  case others => exact (State.onFlow_othersSame hsel hsel40 s f).trans (.of_chans (u.onMeas_chans _))
  case groups => exact (hflow.sub (by decide)).1.trans (hwindow.sub (by decide)).1

/-! ### CHW_EVENTS -/

theorem State.chwEventsWrite_eq (s : State) (v : Word) :
    s.chwEventsWrite v = s.writeShown 2 (fun x => { x with events := x.events &&& ~~~v })
      fun w => (BitVec.ofNat 32 w &&& ~~~v).toNat := rfl

theorem exec_chwEventsWrite {s : State} {v : Word} (h : s.takesWrite 0x148 = true) :
    exec (.chwEventsWrite v) s = .next (s.chwEventsWrite v) :=
  congrArg Host.Outcome.next (asWrite_takes h)

/-! ### CHW_CAPTURE_CTRL -/

theorem flag_zero (b : Bool) : flag b 0 = if b then 1 else 0 := Nat.mul_one _

/-- EN as it is kept: written, and given leave by the channel's export and the SPI link (R166, R464). -/
theorem captureEn_iff (v : Nat) (s : State) (n : Nat) :
    (Word.bit v 0 && s.mayExport n && s.pwr.straps.hostmode) = true ↔
      v % 2 = 1 ∧ s.mayExport n = true ∧ s.pwr.straps.hostmode = true := by
  simp [Word.bit, and_assoc]

/-- The word that a write keeps in CHW_CAPTURE_CTRL: EN with leave, DIR and DECIM as written (R216). -/
theorem State.captureWrite_eq (s : State) (v : Nat) {w : Nat}
    (hw : w = (if v % 2 = 1 ∧ s.mayExport s.meas.chsel = true ∧ s.pwr.straps.hostmode = true then 1 else 0) +
      2 * (v / 2 % 4) + 16 * (v / 16 % 16)) :
    s.captureWrite v = s.writeShown 30 (fun x => { x with capCtrl := w }) fun _ => w := by
  simp only [← captureEn_iff, ← flag_zero] at hw
  subst hw
  rfl

theorem exec_chwCaptureCtrlWrite {s : State} {v : Word} (h : s.takesWrite 0x1B8 = true) :
    exec (.chwCaptureCtrlWrite v) s = .next (s.captureWrite v.toNat) :=
  congrArg Host.Outcome.next (asWrite_takes h)

/-- Settles O16: each row is a write through the window, whose effect `writeShown_effect` says once for both. -/
theorem channelEventAndCaptureWrites : Obligations.ChannelEventAndCaptureWrites := by
  unfold Obligations.ChannelEventAndCaptureWrites
  refine ⟨?events, ?capture⟩
  case events =>
    intro s v htakes hsel hsel40
    rw [exec_chwEventsWrite htakes, State.chwEventsWrite_eq]
    exact ⟨_, rfl, State.writeShown_effect hsel hsel40 2 _ _⟩
  case capture =>
    intro s v htakes hsel hsel40 en w
    rw [exec_chwCaptureCtrlWrite htakes, State.captureWrite_eq s v.toNat (w := w) rfl]
    exact ⟨_, rfl, State.writeShown_effect hsel hsel40 30 _ _⟩

end Sys2Proof.Machine
end

section
/-! Pulse outputs: due pulses queue two widths apart, and each starts and ends at its instant (R39, R268 to R273). -/

set_option Elab.async false

namespace Sys2Proof.Machine

/-! ### The queue of an output -/

/-- The starts of an output: the last one, then those that wait. -/
def PulseOut.starts (p : PulseOut) : List Nat := p.last.toList ++ p.waiting

/-- When a pulse that is due at t can start behind the others (R271). -/
def PulseOut.startBehind (p : PulseOut) (gap t : Nat) : Nat :=
  match p.starts.getLast? with
  | none => t
  | some x => max t (x + gap)

/-- The pulse waits to start at an instant. -/
def PulseOut.await (p : PulseOut) (at_ : Nat) : PulseOut := { p with waiting := p.waiting ++ [at_] }

theorem PulseOut.await_starts (p : PulseOut) (at_ : Nat) : (p.await at_).starts = p.starts ++ [at_] :=
  (List.append_assoc ..).symm

theorem PulseOut.await_length (p : PulseOut) (at_ : Nat) : (p.await at_).waiting.length = p.waiting.length + 1 :=
  List.length_append

/-- The start before a new pulse is the last waiting one, else the last one of all. -/
theorem PulseOut.getLast?_starts (p : PulseOut) :
    p.starts.getLast? = match p.waiting.getLast? with
      | some x => some x
      | none => p.last := by
  rw [PulseOut.starts, List.getLast?_append]
  cases p.waiting.getLast? with
  | some x => rfl
  | none => cases p.last <;> rfl

theorem PulseOut.queue_full {p : PulseOut} (h : 65535 ≤ p.waiting.length) (gap t : Nat) (rest : List Nat) :
    p.queue gap (t :: rest) = ((p.queue gap rest).1, (p.queue gap rest).2.1 + 1, (p.queue gap rest).2.2) := by
  rw [PulseOut.queue, if_pos h]

theorem PulseOut.queue_room {p : PulseOut} (h : p.waiting.length < 65535) (gap t : Nat) (rest : List Nat) :
    p.queue gap (t :: rest) = (((p.await (p.startBehind gap t)).queue gap rest).1, ((p.await (p.startBehind gap t)).queue gap rest).2.1,
      ((p.await (p.startBehind gap t)).queue gap rest).2.2 || decide (t < p.startBehind gap t)) := by
  rw [PulseOut.queue, if_neg (by omega), PulseOut.startBehind, PulseOut.getLast?_starts]
  rfl

/-- A new start lies at least the gap after every start before it, where those keep the gap themselves. -/
theorem PulseOut.startBehind_spaced {p : PulseOut} {gap : Nat} (h : p.starts.Pairwise fun x y => x + gap ≤ y) (t : Nat) :
    ∀ x ∈ p.starts, x + gap ≤ p.startBehind gap t := by
  intro x hx
  unfold PulseOut.startBehind
  split
  case h_1 hnone => rw [List.getLast?_eq_none_iff.mp hnone] at hx; exact absurd hx List.not_mem_nil
  case h_2 y hlast =>
    obtain ⟨earlier, heq⟩ := List.getLast?_eq_some_iff.mp hlast
    rw [heq] at h hx
    obtain ⟨-, -, hbefore⟩ := List.pairwise_append.mp h
    rcases List.mem_append.mp hx with hmem | hmem
    · have := hbefore x hmem y List.mem_cons_self
      omega
    · obtain rfl := List.mem_singleton.mp hmem
      omega

theorem PulseOut.queue_spaced (gap : Nat) (due : List Nat) (p : PulseOut) (h : p.starts.Pairwise fun x y => x + gap ≤ y) :
    (p.queue gap due).1.starts.Pairwise fun x y => x + gap ≤ y := by
  induction due generalizing p with
  | nil => exact h
  | cons t rest ih =>
    rcases Nat.lt_or_ge p.waiting.length 65535 with hroom | hfull
    · rw [PulseOut.queue_room hroom]
      refine ih _ ?_
      rw [PulseOut.await_starts]
      refine List.pairwise_append.mpr ⟨h, List.pairwise_singleton _ _, fun x hx y hy => ?_⟩
      rw [List.mem_singleton.mp hy]
      exact PulseOut.startBehind_spaced h t x hx
    · rw [PulseOut.queue_full hfull]
      exact ih p h

theorem PulseOut.queue_length_le (gap : Nat) (due : List Nat) (p : PulseOut) (h : p.waiting.length ≤ 65535) :
    (p.queue gap due).1.waiting.length ≤ 65535 := by
  induction due generalizing p with
  | nil => exact h
  | cons t rest ih =>
    rcases Nat.lt_or_ge p.waiting.length 65535 with hroom | hfull
    · rw [PulseOut.queue_room hroom]
      exact ih _ (by rw [PulseOut.await_length]; omega)
    · rw [PulseOut.queue_full hfull]
      exact ih p h

/-- Queueing only adds starts behind those that wait, and each due pulse adds one or counts as discarded (R271, R273). -/
theorem PulseOut.queue_adds (gap : Nat) (due : List Nat) (p : PulseOut) :
    ∃ added, (p.queue gap due).1 = { p with waiting := p.waiting ++ added } ∧ added.length + (p.queue gap due).2.1 = due.length := by
  induction due generalizing p with
  | nil => exact ⟨[], by rw [List.append_nil]; rfl, rfl⟩
  | cons t rest ih =>
    rcases Nat.lt_or_ge p.waiting.length 65535 with hroom | hfull
    · obtain ⟨added, hout, hcount⟩ := ih (p.await (p.startBehind gap t))
      rw [PulseOut.queue_room hroom]
      refine ⟨p.startBehind gap t :: added, ?_, ?_⟩
      · rw [hout, PulseOut.await, List.append_assoc]
        rfl
      · rw [List.length_cons, List.length_cons, ← hcount, Nat.add_right_comm]
    · obtain ⟨added, hout, hcount⟩ := ih p
      rw [PulseOut.queue_full hfull]
      exact ⟨added, hout, by rw [List.length_cons, ← hcount]; rfl⟩

/-! ### The commands -/

section
variable {s : State} {po : Nat} (hpo : 1 ≤ po) (hpo8 : po ≤ 8)
include hpo hpo8

/-- What putting an output changes. -/
theorem State.setOut_effect (p : PulseOut) : (s.setOut po p).out po = p ∧
    (∀ k, 1 ≤ k → k ≤ 8 → k ≠ po → (s.setOut po p).out k = s.out k) ∧ Keeps [.outs] s (s.setOut po p) :=
  ⟨by rw [State.out_setOut s p hpo hpo hpo8, if_pos rfl],
    fun k hk hk8 hne => by rw [State.out_setOut s p hpo hk hk8, if_neg hne], (State.setOut_moves s po p).1⟩

theorem execPulseStart_none (now : Now) (h : (s.out po).waiting = []) : execPulseStart po now s = .next s := by
  rw [execPulseStart, if_neg (by omega)]
  simp only [h]

theorem execPulseStart_due {now : Now} {at_ : Nat} {rest : List Nat} (hwait : (s.out po).waiting = at_ :: rest)
    (hdriven : s.pulsesDriven = true) (hdue : at_ ≤ s.grid now.cyc) : execPulseStart po now s =
      .next (s.setOut po { closed := true, waiting := rest, last := some at_, backlog := (s.out po).backlog && !rest.isEmpty }) := by
  rw [execPulseStart, if_neg (by omega)]
  simp only [hwait]
  rw [if_neg (by simp [hdriven, hdue])]

theorem execPulseStart_held {now : Now} {at_ : Nat} {rest : List Nat} (hwait : (s.out po).waiting = at_ :: rest)
    (h : s.pulsesDriven = false ∨ s.grid now.cyc < at_) : execPulseStart po now s = .next s := by
  rw [execPulseStart, if_neg (by omega)]
  simp only [hwait]
  rw [if_pos (by simpa using h)]

theorem execPulseEnd_some {now : Now} {at_ : Nat} (h : (s.out po).last = some at_) :
    execPulseEnd po now s = .next (if s.grid now.cyc < at_ + (s.pulseCfg po).2.2.1 * 9600 then s
      else s.setOut po { s.out po with closed := false }) := by
  rw [execPulseEnd, if_neg (by omega)]
  simp only [h, apply_ite Host.Outcome.next]

end

/-- Settles O46: each command is one `setOut` where its instant has come, and the queue only adds starts behind those that wait. -/
theorem pulsesStartInOrderAndEnd : Obligations.PulsesStartInOrderAndEnd := by
  unfold Obligations.PulsesStartInOrderAndEnd
  refine ⟨fun s po now hpo hpo8 => ⟨?start, execPulseStart_none hpo hpo8 now, ?finish⟩, ?gap, ?queue⟩
  case start =>
    exact fun at_ rest hwait =>
      ⟨fun hdriven hdue => ⟨_, execPulseStart_due hpo hpo8 hwait hdriven hdue, State.setOut_effect hpo hpo8 _⟩,
        execPulseStart_held hpo hpo8 hwait⟩
  case finish =>
    intro at_ hlast
    have hexec := execPulseEnd_some hpo hpo8 (now := now) hlast
    exact ⟨fun hover => ⟨_, hexec.trans (by rw [if_neg (by omega)]), State.setOut_effect hpo hpo8 _⟩,
      fun hearly => hexec.trans (by rw [if_pos hearly])⟩
  case gap => exact fun width => Nat.mul_assoc 2 width 9600
  case queue =>
    intro p gap due hlen hspaced r
    obtain ⟨added, hout, hcount⟩ := PulseOut.queue_adds gap due p
    have hr : r.1 = { p with waiting := p.waiting ++ added } := hout
    refine ⟨PulseOut.queue_spaced gap due p hspaced, PulseOut.queue_length_le gap due p hlen, ?_⟩
    rw [hr, ← hcount, List.length_append, Nat.add_assoc]
    exact ⟨rfl, rfl, rfl, List.prefix_append _ _⟩

end Sys2Proof.Machine
end

section
/-! One valve: its state written, its fault logged, and what the credit policy leaves of it while the bridge is idle (R275, R279,
R281, R322, R325). -/

set_option Elab.async false

namespace Sys2Proof.Machine

/-! ### Writing VALVE_STATE -/

@[simp] theorem State.onValve_bridge (s : State) (n : Nat) (f : ValveState → ValveState) : (s.onValve n f).bridge = s.bridge := rfl

@[simp] theorem State.event_ch (s : State) (code ch : Nat) (data : List Byte) (m : Nat) : (s.event code ch data).ch m = s.ch m :=
  ch_congr (s.event_chans code ch data)

@[simp] theorem State.valveFault_bridge (s : State) (n code : Nat) : (s.valveFault n code).bridge = s.bridge :=
  (State.valveFault_moves n code s).same .bridge rfl

/-- Logging a fault leaves the channels as recording it does. -/
theorem State.valveFault_ch (s : State) (n code m : Nat) :
    (s.valveFault n code).ch m = (s.onValve n fun v => { v with fault := code }).ch m := State.event_ch _ _ _ _ m

/-- From s to t the other channels agree, the bridge moves what it moved, and a position of valve n that is not that of a move stays. -/
def State.PositionKept (n : Nat) (s t : State) : Prop :=
  OthersSame n s t ∧ t.bridge.moving = s.bridge.moving ∧
    ((s.ch n).a.valve.position < 4 → (t.ch n).a.valve.position = (s.ch n).a.valve.position)

section
variable {n : Nat} {s t u : State}

theorem State.PositionKept.refl (n : Nat) (s : State) : State.PositionKept n s s := ⟨.refl n s, rfl, fun _ => rfl⟩

theorem State.PositionKept.trans (h : State.PositionKept n s t) (k : State.PositionKept n t u) : State.PositionKept n s u := by
  obtain ⟨hothers, hmoving, hpos⟩ := h
  obtain ⟨kothers, kmoving, kpos⟩ := k
  exact ⟨hothers.trans kothers, kmoving.trans hmoving, fun hlt => (kpos (by rw [hpos hlt]; exact hlt)).trans (hpos hlt)⟩

theorem State.PositionKept.ite {c : Prop} [Decidable c] (h : State.PositionKept n s t) (k : State.PositionKept n s u) :
    State.PositionKept n s (if c then t else u) := by
  split
  · exact h
  · exact k

/-- An operation that moves neither the channels nor the bridge. -/
theorem State.PositionKept.of_moves {gs : List Group} (h : Moves gs s t) (hchans : gs.contains .chans = false := by rfl)
    (hbridge : gs.contains .bridge = false := by rfl) : State.PositionKept n s t :=
  ⟨.of_chans (h.same .chans hchans), congrArg Bridge.moving (h.same .bridge hbridge), fun _ => by rw [ch_congr (h.same .chans hchans)]⟩

theorem State.onBridge_positionKept (f : Bridge → Bridge) (h : (f s.bridge).moving = s.bridge.moving) :
    State.PositionKept n s (s.onBridge f) := ⟨.of_chans rfl, h, fun _ => rfl⟩

end

section
variable {n : Nat} (hn : 1 ≤ n) (hn40 : n ≤ 40)
include hn hn40

theorem State.onValve_ch_same (s : State) (f : ValveState → ValveState) :
    (s.onValve n f).ch n = (s.ch n).onWork fun w => { w with valve := f w.valve } := State.onCh_ch_same hn hn40 s _

theorem State.onValve_a (s : State) (f : ValveState → ValveState) :
    ((s.onValve n f).ch n).a = { (s.ch n).a with valve := f (s.ch n).a.valve } := by
  rw [State.onValve_ch_same hn hn40]
  rfl

theorem State.onValve_othersSame (s : State) (f : ValveState → ValveState) : OthersSame n s (s.onValve n f) :=
  State.onCh_othersSame hn hn40 s _

theorem State.valveFault_a (s : State) (code : Nat) :
    ((s.valveFault n code).ch n).a = { (s.ch n).a with valve := { (s.ch n).a.valve with fault := code } } := by
  rw [State.valveFault_ch, State.onValve_a hn hn40]

theorem State.valveFault_othersSame (s : State) (code : Nat) : OthersSame n s (s.valveFault n code) := fun m hm hm40 hne =>
  (s.valveFault_ch n code m).trans (State.onValve_othersSame hn hn40 s _ m hm hm40 hne)

/-! ### The credit policy -/

theorem State.onValve_positionKept (s : State) (f : ValveState → ValveState) (h : ∀ v, v.position < 4 → (f v).position = v.position) :
    State.PositionKept n s (s.onValve n f) :=
  ⟨State.onValve_othersSame hn hn40 s f, rfl, fun hlt => by rw [State.onValve_a hn hn40]; exact h _ hlt⟩

theorem State.onCh_positionKept (s : State) (f : Chan → Chan) (h : (f (s.ch n)).a.valve = (s.ch n).a.valve) :
    State.PositionKept n s (s.onCh n f) :=
  ⟨State.onCh_othersSame hn hn40 s f, rfl, fun _ => by rw [State.onCh_ch_same hn hn40, h]⟩

theorem State.valveFault_positionKept (s : State) (code : Nat) : State.PositionKept n s (s.valveFault n code) :=
  (State.onValve_positionKept hn hn40 s (fun v => { v with fault := code }) fun _ _ => rfl).trans (.of_moves (State.event_moves _ _ _ _))

/-- A submitted command starts no move, and takes no position but that of a move which waits to be resumed (R276, R280). -/
theorem State.submitValve_positionKept (dir source : Nat) (s : State) : State.PositionKept n s (s.submitValve n dir source).1 := by
  unfold State.submitValve
  extract_lets v t s1 idle
  have h1 : State.PositionKept n s s1 :=
    (State.onBridge_positionKept (fun b => { b with next := t + 1 }) rfl).trans
      (State.onValve_positionKept hn hn40 _ (fun v => { v with source := source }) fun _ _ => rfl)
  simp only [apply_ite Prod.fst]
  refine .ite (.refl n s) (.ite (.refl n s) (.ite (.refl n s) (.ite (.refl n s) (.ite (.refl n s) (.ite h1 (h1.trans ?_))))))
  split
  · exact (State.onBridge_positionKept _ (by rfl)).trans
      (State.onValve_positionKept hn hn40 _ _ fun v hlt => if_neg (Nat.not_le.mpr hlt))
  · exact (State.onBridge_positionKept _ (by rfl)).trans (State.onValve_positionKept hn hn40 _ _ fun _ _ => rfl)

theorem State.policySubmit_positionKept (dir : Nat) (ok wait : Nat → Nat) (s : State) :
    State.PositionKept n s (s.policySubmit n dir ok wait) := by
  unfold State.policySubmit
  extract_lets r c s1
  have hr : State.PositionKept n s r.1 := State.submitValve_positionKept hn hn40 dir 2 s
  have hcredit (t : State) (f : CreditState → CreditState) : State.PositionKept n t (t.onCredit n f) :=
    State.onCh_positionKept hn hn40 t _ rfl
  have h1 : State.PositionKept n s s1 := hr.trans (.of_moves (State.event_moves _ _ _ _))
  split
  · exact h1.trans (hcredit s1 _)
  · exact h1.trans (hcredit s1 _)
  · exact hr.trans (hcredit r.1 _)
  · exact hr.trans (hcredit r.1 _)
  · exact hr

theorem State.forcedValve_positionKept (s : State) : State.PositionKept n s (s.forcedValve n) := by
  unfold State.forcedValve
  extract_lets c again s1
  have h1 : State.PositionKept n s s1 :=
    (State.PositionKept.of_moves (s.onTamper_moves _)).trans (.of_moves (State.event_moves _ _ _ _))
  exact .ite (.ite (h1.trans (State.policySubmit_positionKept hn hn40 2 _ _ s1)) h1) (.refl n s)

end

end Sys2Proof.Machine
end

section
/-! Valve moves: the start of the oldest command, the samples of the contacts, and the end of a move at its target (R274 to R281). -/

set_option Elab.async false

namespace Sys2Proof.Machine

/-! ### The start of a move -/

theorem State.bridgeDrive_moving {s : State} (hnormal : s.normal = true) (hactive : s.active = true) (hpf : s.pwr.pfActive = false) :
    s.bridgeDrive = s.bridge.moving.map fun c => { ch := c.ch, mV := (s.cfg c.ch).valveMv, positive := decide (c.dir = 1) } :=
  if_pos (by simp [hnormal, hactive, hpf])

/-- A bridge that moves nothing drives nothing (R274). -/
theorem State.bridgeDrive_none {s : State} (h : s.bridge.moving = none) : s.bridgeDrive = none := by
  unfold State.bridgeDrive
  rw [h]
  exact ite_self none

theorem Bridge.rested_iff {b : Bridge} {ms : Nat} : b.rested ms = true ↔ b.since = 0 ∨ b.since + 200 ≤ ms := by
  simp [Bridge.rested]

/-- A command leaves the queue, whose rest is q, and the bridge begins to drive its valve (R278). -/
def State.driveValve (c : ValveCmd) (q : List ValveCmd) (ms : Nat) (s : State) : State :=
  ((s.onBridge fun b => { b with moving := some c, since := ms, queue := q }).onValve c.ch fun v => { v with
    position := 3 + c.dir, pending := 0, source := c.source, elapsed := 0, flags := 0 }).onCh c.ch fun x => { x with
      valve := { x.valve with opposite := none, movedRun := 0 } }

/-- A lone command whose valve already shows its position is dropped (R276). -/
def State.dropCommand (n : Nat) (s : State) : State :=
  (s.onValve n fun v => { v with pending := 0, flags := 0, elapsed := 0 }).onBridge fun b => { b with queue := [] }

section
variable {s : State} {c : ValveCmd} {q : List ValveCmd} (ms : Nat)

theorem State.startMove_drives (hq : s.bridge.queue = c :: q) (hpos : (s.ch c.ch).a.valve.position ≠ c.dir) :
    s.startMove ms = s.driveValve c q ms := by
  rw [State.startMove, hq, State.dropDone, if_neg hpos]
  rfl

theorem State.startMove_drops (hq : s.bridge.queue = [c]) (hpos : (s.ch c.ch).a.valve.position = c.dir) :
    s.startMove ms = s.dropCommand c.ch := by
  rw [State.startMove, hq, State.dropDone, if_pos hpos]
  rfl

end

section
variable {s : State} {n : Nat} (hn : 1 ≤ n) (hn40 : n ≤ 40)
include hn hn40

theorem State.driveValve_a {c : ValveCmd} (hc : c.ch = n) (q : List ValveCmd) (ms : Nat) :
    ((s.driveValve c q ms).ch n).a = { (s.ch n).a with
      valve := { (s.ch n).a.valve with position := 3 + c.dir, pending := 0, source := c.source, elapsed := 0, flags := 0 } } := by
  subst hc
  rw [State.driveValve, State.onCh_ch_same hn hn40]
  exact State.onValve_a hn hn40 _ _

theorem State.driveValve_othersSame {c : ValveCmd} (hc : c.ch = n) (q : List ValveCmd) (ms : Nat) :
    OthersSame n s (s.driveValve c q ms) := by
  subst hc
  have hbridge : OthersSame c.ch s (s.onBridge fun b => { b with moving := some c, since := ms, queue := q }) := .of_chans rfl
  exact (hbridge.trans (State.onValve_othersSame hn hn40 _ _)).trans (State.onCh_othersSame hn hn40 _ _)

theorem State.dropCommand_a : ((s.dropCommand n).ch n).a =
    { (s.ch n).a with valve := { (s.ch n).a.valve with pending := 0, elapsed := 0, flags := 0 } } :=
  State.onValve_a hn hn40 s fun v => { v with pending := 0, flags := 0, elapsed := 0 }

theorem State.dropCommand_othersSame : OthersSame n s (s.dropCommand n) := by
  unfold State.dropCommand
  exact (State.onValve_othersSame hn hn40 s _).trans (.of_chans (State.onBridge_chans _ _))

end

theorem State.driveValve_moves (c : ValveCmd) (q : List ValveCmd) (ms : Nat) (s : State) :
    Moves [.chans, .bridge] s (s.driveValve c q ms) :=
  (State.onCh_moves _ _ _).after <| (State.onValve_moves _ _ _).after (State.onBridge_moves _ _).alone

theorem State.dropCommand_moves (n : Nat) (s : State) : Moves [.chans, .bridge] s (s.dropCommand n) :=
  (State.onBridge_moves _ _).after (State.onValve_moves _ _ _).alone

theorem execValveMoveStart_starts {s : State} {now : Now} (hnormal : s.normal = true) (hactive : s.active = true)
    (hpf : s.pwr.pfActive = false) (hswitch : s.pair.switching = false) (hidle : s.bridge.moving = none)
    (hrest : s.bridge.since = 0 ∨ s.bridge.since + 200 ≤ now.ms) :
    exec (.valveMoveStart now) s = .next (s.startMove now.ms) :=
  if_pos (by simp [hnormal, hactive, hpf, hswitch, hidle, Bridge.rested_iff.mpr hrest])

theorem execValveMoveStart_held {s : State} {now : Now}
    (h : s.normal = false ∨ s.active = false ∨ s.pwr.pfActive = true ∨ s.pair.switching = true ∨ s.bridge.moving ≠ none ∨
      (s.bridge.since ≠ 0 ∧ now.ms < s.bridge.since + 200)) : exec (.valveMoveStart now) s = .next s := by
  refine if_neg fun hstart => ?_
  simp only [Bool.and_eq_true, Bool.not_eq_true', Option.isNone_iff_eq_none, Bridge.rested_iff] at hstart
  obtain ⟨⟨⟨⟨⟨hnormal, hactive⟩, hpf⟩, hidle⟩, hswitch⟩, hrest⟩ := hstart
  simp only [hnormal, hactive, hpf, hswitch, hidle, Bool.true_eq_false, Bool.false_eq_true, ne_eq, not_true_eq_false, false_or] at h
  omega

/-! ### A sample of the contacts -/

/-- The contacts of valve n have been read once more (R275). -/
def State.sampled (n : Nat) (fo fc : Bool) (s : State) : State :=
  s.onCh n fun c => { c with valve := { c.valve with hist := ((fo, fc) :: c.valve.hist).take 2 } }

theorem contactPos_range (x : Bool × Bool) : 1 ≤ contactPos x ∧ contactPos x ≤ 4 := by
  obtain ⟨fo, fc⟩ := x
  cases fo <;> cases fc <;> decide

section
variable {n : Nat} (hn : 1 ≤ n) (hn40 : n ≤ 40)
include hn hn40

theorem State.sampled_ch (fo fc : Bool) (s : State) : (s.sampled n fo fc).ch n =
    { s.ch n with valve := { (s.ch n).valve with hist := ((fo, fc) :: (s.ch n).valve.hist).take 2 } } :=
  State.onCh_ch_same hn hn40 s _

/-- The contacts as read: the last two readings, newest first. -/
theorem State.sampled_hist {s : State} {x : Bool × Bool} {r : List (Bool × Bool)} (fo fc : Bool) (h : (s.ch n).valve.hist = x :: r) :
    ((s.sampled n fo fc).ch n).valve.hist = [(fo, fc), x] := by
  rw [State.sampled_ch hn hn40, h]
  rfl

theorem State.sampled_othersSame (fo fc : Bool) (s : State) : OthersSame n s (s.sampled n fo fc) :=
  State.onCh_othersSame hn hn40 s _

theorem execValveFeedbackSample_still {s : State} (now : Now) (fo fc : Bool)
    (h : s.normal = false ∨ s.active = false ∨ (s.cfg n).hasValve = false ∨ s.pwr.pfActive = true) :
    exec (.valveFeedbackSample now n fo fc) s = .next s := by
  show execValveFeedbackSample now n fo fc s = _
  rw [execValveFeedbackSample, if_neg (by omega), if_pos (by rcases h with h | h | h | h <;> simp [h])]

section
variable {s : State} (hnormal : s.normal = true) (hactive : s.active = true) (hvalve : (s.cfg n).hasValve = true)
  (hpf : s.pwr.pfActive = false) (now : Now) (fo fc : Bool)
include hnormal hactive hvalve hpf

theorem execValveFeedbackSample_moving {c : ValveCmd} (hmove : s.bridge.moving = some c) (hc : c.ch = n) :
    exec (.valveFeedbackSample now n fo fc) s =
      .next ((s.sampled n fo fc).movingSample n c.dir now.ms (if c.dir = 1 then fc else fo)) := by
  show execValveFeedbackSample now n fo fc s = _
  rw [execValveFeedbackSample, if_neg (by omega), if_neg (by simp [hnormal, hactive, hvalve, hpf])]
  simp only [State.onCh_bridge, hmove, if_pos hc]
  rfl

theorem execValveFeedbackSample_idle (hidle : s.bridge.moving = none) :
    exec (.valveFeedbackSample now n fo fc) s =
      .next ((s.sampled n fo fc).idleSample n (countedPos (s.ch n).valve.hist) (contactPos (fo, fc))) := by
  show execValveFeedbackSample now n fo fc s = _
  rw [execValveFeedbackSample, if_neg (by omega), if_neg (by simp [hnormal, hactive, hvalve, hpf])]
  simp only [State.onCh_bridge, hidle]
  rfl

end

/-! ### The end of a move at its target -/

theorem State.moveDone_a (dir ms : Nat) (s : State) : ((s.moveDone n dir ms).ch n).a = { (s.ch n).a with
    valve := { (s.ch n).a.valve with position := dir, fault := 0, elapsed := 0, flags := 0, lastMove := s.rtc.count } } := by
  rw [State.moveDone, State.onCh_ch_same hn hn40]
  exact State.onValve_a hn hn40 (s.stopBridge ms) _

theorem State.moveDone_othersSame (dir ms : Nat) (s : State) : OthersSame n s (s.moveDone n dir ms) := by
  have hstop : OthersSame n s (s.stopBridge ms) := .of_chans rfl
  exact (hstop.trans (State.onValve_othersSame hn hn40 _ _)).trans (State.onCh_othersSame hn hn40 _ _)

omit hn hn40 in
theorem State.movingSample_done {s : State} {dir : Nat} (ms : Nat) (opposite : Bool) (hpos : countedPos (s.ch n).valve.hist = dir)
    (hdir : dir ≠ 4) : s.movingSample n dir ms opposite = s.moveDone n dir ms := by
  rw [State.movingSample, hpos, if_neg hdir, if_pos rfl]

omit hn hn40 in
/-- A sample that settles no position, before the wrong end counts, ends nothing (R279). -/
theorem State.movingSample_early {s : State} {dir ms : Nat} (opposite : Bool) (hpos : countedPos (s.ch n).valve.hist = 0)
    (hdir : dir ≠ 0) (hearly : ms < s.bridge.since + 2000) :
    s.movingSample n dir ms opposite = s.onCh n fun c => { c with valve := { c.valve with opposite := none } } := by
  rw [State.movingSample, hpos, if_neg (by decide), if_neg (Ne.symm hdir), if_neg (by omega)]

/-! ### A sample of an idle valve -/

/-- What a sample of an idle valve leaves: two equal readings give its position, one reading leaves it (R275, R280). -/
theorem State.idleSample_effect (was raw : Nat) (s : State) :
    OthersSame n s (s.idleSample n was raw) ∧ (s.idleSample n was raw).bridge.moving = s.bridge.moving ∧
    (∀ p, countedPos (s.ch n).valve.hist = p → 1 ≤ p → p < 4 →
      (s.ch n).a.valve.position < 4 ∨ s.bridge.queued n = none → ((s.idleSample n was raw).ch n).a.valve.position = p) ∧
    (countedPos (s.ch n).valve.hist = 0 → (s.ch n).valve.movedRun < 2 →
      ((s.idleSample n was raw).ch n).a.valve.position = (s.ch n).a.valve.position) := by
  unfold State.idleSample
  extract_lets c p s1 run s2
  have h1 : OthersSame n s s1 ∧ s1.bridge.moving = s.bridge.moving := by
    have hput (f : ValveState → ValveState) : OthersSame n s (s.onValve n f) := State.onValve_othersSame hn hn40 s f
    simp only [s1]
    split_ifs
    · exact ⟨.refl n s, rfl⟩
    · exact ⟨.refl n s, rfl⟩
    · exact ⟨(hput _).trans (State.valveFault_othersSame hn hn40 _ 3), by rw [State.valveFault_bridge]; rfl⟩
    · exact ⟨.refl n s, rfl⟩
    · exact ⟨hput _, rfl⟩
  obtain ⟨hothers1, hmoving1⟩ := h1
  have h2 : State.PositionKept n s1 s2 := State.onCh_positionKept hn hn40 s1 _ rfl
  have hend : State.PositionKept n s1 (if run = 3 then (s2.valveFault n 4).forcedValve n else s2) :=
    .ite (h2.trans ((State.valveFault_positionKept hn hn40 s2 4).trans (State.forcedValve_positionKept hn hn40 _))) h2
  obtain ⟨hothers, hmoving, hkept⟩ := hend
  refine ⟨hothers1.trans hothers, hmoving.trans hmoving1, fun q hq hq1 hq4 hfree => ?_, fun hnone hrun => ?_⟩
  · have hwaits : ¬(4 ≤ c.a.valve.position ∧ (s.bridge.queued n).isSome) := by
      rintro ⟨hge, hsome⟩
      rcases hfree with hlt | hfree
      · exact absurd hge (Nat.not_le.mpr hlt)
      · simp [hfree] at hsome
    have hs1 : s1 = s.onValve n fun v => { v with position := p } := by
      have hp : p = q := hq
      simp only [s1]
      rw [if_neg (by omega), if_neg (by omega), if_neg hwaits]
    have hpos : (s1.ch n).a.valve.position = q := by rw [hs1, State.onValve_a hn hn40]; exact hq
    exact (hkept (by omega)).trans hpos
  · have hs1 : s1 = s := if_pos hnone
    have hrun3 : run ≠ 3 := by
      have hle : run ≤ c.valve.movedRun + 1 := by simp only [run]; split <;> omega
      have hlt : c.valve.movedRun < 2 := hrun
      omega
    rw [if_neg hrun3, State.onCh_ch_same hn hn40, hs1]

end

/-! ### The commands -/

/-- Settles O47: a start is `driveValve` or `dropCommand`, and a sample is `movingSample` or `idleSample` on the contacts as read. -/
theorem valveMovesStartAndComplete : Obligations.ValveMovesStartAndComplete := by
  unfold Obligations.ValveMovesStartAndComplete
  refine ⟨?start, fun s now => execValveMoveStart_held, ?sample, by decide⟩
  case start =>
    intro s now c q hn hn40 hnormal hactive hpf hswitch hidle hq hrest
    have hexec := execValveMoveStart_starts hnormal hactive hpf hswitch hidle hrest
    refine ⟨fun hpos => ?drives, fun hpos hlone => ?drops⟩
    case drives =>
      have hdrive : (s.driveValve c q now.ms).bridgeDrive = some { ch := c.ch, mV := (s.cfg c.ch).valveMv, positive := decide (c.dir = 1) } :=
        State.bridgeDrive_moving (s := s.driveValve c q now.ms) hnormal hactive hpf
      exact ⟨_, hexec.trans (congrArg _ (State.startMove_drives now.ms hq hpos)), rfl, hdrive, State.driveValve_a hn hn40 rfl q now.ms,
        State.driveValve_othersSame hn hn40 rfl q now.ms, (State.driveValve_moves c q now.ms s).1⟩
    case drops =>
      exact ⟨_, hexec.trans (congrArg _ (State.startMove_drops now.ms (hlone ▸ hq) hpos)), rfl,
        congrArg Work.valve (State.dropCommand_a hn hn40), State.dropCommand_othersSame hn hn40, (State.dropCommand_moves c.ch s).1⟩
  case sample =>
    intro s now n fo fc hn hn40
    refine ⟨execValveFeedbackSample_still hn hn40 now fo fc, fun hnormal hactive hvalve hpf => ⟨?moving, ?idle⟩⟩
    case moving =>
      intro c x hmove hc hhist
      have hexec := execValveFeedbackSample_moving hn hn40 hnormal hactive hvalve hpf now fo fc hmove hc
      have hread := State.sampled_ch hn hn40 fo fc s
      have hothers := State.sampled_othersSame hn hn40 fo fc s
      have hmoves : Moves [.chans] s (s.sampled n fo fc) := s.onCh_moves _ _
      have hcount : countedPos ((s.sampled n fo fc).ch n).valve.hist = if (fo, fc) = x then contactPos (fo, fc) else 0 :=
        congrArg countedPos (State.sampled_hist hn hn40 fo fc hhist)
      refine ⟨fun hx hpos hdir => ?_, fun hx hearly hdir => ?_⟩
      · subst hx
        rw [if_pos rfl, hpos] at hcount
        refine ⟨(s.sampled n fo fc).moveDone n c.dir now.ms, hexec.trans (congrArg _ (State.movingSample_done _ _ hcount hdir)), rfl,
          State.bridgeDrive_none rfl, ?_, hothers.trans (State.moveDone_othersSame hn hn40 _ _ _), ?_⟩
        · rw [State.moveDone_a hn hn40, hread]
          rfl
        · exact ((State.moveDone_moves _ _ _ _).after hmoves.alone).1
      · rw [if_neg (Ne.symm hx)] at hcount
        refine ⟨_, hexec.trans (congrArg _ (State.movingSample_early _ hcount (by omega) hearly)), ?_⟩
        rw [State.onCh_ch_same hn hn40, hread, hhist]
        exact ⟨rfl, rfl, hothers.trans (State.onCh_othersSame hn hn40 _ _), ((State.onCh_moves _ _ _).after hmoves).1⟩
    case idle =>
      intro hidle
      have hread := State.sampled_ch hn hn40 fo fc s
      obtain ⟨hothers, hmoving, htwo, hone⟩ :=
        State.idleSample_effect hn hn40 (countedPos (s.ch n).valve.hist) (contactPos (fo, fc)) (s.sampled n fo fc)
      rw [hread] at htwo hone
      refine ⟨_, execValveFeedbackSample_idle hn hn40 hnormal hactive hvalve hpf now fo fc hidle, hmoving.trans hidle,
        (State.sampled_othersSame hn hn40 fo fc s).trans hothers, fun x r hhist hx hpos => ?_, fun hhist hrun => ?_⟩
      · subst hx
        have hcount : countedPos (((fo, fc) :: (s.ch n).valve.hist).take 2) = contactPos (fo, fc) := by
          rw [hhist]
          exact if_pos rfl
        have hrange := contactPos_range (fo, fc)
        exact htwo _ hcount hrange.1 (by omega)
      · exact hone (by rw [hhist]; rfl) hrun

end Sys2Proof.Machine
end

section
/-! Valve faults: timeout, overcurrent, open coil, both contacts and the wrong end stop the move with their code (R279, R281, R306). -/

set_option Elab.async false

namespace Sys2Proof.Machine

/-- The position that a faulted move leaves, for a reading history: the end that two equal readings show, or UNKNOWN (R279). -/
def faultPosition (h : List (Bool × Bool)) : Nat := if countedPos h = 1 ∨ countedPos h = 2 then countedPos h else 3

section
variable {n : Nat} (hn : 1 ≤ n) (hn40 : n ≤ 40)
include hn hn40

theorem State.moveFault_a (code ms : Nat) (s : State) : ((s.moveFault n code ms).ch n).a = { (s.ch n).a with
    valve := { (s.ch n).a.valve with position := faultPosition (s.ch n).valve.hist, elapsed := 0, flags := 0, fault := code } } := by
  unfold State.moveFault
  extract_lets p pos
  rw [State.valveFault_a hn hn40, State.onValve_a hn hn40]
  rfl

theorem State.moveFault_othersSame (code ms : Nat) (s : State) : OthersSame n s (s.moveFault n code ms) := by
  have hstop : OthersSame n s (s.stopBridge ms) := .of_chans rfl
  exact (hstop.trans (State.onValve_othersSame hn hn40 _ _)).trans (State.valveFault_othersSame hn hn40 _ code)

omit hn hn40 in
theorem State.moveFault_bridge (code ms : Nat) (s : State) :
    (s.moveFault n code ms).bridge = { s.bridge with moving := none, since := ms } :=
  State.valveFault_bridge _ n code

/-- What a fault leaves (R279): the bridge stopped, the code with the position, and everything else of the valve. -/
theorem State.moveFault_effect (code ms : Nat) (s : State) :
    (s.moveFault n code ms).bridge = { s.bridge with moving := none, since := ms } ∧
    ((s.moveFault n code ms).ch n).a.valve = { (s.ch n).a.valve with
      position := faultPosition (s.ch n).valve.hist, elapsed := 0, flags := 0, fault := code } ∧
    OthersSame n s (s.moveFault n code ms) ∧ Keeps (.chans :: .bridge :: logGroups) s (s.moveFault n code ms) :=
  ⟨State.moveFault_bridge code ms s, congrArg Work.valve (State.moveFault_a hn hn40 code ms s),
    State.moveFault_othersSame hn hn40 code ms s, (State.moveFault_moves n code ms s).1.sub (by decide)⟩

/-- The fault on a state whose other channels are those of s and whose contacts are as read. -/
theorem State.moveFault_shows {s u : State} {h : List (Bool × Bool)} (code ms : Nat) (hread : (u.ch n).valve.hist = h)
    (hothers : OthersSame n s u) :
    ((u.moveFault n code ms).ch n).a.valve.fault = code ∧ ((u.moveFault n code ms).ch n).a.valve.position = faultPosition h ∧
      (u.moveFault n code ms).bridge.moving = none ∧ OthersSame n s (u.moveFault n code ms) := by
  rw [State.moveFault_a hn hn40, State.moveFault_bridge, hread]
  exact ⟨rfl, rfl, rfl, hothers.trans (State.moveFault_othersSame hn hn40 code ms u)⟩

end

section
variable {s : State} {c : ValveCmd} (hmove : s.bridge.moving = some c) (code ms : Nat) {when_ : Nat → Bool}
include hmove

theorem State.faultMoving_fires (h : when_ c.ch = true) : s.faultMoving code ms when_ = s.moveFault c.ch code ms := by
  simp only [State.faultMoving, hmove, h, if_true]

theorem State.faultMoving_waits (h : when_ c.ch = false) : s.faultMoving code ms when_ = s := by
  simp only [State.faultMoving, hmove, h, Bool.false_eq_true, if_false]

end

theorem State.faultMoving_none {s : State} (h : s.bridge.moving = none) (code ms : Nat) (when_ : Nat → Bool) :
    s.faultMoving code ms when_ = s := by
  simp only [State.faultMoving, h]

/-! ### The contacts -/

section
variable {s : State} {n : Nat} {dir ms : Nat}

theorem State.movingSample_both (opposite : Bool) (h : countedPos (s.ch n).valve.hist = 4) :
    s.movingSample n dir ms opposite = s.moveFault n 3 ms := if_pos h

/-- The wrong end, once it has been read for 2 s. -/
def State.disagreed (n t0 : Nat) (s : State) : State := s.onCh n fun c => { c with valve := { c.valve with opposite := some t0 } }

/-- The opposite end, 2 s after the start, faults a move once it has been read for 2 s (R279). -/
theorem State.movingSample_disagrees {t0 : Nat} (h4 : countedPos (s.ch n).valve.hist ≠ 4) (hdir : countedPos (s.ch n).valve.hist ≠ dir)
    (hsince : s.bridge.since + 2000 ≤ ms) (hopp : (s.ch n).valve.opposite = some t0) (hlong : t0 + 2000 ≤ ms) :
    s.movingSample n dir ms true = (s.disagreed n t0).moveFault n 2 ms := by
  rw [State.movingSample, if_neg h4, if_neg hdir, hopp, if_pos ⟨hsince, rfl⟩]
  exact if_pos hlong

end

/-- Settles O48: each of the commands ends in `moveFault` with its code, on the contacts as read, or leaves the state. -/
theorem valveFaultsStopTheMove : Obligations.ValveFaultsStopTheMove := by
  unfold Obligations.ValveFaultsStopTheMove
  intro faulted s now c hmove hn hn40 hist
  have hfires (code : Nat) (when_ : Nat → Bool) (h : when_ c.ch = true) :
      ∃ t, Host.Outcome.next (s.faultMoving code now.ms when_) = (.next t : Out) ∧ faulted s t c.ch code hist now :=
    ⟨_, congrArg _ (State.faultMoving_fires hmove code now.ms h), State.moveFault_effect hn hn40 code now.ms s⟩
  refine ⟨fun hlate => hfires 1 _ (decide_eq_true hlate), fun hearly => ?_, hfires 5 _ rfl,
    fun hlate => hfires 6 _ (decide_eq_true hlate), fun hearly => ?_, fun hnormal hactive hvalve hpf => ⟨fun r hhist => ?both, fun r t0 hdir hhist hopp hlong hsince => ?wrongEnd⟩,
    fun u hidle => ?none⟩
  · exact congrArg _ (State.faultMoving_waits hmove 1 now.ms (decide_eq_false (by omega)))
  · exact congrArg _ (State.faultMoving_waits hmove 6 now.ms (decide_eq_false (by omega)))
  case both =>
    have hexec := execValveFeedbackSample_moving hn hn40 hnormal hactive hvalve hpf now true true hmove rfl
    have hread := State.sampled_hist hn hn40 true true hhist
    rw [State.movingSample_both _ (by rw [hread]; rfl)] at hexec
    exact ⟨_, hexec, State.moveFault_shows hn hn40 3 now.ms hread (State.sampled_othersSame hn hn40 true true s)⟩
  case wrongEnd =>
    have hexec := execValveFeedbackSample_moving hn hn40 hnormal hactive hvalve hpf now true false hmove rfl
    let u := s.sampled c.ch true false
    have hread : (u.ch c.ch).valve.hist = [(true, false), (true, false)] := State.sampled_hist hn hn40 true false hhist
    have hcount : countedPos (u.ch c.ch).valve.hist = 1 := by rw [hread]; rfl
    have hopp' : (u.ch c.ch).valve.opposite = some t0 := by rw [State.sampled_ch hn hn40]; exact hopp
    rw [if_neg (by omega), State.movingSample_disagrees (s := u) (by omega) (by omega) hsince hopp' hlong] at hexec
    have hread' : ((u.disagreed c.ch t0).ch c.ch).valve.hist = [(true, false), (true, false)] := by
      rw [State.disagreed, State.onCh_ch_same hn hn40]
      exact hread
    exact ⟨_, hexec, State.moveFault_shows hn hn40 2 now.ms hread'
      ((State.sampled_othersSame hn hn40 true false s).trans (State.onCh_othersSame hn hn40 u _))⟩
  case none =>
    have hstill (code : Nat) (when_ : Nat → Bool) : Host.Outcome.next (u.faultMoving code now.ms when_) = (.next u : Out) :=
      congrArg _ (State.faultMoving_none hidle code now.ms when_)
    exact ⟨hstill 1 _, hstill 5 _, hstill 6 _⟩

end Sys2Proof.Machine
end

section
/-! Seconds of the real-time clock: the count, the slew and the stop of the oscillator (R333, R335, R343, R346, R355). -/

set_option Elab.async false

namespace Sys2Proof.Machine

/-! ### What a second does -/

/-- A second of the clock that leaves the count at c: the slew moves, and SETT runs (R335, R343). -/
def State.secondTo (c : Nat) (s : State) : State :=
  ((s.onRtc Rtc.slewSecond).onPwr fun p => { p with settRun := true }).onRtc fun r => { r with count := c }

theorem State.secondTo_rtc (c : Nat) (s : State) : (s.secondTo c).rtc = { s.rtc with
    count := c, slew := s.rtc.slewSecond.slew, slewPhase := s.rtc.slewSecond.slewPhase, subBase := s.rtc.slewSecond.subBase } :=
  congrArg (fun r : Rtc => { r with count := c }) (slewSecond_form s.rtc)

theorem State.secondTo_moves (c : Nat) (s : State) : Moves [.rtc, .pwr] s (s.secondTo c) :=
  (State.onRtc_moves _ _).after ((State.onPwr_moves _ _).after (State.onRtc_moves s _).alone)

section
variable {s : State} (hsett : s.rtc.settLost = false)
include hsett

/-- Below the second before the highest count the count rises, and a whole hour ages the last scrub (R578). -/
theorem rtcSecond_counts (hbelow : s.rtc.count < 12622780798) : exec .rtcSecond s = .next
    (if (s.rtc.count + 1) % 3600 = 0 then
      (s.secondTo (s.rtc.count + 1)).onFlt fun f => { f with scrubAge := Word.sat 255 (f.scrubAge + 1) }
    else s.secondTo (s.rtc.count + 1)) := by
  have hcount : s.rtc.slewSecond.count = s.rtc.count := by rw [slewSecond_form]
  rw [rtcSecond_cases s hsett, if_neg (by omega), if_neg (by omega)]
  simp only [State.secondTo, State.onRtc, State.onPwr, hcount]

/-- The highest count is reached with OSF set (R335). -/
theorem rtcSecond_reaches (hlast : s.rtc.count = 12622780798) :
    exec .rtcSecond s = .next ((s.secondTo 12622780799).setOsf 2) := by
  rw [rtcSecond_cases s hsett, if_neg (by omega), if_pos hlast]
  rfl

/-- The highest count is held (R335). -/
theorem rtcSecond_holds (htop : 12622780799 ≤ s.rtc.count) : exec .rtcSecond s = .next (s.secondTo 12622780799) := by
  rw [rtcSecond_cases s hsett, if_pos htop]
  rfl

/-- Beside the count and OSF, a second leaves the clock as its slew does. -/
theorem rtcSecond_rtc : ∃ t, exec .rtcSecond s = .next t ∧ ∃ c osf cause pend, t.rtc = { s.rtc.slewSecond with
    count := c, osf := osf, osfCause := cause, osfPend := pend } := by
  rcases lt_trichotomy s.rtc.count 12622780798 with hbelow | hlast | habove
  · have hcounts := rtcSecond_counts hsett hbelow
    split at hcounts <;> exact ⟨_, hcounts, _, _, _, _, rfl⟩
  · exact ⟨_, rtcSecond_reaches hsett hlast, _, _, _, _, rfl⟩
  · exact ⟨_, rtcSecond_holds hsett (by omega), _, _, _, _, rfl⟩

end

/-- OSCILLATOR_STOP sets OSF and marks SETT stopped and its trim invalid (R346). -/
theorem exec_oscillatorStop {s : State} (hsett : s.rtc.settLost = false) :
    exec .oscillatorStop s = .next ((s.setOsf 2).onPwr fun p => { p with settRun := false, trimValid := false }) :=
  if_neg (by simp [hsett])

/-- Settles O8: below the top a second is `secondTo` the next count, at the top it holds, and reaching the top is one `setOsf`. -/
theorem rtcSecondAdvancesTheCount : Obligations.RtcSecondAdvancesTheCount := by
  unfold Obligations.RtcSecondAdvancesTheCount
  refine ⟨fun s hsett hbelow => ⟨_, rtcSecond_counts hsett hbelow, ?_⟩, fun s hsett hlast => ?_, fun s hsett htop => ?_,
    fun s hsett => exec_oscillatorStop hsett⟩
  · have hrtc := State.secondTo_rtc (s.rtc.count + 1) s
    have hmoves := State.secondTo_moves (s.rtc.count + 1) s
    by_cases hhour : (s.rtc.count + 1) % 3600 = 0
    · rw [if_pos hhour, if_pos hhour, ← Word.sat_eq_min]
      exact ⟨hrtc.trans (by rw [State.onFlt_rtc, hrtc]), rfl, rfl, ((State.onFlt_moves _ _).after hmoves.alone).1⟩
    · rw [if_neg hhour, if_neg hhour]
      exact ⟨hrtc.trans (by rw [hrtc]), rfl, rfl, (hmoves.alone).1⟩
  · refine ⟨_, rtcSecond_reaches hsett hlast, rfl, rfl, rfl, ?_, rfl, ?_⟩
    · show (s.secondTo 12622780799).rtc.osfPend ++ [(2, 12622780799)] = _
      rw [State.secondTo_rtc]
    · exact ((State.setOsf_moves _ _).after (State.secondTo_moves _ s)).1
  · refine ⟨_, rtcSecond_holds hsett htop.ge, rfl, ?_, rfl, (State.secondTo_moves _ s).1⟩
    rw [State.secondTo_rtc]

/-! ### The slew -/

theorem divTrunc_eq_tdiv (a : Int) (b : Nat) : divTrunc a b = a.tdiv b := by
  unfold divTrunc
  split
  · next h => exact (Int.tdiv_eq_ediv_of_nonneg h).symm
  · next h => rw [← Int.tdiv_eq_ediv_of_nonneg (by omega), Int.neg_tdiv, Int.neg_neg]

/-- The signed value of a field of 20 bits. -/
theorem Word.toInt_20 (v : Nat) : Word.toInt 20 v =
    if v % 1048576 < 524288 then ((v % 1048576 : Nat) : Int) else ((v % 1048576 : Nat) : Int) - 1048576 := by
  show (if 524288 ≤ v % 1048576 then ((v % 1048576 : Nat) : Int) - 1048576 else ((v % 1048576 : Nat) : Int)) = _
  split <;> split <;> omega

theorem Rtc.slewOk_iff (r : Rtc) (a : Int) : r.slewOk a = true ↔
    a.natAbs ≤ 262144 ∧ r.osf = false ∧ r.slew = 0 ∧ a.natAbs + r.usedToday ≤ 262144 := by
  rw [Rtc.slewOk, Bool.and_eq_true, decide_eq_true_eq, Bool.not_eq_true']
  tauto

theorem Rtc.startSlew_eq (r : Rtc) (a : Int) (source : Nat) : r.startSlew a source = { r with
    slew := a, slewPhase := 0, slewUsed := r.usedToday + a.natAbs, slewDay := r.count / 86400,
    adjLog := [3, source, (a.tdiv 32768 % 16777216).toNat] } := by
  rw [Rtc.startSlew, divTrunc_eq_tdiv]
  rfl

/-- RTC_SLEW_WRITE of a, where the time may be changed, cancels, accepts or refuses a slew (R343). -/
theorem exec_rtcSlewWrite {s : State} {v : Word} (htakes : s.takesWrite 0xD8 = true) (htime : s.timeChanges = true) {a : Int}
    (ha : Word.toInt 20 v.toNat = a) : exec (.rtcSlewWrite v) s =
      if a = 0 then .next (s.onRtc fun r => { r with slew := 0, slewPhase := 0 })
      else if a.natAbs ≤ 262144 ∧ s.rtc.osf = false ∧ s.rtc.slew = 0 ∧ a.natAbs + s.rtc.usedToday ≤ 262144 then
        .next (s.onRtc fun r => { r with
          slew := a, slewPhase := 0, slewUsed := r.usedToday + a.natAbs, slewDay := r.count / 86400,
          adjLog := [3, 0, (a.tdiv 32768 % 16777216).toNat] })
      else .next (s.onRtc fun r => { r with slewRefused := true }) := by
  have hwrite : exec (.rtcSlewWrite v) s = .next (s.slewWrite v.toNat) := congrArg Host.Outcome.next (asWrite_takes htakes)
  rw [hwrite, State.slewWrite, if_neg (by simp [htime]), ha]
  simp only [← Rtc.slewOk_iff, Rtc.startSlew_eq, apply_ite Host.Outcome.next]

/-- A second of a slew in progress applies one cycle in every 10,000 and keeps the remainder (R343). -/
theorem Rtc.slewSecond_applies {r : Rtc} (h : r.slew ≠ 0) :
    r.slewSecond.slewPhase = (r.slewPhase + 32768) % 10000 ∧
    r.slewSecond.slew.natAbs = r.slew.natAbs - (r.slewPhase + 32768) / 10000 ∧
    (0 < r.slew → 0 ≤ r.slewSecond.slew) ∧ (r.slew < 0 → r.slewSecond.slew ≤ 0) := by
  rw [Rtc.slewSecond, if_neg h]
  dsimp only
  generalize (r.slewPhase + 32768) / 10000 = k
  refine ⟨rfl, ?_⟩
  split <;> omega

/-- Settles O9: the write is decided by `slewOk`, and each second applies what `slewSecond` does. -/
theorem slewMovesOneCycleInTenThousand : Obligations.SlewMovesOneCycleInTenThousand := by
  unfold Obligations.SlewMovesOneCycleInTenThousand
  refine ⟨fun s v htakes htime => exec_rtcSlewWrite htakes htime (Word.toInt_20 v.toNat), fun s hsett hslew => ?_⟩
  obtain ⟨t, hexec, c, osf, cause, pend, hrtc⟩ := rtcSecond_rtc hsett
  refine ⟨t, hexec, ?_⟩
  rw [hrtc]
  exact Rtc.slewSecond_applies hslew

end Sys2Proof.Machine
end

section
/-! HALT, its ends, and the writes of a date and a time under it (R337 to R342, R349, R352). -/

set_option Elab.async false

namespace Sys2Proof.Machine

/-! ### One entry of the event log -/

/-- An event below its limit of the hour in a SOLO module is the next entry of the log (R306, R307). -/
theorem event_next {code ch : Nat} {data : List Byte} {s : State} (halarm : alarmOf code data = none) (hsolo : s.pair.phase = 0)
    (hhour : s.log.hour = s.rtc.count / 3600) (hfew : onsets code ch s.log.counts < 8) :
    (s.event code ch data).log.next = s.log.next + 1 := by
  have hquiet : s.alarmOnset code ch data = s := by simp only [State.alarmOnset, halarm]
  have hroll : s.rollHour = s := if_pos hhour
  rw [State.event, State.onsetAt, hquiet, hroll, if_pos hfew, State.writeEvent, if_neg (by simp [hsolo]), if_neg (by simp [hsolo]),
    State.enqueue_log]
  rfl

/-! ### HALT -/

/-- HALT holds the registers where the time may be changed, else it sets BADWRITE (R337, R338). -/
theorem exec_halt {s : State} (now : Now) (htakes : s.takesWrite 0xC0 = true) :
    exec (.halt now) s = .next (
      if s.timeChanges = false then s.badWrite
      else if s.rtc.halt = true then s
      else s.onRtc fun r => { r with halt := true, heldCount := r.count, haltMs := now.ms, heldSub := r.sub now.sub }) := by
  have hwrite : exec (.halt now) s = .next (s.haltWrite now) := congrArg Host.Outcome.next (asWrite_takes htakes)
  simp only [hwrite, State.haltWrite, Bool.not_eq_true']

/-- HALT_RELEASE under HALT releases it, and applies what was written (R339, R341). -/
theorem exec_haltRelease {s : State} (now : Now) (htakes : s.takesWrite 0xC0 = true) (htime : s.timeChanges = true)
    (hhalt : s.rtc.halt = true) : exec (.haltRelease now) s = .next (
      if s.rtc.pendDate.isNone ∧ s.rtc.pendTime.isNone then s.onRtc Rtc.dropHalt
      else (s.onRtc Rtc.dropHalt).applyTime (wordsCount (s.rtc.pendDate.getD (dateWord s.rtc.heldCount))
        (s.rtc.pendTime.getD (timeWord s.rtc.heldCount))) 0 now.sub) := by
  have hwrite : exec (.haltRelease now) s = .next (s.haltClear now) := congrArg Host.Outcome.next (asWrite_takes htakes)
  rw [hwrite, State.haltClear, if_neg (by simp [htime]), if_neg (by simp [hhalt])]

/-- The clock that nothing is written to drops HALT alone. -/
theorem Rtc.dropHalt_unwritten {r : Rtc} (hdate : r.pendDate = none) (htime : r.pendTime = none) :
    r.dropHalt = { r with halt := false } := by
  show _ = { r with halt := false, pendDate := r.pendDate, pendTime := r.pendTime }
  rw [hdate, htime]
  rfl

/-- The clock after the automatic release (R342). -/
def State.autoReleased (s : State) : State := s.onRtc fun r => { r.dropHalt with autoRelease := true }

theorem exec_haltAutoRelease_due {s : State} {now : Now} (hhalt : s.rtc.halt = true) (hdue : s.rtc.haltMs + 2000 ≤ now.ms) :
    exec (.haltAutoRelease now) s = .next (s.autoReleased.event 0x24 0 []) := if_pos ⟨hhalt, hdue⟩

theorem exec_haltAutoRelease_early {s : State} {now : Now} (h : s.rtc.halt = false ∨ now.ms < s.rtc.haltMs + 2000) :
    exec (.haltAutoRelease now) s = .next s := by
  refine if_neg fun ⟨hhalt, hdue⟩ => ?_
  rcases h with h | h
  · exact absurd hhalt (by simp [h])
  · omega

/-- A second leaves HALT and what the registers hold under it. -/
theorem rtcSecond_held {s t : State} (hexec : exec .rtcSecond s = .next t) :
    t.rtc.halt = s.rtc.halt ∧ t.rtc.heldCount = s.rtc.heldCount ∧ t.rtc.heldSub = s.rtc.heldSub := by
  by_cases hsett : s.rtc.settLost = true
  · have hstill : exec .rtcSecond s = .next s := if_pos hsett
    obtain rfl : s = t := Host.Outcome.next.inj (hstill.symm.trans hexec)
    exact ⟨rfl, rfl, rfl⟩
  · obtain ⟨u, hu, c, osf, cause, pend, hrtc⟩ := rtcSecond_rtc (by simpa using hsett)
    obtain rfl : u = t := Host.Outcome.next.inj (hu.symm.trans hexec)
    rw [hrtc, slewSecond_form]
    exact ⟨rfl, rfl, rfl⟩

/-- Settles O10: each command by what it makes of HALT; the automatic release is `autoReleased` and one event. -/
theorem haltHoldsTheRegistersAndNotTheCount : Obligations.HaltHoldsTheRegistersAndNotTheCount := by
  unfold Obligations.HaltHoldsTheRegistersAndNotTheCount
  refine ⟨fun s now htakes => exec_halt now htakes, fun s now htakes htime hhalt hdate hclock => ?release,
    fun s now => exec_haltAutoRelease_early, fun s now hhalt hdue => ⟨_, exec_haltAutoRelease_due hhalt hdue, ?auto⟩,
    fun s t => rtcSecond_held⟩
  case release =>
    rw [exec_haltRelease now htakes htime hhalt, if_pos (by simp [hdate, hclock]), State.onRtc, Rtc.dropHalt_unwritten hdate hclock]
  case auto =>
    refine ⟨State.event_rtc _ _ _ _, ((State.event_moves 0x24 0 [] _).after (State.onRtc_moves s _).alone).1,
      fun hsolo hhour hfew => ⟨?_, event_next (s := s.autoReleased) rfl hsolo hhour hfew⟩⟩
    rw [event_queue 0x24 0 [] s.autoReleased rfl hsolo hhour hfew, Nat.zero_add]
    rfl

/-! ### Dates and times -/

/-- The date words that are taken: a day of 2000 to 2399 with nothing in the other fields (R340, R352). -/
theorem dateOk_iff (w : Nat) : dateOk w = true ↔ w < 2 ^ 28 ∧ 2000 ≤ w / 65536 ∧ w / 65536 ≤ 2399 ∧
    1 ≤ w / 256 % 256 ∧ w / 256 % 256 ≤ 12 ∧ 1 ≤ w % 256 ∧ w % 256 ≤ monthLen (w / 65536) (w / 256 % 256) := by
  have hday : Word.bits w 0 8 = w % 256 := by simp [Word.bits]
  have hmonth : Word.bits w 8 8 = w / 256 % 256 := rfl
  have hyear : w < 2 ^ 28 → Word.bits w 16 12 = w / 65536 := fun h => Nat.mod_eq_of_lt (by omega)
  simp only [dateOk, decide_eq_true_eq, hday, hmonth]
  constructor
  · rintro ⟨hy, hy', hm, hm', hd, hd', hw⟩
    rw [hyear hw] at hy hy' hd'
    exact ⟨hw, hy, hy', hm, hm', hd, hd'⟩
  · rintro ⟨hw, hy, hy', hm, hm', hd, hd'⟩
    rw [hyear hw]
    exact ⟨hy, hy', hm, hm', hd, hd', hw⟩

/-- The time words that are taken (R340, R352). -/
theorem timeOk_iff (w : Nat) : timeOk w = true ↔
    w < 2 ^ 24 ∧ w / 65536 ≤ 23 ∧ w / 256 % 256 ≤ 59 ∧ w % 256 ≤ 59 := by
  have hfields : Word.bits w 0 8 = w % 256 ∧ Word.bits w 8 8 = w / 256 % 256 ∧ Word.bits w 16 8 = w / 65536 % 256 := by
    simp [Word.bits]
  obtain ⟨hsecond, hminute, hhour⟩ := hfields
  rw [timeOk, decide_eq_true_eq, hsecond, hminute, hhour]
  omega

theorem exec_rtcDateWrite {s : State} {v : Word} (htakes : s.takesWrite 0xC8 = true) :
    exec (.rtcDateWrite v) s = .next (if s.timeChanges ∧ s.rtc.halt ∧ dateOk v.toNat then
      s.onRtc fun r => { r with pendDate := some v.toNat } else s.badWrite) :=
  congrArg Host.Outcome.next (asWrite_takes htakes)

theorem exec_rtcTimeWrite {s : State} {v : Word} (htakes : s.takesWrite 0xCC = true) :
    exec (.rtcTimeWrite v) s = .next (if s.timeChanges ∧ s.rtc.halt ∧ timeOk v.toNat then
      s.onRtc fun r => { r with pendTime := some v.toNat } else s.badWrite) :=
  congrArg Host.Outcome.next (asWrite_takes htakes)

/-- February has 29 days in a leap year, else 28 (R334). -/
theorem monthLen_february (y : Nat) : monthLen y 2 = if (y % 4 = 0 ∧ y % 100 ≠ 0) ∨ y % 400 = 0 then 29 else 28 := by
  rw [monthLen, if_pos rfl]
  simp [leap]

theorem monthLen_thirty {m : Nat} (y : Nat) (h : m = 4 ∨ m = 6 ∨ m = 9 ∨ m = 11) : monthLen y m = 30 := by
  rw [monthLen, if_neg (by omega), if_pos h]

theorem monthLen_thirtyOne {m : Nat} (y : Nat) (h : m = 1 ∨ m = 3 ∨ m = 5 ∨ m = 7 ∨ m = 8 ∨ m = 10 ∨ m = 12) :
    monthLen y m = 31 := by
  rw [monthLen, if_neg (by omega), if_neg (by omega)]

/-- Settles O11: the writes are decided by `dateOk` and `timeOk`, which say what the statement asks of the words. -/
theorem dateAndTimeWritesAreCheckedAsAWhole : Obligations.DateAndTimeWritesAreCheckedAsAWhole := by
  unfold Obligations.DateAndTimeWritesAreCheckedAsAWhole
  refine ⟨fun s v htakes => ?_, fun s v htakes => ?_, monthLen_february, fun y m => monthLen_thirty y, fun y m => monthLen_thirtyOne y⟩
  · rw [exec_rtcDateWrite htakes]
    simp only [dateOk_iff]
    rfl
  · rw [exec_rtcTimeWrite htakes]
    simp only [timeOk_iff]
    rfl

end Sys2Proof.Machine
end

section
/-! A release that applies a written date or time (R335, R339, R341, R344, R345, R355). -/

set_option Elab.async false

namespace Sys2Proof.Machine

/-! ### A time that is applied -/

/-- `RTC_ADJ_LOG.DELTA` is the change saturated to 8,388,607 in size (R355). -/
theorem adjDelta_eq (d : Int) : adjDelta d = (max (-8388607) (min 8388607 d) % 16777216).toNat := by
  have hsat : Word.satInt 8388607 d = max (-8388607) (min 8388607 d) := by
    unfold Word.satInt
    split
    · omega
    · split <;> omega
  rw [adjDelta, hsat]
  rfl

theorem osf_or_changed {osf : Bool} {new old : Nat} (h : ¬ (osf = false ∧ new = old)) : osf = true ∨ new ≠ old := by
  by_contra hno
  exact h (by simpa using hno)

/-- The clock set to a count by a step or a set (R344, R355). -/
def Rtc.setTo (new source raw : Nat) (r : Rtc) : Rtc :=
  { r with
    count := new, subBase := raw % 32768, osf := false, stepped := true,
    adjLog := [if r.osf then 2 else 1, source, adjDelta ((new : Int) - r.count)] }

/-- A step or a set before its event: the clock, the mark of every channel and the report grids (R344, R345, R370). -/
def State.timeSet (new source raw : Nat) (s : State) : State :=
  let marked := (s.onRtc (Rtc.setTo new source raw)).forCh allCh fun n t => t.onCh n fun c => { c with stepped := true }
  if new = s.rtc.count then marked else marked.stepGrids s.rtc.count new

/-- A step or a set with its event (R306). -/
def State.timeLogged (new source raw : Nat) (s : State) : State :=
  (s.timeSet new source raw).event (if s.rtc.osf then 0x22 else 0x21) 0 (le 5 s.rtc.count ++ le 5 new)

section
variable (new source raw : Nat) (s : State)

/-- A time that changes nothing moves the prescaler alone. -/
theorem State.applyTime_unchanged (hosf : s.rtc.osf = false) (hnew : new = s.rtc.count) :
    s.applyTime new source raw = s.onRtc fun r => { r with count := new, subBase := raw % 32768 } :=
  if_pos ⟨by simp [hosf], hnew⟩

/-- Any other time is a step or a set, which at the highest count sets OSF again (R335). -/
theorem State.applyTime_changed (hchange : s.rtc.osf = true ∨ new ≠ s.rtc.count) : s.applyTime new source raw =
    if 12622780799 ≤ new then (s.timeLogged new source raw).setOsf 2 else s.timeLogged new source raw := by
  refine if_neg fun ⟨hosf, hnew⟩ => ?_
  rcases hchange with h | h
  · simp [h] at hosf
  · exact h hnew

theorem State.timeSet_moves : Moves [.rtc, .chans, .radio] s (s.timeSet new source raw) := by
  have hmarked : Moves [.rtc, .chans, .radio] s ((s.onRtc (Rtc.setTo new source raw)).forCh allCh fun n t =>
      t.onCh n fun c => { c with stepped := true }) :=
    (State.forCh_onCh_moves _ _ _).after (State.onRtc_moves s _).alone
  exact .ite hmarked ((State.stepGrids_moves _ _ _).after hmarked)

/-- The grids of the report schedule are apart from the clock and the channels. -/
theorem State.timeSet_marked (g : Group) (hg : [Group.radio].contains g = false) :
    g.same ((s.onRtc (Rtc.setTo new source raw)).forCh allCh fun n t => t.onCh n fun c => { c with stepped := true })
      (s.timeSet new source raw) :=
  (Moves.ite (Moves.refl _ _) (State.stepGrids_moves _ _ _)).same g hg

theorem State.timeSet_rtc : (s.timeSet new source raw).rtc = s.rtc.setTo new source raw :=
  (State.timeSet_marked new source raw s .rtc rfl).trans ((State.forCh_onCh_moves _ _ _).same .rtc rfl)

/-- Every channel is marked as stepped (R345). -/
theorem State.timeSet_ch {n : Nat} (hn : 1 ≤ n) (hn40 : n ≤ 40) :
    (s.timeSet new source raw).ch n = { s.ch n with stepped := true } :=
  (ch_congr (State.timeSet_marked new source raw s .chans rfl)).trans (forCh_map _ _ n hn hn40)

theorem State.timeLogged_rtc : (s.timeLogged new source raw).rtc = s.rtc.setTo new source raw :=
  (State.event_rtc _ _ _ _).trans (State.timeSet_rtc new source raw s)

theorem State.timeLogged_ch {n : Nat} (hn : 1 ≤ n) (hn40 : n ≤ 40) :
    (s.timeLogged new source raw).ch n = { s.ch n with stepped := true } :=
  (State.event_ch _ _ _ _ n).trans (State.timeSet_ch new source raw s hn hn40)

theorem State.timeLogged_moves : Moves [.rtc, .chans, .queue, .log, .radio, .pair] s (s.timeLogged new source raw) :=
  (State.event_moves _ _ _ _).after (State.timeSet_moves new source raw s).alone

/-- The entry of a step or a set: at the new count, with both counts (R306, R344, R345). -/
theorem State.timeLogged_queue {code : Nat} (hcode : (if s.rtc.osf then 0x22 else 0x21) = code) (hsolo : s.pair.phase = 0)
    (hhour : s.log.hour = new / 3600) (hfew : onsets code 0 s.log.counts < 8) :
    (s.timeLogged new source raw).mem.queue = s.mem.queue ++ [{
      kind := .entry (0x210000 + 32 * ((s.log.next - 1) % 4096)),
      body := eventBytes s.log.next new 0 code 0 (le 5 s.rtc.count ++ le 5 new) }] := by
  have hmoves := State.timeSet_moves new source raw s
  have hlog : (s.timeSet new source raw).log = s.log := hmoves.same .log rfl
  have hpair : (s.timeSet new source raw).pair = s.pair := hmoves.same .pair rfl
  have hqueue : (s.timeSet new source raw).mem.queue = s.mem.queue := hmoves.same .queue rfl
  have hrtc := State.timeSet_rtc new source raw s
  have hcount : (s.timeSet new source raw).rtc.count = new := congrArg Rtc.count hrtc
  have htrusted : (s.timeSet new source raw).untrusted = 0 := congrArg (fun r : Rtc => Word.ofBool r.osf) hrtc
  have halarm : alarmOf code (le 5 s.rtc.count ++ le 5 new) = none := by
    subst hcode
    split <;> rfl
  rw [State.timeLogged, hcode, event_queue code 0 _ _ halarm (by rw [hpair, hsolo]) (by rw [hlog, hcount, hhour])
    (by rw [hlog]; exact hfew), hlog, hqueue, hcount, htrusted]

theorem State.setOsf_rtc (cause : Nat) : (s.setOsf cause).rtc =
    { s.rtc with osf := true, osfCause := cause, osfPend := s.rtc.osfPend ++ [(cause, s.rtc.count)] } := rfl

/-- The clock that a written time leaves: its count, the prescaler at 0, and HALT and the pending writes as they were (R339). -/
theorem State.applyTime_rtc : (s.applyTime new source raw).rtc.count = new ∧ (s.applyTime new source raw).rtc.halt = s.rtc.halt ∧
    (s.applyTime new source raw).rtc.pendDate = s.rtc.pendDate ∧ (s.applyTime new source raw).rtc.pendTime = s.rtc.pendTime ∧
    (s.applyTime new source raw).rtc.subBase = raw % 32768 := by
  by_cases hsame : s.rtc.osf = false ∧ new = s.rtc.count
  · rw [State.applyTime_unchanged new source raw s hsame.1 hsame.2]
    exact ⟨rfl, rfl, rfl, rfl, rfl⟩
  · rw [State.applyTime_changed new source raw s (osf_or_changed hsame)]
    split
    · rw [State.setOsf_rtc, State.timeLogged_rtc]
      exact ⟨rfl, rfl, rfl, rfl, rfl⟩
    · rw [State.timeLogged_rtc]
      exact ⟨rfl, rfl, rfl, rfl, rfl⟩

end

/-! ### The release -/

/-- HALT_RELEASE with a date or a time written applies the count that they name (R341). -/
theorem exec_haltRelease_written {s : State} (now : Now) (htakes : s.takesWrite 0xC0 = true) (htime : s.timeChanges = true)
    (hhalt : s.rtc.halt = true) (hpend : s.rtc.pendDate.isSome = true ∨ s.rtc.pendTime.isSome = true) :
    exec (.haltRelease now) s = .next ((s.onRtc Rtc.dropHalt).applyTime (wordsCount
      (s.rtc.pendDate.getD (dateWord s.rtc.heldCount)) (s.rtc.pendTime.getD (timeWord s.rtc.heldCount))) 0 now.sub) := by
  rw [exec_haltRelease now htakes htime hhalt, if_neg]
  rintro ⟨hdate, htime⟩
  rw [Option.isNone_iff_eq_none] at hdate htime
  simp [hdate, htime] at hpend

/-- Settles O12: the release is `applyTime` on the state that has dropped HALT, a step or a set unless it changes nothing. -/
theorem releaseSetsTheTime : Obligations.ReleaseSetsTheTime := by
  delta Obligations.ReleaseSetsTheTime
  intro s now htakes htime hhalt hpend new d
  let u := s.onRtc Rtc.dropHalt
  obtain ⟨hcount, hreleased, hdate, hclock, hsub⟩ := State.applyTime_rtc new 0 now.sub u
  refine ⟨u.applyTime new 0 now.sub, exec_haltRelease_written now htakes htime hhalt hpend, hcount, hreleased, hdate, hclock, hsub,
    fun hosf hnew => ?same, fun hchange htop => ?top, fun hchange hlow => ?changed⟩
  case same =>
    rw [State.applyTime_unchanged new 0 now.sub u hosf hnew, hnew]
    rfl
  case top =>
    rw [State.applyTime_changed new 0 now.sub u hchange, if_pos htop, State.setOsf_rtc, State.timeLogged_rtc]
    exact ⟨rfl, rfl, rfl⟩
  case changed =>
    rw [State.applyTime_changed new 0 now.sub u hchange, if_neg (by omega)]
    refine ⟨?_, fun n => State.timeLogged_ch new 0 now.sub u,
      ((State.timeLogged_moves new 0 now.sub u).after (State.onRtc_moves s _).alone).1,
      State.timeLogged_queue new 0 now.sub u rfl⟩
    rw [State.timeLogged_rtc, Rtc.setTo, adjDelta_eq]
    rfl

end Sys2Proof.Machine
end

section
/-! Reads of the four registers of date, time and seconds (R349, R352, R353, R440). -/

set_option Elab.async false

namespace Sys2Proof.Machine

/-- A read row that is served answers the register's word, on the state that the read leaves (R440). -/
theorem State.readRow_served {s : State} (a : Nat) (now : Now) (hserved : s.hostServed = true) (hidle : s.linkBusy = false) :
    s.readRow a now = (s.readReg a now).2.sendResponse 0 (le 4 (s.readReg a now).1) := by
  rw [State.readRow, if_neg (by simp [hserved]), if_neg (by simp [hidle])]

/-- The four registers of the present count, with nothing held or written (R339, R352, R353). -/
theorem Rtc.instant_running {r : Rtc} (hhalt : r.halt = false) (hdate : r.pendDate = none) (htime : r.pendTime = none) (raw : Nat) :
    r.instant (r.sub raw) = [dateWord r.count,
      timeWord r.count + 2 ^ 24 * ((raw % 32768 + 32768 - r.subBase % 32768) % 32768 / 128 % 256),
      r.count / 2 ^ 32 % 256, r.count % 2 ^ 32] := by
  have hfree : ¬ r.halt = true := by simp [hhalt]
  rw [Rtc.instant, hdate, htime, if_neg hfree, if_neg hfree, Rtc.sub, Option.getD_none, Option.getD_none]

theorem State.sendResponse_eq (status : Nat) (data : List Byte) (s : State) : s.sendResponse status data = { s with hl := { s.hl with
    out := [0x5A#8, BitVec.ofNat 8 status] ++ data ++
      le 2 (crc16 0x1021#16 0xFFFF#16 ([0x5A#8, BitVec.ofNat 8 status] ++ data)).toNat } } := rfl

/-- A state that has latched the four registers. -/
def State.latchRtc (rows : List Nat) (s : State) : State := s.onRtc fun r => { r with latched := true, latch := rows }

/-- The time and the low word, and any of the four where nothing has been latched, latch all four from the read's instant (R349). -/
theorem State.rtcRead_latches {s : State} {k : Nat} (now : Now) (h : k = 1 ∨ k = 3 ∨ s.rtc.latched = false) {rows : List Nat}
    (hrows : s.rtc.instant (s.rtc.sub now.sub) = rows) : s.rtcRead k now = (nth rows k 0, s.latchRtc rows) := by
  subst hrows
  exact if_pos (by simpa using h)

/-- The date and the high word are those latched, without an effect (R349). -/
theorem State.rtcRead_latched {s : State} {k : Nat} (now : Now) (hk : k ≠ 1 ∧ k ≠ 3) (hlatched : s.rtc.latched = true)
    (hhalt : s.rtc.halt = false) : s.rtcRead k now = (nth s.rtc.latch k 0, s) := by
  rw [State.rtcRead, if_neg (by simp [hk, hlatched]), if_neg (by simp [hhalt])]

/-- Settles O13: each row is a served read of its register, whose word and latch `rtcRead` gives. -/
theorem rtcReadsLatchOneInstant : Obligations.RtcReadsLatchOneInstant := by
  delta Obligations.RtcReadsLatchOneInstant
  refine ⟨fun s now hserved hidle hhalt hdate htime => ?_, fun s now d u h l hserved hidle hhalt hlatched hlatch => ?_,
    fun s status data => State.sendResponse_eq status data s⟩
  · intro c prescaler time rows latched
    have hrows : s.rtc.instant (s.rtc.sub now.sub) = rows := Rtc.instant_running hhalt hdate htime now.sub
    have row {k a w : Nat} (hreg : s.readReg a now = s.rtcRead k now) (hlatch : k = 1 ∨ k = 3 ∨ s.rtc.latched = false)
        (hword : nth rows k 0 = w) :
        Host.Outcome.next (s.readRow a now) = (.next (latched.sendResponse 0 (le 4 w)) : Out) := by
      rw [State.readRow_served a now hserved hidle, hreg, State.rtcRead_latches now hlatch hrows, hword]
      rfl
    exact ⟨row (k := 1) rfl (.inl rfl) (nth_1 _ _ _ _), row (k := 3) rfl (.inr (.inl rfl)) (nth_3 _ _ _ _ _ _),
      fun hnone => ⟨row (k := 0) rfl (.inr (.inr hnone)) (nth_0 _ _ _), row (k := 2) rfl (.inr (.inr hnone)) (nth_2 _ _ _ _ _)⟩⟩
  · have row {k a w : Nat} (hreg : s.readReg a now = s.rtcRead k now) (hk : k ≠ 1 ∧ k ≠ 3) (hword : nth s.rtc.latch k 0 = w) :
        Host.Outcome.next (s.readRow a now) = (.next (s.sendResponse 0 (le 4 w)) : Out) := by
      rw [State.readRow_served a now hserved hidle, hreg, State.rtcRead_latched now hk hlatched hhalt, hword]
    rw [hlatch] at row
    exact ⟨row (k := 0) rfl (by decide) (nth_0 _ _ _), row (k := 2) rfl (by decide) (nth_2 _ _ _ _ _)⟩

end Sys2Proof.Machine
end

section
/-! The transmit queue's rules: work that waits for Run, airtime in the window, and the decision of an offer (R83, R365, R366, R373). -/

set_option Elab.async false

namespace Sys2Proof.Machine

/-! ### Work that waits for Run -/

theorem State.inRun_run {s : State} (f : State → State) (h : s.pwr.state = .run) : s.inRun f = f s := if_pos h

/-- What a sleeping module has due raises the wake of the schedule instead (R78, R83). -/
theorem State.inRun_asleep {s : State} (f : State → State) (h : s.asleep = true) : s.inRun f = s.raiseWake .schedule := by
  have hrun : s.pwr.state ≠ .run := by
    rcases of_decide_eq_true h with hsleep | hdeep
    · simp [hsleep]
    · simp [hdeep]
  rw [State.inRun, if_neg hrun, if_pos h]

/-- Due work that finds the module asleep leaves its wake and nothing else. -/
theorem State.inRun_wakes {s : State} (f : State → State) (h : s.asleep = true) :
    ∃ t, Host.Outcome.next (s.inRun f) = (.next t : Out) ∧ WakeSource.schedule ∈ t.pwr.wakes ∧ Keeps [.pwr] s t := by
  rw [State.inRun_asleep f h]
  exact ⟨_, rfl, State.raiseWake_mem .schedule s, (State.raiseWake_moves .schedule s).1⟩

/-- The mask of an event bit raises it. -/
theorem setBits_raises (w : Word) {mask k : Nat} (h : (BitVec.ofNat 32 mask).getLsbD k = true) :
    (setBits w mask).getLsbD k = true := by
  rw [setBits, BitVec.getLsbD_or, h, Bool.or_true]

/-! ### The window -/

/-- Noting the window use moves DUTY_HIGH and its event only (R366). -/
theorem State.noteDuty_radio (at_ : Nat) (s : State) :
    ∃ high events, (s.noteDuty at_).radio = { s.radio with high := high, events := events } := ⟨_, _, rfl⟩

/-! ### The start of an offer (R373) -/

/-- A start whose window has room is taken as it is. -/
theorem findStart_room {s : State} {a start : Nat} (n limit : Nat) (h : 10 * (s.windowUse start + a) ≤ 9 * s.budget) :
    findStart n limit a start s = some start := by
  unfold findStart
  exact if_pos h

/-- A start is only ever put off, and within the limit. -/
theorem findStart_bounds {s : State} {limit a st : Nat} (n start : Nat) (hstart : start ≤ limit)
    (h : findStart n limit a start s = some st) : start ≤ st ∧ st ≤ limit := by
  induction n generalizing start with
  | zero =>
    rw [findStart] at h
    split at h
    · cases h
      exact ⟨Nat.le_refl _, hstart⟩
    · cases h
  | succ n ih =>
    rw [findStart] at h
    split at h
    · cases h
      exact ⟨Nat.le_refl _, hstart⟩
    · dsimp only at h
      split at h
      · cases h
      · rename_i b hlast
        split at h
        · cases h
        · rename_i hlimit
          have hlater : start < 60000 * (b.1 + 1) + 3600000 := by
            have hb := List.mem_of_getLast? hlast
            rw [List.mem_filter, Bool.and_eq_true, decide_eq_true_eq] at hb
            exact hb.2.2
          obtain ⟨hge, hle⟩ := ih _ (Nat.le_of_not_lt hlimit) h
          exact ⟨by omega, hle⟩

/-! ### The decision of an offer (R373) -/

/-- The first possible start of an offer: 30 ms on, and 5 ms after the queue's end. -/
def State.firstStart (now : Nat) (s : State) : Nat := max (now + 30) (s.tail now + 5)

/-- Queue a telegram last, and note the window use. -/
def State.queueLast (now : Nat) (x : Telegram) (s : State) : State :=
  (s.onRadio fun r => { r with queue := r.queue ++ [x] }).noteDuty now

/-- The telegram that an accepted offer queues: planned with the airtime a, sent with that of its frame. -/
def State.telegramOf (entry start a : Nat) (body : List Byte) (s : State) : Telegram :=
  let frame := onAir s.radioCfg.1 body
  { entry := entry, start := start, air := airtime s.radioCfg.1 s.radioCfg.2.1 frame.length, plan := a, frame := frame }

section
variable {s : State} (now len entry : Nat) (build : State → Option (List Byte × State))

theorem State.decideOffer_forbidden : s.decideOffer now len entry false build = s.reject 4 := rfl

theorem State.decideOffer_full (hfull : 32 ≤ s.radio.queue.length) : s.decideOffer now len entry true build = s.reject 1 :=
  if_pos hfull

section
variable (hroom : s.radio.queue.length < 32)
include hroom

theorem State.decideOffer_late (hlate : now + 4000 < s.firstStart now) : s.decideOffer now len entry true build = s.reject 2 := by
  rw [State.decideOffer, if_neg (by decide), if_neg (Nat.not_le.mpr hroom)]
  exact if_pos hlate

/-- With a start within 4 s, an offer goes by what `findStart` and its assembly answer. -/
theorem State.decideOffer_timely (htimely : s.firstStart now ≤ now + 4000) : s.decideOffer now len entry true build =
    let a := airtime s.radioCfg.1 s.radioCfg.2.1 len
    match findStart 64 (now + 4000) a (s.firstStart now) s with
    | none => s.reject 3
    | some st => match build s with
      | none => s.reject 4
      | some (body, u) => u.queueLast now (s.telegramOf entry st a body) := by
  rw [State.decideOffer, if_neg (by decide), if_neg (Nat.not_le.mpr hroom)]
  exact if_neg (Nat.not_lt.mpr htimely)

/-- An offer with room in the queue is refused with cause 2, 3 or 4, or queued for a start within 4 s. -/
theorem State.decideOffer_cases :
    (∃ cause, (cause = 2 ∨ cause = 3 ∨ cause = 4) ∧ s.decideOffer now len entry true build = s.reject cause) ∨
    ∃ st a body u, s.firstStart now ≤ st ∧ st ≤ now + 4000 ∧ build s = some (body, u) ∧
      s.decideOffer now len entry true build = u.queueLast now (s.telegramOf entry st a body) := by
  by_cases htimely : s.firstStart now ≤ now + 4000
  · rw [State.decideOffer_timely now len entry build hroom htimely]
    dsimp only
    split
    · exact .inl ⟨3, .inr (.inl rfl), rfl⟩
    · next st hst =>
      obtain ⟨hge, hle⟩ := findStart_bounds 64 _ htimely hst
      split
      · exact .inl ⟨4, .inr (.inr rfl), rfl⟩
      · next body u hbuild => exact .inr ⟨st, _, body, u, hge, hle, hbuild, rfl⟩
  · exact .inl ⟨2, .inl rfl, State.decideOffer_late now len entry build hroom (Nat.not_le.mp htimely)⟩

/-- An offer whose first possible start has room in the window is queued for it. -/
theorem State.decideOffer_accepts {body : List Byte} {u : State} (htimely : s.firstStart now ≤ now + 4000)
    (hbudget : 10 * (s.windowUse (s.firstStart now) + airtime s.radioCfg.1 s.radioCfg.2.1 len) ≤ 9 * s.budget)
    (hbuild : build s = some (body, u)) : s.decideOffer now len entry true build =
      u.queueLast now (s.telegramOf entry (s.firstStart now) (airtime s.radioCfg.1 s.radioCfg.2.1 len) body) := by
  rw [State.decideOffer_timely now len entry build hroom htimely]
  simp only [findStart_room _ _ hbudget, hbuild]

end
end

end Sys2Proof.Machine
end

section
/-! Offers of the report schedule: made at their instant and in their order, accepted or refused (R369 to R374, R377). -/

set_option Elab.async false

namespace Sys2Proof.Machine

/-! ### What an offer leaves of the radio -/

/-- Assembling a telegram leaves the radio as it was, but for the onsets that it reports (R374, R397). -/
theorem State.build_radio {s u : State} {n : Nat} {e : TelegramEntry} {snap : Option (Nat × Bool)} {body : List Byte}
    (h : s.build n e snap = some (body, u)) : ∃ alarms, u.radio = { s.radio with alarms := alarms } := by
  rw [State.build] at h
  split at h
  · cases h
  · dsimp only at h
    split at h
    · cases h
    · next f v hsecure =>
      cases h
      have hv : v.radio = s.radio := (State.secure_moves _ _ _ _ _ _ _ _ _ _ _ _ hsecure).same .radio rfl
      have hacc : (v.useAccess e.identity).radio = s.radio := hv
      rw [← hacc, State.sentEntry]
      split
      · exact ⟨_, (State.moveCursor_moves _ _).same .radio rfl⟩
      · exact ⟨_, rfl⟩
      · exact ⟨_, rfl⟩

/-- Queueing leaves the rest of the radio as it was, but for DUTY_HIGH. -/
theorem State.queueLast_radio (now : Nat) (x : Telegram) (u : State) : (u.queueLast now x).radio.queue = u.radio.queue ++ [x] ∧
    (u.queueLast now x).radio.rejected = u.radio.rejected ∧ (u.queueLast now x).radio.catchUps = u.radio.catchUps := by
  obtain ⟨high, events, hradio⟩ := (u.onRadio fun r => { r with queue := r.queue ++ [x] }).noteDuty_radio now
  rw [State.queueLast, hradio]
  exact ⟨rfl, rfl, rfl⟩

/-- What a scheduled offer makes of the radio before its decision: it is noted, and stands for the catch-ups of its grid (R370, R373). -/
def Radio.scheduled (ms n grid : Nat) (r : Radio) : Radio :=
  { r with offered := some (ms, 2 * n + 2), catchUps := r.catchUps.filter fun c => !(c.1 == n && c.2.1 == grid) }

theorem Radio.scheduled_catchUps {ms n grid g k d : Nat} {r : Radio} (h : (n, g, k, d) ∈ (r.scheduled ms n grid).catchUps) :
    g ≠ grid := by
  have hkept := (List.mem_filter.mp h).2
  rintro rfl
  simp at hkept

/-! ### When an offer is made -/

section
variable {s : State} {now : Now} {offer : OfferKind}

theorem exec_telegramOffer_waits (h : s.offerDue offer = false ∨ s.inOrder now.ms offer = false) :
    exec (.telegramOffer now offer) s = .next s := by
  refine if_pos ?_
  rcases h with h | h <;> simp [h]

theorem exec_telegramOffer_made (hdue : s.offerDue offer = true) (horder : s.inOrder now.ms offer = true) :
    exec (.telegramOffer now offer) s = .next (s.inRun (State.makeOffer now offer)) :=
  if_neg (by simp [hdue, horder])

end

/-- Offers of the schedule are made in NORMAL and BACKUP, by the active member (R360). -/
theorem State.offering_iff (s : State) : s.offering = true ↔ (s.normal = true ∨ s.backup = true) ∧ s.active = true := by
  rw [State.offering, Bool.and_eq_true, Bool.or_eq_true]

section
variable {s : State} {n nominal : Nat}

theorem State.offerDue_unlisted (h : s.telegram n = none) : s.offerDue (.scheduled n nominal) = false := by
  simp only [State.offerDue, h, Bool.and_false]

/-- An entry of the image is offered at the instants of the grid that it has in the present mode (R368, R369). -/
theorem State.offerDue_scheduled {e : TelegramEntry} (h : s.telegram n = some e) : s.offerDue (.scheduled n nominal) = true ↔
    (s.normal = true ∨ s.backup = true) ∧ s.active = true ∧ e.gridOf s.gridNow ≠ 0 ∧
      s.gridInstant n s.gridNow (e.gridOf s.gridNow) nominal = true := by
  simp only [State.offerDue, h, Bool.and_eq_true, State.offering_iff, bne_iff_ne, and_assoc]

/-- A catch-up that waits nowhere is not offered (R370). -/
theorem State.offerDue_catchUp {k : Nat} (h : ∀ d, (n, s.gridNow, k, d) ∉ s.radio.catchUps) : s.offerDue (.catchUp n k) = false := by
  have hnone : (s.radio.catchUps.any fun c => c.1 == n && c.2.1 == s.gridNow && c.2.2.1 == k && s.dueNow c.2.2.2) = false := by
    rw [List.any_eq_false]
    rintro ⟨t, g, count, d⟩ hmem hmatch
    simp only [Bool.and_eq_true, beq_iff_eq] at hmatch
    obtain ⟨⟨⟨rfl, rfl⟩, rfl⟩, -⟩ := hmatch
    exact h d hmem
  simp only [State.offerDue, hnone]
  cases s.telegram n <;> simp

/-- A snapshot whose telegram waits nowhere is not offered (R371). -/
theorem State.offerDue_snapshot {ch key : Nat} {annual : Bool} (h : ∀ d, (n, ch, key, annual, d) ∉ s.radio.snaps) :
    s.offerDue (.snapshot n ch key annual) = false := by
  have hnone : (s.radio.snaps.any fun c => c.1 == n && c.2.1 == ch && c.2.2.1 == key && c.2.2.2.1 == annual &&
      s.dueNow c.2.2.2.2) = false := by
    rw [List.any_eq_false]
    rintro ⟨t, c, k, a, d⟩ hmem hmatch
    simp only [Bool.and_eq_true, beq_iff_eq] at hmatch
    obtain ⟨⟨⟨⟨rfl, rfl⟩, rfl⟩, rfl⟩, -⟩ := hmatch
    exact h d hmem
  simp only [State.offerDue, hnone]
  cases s.telegram n <;> simp

theorem State.offerDue_alarm (h : s.normal = false) : s.offerDue (.alarm n) = false := by
  simp only [State.offerDue, h, Bool.false_and]

theorem State.offerDue_holdAlarm (h : s.pwr.mode ≠ .hold) : s.offerDue .holdAlarm = false := by
  simp [State.offerDue, State.holdSends, h]

theorem State.offerDue_unconfAlarm (h : s.pwr.mode ≠ .unconfigured) : s.offerDue .unconfAlarm = false := by
  simp [State.offerDue, State.unconfSends, h]

end

/-! ### The decision of a scheduled offer -/

/-- What a refusal counts and leaves as it was (R373). -/
def State.Refused (s t : State) (cause : Nat) : Prop :=
  t.radio.queue = s.radio.queue ∧ t.radio.rejected = min 255 (s.radio.rejected + 1) ∧ t.radio.lastCause = cause ∧
    t.radio.events.getLsbD 0 = true ∧ t.sec = s.sec ∧ t.alc = s.alc ∧ t.mem = s.mem

section
variable (s : State) (now : Now) (n : Nat) (e : TelegramEntry)

/-- The state of a scheduled offer before its decision. -/
def State.atOffer : State := s.onRadio (Radio.scheduled now.ms n s.gridNow)

theorem State.clearOffer_scheduled (nominal : Nat) : s.clearOffer now (.scheduled n nominal) = s.atOffer now n := rfl

theorem State.reject_refused (cause : Nat) : s.Refused ((s.atOffer now n).reject cause) cause :=
  ⟨rfl, Word.sat_eq_min 255 _, rfl, setBits_raises _ (by decide), rfl, rfl, rfl⟩

theorem State.makeOffer_scheduled {nominal : Nat} {e : TelegramEntry} (h : s.telegram n = some e) :
    s.makeOffer now (.scheduled n nominal) = (s.atOffer now n).decideOffer now.ms (s.maxLen e) n s.offersAllowed
      fun u => u.build n e (s.newestSnap e.ch) := by
  simp only [State.makeOffer, h, State.clearOffer_scheduled]
  rfl

/-- An accepted scheduled offer queues its telegram last and counts no refusal. -/
theorem State.queueLast_accepted {snap : Option (Nat × Bool)} {body : List Byte} {u : State} (x : Telegram)
    (hbuild : (s.atOffer now n).build n e snap = some (body, u)) :
    (u.queueLast now.ms x).radio.queue = s.radio.queue ++ [x] ∧ (u.queueLast now.ms x).radio.rejected = s.radio.rejected ∧
      (u.queueLast now.ms x).radio.catchUps = (s.atOffer now n).radio.catchUps := by
  obtain ⟨alarms, hu⟩ := State.build_radio hbuild
  obtain ⟨hqueue, hrejected, hcatchUps⟩ := u.queueLast_radio now.ms x
  rw [hqueue, hrejected, hcatchUps, hu]
  exact ⟨rfl, rfl, rfl⟩

/-- The decision of a scheduled offer brings back no catch-up for which it stands (R370). -/
theorem State.decideOffer_catchUps (len : Nat) (allowed : Bool) (snap : Option (Nat × Bool)) :
    ((s.atOffer now n).decideOffer now.ms len n allowed fun u => u.build n e snap).radio.catchUps =
      (s.atOffer now n).radio.catchUps := by
  cases allowed
  case false => rfl
  case true =>
    by_cases hfull : 32 ≤ (s.atOffer now n).radio.queue.length
    · rw [State.decideOffer_full _ _ _ _ hfull]
      rfl
    · rcases State.decideOffer_cases now.ms len n (fun u => u.build n e snap) (Nat.not_le.mp hfull) with
        ⟨cause, -, hreject⟩ | ⟨st, a, body, u, -, -, hbuild, haccept⟩
      · rw [hreject]
        rfl
      · rw [haccept]
        obtain ⟨-, -, hcatchUps⟩ := s.queueLast_accepted now n e _ hbuild
        exact hcatchUps

/-- With room in the queue, a scheduled offer queues one telegram with a start 30 ms to 4 s on, or is refused (R373). -/
theorem State.decideOffer_outcome (len : Nat) (snap : Option (Nat × Bool)) (hroom : s.radio.queue.length < 32) :
    let t := (s.atOffer now n).decideOffer now.ms len n true fun u => u.build n e snap
    (∃ x, t.radio.queue = s.radio.queue ++ [x] ∧ x.entry = n ∧ now.ms + 30 ≤ x.start ∧ s.tail now.ms + 5 ≤ x.start ∧
      x.start ≤ now.ms + 4000 ∧ t.radio.rejected = s.radio.rejected) ∨ s.Refused t 2 ∨ s.Refused t 3 ∨ s.Refused t 4 := by
  intro t
  rcases State.decideOffer_cases (s := s.atOffer now n) now.ms len n (fun u => u.build n e snap) hroom with
    ⟨cause, hcause, hreject⟩ | ⟨st, plan, body, u, hge, hle, hbuild, haccept⟩
  · have hrefused : s.Refused t cause := (congrArg (s.Refused · cause) hreject).mpr (s.reject_refused now n cause)
    rcases hcause with rfl | rfl | rfl
    · exact .inr (.inl hrefused)
    · exact .inr (.inr (.inl hrefused))
    · exact .inr (.inr (.inr hrefused))
  · obtain ⟨hqueue, hrejected, -⟩ := s.queueLast_accepted now n e ((s.atOffer now n).telegramOf n st plan body) hbuild
    rw [← haccept] at hqueue hrejected
    exact .inl ⟨_, hqueue, rfl, (Nat.le_max_left _ _).trans hge, (Nat.le_max_right _ _).trans hge, hle, hrejected⟩

end

/-- Settles O51: an offer that is due and in its order is `decideOffer`, which refuses it with a cause or queues it last. -/
theorem offersAreAcceptedOrRefused : Obligations.OffersAreAcceptedOrRefused := by
  unfold Obligations.OffersAreAcceptedOrRefused
  refine ⟨fun s now n nominal => ⟨fun hnone => exec_telegramOffer_waits (.inl (State.offerDue_unlisted hnone)), fun e hentry => ?_⟩,
    fun s now n k h => exec_telegramOffer_waits (.inl (State.offerDue_catchUp h)),
    fun s now n ch key annual h => exec_telegramOffer_waits (.inl (State.offerDue_snapshot h)),
    fun s now n h => exec_telegramOffer_waits (.inl (State.offerDue_alarm h)),
    fun s now h => exec_telegramOffer_waits (.inl (State.offerDue_holdAlarm h)),
    fun s now h => exec_telegramOffer_waits (.inl (State.offerDue_unconfAlarm h))⟩
  intro i c a start refused
  have hdue := State.offerDue_scheduled (nominal := nominal) hentry
  refine ⟨fun h => ?early, fun hi hmode hactive hinstant horder hasleep => ?asleep,
    fun hi hmode hactive hinstant horder hrun => ?run⟩
  case early =>
    refine exec_telegramOffer_waits ?_
    by_cases horder : s.inOrder now.ms (.scheduled n nominal) = false
    · exact .inr horder
    · refine .inl (Bool.eq_false_iff.mpr fun hmade => ?_)
      obtain ⟨hmode, hactive, hi, hinstant⟩ := hdue.mp hmade
      rcases h with h | ⟨hnormal, hbackup⟩ | h | h | h
      · exact hi h
      · rcases hmode with hmode | hmode
        · exact absurd hmode (by simp [hnormal])
        · exact absurd hmode (by simp [hbackup])
      · exact absurd hactive (by simp [h])
      · exact absurd hinstant (by simpa using h)
      · exact horder h
  case asleep =>
    rw [exec_telegramOffer_made (hdue.mpr ⟨hmode, hactive, hi, hinstant⟩) horder]
    exact State.inRun_wakes _ hasleep
  case run =>
    have hmade := State.makeOffer_scheduled s now n (nominal := nominal) hentry
    have hmoves := State.makeOffer_moves now (.scheduled n nominal) s
    rw [hmade] at hmoves
    rw [exec_telegramOffer_made (hdue.mpr ⟨hmode, hactive, hi, hinstant⟩) horder, State.inRun_run _ hrun, hmade]
    refine ⟨_, rfl, hmoves.1, fun g k d hmem => ?_, fun hno => ?_, fun hallowed hfull => ?_, fun hallowed hroom => ⟨fun hlate => ?_,
      fun htimely hbudget body u hbuild => ?_, ?_⟩⟩
    · rw [State.decideOffer_catchUps] at hmem
      exact Radio.scheduled_catchUps hmem
    · rw [hno, State.decideOffer_forbidden]
      exact s.reject_refused now n 4
    · rw [hallowed, State.decideOffer_full (s := s.atOffer now n) _ _ _ _ hfull]
      exact s.reject_refused now n 1
    · rw [hallowed, State.decideOffer_late (s := s.atOffer now n) _ _ _ _ hroom hlate]
      exact s.reject_refused now n 2
    · rw [hallowed, State.decideOffer_accepts (s := s.atOffer now n) _ _ _ _ hroom htimely hbudget hbuild]
      obtain ⟨hqueue, hrejected, -⟩ := s.queueLast_accepted now n e _ hbuild
      exact ⟨hqueue, hrejected⟩
    · rw [hallowed]
      exact s.decideOffer_outcome now n e (s.maxLen e) (s.newestSnap e.ch) hroom

end Sys2Proof.Machine
end

section
/-! Frames sent and received: the queue's first frame, the bins, the response window and the receive buffer (R358, R361 to R366, R375,
R404, R407, R569). -/

set_option Elab.async false

namespace Sys2Proof.Machine

/-! ### The airtime of a frame -/

/-- The bins with a frame's airtime, counted in the bin of its start (R365). -/
def Radio.binsWith (at_ air : Nat) (r : Radio) : List (Nat × Nat) :=
  match r.bins with
  | [] => [(at_ / 60000, air)]
  | b :: t => if b.1 = at_ / 60000 then (b.1, b.2 + air) :: t else (at_ / 60000, air) :: b :: t

/-- A bin overlaps the window that ends at an instant (R365). -/
def binInWindow (at_ : Nat) (b : Nat × Nat) : Bool := decide (at_ < 60000 * (b.1 + 1) + 3600000 ∧ 60000 * b.1 ≤ at_)

theorem State.binUse_eq_sum (at_ : Nat) (s : State) : s.binUse at_ = ((s.radio.bins.filter (binInWindow at_)).map (·.2)).sum :=
  List.sum_eq_foldl.symm

theorem State.queueUse_eq_sum (s : State) : s.queueUse = (s.radio.queue.map (·.air)).sum := List.sum_eq_foldl.symm

/-- The airtime of a frame counts in the window that ends at its start (R365). -/
theorem State.binUse_binsWith {s t : State} (at_ air : Nat) (h : t.radio.bins = s.radio.binsWith at_ air) :
    t.binUse at_ = s.binUse at_ + air := by
  have hcounts (b : Nat × Nat) (hb : b.1 = at_ / 60000) : binInWindow at_ b = true := decide_eq_true (by omega)
  rw [State.binUse_eq_sum, State.binUse_eq_sum, h, Radio.binsWith]
  split
  · next hnil =>
    rw [hnil, List.filter_cons_of_pos (hcounts _ rfl)]
    exact Nat.add_comm air 0
  · next b rest hcons =>
    rw [hcons]
    split
    · next hbin =>
      rw [List.filter_cons_of_pos (hcounts (b.1, b.2 + air) hbin), List.filter_cons_of_pos (hcounts b hbin), List.map_cons, List.sum_cons,
        List.map_cons, List.sum_cons, Nat.add_right_comm]
    · rw [List.filter_cons_of_pos (hcounts _ rfl), List.map_cons, List.sum_cons, Nat.add_comm]

/-- Bins that a filter drops only once they have left the window do not change its use (R365). -/
theorem State.binUse_dropped {s t : State} {ms at_ : Nat} (hat : ms ≤ at_)
    (h : t.radio.bins = s.radio.bins.filter fun b => decide (ms < 60000 * (b.1 + 1) + 3600000)) : t.binUse at_ = s.binUse at_ := by
  have hkept : (fun b : Nat × Nat => binInWindow at_ b && decide (ms < 60000 * (b.1 + 1) + 3600000)) = binInWindow at_ := by
    funext b
    rw [binInWindow, ← Bool.decide_and]
    exact decide_eq_decide.mpr (by omega)
  rw [State.binUse_eq_sum, State.binUse_eq_sum, h, List.filter_filter, hkept]

/-- A bin has ended: those that have left the window go, and the window use is noted (R365, R366). -/
def State.binsAdvanced (ms : Nat) (s : State) : State :=
  (s.onRadio fun r => { r with bins := r.bins.filter fun b => decide (ms < 60000 * (b.1 + 1) + 3600000) }).noteDuty ms

theorem exec_dutyBinAdvance (now : Now) (s : State) : exec (.dutyBinAdvance now) s = .next (s.binsAdvanced now.ms) := rfl

theorem State.binsAdvanced_moves (ms : Nat) (s : State) : Moves [.radio] s (s.binsAdvanced ms) :=
  (State.noteDuty_moves _ _).after (State.onRadio_moves s _).alone

theorem State.binsAdvanced_radio (ms : Nat) (s : State) : (s.binsAdvanced ms).radio.queue = s.radio.queue ∧
    (s.binsAdvanced ms).radio.bins = s.radio.bins.filter fun b => decide (ms < 60000 * (b.1 + 1) + 3600000) := by
  obtain ⟨high, events, hradio⟩ :=
    (s.onRadio fun r => { r with bins := r.bins.filter fun b => decide (ms < 60000 * (b.1 + 1) + 3600000) }).noteDuty_radio ms
  rw [State.binsAdvanced, hradio]
  exact ⟨rfl, rfl⟩

theorem State.binsAdvanced_windowUse {ms at_ : Nat} (hat : ms ≤ at_) (s : State) :
    (s.binsAdvanced ms).windowUse at_ = s.windowUse at_ := by
  obtain ⟨hqueue, hbins⟩ := s.binsAdvanced_radio ms
  rw [State.windowUse, State.windowUse, State.binUse_dropped hat hbins, State.queueUse, State.queueUse, hqueue]

/-! ### Parity errors of the buffers (R569) -/

/-- The fault registers once a reader has met a parity error at an address. -/
def Flt.parityAt (reader : Nat) (f : Flt) (x : Nat) : Flt :=
  { f with
    parCount := Word.sat 65535 (f.parCount + 1), parBanks := f.parBanks ||| 2 ^ (x / 65536), lastAddr := x,
    lastKind := 2, lastReader := reader, events := setBits f.events 4 }

theorem State.foldl_onFlt {α : Type} (g : Flt → α → Flt) (l : List α) (s : State) :
    l.foldl (fun t x => t.onFlt fun f => g f x) s = s.onFlt fun f => l.foldl g f := by
  induction l generalizing s with
  | nil => rfl
  | cons x l ih => exact ih _

theorem State.sramRead_eq (a n reader : Nat) (s : State) : s.sramRead a n reader = s.onFlt fun f =>
    (s.mem.parity.filter fun x => decide (a ≤ x ∧ x < a + n)).foldl (Flt.parityAt reader) f :=
  State.foldl_onFlt (Flt.parityAt reader) _ s

theorem Flt.parityAt_last {reader : Nat} {l : List Nat} (h : l ≠ []) (f : Flt) :
    (l.foldl (Flt.parityAt reader) f).lastKind = 2 ∧ (l.foldl (Flt.parityAt reader) f).lastReader = reader := by
  obtain ⟨front, x, rfl⟩ := (List.eq_nil_or_concat' l).resolve_left h
  rw [List.foldl_append]
  exact ⟨rfl, rfl⟩

/-- A read without a parity error leaves the state. -/
theorem State.frameRead_sound {s : State} (reader : Nat) (h : s.mem.parityIn 0x30000 0xF000 = false) : s.frameRead reader = s := by
  rw [State.frameRead, State.sramRead_eq, List.filter_eq_nil_iff.mpr (List.any_eq_false.mp h)]
  rfl

/-- A read with a parity error registers its kind and its reader. -/
theorem State.frameRead_spoilt {s : State} (reader : Nat) (h : s.mem.parityIn 0x30000 0xF000 = true) :
    (s.frameRead reader).flt.lastKind = 2 ∧ (s.frameRead reader).flt.lastReader = reader := by
  rw [State.frameRead, State.sramRead_eq]
  refine Flt.parityAt_last (fun hnil => ?_) _
  rw [Mem.parityIn, List.any_eq_false.mpr (List.filter_eq_nil_iff.mp hnil)] at h
  cases h

theorem State.frameRead_radio (reader : Nat) (s : State) : (s.frameRead reader).radio = s.radio :=
  (State.frameRead_moves reader s).same .radio rfl

theorem State.frameRead_mem (reader : Nat) (s : State) : (s.frameRead reader).mem = s.mem := by
  rw [State.frameRead, State.sramRead_eq]
  rfl

/-! ### Sending -/

section
variable (ms : Nat) (frame : List Byte) (air : Nat) (window : Bool) (s : State)

/-- The state of a frame that is sent, its airtime and its charge counted, before the radio has it (R66, R365). -/
def State.counted : State :=
  let u := (s.frameRead 6).countAir ms air
  if s.pwr.onCell then u.onPwr (Pwr.addCharge (s.txCurrent * air / 10)) else u

theorem State.counted_radio : (s.counted ms air).radio = { s.radio with bins := s.radio.binsWith ms air } := by
  rw [← s.frameRead_radio 6, State.counted]
  split <;> rfl

theorem State.counted_flt : (s.counted ms air).flt = (s.frameRead 6).flt := by
  rw [State.counted]
  split <;> rfl

theorem State.counted_mem : (s.counted ms air).mem = s.mem := by
  rw [← s.frameRead_mem 6, State.counted]
  split <;> rfl

/-- What a frame that is sent leaves in the radio: its times, and no window that is open (R358, R362). -/
def Radio.sent (dbm : Int) (r : Radio) : Radio :=
  { r with lastFrame := frame, txStart := ms, txEnd := ms + msUp air, txDbm := dbm, window := none, winDue := window }

theorem State.transmit_eq : s.transmit ms frame air window =
    ((s.counted ms air).onRadio (Radio.sent ms frame air window s.txPower)).noteDuty ms := rfl

theorem State.transmit_radio : ∃ high events, (s.transmit ms frame air window).radio =
    { Radio.sent ms frame air window s.txPower { s.radio with bins := s.radio.binsWith ms air } with high := high, events := events } := by
  obtain ⟨high, events, hnoted⟩ := ((s.counted ms air).onRadio (Radio.sent ms frame air window s.txPower)).noteDuty_radio ms
  refine ⟨high, events, ?_⟩
  rw [State.transmit_eq, hnoted, State.onRadio_radio, State.counted_radio]

/-- What sending a frame sets in the radio, and what it leaves there (R362, R365). -/
theorem State.transmit_effect :
    let t := s.transmit ms frame air window
    t.radio.queue = s.radio.queue ∧ t.radio.bins = s.radio.binsWith ms air ∧ t.radio.lastFrame = frame ∧ t.radio.txStart = ms ∧
      t.radio.txEnd = ms + msUp air ∧ t.radio.window = none ∧ t.radio.rx = s.radio.rx ∧ t.radio.winDue = window ∧
      t.radio.answer = s.radio.answer := by
  intro t
  obtain ⟨high, events, hradio⟩ : ∃ high events, t.radio = _ := State.transmit_radio ms frame air window s
  rw [hradio]
  exact ⟨rfl, rfl, rfl, rfl, rfl, rfl, rfl, rfl, rfl⟩

/-- Sending reads the frame, and registers its parity errors only (R569). -/
theorem State.transmit_flt : (s.transmit ms frame air window).flt = (s.frameRead 6).flt := State.counted_flt ms air s

theorem State.transmit_mem : (s.transmit ms frame air window).mem = s.mem := State.counted_mem ms air s

/-- A frame sent on VBUS takes nothing from the cell (R66). -/
theorem State.transmit_pwr (h : s.pwr.onCell = false) : (s.transmit ms frame air window).pwr = s.pwr := by
  have hcounted : s.counted ms air = (s.frameRead 6).countAir ms air := if_neg (by simp [h])
  rw [State.transmit_eq, hcounted]
  exact (State.frameRead_moves 6 s).same .pwr rfl

end

/-! ### The queue's first frame (R375) -/

/-- Send the first frame of the queue, and leave the rest. -/
def State.sendFirst (x : Telegram) (rest : List Telegram) (s : State) : State :=
  (s.onRadio fun r => { r with queue := rest }).transmit x.start x.frame x.air (s.opensWindow && x.entry != unconfEntry)

theorem State.sendFirst_moves (x : Telegram) (rest : List Telegram) (s : State) : Moves [.flt, .pwr, .radio] s (s.sendFirst x rest) :=
  (State.transmit_moves _ _ _ _ _).after (State.onRadio_moves s _).alone

section
variable {s : State} {now : Now}

theorem exec_frameTransmit_empty (h : s.radio.queue = []) : exec (.frameTransmit now) s = .next s := by
  show execFrameTransmit now s = _
  rw [execFrameTransmit, h]

variable {x : Telegram} {rest : List Telegram}

theorem State.sendFirst_flt_sound (hsound : s.mem.parityIn 0x30000 0xF000 = false) : (s.sendFirst x rest).flt = s.flt := by
  rw [State.sendFirst, State.transmit_flt, State.frameRead_sound 6 (by exact hsound), State.onRadio_flt]

/-- A parity error of the buffers is registered, with the transmitter as its reader (R569). -/
theorem State.sendFirst_flt_spoilt (hspoilt : s.mem.parityIn 0x30000 0xF000 = true) :
    (s.sendFirst x rest).flt.lastKind = 2 ∧ (s.sendFirst x rest).flt.lastReader = 6 := by
  rw [State.sendFirst, State.transmit_flt]
  exact State.frameRead_spoilt 6 hspoilt

variable (h : s.radio.queue = x :: rest)
include h

theorem exec_frameTransmit_early (hearly : now.ms < x.start) : exec (.frameTransmit now) s = .next s := by
  show execFrameTransmit now s = _
  simp only [execFrameTransmit, h, hearly, if_true]

theorem exec_frameTransmit_due (hdue : x.start ≤ now.ms) :
    exec (.frameTransmit now) s = .next (s.inRun (State.sendFirst x rest)) := by
  show execFrameTransmit now s = _
  simp only [execFrameTransmit, h, Nat.not_lt.mpr hdue, if_false]
  rfl

/-- The airtime of the first frame passes from the queue to its bin, and the window use stays (R365). -/
theorem State.sendFirst_windowUse : (s.sendFirst x rest).binUse x.start = s.binUse x.start + x.air ∧
    (s.sendFirst x rest).windowUse x.start = s.windowUse x.start := by
  obtain ⟨(hqueue : (s.sendFirst x rest).radio.queue = rest), hbins, -⟩ := State.transmit_effect x.start x.frame x.air
    (s.opensWindow && x.entry != unconfEntry) (s.onRadio fun r => { r with queue := rest })
  have hbin : (s.sendFirst x rest).binUse x.start = s.binUse x.start + x.air := State.binUse_binsWith x.start x.air hbins
  refine ⟨hbin, ?_⟩
  rw [State.windowUse, State.windowUse, hbin, State.queueUse_eq_sum, State.queueUse_eq_sum, hqueue, h, List.map_cons, List.sum_cons,
    Nat.add_assoc]

end

/-! ### The response window (R362, R407) -/

/-- Reception is possible in NORMAL, for the active member, outside a power failure (R360). -/
theorem State.receives_iff (s : State) : s.receives = true ↔ s.normal = true ∧ s.active = true ∧ s.pwr.pfActive = false := by
  rw [State.receives, Bool.and_eq_true, Bool.and_eq_true, Bool.not_eq_true', and_assoc]

/-- The answer that was due is no more, and no window is open. -/
def State.answerOff (s : State) : State := s.onRadio fun r => { r with answer := none, window := none }

section
variable {s : State} {now : Now}

theorem exec_responseWindow_closed (h : s.receives = false ∨ now.ms < s.radio.txEnd) : exec (.responseWindow now) s = .next s :=
  if_pos (by simpa using h)

/-- With no answer due, and no window or none yet, nothing comes (R362). -/
theorem exec_responseWindow_waits (hnone : s.radio.answer = none) (hwait : s.radio.winDue = false ∨ now.ms < s.winFrom) :
    exec (.responseWindow now) s = .next s := by
  show execResponseWindow now s = _
  have hneg : ¬ (s.radio.winDue = true ∧ s.winFrom ≤ now.ms) := by
    rcases hwait with hwin | hearly
    · simp [hwin]
    · omega
  simp only [execResponseWindow, hnone, if_neg hneg, ite_self]

section
variable (hreceives : s.receives = true) (hended : s.radio.txEnd ≤ now.ms)
include hreceives hended

/-- With no answer due, the window of the last frame opens after the response delay, unless it is over (R362). -/
theorem exec_responseWindow_opens (hnone : s.radio.answer = none) (hwin : s.radio.winDue = true) (hfrom : s.winFrom ≤ now.ms) :
    exec (.responseWindow now) s = .next (s.onRadio fun r => { r with
      winDue := false, window := if now.ms ≤ s.winTo then some s.winTo else none }) := by
  show execResponseWindow now s = _
  rw [execResponseWindow, if_neg (by simpa [hreceives] using hended), hnone]
  exact if_pos ⟨hwin, hfrom⟩

/-- A due answer that can be formed is sent where the budget has room for it, else skipped (R366). -/
theorem exec_responseWindow_answer {a : Answer} {body : List Byte} {u : State} (hdue : s.radio.answer = some a)
    (hframe : s.answerOff.answerFrame now.ms a = some (body, u)) :
    let frame := onAir s.radioCfg.1 body
    let air := airtime s.radioCfg.1 s.radioCfg.2.1 frame.length
    exec (.responseWindow now) s = if s.budget < s.windowUse now.ms + air then .next s.answerOff.skipResponse
      else .next (u.transmit now.ms frame air s.opensWindow) := by
  intro frame air
  show execResponseWindow now s = _
  rw [execResponseWindow, if_neg (by simpa [hreceives] using hended), hdue]
  have hframe' : (s.onRadio fun r => { r with answer := none, window := none }).answerFrame now.ms a = some (body, u) := hframe
  simp only [hframe']
  rfl

end
end

/-- Reading a context after another value is put into it. -/
theorem State.ctx_setCtx (s : State) (c : Ctx) {k : Nat} (hk : k < 24) : (s.setCtx k c).ctx k = c := by
  simp [State.setCtx, State.ctx, vget, hk]

/-- The state after the cached response of context k has been sent: READY becomes IDLE (R404). -/
def State.responded (k ms : Nat) (s : State) : State :=
  if (s.ctx k).st = .ready then s.setCtx k { s.ctx k with st := .idle, since := ms } else s

theorem State.answerFrame_cached {s : State} {a : Answer} {k : Nat} (ms : Nat) (hctx : a.ctx = some k)
    (hst : (s.ctx k).st = .ready ∨ (s.ctx k).st = .idle) :
    s.answerFrame ms a = some ((s.ctx k).frame.drop 1, s.responded k ms) := by
  rcases hst with hst | hst <;> simp [State.answerFrame, State.responded, hctx, hst]

theorem State.responded_moves (k ms : Nat) (s : State) : Moves [.sess] s (s.responded k ms) :=
  .ite (State.setCtx_moves _ _ _) (.refl _ s)

theorem State.responded_mem (k ms : Nat) (s : State) : (s.responded k ms).mem = s.mem := by
  rw [State.responded]
  split <;> rfl

theorem State.responded_ctx {k : Nat} (hk : k < 24) (ms : Nat) (s : State) : (s.responded k ms).ctx k =
    if (s.ctx k).st = .ready then { s.ctx k with st := .idle, since := ms } else s.ctx k := by
  rw [State.responded]
  split
  · exact State.ctx_setCtx s _ hk
  · rfl

/-! ### Reception (R361, R363) -/

theorem Radio.drop_eq (r : Radio) : r.drop = { r with dropped := min 255 (r.dropped + 1) } := by
  rw [Radio.drop, Word.sat_eq_min]

/-- A frame with a right CRC is counted, and waits. -/
def State.radioTake (f : List Byte) (s : State) : State :=
  (s.onRadio fun r => { r with frames := Word.sat 65535 (r.frames + 1) }).onRadio (Radio.take f)

theorem State.radioTake_moves (f : List Byte) (s : State) : Moves [.radio] s (s.radioTake f) :=
  (State.onRadio_moves _ _).after (State.onRadio_moves s _).alone

theorem State.radioTake_room {s : State} (f : List Byte) (h : s.radio.rx.length < 8) : (s.radioTake f).radio =
    { s.radio with frames := min 65535 (s.radio.frames + 1), rx := s.radio.rx ++ [f] } := by
  rw [← Word.sat_eq_min]
  exact if_pos h

theorem State.radioTake_full {s : State} (f : List Byte) (h : 8 ≤ s.radio.rx.length) : (s.radioTake f).radio =
    { s.radio with
      frames := min 65535 (s.radio.frames + 1), rx := s.radio.rx.tail ++ [f], dropped := min 255 (s.radio.dropped + 1),
      events := setBits s.radio.events 4 } := by
  rw [← Word.sat_eq_min, ← Word.sat_eq_min]
  exact if_neg (Nat.not_lt.mpr h)

theorem State.radioTake_counted (f : List Byte) (s : State) :
    (s.radioTake f).radio.frames = min 65535 (s.radio.frames + 1) ∧ (s.radioTake f).radio.queue = s.radio.queue := by
  rcases Nat.lt_or_ge s.radio.rx.length 8 with hroom | hfull
  · rw [State.radioTake_room f hroom]
    exact ⟨rfl, rfl⟩
  · rw [State.radioTake_full f hfull]
    exact ⟨rfl, rfl⟩

section
variable {s : State} {now : Now} {since : Nat} {good : Bool} {f : List Byte}

theorem exec_radioFrameReceived_cut
    (h : s.receives = true ∧ s.rxEnable ≠ 0 ∧ since < s.radio.txStart ∧ s.radio.txStart ≤ now.ms) :
    exec (.radioFrameReceived now since good f) s = .next (s.onRadio Radio.drop) := if_pos h

variable (huncut : ¬ (s.receives = true ∧ s.rxEnable ≠ 0 ∧ since < s.radio.txStart ∧ s.radio.txStart ≤ now.ms))
include huncut

theorem exec_radioFrameReceived_unheard (hlistening : s.listening since = false) (hwindow : s.windowOpen since = false) :
    exec (.radioFrameReceived now since good f) s = .next s := by
  show execRadioFrameReceived now since good f s = _
  rw [execRadioFrameReceived, if_neg huncut, if_pos (by simp [hlistening, hwindow])]

theorem exec_radioFrameReceived_heard (h : s.listening since = true ∨ s.windowOpen since = true) :
    exec (.radioFrameReceived now since good f) s =
      if good = true then .next (s.radioTake f) else .next (s.onRadio fun r => { r with crcErr := min 255 (r.crcErr + 1) }) := by
  show execRadioFrameReceived now since good f s = _
  rw [execRadioFrameReceived, if_neg huncut, if_neg (by rcases h with h | h <;> simp [h])]
  cases good
  case false => simp [Word.sat_eq_min]
  case true => rfl

end

/-- Settles O52: each command by its cases, the sent frame by `transmit_effect`, the taken frame by `radioTake`. -/
theorem framesAreSentAndReceivedWithinTheBudget : Obligations.FramesAreSentAndReceivedWithinTheBudget := by
  unfold Obligations.FramesAreSentAndReceivedWithinTheBudget
  refine ⟨fun s now => ⟨exec_frameTransmit_empty, fun x rest hqueue => ⟨exec_frameTransmit_early hqueue, fun hdue hasleep => ?asleep,
      fun hdue hrun => ?sent⟩⟩,
    fun s now => ?bins, fun s now => ⟨fun h => ?closed, fun hnormal hactive hpf hended => ⟨fun hnone hwin hfrom => ?opened,
      fun a k hanswer hctx hk hst => ?answered⟩⟩,
    fun s now since good f => ⟨fun hcut => ?cut, exec_radioFrameReceived_unheard, fun huncut hheard => ?heard⟩⟩
  case asleep =>
    rw [exec_frameTransmit_due hqueue hdue]
    exact State.inRun_wakes _ hasleep
  case sent =>
    rw [exec_frameTransmit_due hqueue hdue, State.inRun_run _ hrun]
    have hmark : (x.entry != unconfEntry) = decide (x.entry ≠ 128) := by simp [unconfEntry, bne, beq_eq_decide]
    obtain ⟨hrest, -, hframe, hstart, hend, hwindow, hrx, hwin, -⟩ := State.transmit_effect x.start x.frame x.air
      (s.opensWindow && x.entry != unconfEntry) (s.onRadio fun r => { r with queue := rest })
    obtain ⟨hbin, huse⟩ := State.sendFirst_windowUse hqueue
    exact ⟨_, rfl, (s.sendFirst_moves x rest).1, State.sendFirst_flt_sound, State.sendFirst_flt_spoilt, hrest, hframe, hstart, hend,
      hwindow, hrx, hwin.trans (congrArg _ hmark), hbin, huse, State.transmit_pwr _ _ _ _ (s.onRadio _)⟩
  case bins =>
    obtain ⟨hqueue, hbins⟩ := s.binsAdvanced_radio now.ms
    refine ⟨_, exec_dutyBinAdvance now s, (s.binsAdvanced_moves now.ms).1, hqueue, fun b hb => ?_,
      fun at_ hat => s.binsAdvanced_windowUse hat⟩
    rw [hbins] at hb
    exact of_decide_eq_true (List.mem_filter.mp hb).2
  case closed =>
    rcases h with h | h | h | h | ⟨hnone, hwait⟩
    · exact exec_responseWindow_closed (.inl (by simp [State.receives, h]))
    · exact exec_responseWindow_closed (.inl (by simp [State.receives, h]))
    · exact exec_responseWindow_closed (.inl (by simp [State.receives, h]))
    · exact exec_responseWindow_closed (.inr h)
    · exact exec_responseWindow_waits hnone hwait
  case opened =>
    exact exec_responseWindow_opens (s.receives_iff.mpr ⟨hnormal, hactive, hpf⟩) hended hnone hwin hfrom
  case answered =>
    have hreceives := s.receives_iff.mpr ⟨hnormal, hactive, hpf⟩
    intro frame air
    have hframe := State.answerFrame_cached (s := s.answerOff) now.ms hctx hst
    have hexec := exec_responseWindow_answer hreceives hended hanswer hframe
    refine ⟨fun hbudget => ?_, fun hover => hexec.trans (if_pos hover)⟩
    let u := s.answerOff.responded k now.ms
    have hradio : u.radio = s.answerOff.radio := (State.responded_moves k now.ms s.answerOff).same .radio rfl
    have hsent := State.transmit_moves now.ms frame air s.opensWindow u
    have hsess : (u.transmit now.ms frame air s.opensWindow).sess = u.sess := hsent.same .sess rfl
    obtain ⟨hqueue, -, hlast, -, hend, -, -, -, hnone⟩ := State.transmit_effect now.ms frame air s.opensWindow u
    rw [hradio] at hqueue hnone
    refine ⟨_, hexec.trans (if_neg (Nat.not_lt.mpr hbudget)), hnone, hlast, hend, hqueue, ?_, ?_, ?_⟩
    · exact (congrArg (fun e : Sess => vget e.ctxs k Ctx.reset) hsess).trans (State.responded_ctx hk now.ms s.answerOff)
    · exact (hsent.same .sec rfl).trans ((State.responded_moves k now.ms s.answerOff).same .sec rfl)
    · exact (State.transmit_mem _ _ _ _ u).trans (State.responded_mem k now.ms s.answerOff)
  case cut =>
    rw [exec_radioFrameReceived_cut hcut]
    exact congrArg (fun f => Host.Outcome.next (s.onRadio f)) (funext Radio.drop_eq)
  case heard =>
    obtain ⟨hframes, hqueue⟩ := s.radioTake_counted f
    refine ⟨exec_radioFrameReceived_heard (good := false) huncut hheard, _,
      exec_radioFrameReceived_heard (good := true) huncut hheard, (s.radioTake_moves f).1, hframes, hqueue,
      fun hroom => ?_, fun hfull => ?_⟩
    · rw [State.radioTake_room f hroom]
      exact ⟨rfl, rfl⟩
    · rw [State.radioTake_full f hfull]
      exact ⟨rfl, rfl, setBits_raises _ (by decide)⟩

end Sys2Proof.Machine
end

section
/-! Session contexts: reading them, finding one, and the frames that wait for the session engine (R363, R403, R404, R421). -/

set_option Elab.async false

namespace Sys2Proof.Machine

/-! ### Contexts -/

theorem ctx_congr {s t : State} (h : t.sess.ctxs = s.sess.ctxs) (k : Nat) : t.ctx k = s.ctx k := by
  rw [State.ctx, State.ctx, h]

theorem State.ctx_setCtx_other (s : State) (c : Ctx) {j k : Nat} (hne : j ≠ k) : (s.setCtx k c).ctx j = s.ctx j := by
  simp [State.setCtx, State.ctx, vget, Array.getElem?_setIfInBounds_ne hne.symm]

theorem findIdx_eq_findIdx? {α : Type} (p : α → Bool) (l : List α) : findIdx p l = l.findIdx? p := by
  induction l with
  | nil => rfl
  | cons x l ih => rw [findIdx, List.findIdx?_cons, ih]

theorem State.getElem_ctxs (s : State) {k : Nat} (hk : k < s.sess.ctxs.toList.length) : s.sess.ctxs.toList[k] = s.ctx k := by
  have hk24 : k < 24 := by simpa using hk
  simp [State.ctx, vget, hk24]

/-- The first context that satisfies a test. -/
theorem State.findIdx_ctxs_some {s : State} {p : Ctx → Bool} {k : Nat} :
    findIdx p s.sess.ctxs.toList = some k ↔ k < 24 ∧ p (s.ctx k) = true ∧ ∀ j, j < k → p (s.ctx j) = false := by
  rw [findIdx_eq_findIdx?, List.findIdx?_eq_some_iff_getElem]
  simp only [State.getElem_ctxs, Bool.not_eq_true]
  simp [and_left_comm]

/-- No context satisfies a test. -/
theorem State.findIdx_ctxs_none {s : State} {p : Ctx → Bool} :
    findIdx p s.sess.ctxs.toList = none ↔ ∀ k, k < 24 → p (s.ctx k) = false := by
  rw [findIdx_eq_findIdx?, List.findIdx?_eq_none_iff, List.forall_mem_iff_getElem]
  simp only [State.getElem_ctxs]
  simp

theorem State.ctxOf_lt {s : State} {p : Partner} {k : Nat} (h : s.ctxOf p = some k) : k < 24 :=
  (State.findIdx_ctxs_some.mp h).1

/-! ### Frames that wait -/

theorem State.takeRequestFrame_busMaster (s : State) (f : List Byte) : s.takeRequestFrame .busMaster f =
    if f ∈ s.sess.inbox then some (s.onSess fun e => { e with inbox := e.inbox.erase f }) else none := by
  simp only [State.takeRequestFrame, List.contains_iff_mem]

/-- A received frame is the request of a radio partner. -/
def State.waits (a f : List Byte) (s : State) (x : List Byte) : Bool := s.addressed x && slice x 2 8 == a && x.drop 10 == f

theorem State.waits_eq_false {s : State} {a f x : List Byte} (h : s.addressed x = false ∨ slice x 2 8 ≠ a ∨ x.drop 10 ≠ f) :
    s.waits a f x = false := by
  rcases h with h | h | h <;> simp [State.waits, h]

theorem State.waits_eq_true {s : State} {a f x : List Byte} (haddr : s.addressed x = true) (ha : slice x 2 8 = a)
    (hf : x.drop 10 = f) : s.waits a f x = true := by
  simp [State.waits, haddr, ha, hf]

theorem State.takeRequestFrame_radio (s : State) (a f : List Byte) : s.takeRequestFrame (.radio a) f =
    (s.radio.rx.find? (s.waits a f)).map fun x => s.onRadio fun r => { r with rx := r.rx.erase x } := rfl

theorem State.takeRequestFrame_absent {s : State} {a f : List Byte} (h : ∀ x ∈ s.radio.rx, s.waits a f x = false) :
    s.takeRequestFrame (.radio a) f = none := by
  rw [State.takeRequestFrame_radio, List.find?_eq_none.mpr fun x hx => by simp [h x hx]]
  rfl

/-- The oldest frame of the partner with the request is the one that is taken. -/
theorem State.takeRequestFrame_first {s : State} {a f x : List Byte} {pre rest : List (List Byte)}
    (hrx : s.radio.rx = pre ++ x :: rest) (hx : s.waits a f x = true) (hpre : ∀ y ∈ pre, s.waits a f y = false) :
    s.takeRequestFrame (.radio a) f = some (s.onRadio fun r => { r with rx := pre ++ rest }) := by
  have hfind : s.radio.rx.find? (s.waits a f) = some x := by
    rw [hrx, List.find?_append, List.find?_eq_none.mpr fun y hy => by simp [hpre y hy], List.find?_cons_of_pos hx]
    rfl
  have hnotin : x ∉ pre := fun hmem => by simp [hpre x hmem] at hx
  have herase : s.radio.rx.erase x = pre ++ rest := by rw [hrx, List.erase_append_right _ hnotin, List.erase_cons_head]
  rw [State.takeRequestFrame_radio, hfind, ← herase]
  rfl

/-- Taking a frame changes the receive buffer or the inbox alone. -/
theorem State.takeRequestFrame_eq {s u : State} {p : Partner} {f : List Byte} (h : s.takeRequestFrame p f = some u) :
    ∃ r e, u = { s with radio := r, sess := e } := by
  cases p with
  | radio a =>
    obtain ⟨x, -, rfl⟩ := Option.map_eq_some_iff.mp h
    exact ⟨_, _, rfl⟩
  | busMaster =>
    rw [State.takeRequestFrame_busMaster] at h
    split at h
    · cases h
      exact ⟨_, _, rfl⟩
    · cases h

theorem State.takeRequestFrame_radio_eq {s u : State} {a f : List Byte} (h : s.takeRequestFrame (.radio a) f = some u) :
    ∃ rx, u = s.onRadio fun r => { r with rx := rx } := by
  obtain ⟨x, -, rfl⟩ := Option.map_eq_some_iff.mp h
  exact ⟨_, rfl⟩

/-- The frames that wait decide neither which medium is served nor what is authentic. -/
theorem State.takeRequestFrame_read {s u : State} {p : Partner} {f : List Byte} (h : s.takeRequestFrame p f = some u) :
    u.mem = s.mem ∧ u.serves p = s.serves p ∧ u.authenticate f = s.authenticate f := by
  obtain ⟨r, e, rfl⟩ := State.takeRequestFrame_eq h
  exact ⟨rfl, rfl, rfl⟩

/-! ### SESSION_REQUEST -/

theorem exec_sessionRequest_absent {s : State} {p : Partner} {f : List Byte} (now : Now) (h : s.takeRequestFrame p f = none) :
    exec (.sessionRequest now p f) s = .next s := by
  show execSessionRequest now p f s = _
  rw [execSessionRequest, h]

section
variable {s u : State} {p : Partner} {f : List Byte} (now : Now) (htake : s.takeRequestFrame p f = some u)
include htake

theorem exec_sessionRequest_spoilt (hspoilt : s.mem.parityIn 0x30000 0xF000 = true) :
    exec (.sessionRequest now p f) s = .next u.frameDiscard := by
  show execSessionRequest now p f s = _
  rw [execSessionRequest, htake]
  exact if_pos hspoilt

variable (hsound : s.mem.parityIn 0x30000 0xF000 = false)
include hsound

/-- A frame without a parity error is handled where its medium is served and it is authentic. -/
theorem exec_sessionRequest_sound : exec (.sessionRequest now p f) s =
    .next (if s.serves p then (s.authenticate f).elim (u.onSess fun e => { e with authFail := Word.sat 255 (e.authFail + 1) })
      fun r => u.handle now.ms p r
    else u) := by
  obtain ⟨-, hserves, hauth⟩ := State.takeRequestFrame_read htake
  have hread : s.frameSpoilt = false := hsound
  show execSessionRequest now p f s = _
  rw [execSessionRequest, htake]
  dsimp only
  rw [if_neg (Bool.eq_false_iff.mp hread), hserves, hauth]
  cases s.serves p
  · rfl
  · cases s.authenticate f <;> rfl

theorem exec_sessionRequest_unserved (hserves : s.serves p = false) : exec (.sessionRequest now p f) s = .next u := by
  rw [exec_sessionRequest_sound now htake hsound, if_neg (Bool.eq_false_iff.mp hserves)]

theorem exec_sessionRequest_unauthentic (hserves : s.serves p = true) (hauth : s.authenticate f = none) :
    exec (.sessionRequest now p f) s = .next (u.onSess fun e => { e with authFail := min 255 (e.authFail + 1) }) := by
  rw [exec_sessionRequest_sound now htake hsound, if_pos hserves, hauth, Option.elim_none]
  simp only [Word.sat_eq_min]

theorem exec_sessionRequest_authentic (hserves : s.serves p = true) {r : Request} (hauth : s.authenticate f = some r) :
    exec (.sessionRequest now p f) s = .next (u.handle now.ms p r) := by
  rw [exec_sessionRequest_sound now htake hsound, if_pos hserves, hauth, Option.elim_some]

end

/-- Discarding a frame frees its buffer of parity errors (R569). -/
theorem State.frameDiscard_mem (s : State) : s.frameDiscard.mem.parityIn 0x30000 0xF000 = false := by
  have hfilter (l : List Nat) : ((l.filter fun x => decide (x < 0x30000 ∨ 0x3F000 ≤ x)).any
      fun x => decide (0x30000 ≤ x ∧ x < 0x30000 + 0xF000)) = false := by
    rw [List.any_filter, List.any_eq_false]
    intro x _
    simp
    omega
  exact hfilter _

end Sys2Proof.Machine
end

section
/-! How the session engine handles an authentic request, and how a context ends its transaction (R401, R404 to R408, R410). -/

set_option Elab.async false

namespace Sys2Proof.Machine

/-! ### Taking a request into a context -/

theorem State.setCtx_inbox (k : Nat) (c : Ctx) (s : State) : (s.setCtx k c).sess.inbox = s.sess.inbox := rfl

theorem State.forget_sess (k : Nat) (s : State) : (s.forget k).sess = s.sess := rfl

theorem State.forget_sec (k : Nat) (s : State) : (s.forget k).sec = s.sec := rfl

theorem State.forget_mem (k : Nat) (s : State) : (s.forget k).mem = s.mem := rfl

theorem State.forget_rx (k : Nat) (s : State) : (s.forget k).radio.rx = s.radio.rx := rfl

theorem State.owe_radio (a : List Byte) (x : Answer) (s : State) :
    s.owe (.radio a) x = s.onRadio fun r => { r with answer := some x } := rfl

theorem State.commitSec_sec (s : State) : s.commitSec.sec = s.sec := s.enqueue_sec _

/-- A request whose arguments are those of its command, which is bound to the floor (R408). -/
def Request.bound (r : Request) : Bool := r.arguments.isSome && floorBound r.cmd

/-- The counter of a request is at or below the floor that its command is bound to (R401). -/
def Request.replays (r : Request) (s : State) : Bool := r.bound && decide (r.mcr ≤ nth s.sec.floor r.key.index 0)

/-- What refuses a request without execution: arguments that are not those of its command, or a counter that the floor of its
key forbids (R401, R408). -/
def Request.refusal (r : Request) (s : State) : Option (Nat × List Byte) :=
  if r.arguments.isNone then some (4, [])
  else if r.replays s then some (5, []) else none

/-- The counter of a request becomes the floor of its key, and is committed (R401). -/
def State.raiseFloor (r : Request) (s : State) : State :=
  (s.onSec fun c => { c with floor := updAt c.floor r.key.index fun _ => r.mcr }).commitSec

/-- A request raises the floor of its key. -/
def Request.raises (r : Request) (s : State) : Bool := r.bound && !r.replays s

/-- The order of requests and the count of replays, as a request leaves them that is taken into a context (R404, R406). -/
def Sess.noteTaken (replay : Bool) (e : Sess) : Sess :=
  { e with order := e.order + 1, replays := if replay then Word.sat 255 (e.replays + 1) else e.replays }

section
variable (ms k : Nat) (a : List Byte) (r : Request) (s : State)

/-- The context that a request is taken into. -/
def State.newCtx : Ctx :=
  { st := .running, partner := .radio a, identity := r.identity, key := r.key.index, mcr := r.mcr, acc := r.acc, cmd := r.cmd,
    args := r.arguments.getD [], done := r.refusal s, frame := [], since := ms, order := s.sess.order + 1 }

/-- The counter of a request is noted before its context is taken. -/
def State.counterNoted : State :=
  let s1 := s.onSess (Sess.noteTaken (r.replays s))
  if r.raises s then s1.raiseFloor r else s1

theorem State.takeRequest_radio : s.takeRequest ms k (.radio a) r =
    (((s.counterNoted r).forget k).setCtx k (s.newCtx ms a r)).owe (.radio a) (r.answer (some k) 0) := rfl

theorem State.counterNoted_sess : (s.counterNoted r).sess = s.sess.noteTaken (r.replays s) := by
  unfold State.counterNoted
  split
  · exact (State.commitSec_moves _).same .sess rfl
  · rfl

theorem State.counterNoted_radio : (s.counterNoted r).radio = s.radio := by
  unfold State.counterNoted
  split
  · exact (State.commitSec_moves _).same .radio rfl
  · rfl

theorem State.takeRequest_sec : (s.takeRequest ms k (.radio a) r).sec = (s.counterNoted r).sec := by
  rw [State.takeRequest_radio, State.owe_radio, State.onRadio_sec, State.setCtx_sec, State.forget_sec]

theorem State.takeRequest_mem : (s.takeRequest ms k (.radio a) r).mem = (s.counterNoted r).mem := by
  rw [State.takeRequest_radio, State.owe_radio, State.onRadio_mem, State.setCtx_mem, State.forget_mem]

theorem State.takeRequest_kept (h : r.raises s = false) : (s.takeRequest ms k (.radio a) r).sec = s.sec ∧
    (s.takeRequest ms k (.radio a) r).mem = s.mem := by
  rw [State.takeRequest_sec, State.takeRequest_mem, State.counterNoted, h]
  exact ⟨rfl, rfl⟩

theorem State.takeRequest_raised (h : r.raises s = true) : (s.takeRequest ms k (.radio a) r).sec =
      { s.sec with floor := updAt s.sec.floor r.key.index fun _ => r.mcr } ∧
    (s.takeRequest ms k (.radio a) r).mem.queue = s.mem.queue ++
      [{ kind := .slots 0x250000 0x250400, body := (s.takeRequest ms k (.radio a) r).sec.bytes }] := by
  have hsec : (s.counterNoted r).sec = { s.sec with floor := updAt s.sec.floor r.key.index fun _ => r.mcr } := by
    rw [State.counterNoted, h]
    exact State.commitSec_sec _
  rw [State.takeRequest_sec, State.takeRequest_mem, hsec, State.counterNoted, h]
  exact ⟨rfl, State.enqueue_queue _ _⟩

theorem State.takeRequest_ctx (hk : k < 24) : (s.takeRequest ms k (.radio a) r).ctx k = s.newCtx ms a r :=
  State.ctx_setCtx ((s.counterNoted r).forget k) _ hk

theorem State.takeRequest_ctx_other {j : Nat} (hne : j ≠ k) : (s.takeRequest ms k (.radio a) r).ctx j = s.ctx j := by
  have hctxs : (s.counterNoted r).sess.ctxs = s.sess.ctxs := by rw [State.counterNoted_sess, Sess.noteTaken]
  exact (State.ctx_setCtx_other ((s.counterNoted r).forget k) _ hne).trans (ctx_congr hctxs j)

theorem State.takeRequest_rx : (s.takeRequest ms k (.radio a) r).radio.rx = s.radio.rx := by
  rw [State.takeRequest_radio, State.owe_radio, State.onRadio_radio, State.setCtx_radio, State.forget_rx, State.counterNoted_radio]

theorem State.takeRequest_inbox : (s.takeRequest ms k (.radio a) r).sess.inbox = s.sess.inbox := by
  rw [State.takeRequest_radio, State.owe_radio, State.onRadio_sess, State.setCtx_inbox, State.forget_sess, State.counterNoted_sess,
    Sess.noteTaken]

end

section
variable {r : Request} {s : State} {args : List Byte}

theorem Request.refused_arguments (h : r.arguments = none) : r.refusal s = some (4, []) ∧ r.raises s = false := by
  simp [Request.refusal, Request.raises, Request.replays, Request.bound, h]

theorem Request.unbound (h : r.arguments = some args) (hbound : floorBound r.cmd = false) :
    r.refusal s = none ∧ r.raises s = false := by
  simp [Request.refusal, Request.raises, Request.replays, Request.bound, h, hbound]

theorem Request.replayed (h : r.arguments = some args) (hbound : floorBound r.cmd = true)
    (hfloor : r.mcr ≤ nth s.sec.floor r.key.index 0) : r.refusal s = some (5, []) ∧ r.raises s = false := by
  simp [Request.refusal, Request.raises, Request.replays, Request.bound, h, hbound, hfloor]

theorem Request.above (h : r.arguments = some args) (hbound : floorBound r.cmd = true)
    (hfloor : nth s.sec.floor r.key.index 0 < r.mcr) : r.refusal s = none ∧ r.raises s = true := by
  simp [Request.refusal, Request.raises, Request.replays, Request.bound, h, hbound, hfloor]

end

/-- From s to t context k has taken a request of a radio partner; the floor of its key rises where its command is bound to it
(R401, R404, R408). -/
def State.Takes (a : List Byte) (r : Request) (k : Nat) (s t : State) : Prop :=
  (t.ctx k).st = .running ∧ (t.ctx k).partner = .radio a ∧ (t.ctx k).identity = r.identity ∧ (t.ctx k).key = r.key.index ∧
    (t.ctx k).mcr = r.mcr ∧ (t.ctx k).acc = r.acc ∧ (t.ctx k).cmd = r.cmd ∧ (∀ j, j < 24 → j ≠ k → t.ctx j = s.ctx j) ∧
    Keeps [.queue, .radio, .sec, .sess, .mbus, .pair] s t ∧
    (∀ args, r.arguments = some args → (t.ctx k).args = args ∧
      (floorBound r.cmd = false → (t.ctx k).done = none ∧ t.sec = s.sec ∧ t.mem.queue = s.mem.queue) ∧
      (floorBound r.cmd = true → r.mcr ≤ nth s.sec.floor r.key.index 0 → (t.ctx k).done = some (5, []) ∧ t.sec = s.sec) ∧
      (floorBound r.cmd = true → nth s.sec.floor r.key.index 0 < r.mcr → (t.ctx k).done = none ∧
        t.sec = { s.sec with floor := updAt s.sec.floor r.key.index fun _ => r.mcr } ∧
        t.mem.queue = s.mem.queue ++ [{ kind := .slots 0x250000 0x250400, body := t.sec.bytes }])) ∧
    (r.arguments = none → (t.ctx k).done = some (4, []) ∧ t.sec = s.sec)

theorem State.takeRequest_takes (ms : Nat) {k : Nat} (hk : k < 24) (a : List Byte) (r : Request) (s : State) :
    State.Takes a r k s (s.takeRequest ms k (.radio a) r) := by
  have hctx := State.takeRequest_ctx ms k a r s hk
  have hkept (h : r.raises s = false) := State.takeRequest_kept ms k a r s h
  have hraised (h : r.raises s = true) := State.takeRequest_raised ms k a r s h
  refine ⟨congrArg Ctx.st hctx, congrArg Ctx.partner hctx, congrArg Ctx.identity hctx, congrArg Ctx.key hctx,
    congrArg Ctx.mcr hctx, congrArg Ctx.acc hctx, congrArg Ctx.cmd hctx,
    fun j _ hne => State.takeRequest_ctx_other ms k a r s hne, (State.takeRequest_moves ms k (.radio a) r s).alone.1,
    fun args hargs => ⟨?args, fun hbound => ?unbound, fun hbound hmcr => ?replayed, fun hbound hmcr => ?above⟩,
    fun hargs => ?refused⟩
  case args => rw [hctx, State.newCtx, hargs, Option.getD_some]
  case unbound =>
    obtain ⟨hdone, hraises⟩ := Request.unbound (s := s) hargs hbound
    obtain ⟨hsec, hmem⟩ := hkept hraises
    exact ⟨(congrArg Ctx.done hctx).trans hdone, hsec, congrArg Mem.queue hmem⟩
  case replayed =>
    obtain ⟨hdone, hraises⟩ := Request.replayed hargs hbound hmcr
    obtain ⟨hsec, -⟩ := hkept hraises
    exact ⟨(congrArg Ctx.done hctx).trans hdone, hsec⟩
  case above =>
    obtain ⟨hdone, hraises⟩ := Request.above hargs hbound hmcr
    exact ⟨(congrArg Ctx.done hctx).trans hdone, hraised hraises⟩
  case refused =>
    obtain ⟨hdone, hraises⟩ := Request.refused_arguments (s := s) hargs
    obtain ⟨hsec, -⟩ := hkept hraises
    exact ⟨(congrArg Ctx.done hctx).trans hdone, hsec⟩

/-- The frame of the request has left the receive buffer before. -/
theorem State.Takes.after_onRadio {a : List Byte} {r : Request} {k : Nat} {s t : State} {f : Radio → Radio}
    (h : State.Takes a r k (s.onRadio f) t) : State.Takes a r k s t := by
  obtain ⟨hst, hpartner, hidentity, hkey, hmcr, hacc, hcmd, hothers, hkeeps, hargs, hrefused⟩ := h
  exact ⟨hst, hpartner, hidentity, hkey, hmcr, hacc, hcmd, hothers, ((State.onRadio_moves s f).1.sub (by decide)).trans hkeeps,
    hargs, hrefused⟩

/-! ### Handling a request -/

/-- A repetition is counted, and dates its context anew unless that is RUNNING (R405, R406). -/
def State.repeated (k : Nat) (s : State) : State :=
  let s1 := s.onSess fun e => { e with dups := Word.sat 255 (e.dups + 1) }
  if s.pwr.pfActive = true ∨ (s.ctx k).st = .running then s1
  else (s1.onSess fun e => { e with order := e.order + 1 }).setCtx k { s.ctx k with order := s.sess.order + 1 }

theorem State.repeated_eq (k : Nat) (s : State) :
    ∃ f : Sess → Sess, (∀ e, (f e).inbox = e.inbox) ∧ s.repeated k = s.onSess f := by
  unfold State.repeated
  split
  · exact ⟨fun e => { e with dups := Word.sat 255 (e.dups + 1) }, fun _ => rfl, rfl⟩
  · exact ⟨fun e => { e with
      dups := Word.sat 255 (e.dups + 1), order := e.order + 1,
      ctxs := e.ctxs.setIfInBounds k { s.ctx k with order := s.sess.order + 1 } }, fun _ => rfl, rfl⟩

section
variable {s : State} {p : Partner} {r : Request} {k : Nat} (ms : Nat)

theorem State.handle_wrongUse (h : r.key.use ≠ 2) : s.handle ms p r = s.owe p (r.answer none 3) := if_pos h

variable (huse : r.key.use = 2)
include huse

/-- A request of a partner with a context. -/
theorem State.handle_known (hctx : s.ctxOf p = some k) : s.handle ms p r =
    if (s.ctx k).mcr = r.mcr ∧ (s.ctx k).acc = r.acc then
      (s.repeated k).owe p (r.answer (if s.pwr.pfActive then none else some k) 1)
    else if s.pwr.pfActive = true ∨ (s.ctx k).st ≠ .idle then s.owe p (r.answer none 1) else s.takeRequest ms k p r := by
  rw [State.handle, if_neg (not_not.mpr huse), hctx]
  rfl

/-- A request of a partner without a context. -/
theorem State.handle_new (hctx : s.ctxOf p = none) : s.handle ms p r =
    if s.pwr.pfActive then s.owe p (r.answer none 1)
    else (findIdx (fun c => c.st == .free) s.sess.ctxs.toList).elim
      (s.oldestIdle.elim ((s.onSess fun e => { e with busy := Word.sat 65535 (e.busy + 1) }).owe p (r.answer none 1))
        fun k => (s.onSess fun e => { e with evictions := Word.sat 255 (e.evictions + 1) }).takeRequest ms k p r)
      fun k => s.takeRequest ms k p r := by
  rw [State.handle, if_neg (not_not.mpr huse), hctx]
  cases findIdx (fun c => c.st == .free) s.sess.ctxs.toList with
  | some k => rfl
  | none => cases s.oldestIdle <;> rfl

theorem State.handle_repeated (hpf : s.pwr.pfActive = false) (hctx : s.ctxOf p = some k) (hmcr : (s.ctx k).mcr = r.mcr)
    (hacc : (s.ctx k).acc = r.acc) : s.handle ms p r = (s.repeated k).owe p (r.answer (some k) 1) := by
  rw [State.handle_known ms huse hctx, if_pos ⟨hmcr, hacc⟩, if_neg (Bool.eq_false_iff.mp hpf)]

theorem State.handle_inTransaction (hctx : s.ctxOf p = some k) (hnew : (s.ctx k).mcr ≠ r.mcr ∨ (s.ctx k).acc ≠ r.acc)
    (hst : (s.ctx k).st ≠ .idle) : s.handle ms p r = s.owe p (r.answer none 1) := by
  rw [State.handle_known ms huse hctx, if_neg (not_and_or.mpr hnew), if_pos (.inr hst)]

theorem State.handle_idle (hpf : s.pwr.pfActive = false) (hctx : s.ctxOf p = some k)
    (hnew : (s.ctx k).mcr ≠ r.mcr ∨ (s.ctx k).acc ≠ r.acc) (hst : (s.ctx k).st = .idle) :
    s.handle ms p r = s.takeRequest ms k p r := by
  rw [State.handle_known ms huse hctx, if_neg (not_and_or.mpr hnew), if_neg (by simp [hpf, hst])]

/-- A new partner takes the first free context. -/
theorem State.handle_free (hpf : s.pwr.pfActive = false) (hctx : s.ctxOf p = none) (hk : k < 24) (hfree : (s.ctx k).st = .free)
    (hfirst : ∀ j, j < k → (s.ctx j).st ≠ .free) : s.handle ms p r = s.takeRequest ms k p r := by
  have hfind : findIdx (fun c => c.st == .free) s.sess.ctxs.toList = some k :=
    State.findIdx_ctxs_some.mpr ⟨hk, by simp [hfree], fun j hj => by simp [hfirst j hj]⟩
  rw [State.handle_new ms huse hctx, if_neg (Bool.eq_false_iff.mp hpf), hfind, Option.elim_some]

/-- With every context in a transaction a new partner is turned away (R406). -/
theorem State.handle_full (hpf : s.pwr.pfActive = false) (hctx : s.ctxOf p = none)
    (hfull : ∀ k, k < 24 → (s.ctx k).st = .running ∨ (s.ctx k).st = .ready) :
    s.handle ms p r = (s.onSess fun e => { e with busy := Word.sat 65535 (e.busy + 1) }).owe p (r.answer none 1) := by
  have hnone (st : CtxState) (hrunning : .running ≠ st) (hready : .ready ≠ st) :
      findIdx (fun c => c.st == st) s.sess.ctxs.toList = none :=
    State.findIdx_ctxs_none.mpr fun k hk => by rcases hfull k hk with h | h <;> simp [h, hrunning, hready]
  have hidle : s.oldestIdle = none := by
    have hnil : (s.sess.ctxs.toList.filter fun c => c.st == .idle) = [] := by
      have h := hnone .idle (by decide) (by decide)
      rw [findIdx_eq_findIdx?, List.findIdx?_eq_none_iff] at h
      exact List.filter_eq_nil_iff.mpr fun x hx => by simpa using h x hx
    simp only [State.oldestIdle, hnil]
  rw [State.handle_new ms huse hctx, if_neg (Bool.eq_false_iff.mp hpf), hnone .free (by decide) (by decide), hidle,
    Option.elim_none, Option.elim_none]

end

/-- A request is answered at once or taken into a context, after the session engine has noted it; frames in its inbox stay. -/
theorem State.handle_cases (ms : Nat) (p : Partner) (r : Request) (s : State) : ∃ f : Sess → Sess, (∀ e, (f e).inbox = e.inbox) ∧
    ((∃ x, s.handle ms p r = (s.onSess f).owe p x) ∨ ∃ k, s.handle ms p r = (s.onSess f).takeRequest ms k p r) := by
  have hid (e : Sess) : (id e).inbox = e.inbox := rfl
  by_cases huse : r.key.use = 2
  · cases hctx : s.ctxOf p with
    | some k =>
      rw [State.handle_known ms huse hctx]
      split
      · obtain ⟨f, hf, h⟩ := s.repeated_eq k
        exact ⟨f, hf, .inl ⟨_, by rw [h]⟩⟩
      · split
        · exact ⟨id, hid, .inl ⟨_, rfl⟩⟩
        · exact ⟨id, hid, .inr ⟨_, rfl⟩⟩
    | none =>
      rw [State.handle_new ms huse hctx]
      split
      · exact ⟨id, hid, .inl ⟨_, rfl⟩⟩
      · cases findIdx (fun c => c.st == .free) s.sess.ctxs.toList with
        | some k => exact ⟨id, hid, .inr ⟨k, rfl⟩⟩
        | none => cases s.oldestIdle with
          | some k => exact ⟨fun e => { e with evictions := Word.sat 255 (e.evictions + 1) }, fun _ => rfl, .inr ⟨k, rfl⟩⟩
          | none => exact ⟨fun e => { e with busy := Word.sat 65535 (e.busy + 1) }, fun _ => rfl, .inl ⟨_, rfl⟩⟩
  · exact ⟨id, hid, .inl ⟨_, State.handle_wrongUse ms huse⟩⟩

/-- During a power failure a request under a key for commands is answered BUSY (R410). -/
theorem State.handle_powerFail {s : State} {p : Partner} {r : Request} (ms : Nat) (huse : r.key.use = 2)
    (hpf : s.pwr.pfActive = true) : ∃ f : Sess → Sess, (∀ e, (f e).ctxs = e.ctxs) ∧
      s.handle ms p r = (s.onSess f).owe p (r.answer none 1) := by
  have hid (e : Sess) : (id e).ctxs = e.ctxs := rfl
  cases hctx : s.ctxOf p with
  | some k =>
    rw [State.handle_known ms huse hctx, State.repeated, hpf]
    split
    · exact ⟨fun e => { e with dups := Word.sat 255 (e.dups + 1) }, fun _ => rfl, rfl⟩
    · rw [if_pos (.inl rfl)]
      exact ⟨id, hid, rfl⟩
  | none =>
    rw [State.handle_new ms huse hctx, if_pos hpf]
    exact ⟨id, hid, rfl⟩

/-- The frames that wait stay. -/
theorem State.handle_waiting (ms : Nat) (a : List Byte) (r : Request) (s : State) :
    (s.handle ms (.radio a) r).radio.rx = s.radio.rx ∧ (s.handle ms (.radio a) r).sess.inbox = s.sess.inbox := by
  obtain ⟨f, hf, ⟨x, h⟩ | ⟨k, h⟩⟩ := s.handle_cases ms (.radio a) r
  · rw [h]
    exact ⟨rfl, hf s.sess⟩
  · rw [h]
    exact ⟨State.takeRequest_rx ms k a r (s.onSess f), (State.takeRequest_inbox ms k a r (s.onSess f)).trans (hf s.sess)⟩

/-! ### A repetition -/

theorem State.repeated_moves (k : Nat) (s : State) : Moves [.sess] s (s.repeated k) :=
  .ite (State.onSess_moves s _)
    ((State.setCtx_moves _ _ _).after ((State.onSess_moves _ _).after (State.onSess_moves s _).alone))

theorem State.repeated_dups (k : Nat) (s : State) : (s.repeated k).sess.dups = min 255 (s.sess.dups + 1) := by
  rw [← Word.sat_eq_min]
  unfold State.repeated
  split <;> rfl

theorem State.repeated_ctx_other {j k : Nat} (hne : j ≠ k) (s : State) : (s.repeated k).ctx j = s.ctx j := by
  unfold State.repeated
  split
  · rfl
  · exact State.ctx_setCtx_other _ _ hne

theorem State.repeated_running {s : State} {k : Nat} (h : (s.ctx k).st = .running) : (s.repeated k).ctx k = s.ctx k := by
  rw [State.repeated, if_pos (.inr h)]
  rfl

theorem State.repeated_dated {s : State} {k : Nat} (hk : k < 24) (hpf : s.pwr.pfActive = false) (h : (s.ctx k).st ≠ .running) :
    (s.repeated k).ctx k = { s.ctx k with order := s.sess.order + 1 } := by
  rw [State.repeated, if_neg (by simp [hpf, h])]
  exact State.ctx_setCtx _ _ hk

/-! ### The end of a transaction -/

theorem State.forget_answer {k : Nat} {s : State} {a : Answer} (h : (s.forget k).radio.answer = some a) : a.ctx ≠ some k := by
  intro hctx
  change (match s.radio.answer with | none => none | some a => if a.ctx = some k then none else some a) = some a at h
  split at h
  · cases h
  · split at h
    · cases h
    · rename_i hne
      cases h
      exact hne hctx

section
variable {s : State} {i key : Nat} {entry : KeyEntry} (acc cmd result : Nat) (data : List Byte)

theorem State.respond_none (h : s.keyEntry key = none ∨ s.counterFree i = false) :
    s.respond i key acc cmd result data = none := by
  unfold State.respond
  split
  · rfl
  · rename_i hentry
    rw [State.secure, if_pos rfl, if_pos (by simpa [hentry] using h)]

theorem State.respond_some (hkey : s.keyEntry key = some entry) (hfree : s.counterFree i = true) :
    ∃ body, s.respond i key acc cmd result data = some (body, s.useCounter i) := by
  rw [State.respond, hkey]
  dsimp only
  rw [State.secure, if_pos rfl, if_neg (by simp [hfree])]
  exact ⟨_, rfl⟩

end

/-- A counter is used, whether or not new values are reserved with it (R399, R400). -/
theorem State.useCounter_next (i : Nat) (s : State) : (s.useCounter i).sec.next = updAt s.sec.next i (· + 1) := by
  unfold State.useCounter State.reserve
  dsimp only
  split
  · rfl
  · exact congrArg Sec.next (State.commitSec_sec _)

section
variable {s : State} {k : Nat} (now : Now) (hk : k < 24)
include hk

theorem exec_commandExecutionEnd_unexecuted (h : (s.ctx k).st ≠ .running ∨ (s.ctx k).done = none) :
    exec (.commandExecutionEnd now k) s = .next s := by
  show execCommandExecutionEnd now k s = _
  rw [execCommandExecutionEnd, if_neg (Nat.not_le.mpr hk)]
  dsimp only
  split
  · rename_i hst hdone
    simp [hst, hdone] at h
  · rfl

section
variable {result : Nat} {data : List Byte} (hst : (s.ctx k).st = .running) (hdone : (s.ctx k).done = some (result, data))
include hst hdone

theorem exec_commandExecutionEnd_skips (h : s.keyEntry (s.ctx k).key = none ∨ s.counterFree (s.ctx k).identity = false) :
    exec (.commandExecutionEnd now k) s = .next s.skipResponse := by
  show execCommandExecutionEnd now k s = _
  rw [execCommandExecutionEnd, if_neg (Nat.not_le.mpr hk)]
  dsimp only
  rw [hst, hdone]
  dsimp only
  rw [State.respond_none _ _ _ _ h]

theorem exec_commandExecutionEnd_caches {entry : KeyEntry} (hkey : s.keyEntry (s.ctx k).key = some entry)
    (hfree : s.counterFree (s.ctx k).identity = true) : ∃ body, exec (.commandExecutionEnd now k) s =
      .next ((s.useCounter (s.ctx k).identity).setCtx k
        { s.ctx k with st := .ready, since := now.ms, frame := (le 1 body.length ++ body).take 252 }) := by
  obtain ⟨body, hbody⟩ := State.respond_some (s.ctx k).acc (s.ctx k).cmd result data hkey hfree
  refine ⟨body, ?_⟩
  show execCommandExecutionEnd now k s = _
  rw [execCommandExecutionEnd, if_neg (Nat.not_le.mpr hk)]
  dsimp only
  rw [hst, hdone]
  dsimp only
  rw [hbody]

end

theorem exec_sessionReadyTimeout (s : State) : exec (.sessionReadyTimeout now k) s =
    .next (if (s.ctx k).st = .ready ∧ (s.ctx k).since + 60000 ≤ now.ms then
      (s.forget k).setCtx k { s.ctx k with st := .idle, since := now.ms } else s) := by
  show execSessionReadyTimeout now k s = _
  rw [execSessionReadyTimeout, if_neg (Nat.not_le.mpr hk), apply_ite Host.Outcome.next]

theorem exec_sessionIdleTimeout (s : State) : exec (.sessionIdleTimeout now k) s =
    .next (if (s.ctx k).st = .idle ∧ (s.ctx k).since + 900000 ≤ now.ms then s.setCtx k Ctx.reset else s) := by
  show execSessionIdleTimeout now k s = _
  rw [execSessionIdleTimeout, if_neg (Nat.not_le.mpr hk), apply_ite Host.Outcome.next]

end

/-- Settles O53: a frame is taken by `takeRequestFrame`, handled as `handle` decides, and its context ends by the three timers. -/
theorem sessionRequestsTakeContextsAndAreAnswered : Obligations.SessionRequestsTakeContextsAndAreAnswered := by
  unfold Obligations.SessionRequestsTakeContextsAndAreAnswered
  refine ⟨fun s p f => ⟨?bus, ?radio⟩, fun s now p f => exec_sessionRequest_absent now,
    fun s u now p f htake hspoilt => ?spoilt, fun s u now p f htake hsound =>
      ⟨exec_sessionRequest_unserved now htake hsound, exec_sessionRequest_unauthentic now htake hsound⟩,
    fun s u now addr f r htake hsound hserves hauth => ?handled,
    fun s now k hk => ⟨exec_commandExecutionEnd_unexecuted now hk, fun result data hst hdone =>
        ⟨exec_commandExecutionEnd_skips now hk hst hdone, fun key hkey hfree => ?cached⟩,
      fun hst hdue => ?ready, fun h => ?notReady, fun hst hdue => ?idle, fun h => ?notIdle⟩⟩
  case bus =>
    rintro rfl
    exact s.takeRequestFrame_busMaster f
  case radio =>
    rintro a rfl
    exact ⟨fun h => State.takeRequestFrame_absent fun x hx => State.waits_eq_false (h x hx),
      fun pre x rest hrx haddr ha hf hpre => State.takeRequestFrame_first hrx (State.waits_eq_true haddr ha hf)
        fun y hy => State.waits_eq_false (hpre y hy)⟩
  case spoilt =>
    have hmoves := State.frameDiscard_moves u
    obtain ⟨hmem, -, -⟩ := State.takeRequestFrame_read htake
    obtain ⟨hkind, hreader⟩ := State.frameRead_spoilt 8 (hmem ▸ hspoilt)
    exact ⟨_, exec_sessionRequest_spoilt now htake hspoilt, hmoves.same .radio rfl, hmoves.same .sess rfl,
      (hmoves.after (State.takeRequestFrame_moves htake).alone).1, u.frameDiscard_mem, hkind, hreader⟩
  case handled =>
    intro tells answered taken
    obtain ⟨hrx, hinbox⟩ := u.handle_waiting now.ms addr r
    refine ⟨_, exec_sessionRequest_authentic now htake hsound hserves hauth, hrx, ?_⟩
    obtain ⟨rx, rfl⟩ := State.takeRequestFrame_radio_eq htake
    set u := s.onRadio fun r => { r with rx := rx }
    have hread : Moves [.radio] s u := State.onRadio_moves s _
    have htells {v : State} (hv : Moves [.sess] u v) (ctx : Option Nat) (result : Nat) :
        tells (v.owe (.radio addr) (r.answer ctx result)) ctx result :=
      ⟨rfl, ((State.onRadio_moves v _).after (hv.after hread.alone)).1⟩
    have htaken {k : Nat} (hk : k < 24) : taken (u.takeRequest now.ms k (.radio addr) r) k :=
      State.Takes.after_onRadio (State.takeRequest_takes now.ms hk addr r u)
    refine ⟨hinbox, fun hother => ?otherUse, fun huse hpf => ?powerFail, fun huse hpf =>
      ⟨fun k hctx => ⟨fun hmcr hacc => ?repetition, fun hnew => ⟨fun hst => ?busy, fun hst => ?next⟩⟩,
      fun hnone => ⟨fun k hk hfree hfirst => ?free, fun hfull => ?full⟩⟩⟩
    case otherUse =>
      rw [State.handle_wrongUse now.ms hother]
      exact ⟨htells (.refl _ u) none 3, rfl⟩
    case powerFail =>
      obtain ⟨f, hf, h⟩ := State.handle_powerFail (s := u) (p := .radio addr) now.ms huse hpf
      rw [h]
      exact ⟨htells (State.onSess_moves u f) none 1, hf s.sess⟩
    case repetition =>
      have hk := State.ctxOf_lt hctx
      rw [State.handle_repeated (s := u) now.ms huse hpf hctx hmcr hacc]
      exact ⟨htells (u.repeated_moves k) (some k) 1, u.repeated_dups k, fun j _ hne => u.repeated_ctx_other hne,
        State.repeated_running (s := u), State.repeated_dated (s := u) hk hpf⟩
    case busy =>
      rw [State.handle_inTransaction (s := u) now.ms huse hctx hnew hst]
      exact ⟨htells (.refl _ u) none 1, rfl⟩
    case next =>
      rw [State.handle_idle (s := u) now.ms huse hpf hctx hnew hst]
      exact htaken (State.ctxOf_lt hctx)
    case free =>
      rw [State.handle_free (s := u) now.ms huse hpf hnone hk hfree hfirst]
      exact htaken hk
    case full =>
      rw [State.handle_full (s := u) now.ms huse hpf hnone hfull, ← Word.sat_eq_min]
      exact ⟨⟨htells (State.onSess_moves u _) none 1, rfl⟩, rfl⟩
  case cached =>
    obtain ⟨body, h⟩ := exec_commandExecutionEnd_caches now hk hst hdone hkey hfree
    have hmoves := State.useCounter_moves (s.ctx k).identity s
    exact ⟨_, _, h, State.ctx_setCtx _ _ hk, List.length_take_le _ _,
      fun j _ hne => (State.ctx_setCtx_other _ _ hne).trans (ctx_congr (congrArg Sess.ctxs (hmoves.same .sess rfl)) j),
      s.useCounter_next _, hmoves.same .radio rfl⟩
  case ready =>
    rw [exec_sessionReadyTimeout now hk, if_pos ⟨hst, hdue⟩]
    exact ⟨_, rfl, State.ctx_setCtx _ _ hk, fun j _ hne => State.ctx_setCtx_other _ _ hne,
      ((State.setCtx_moves _ _ _).after (State.forget_moves k s).alone).1, fun a ha => State.forget_answer ha⟩
  case notReady =>
    rw [exec_sessionReadyTimeout now hk, if_neg fun ⟨hst, hdue⟩ => h.elim (absurd hst) (Nat.not_lt.mpr hdue)]
  case idle =>
    rw [exec_sessionIdleTimeout now hk, if_pos ⟨hst, hdue⟩]
    exact ⟨_, rfl, congrArg Ctx.st (State.ctx_setCtx s Ctx.reset hk), fun j _ hne => State.ctx_setCtx_other s _ hne,
      (State.setCtx_moves _ _ s).1⟩
  case notIdle =>
    rw [exec_sessionIdleTimeout now hk, if_neg fun ⟨hst, hdue⟩ => h.elim (absurd hst) (Nat.not_lt.mpr hdue)]

end Sys2Proof.Machine
end

section
/-! What the remote commands leave: their context with its result, the valve command, the token in the credit state, and the credit
policy after it (R276, R318 to R320, R322, R401, R408). -/

set_option Elab.async false

namespace Sys2Proof.Machine

/-! ### The context of a command -/

/-- From s to t the command of context k has executed, with a result and its data; the other contexts agree. -/
def State.Executed (k result : Nat) (data : List Byte) (s t : State) : Prop :=
  t.ctx k = { s.ctx k with done := some (result, data) } ∧ ∀ j, j < 24 → j ≠ k → t.ctx j = s.ctx j

/-- The result is left after operations that do not move the session engine. -/
theorem State.doneCtx_executed {k : Nat} {s u : State} (hk : k < 24) (result : Nat) (data : List Byte) (h : u.sess = s.sess) :
    State.Executed k result data s (u.doneCtx k result data) := by
  have hctx (j : Nat) : u.ctx j = s.ctx j := ctx_congr (congrArg Sess.ctxs h) j
  refine ⟨?_, fun j _ hne => (State.ctx_setCtx_other u _ hne).trans (hctx j)⟩
  rw [State.doneCtx, State.ctx_setCtx u _ hk, hctx]

theorem State.doneCtx_chans (k result : Nat) (data : List Byte) (s : State) : (s.doneCtx k result data).chans = s.chans := rfl

theorem State.doneCtx_ch (k result : Nat) (data : List Byte) (s : State) (n : Nat) : (s.doneCtx k result data).ch n = s.ch n := rfl

/-- The floor of a command can land and its mirror has been waited for: HOARD has what was queued (R401). -/
theorem State.floorLanded_some {s : State} {k ms : Nat} (hland : s.canLand = true)
    (hmirror : s.mirrorDone 0x250000 (s.ctx k).since ms = true) : s.floorLanded k ms = some s.drain := by
  rw [State.floorLanded, hland, hmirror]
  rfl

theorem State.floorLanded_none {s : State} {k ms : Nat}
    (h : s.canLand = false ∨ s.mirrorDone 0x250000 (s.ctx k).since ms = false) : s.floorLanded k ms = none := by
  rw [State.floorLanded]
  rcases h with h | h <;> simp [h]

/-- The wait for the peer is over (R401, R542). -/
theorem State.mirrorDone_iff (s : State) (a t0 ms : Nat) : s.mirrorDone a t0 ms = true ↔
    s.pair.phase < 2 ∨ s.pair.linkFault = true ∨ s.pair.unacked a = false ∨ t0 + 150 ≤ ms := by
  simp [State.mirrorDone, or_assoc]

/-! ### Commands that their context does not run -/

section
variable {s : State} {k : Nat} (hk : k < 24)
include hk

theorem exec_cmdStatus_unrun (h : s.runs k 0x01 = false) : exec (.cmdStatus k) s = .next s := by
  show execCmdStatus k s = _
  rw [execCmdStatus, if_neg (Nat.not_le.mpr hk), if_pos (by simp [h])]

theorem exec_cmdReadHoard_unrun (h : s.runs k 0x02 = false) : exec (.cmdReadHoard k) s = .next s := by
  show execCmdReadHoard k s = _
  rw [execCmdReadHoard, if_neg (Nat.not_le.mpr hk), if_pos (by simp [h])]

variable (now : Now)

theorem exec_cmdTopup_unrun (h : s.runs k 0x11 = false) : exec (.cmdTopup now k) s = .next s := by
  show execCmdTopup now k s = _
  rw [execCmdTopup, if_neg (Nat.not_le.mpr hk), if_pos (by simp [h])]

theorem exec_topupAnswer_unrun (h : s.runs k 0x11 = false ∨ s.canLand = false) : exec (.topupAnswer now k) s = .next s := by
  show execTopupAnswer now k s = _
  rw [execTopupAnswer, if_neg (Nat.not_le.mpr hk), if_pos (by simpa using h)]

/-- A floor-bound command waits until its floor has landed. -/
theorem exec_cmdValve_waits (h : s.runs k 0x10 = false ∨ s.floorLanded k now.ms = none) : exec (.cmdValve now k) s = .next s := by
  show execCmdValve now k s = _
  rw [execCmdValve, if_neg (Nat.not_le.mpr hk)]
  rcases h with h | h <;> simp [h]

theorem exec_cmdSetTime_waits (h : s.runs k 0x20 = false ∨ s.floorLanded k now.ms = none) :
    exec (.cmdSetTime now k) s = .next s := by
  show execCmdSetTime now k s = _
  rw [execCmdSetTime, if_neg (Nat.not_le.mpr hk)]
  rcases h with h | h <;> simp [h]

theorem exec_cmdAdjustTime_waits (h : s.runs k 0x21 = false ∨ s.floorLanded k now.ms = none) :
    exec (.cmdAdjustTime now k) s = .next s := by
  show execCmdAdjustTime now k s = _
  rw [execCmdAdjustTime, if_neg (Nat.not_le.mpr hk)]
  rcases h with h | h <;> simp [h]

end

/-! ### STATUS and READ_HOARD -/

section
variable {s : State} {k : Nat} (hk : k < 24)
include hk

theorem exec_cmdStatus_runs (h : s.runs k 0x01 = true) : exec (.cmdStatus k) s =
    .next (s.doneCtx k 0 (le 1 s.modeCode ++ le 1 s.pwr.strapRole ++ le 4 s.modStatus ++ le 5 s.rtc.count ++
      le 4 s.img.module_.acceptedSeq ++ le 4 s.img.module_.pcc)) := by
  show execCmdStatus k s = _
  rw [execCmdStatus, if_neg (Nat.not_le.mpr hk), if_neg (by simp [h])]

theorem exec_cmdReadHoard_runs (h : s.runs k 0x02 = true) {a n : Nat} (ha : fieldAt (s.ctx k).args 0 3 = a)
    (hn : fieldAt (s.ctx k).args 3 1 = n) : exec (.cmdReadHoard k) s =
      .next (if n = 0 ∨ 128 < n ∨ a < 0x100000 ∨ 0x250000 < a + n then s.doneCtx k 4 []
        else (s.hoardRead a n 8).doneCtx k 0 (le 3 a ++ le 1 n ++ s.mem.hoard.readBytes a n)) := by
  subst ha hn
  show execCmdReadHoard k s = _
  rw [execCmdReadHoard, if_neg (Nat.not_le.mpr hk), if_neg (by simp [h]), apply_ite Host.Outcome.next]

end

/-! ### VALVE -/

theorem State.policy_unprepaid {n : Nat} {s : State} (h : s.prepay n = none) : s.policy n = s :=
  if_pos (by simp [h])

/-- The result that a valve command's answer gives (R408). -/
def ValveAnswer.result (a : ValveAnswer) : Nat :=
  match a with
  | .ok => 0
  | .busy => 1
  | .notInState => 2
  | .badArg => 4
  | .queued => 6

theorem State.onBridge_ch (s : State) (f : Bridge → Bridge) (m : Nat) : (s.onBridge f).ch m = s.ch m := rfl

/-- A command for a valve on its way to no other end joins the queue of the bridge with the next ticket (R276). -/
def State.valveQueued (n dir source : Nat) (s : State) : State :=
  (((s.onBridge fun b => { b with next := s.bridge.next + 1 }).onValve n fun v => { v with source := source }).onBridge fun b =>
    { b with queue := b.queue ++ [{ ch := n, dir := dir, source := source, ticket := s.bridge.next }] }).onValve n fun v =>
      { v with pending := dir, ticket := s.bridge.next }

section
variable {n : Nat} {s : State} (dir source : Nat)

theorem State.submitValve_noValve (h : (s.cfg n).hasValve = false) : s.submitValve n dir source = (s, .badArg, 0) :=
  if_pos (by simp [h])

variable (hvalve : (s.cfg n).hasValve = true)
include hvalve

theorem State.submitValve_notInState (h : s.normal = false ∨ s.active = false) :
    s.submitValve n dir source = (s, .notInState, 0) := by
  rw [State.submitValve, if_neg (by simp [hvalve]), if_pos (by simpa using h)]

variable (hnormal : s.normal = true) (hactive : s.active = true)
include hnormal hactive

theorem State.submitValve_powerFail (hpf : s.pwr.pfActive = true) : s.submitValve n dir source = (s, .busy, 0) := by
  rw [State.submitValve, if_neg (by simp [hvalve]), if_neg (by simp [hnormal, hactive]), if_pos hpf]

variable (hpf : s.pwr.pfActive = false) (hboth : (s.ch n).valve.showsBoth = false)
include hpf hboth

theorem State.submitValve_moving (hmoves : s.bridge.moves n = true) : s.submitValve n dir source = (s, .busy, 0) := by
  rw [State.submitValve, if_neg (by simp [hvalve]), if_neg (by simp [hnormal, hactive]), if_neg (by simp [hpf]),
    if_neg (by simp [hboth]), if_pos hmoves]

/-- With an idle bridge a command to another position is accepted at once. -/
theorem State.submitValve_idle (hmoving : s.bridge.moving = none) (hqueue : s.bridge.queue = [])
    (hpos : (s.ch n).a.valve.position ≠ dir) :
    s.submitValve n dir source = (s.valveQueued n dir source, .ok, s.bridge.next) := by
  have hmoves : s.bridge.moves n = false := by rw [Bridge.moves, hmoving]
  have hqueued : s.bridge.queued n = none := by rw [Bridge.queued, hqueue]; rfl
  rw [State.submitValve, if_neg (by simp [hvalve]), if_neg (by simp [hnormal, hactive]), if_neg (by simp [hpf]),
    if_neg (by simp [hboth]), if_neg (by simp [hmoves])]
  dsimp only
  rw [if_neg (fun h => hpos h.1), hqueued]
  dsimp only
  rw [if_pos (by simp [hmoving, hqueue])]
  rfl

end

theorem State.valveQueued_bridge (n dir source : Nat) (s : State) : (s.valveQueued n dir source).bridge =
    { s.bridge with
      queue := s.bridge.queue ++ [{ ch := n, dir := dir, source := source, ticket := s.bridge.next }]
      next := s.bridge.next + 1 } := rfl

theorem State.valveQueued_moves (n dir source : Nat) (s : State) : Moves [.chans, .bridge] s (s.valveQueued n dir source) :=
  (State.onValve_moves _ _ _).after <| (State.onBridge_moves _ _).after <| (State.onValve_moves _ _ _).after
    (State.onBridge_moves s _).alone

section
variable {n : Nat} (hn : 1 ≤ n) (hn40 : n ≤ 40)
include hn hn40

theorem State.valveQueued_othersSame (dir source : Nat) (s : State) : OthersSame n s (s.valveQueued n dir source) := by
  refine OthersSame.trans (OthersSame.trans ?_ (.of_chans (State.onBridge_chans _ _))) (State.onValve_othersSame hn hn40 _ _)
  exact OthersSame.trans (.of_chans (State.onBridge_chans s _)) (State.onValve_othersSame hn hn40 _ _)

theorem State.valveQueued_valve (dir source : Nat) (s : State) : ((s.valveQueued n dir source).ch n).a.valve =
    { (s.ch n).a.valve with pending := dir, source := source, ticket := s.bridge.next } := by
  rw [State.valveQueued, State.onValve_a hn hn40, State.onBridge_ch, State.onValve_a hn hn40, State.onBridge_ch]

end

section
variable {s : State} {k n dir : Nat} (now : Now) (hk : k < 24) (hland : s.canLand = true)
  (hmirror : s.mirrorDone 0x250000 (s.ctx k).since now.ms = true) (hrun : s.runs k 0x10 = true)
  (hn : (s.drain.ctx k).identity = n) (hdir : fieldAt (s.drain.ctx k).args 0 1 = dir)
include hk hland hmirror hrun hn hdir

/-- VALVE without a channel, or without a direction (R276). -/
theorem exec_cmdValve_badArg (h : n = 0 ∨ dir = 0 ∨ 2 < dir) : exec (.cmdValve now k) s = .next (s.drain.doneCtx k 4 []) := by
  subst hn hdir
  show execCmdValve now k s = _
  rw [execCmdValve, if_neg (Nat.not_le.mpr hk), if_neg (by simp [hrun]), State.floorLanded_some hland hmirror]
  exact if_pos h

variable (hok : ¬ (n = 0 ∨ dir = 0 ∨ 2 < dir))
include hok

theorem exec_cmdValve_noValve (h : (s.cfg n).hasValve = false) : exec (.cmdValve now k) s = .next (s.drain.doneCtx k 4 []) := by
  have hsubmit : s.drain.submitValve n dir 1 = (s.drain, .badArg, 0) := State.submitValve_noValve dir 1 h
  subst hn hdir
  show execCmdValve now k s = _
  rw [execCmdValve, if_neg (Nat.not_le.mpr hk), if_neg (by simp [hrun]), State.floorLanded_some hland hmirror]
  dsimp only
  rw [if_neg hok, hsubmit]

variable (hprepay : s.prepay n = none)
include hprepay

/-- A command of a channel without prepayment that the bridge refuses. -/
theorem exec_cmdValve_refused {a : ValveAnswer} (h : s.drain.submitValve n dir 1 = (s.drain, a, 0))
    (ha : a = .busy ∨ a = .notInState) : exec (.cmdValve now k) s = .next (s.drain.doneCtx k a.result []) := by
  have hpolicy : s.drain.policy n = s.drain := State.policy_unprepaid hprepay
  subst hn hdir
  show execCmdValve now k s = _
  rw [execCmdValve, if_neg (Nat.not_le.mpr hk), if_neg (by simp [hrun]), State.floorLanded_some hland hmirror]
  dsimp only
  rw [if_neg hok, h]
  rcases ha with rfl | rfl
  · dsimp only
    rw [hpolicy]
    rfl
  · dsimp only
    rw [hpolicy]
    rfl

/-- A command of a channel without prepayment that the bridge accepts at once. -/
theorem exec_cmdValve_accepted {t : State} {ticket : Nat} (h : s.drain.submitValve n dir 1 = (t, .ok, ticket))
    (ht : t.prepay n = none) : exec (.cmdValve now k) s = .next (t.doneCtx k 0 (le 4 ticket)) := by
  have hdrain : (s.drain.prepay n).isNone = true := by
    rw [show s.drain.prepay n = s.prepay n from rfl, hprepay]
    rfl
  subst hn hdir
  show execCmdValve now k s = _
  rw [execCmdValve, if_neg (Nat.not_le.mpr hk), if_neg (by simp [hrun]), State.floorLanded_some hland hmirror]
  dsimp only
  rw [if_neg hok, h]
  dsimp only
  rw [if_pos hdrain, State.policy_unprepaid ht]

end

/-! ### Tokens -/

theorem Word.bit_eq_testBit (v k : Nat) : Word.bit v k = v.testBit k := by
  rw [Word.bit, Nat.testBit_eq_decide_div_mod_eq, beq_eq_decide]

/-- A token that has been applied is a duplicate from then on (R319). -/
theorem CreditState.markApplied_duplicate {c : CreditState} {serial : Nat} (h : c.duplicate serial = false) :
    (c.markApplied serial).duplicate serial = true := by
  rw [CreditState.markApplied]
  split
  · rw [CreditState.duplicate, if_neg (lt_irrefl serial)]
    dsimp only
    rw [if_pos (.inl (Nat.sub_self serial))]
  · rename_i hlow
    rw [CreditState.duplicate, if_neg hlow] at h ⊢
    dsimp only at h ⊢
    split at h
    · cases h
    · rename_i hnear
      rw [if_neg hnear, Word.bit_eq_testBit, Nat.testBit_mod_two_pow, Nat.testBit_or, Nat.testBit_two_pow_self, Bool.or_true,
        Bool.and_true]
      simp only [decide_eq_true_eq]
      omega

section
variable (grace amount : Int) (serial : Nat) (c : CreditState)

theorem CreditState.topUp_credit : (c.topUp grace serial amount).credit = c.credit + amount := rfl

theorem CreditState.topUp_topups : (c.topUp grace serial amount).topups = (c.topups + 1) % 2 ^ 32 := rfl

theorem CreditState.topUp_tokenHigh (h : c.tokenHigh < serial) : (c.topUp grace serial amount).tokenHigh = serial := by
  show (c.markApplied serial).tokenHigh = serial
  rw [CreditState.markApplied, if_pos h]

theorem CreditState.topUp_duplicate (h : c.duplicate serial = false) : (c.topUp grace serial amount).duplicate serial = true :=
  CreditState.markApplied_duplicate h

end

/-- A token that passes its checks has not been applied before. -/
theorem State.checkToken_fresh {identity : Nat} {t : List Byte} {s : State} (h : s.checkToken identity t = 0) :
    (s.ch (fieldAt t 4 1)).a.credit.duplicate (fieldAt t 0 4) = false := by
  by_contra hdup
  rw [Bool.not_eq_false] at hdup
  unfold State.checkToken at h
  simp only [hdup, if_true] at h
  repeat' split at h
  all_goals exact absurd h (by decide)

/-- An accepted token applied in both datapaths, its TOTALS record queued, and the token kept until that has landed (R320). -/
def State.toppedUp (n serial : Nat) (amount : Int) (ms : Nat) (s : State) : State :=
  let s1 := s.onCredit n fun c => c.topUp (((s.prepay n).map (·.grace)).getD 0) serial amount
  (s1.enqueue (totalsRec n (s1.ch n).a)).onCh n fun c => { c with
    token := some (serial, amount, ms), shown := { c.shown with credit := creditWord true c.a.credit } }

section
variable {s : State} {k n : Nat} (now : Now) (hk : k < 24) (hrun : s.runs k 0x11 = true)
  (hn : fieldAt (s.ctx k).args 4 1 = n) (hnone : ∀ m, 1 ≤ m → m ≤ 40 → m = n → (s.ch m).token = none)
include hk hrun hn hnone

/-- No token of the channel waits. -/
theorem exec_cmdTopup_checked : exec (.cmdTopup now k) s =
    .next (if s.checkToken (s.ctx k).identity (s.ctx k).args ≠ 0 then
      (s.event 0x92 (if n ≤ 40 then n else 0) (le 4 (fieldAt (s.ctx k).args 0 4) ++
        le 1 (s.checkToken (s.ctx k).identity (s.ctx k).args))).doneCtx k (s.checkToken (s.ctx k).identity (s.ctx k).args) []
    else s.toppedUp n (fieldAt (s.ctx k).args 0 4) (fieldInt (s.ctx k).args 8 8) now.ms) := by
  subst hn
  have hidle : ¬ (allCh.any fun m => (s.ch m).token.isSome && m == fieldAt (s.ctx k).args 4 1) = true := by
    rw [List.any_eq_true]
    rintro ⟨m, hm, h⟩
    obtain ⟨hm1, hm40⟩ := mem_allCh.mp hm
    rw [Bool.and_eq_true, beq_iff_eq] at h
    obtain ⟨hsome, hmn⟩ := h
    rw [hnone m hm1 hm40 hmn] at hsome
    cases hsome
  show execCmdTopup now k s = _
  rw [execCmdTopup, if_neg (Nat.not_le.mpr hk), if_neg (by simp [hrun])]
  dsimp only
  rw [if_neg hidle, apply_ite Host.Outcome.next]
  rfl

end

theorem State.toppedUp_moves (n serial : Nat) (amount : Int) (ms : Nat) (s : State) :
    Moves [.chans, .queue, .pair] s (s.toppedUp n serial amount ms) :=
  (State.onCh_moves _ _ _).after ((State.enqueue_moves _ _).after (State.onCredit_moves n _ s).alone)

section
variable {n : Nat} (hn : 1 ≤ n) (hn40 : n ≤ 40) (serial : Nat) (amount : Int) (ms : Nat) (s : State)
include hn hn40

theorem State.onCredit_ch_same (f : CreditState → CreditState) :
    (s.onCredit n f).ch n = (s.ch n).onWork fun w => { w with credit := f w.credit } := State.onCh_ch_same hn hn40 s _

theorem State.toppedUp_ch : (s.toppedUp n serial amount ms).ch n =
    let c := (s.ch n).onWork fun w =>
      { w with credit := w.credit.topUp (((s.prepay n).map (·.grace)).getD 0) serial amount }
    { c with token := some (serial, amount, ms), shown := { c.shown with credit := creditWord true c.a.credit } } := by
  rw [State.toppedUp, State.onCh_ch_same hn hn40, ch_congr (State.enqueue_chans _ _), State.onCredit_ch_same hn hn40]

theorem State.toppedUp_othersSame : OthersSame n s (s.toppedUp n serial amount ms) :=
  ((State.onCh_othersSame hn hn40 s _).trans (.of_chans (State.enqueue_chans _ _))).trans (State.onCh_othersSame hn hn40 _ _)

theorem State.toppedUp_queue : (s.toppedUp n serial amount ms).mem.queue =
    s.mem.queue ++ [totalsRec n ((s.toppedUp n serial amount ms).ch n).a] := by
  rw [State.toppedUp_ch hn hn40]
  dsimp only
  rw [State.toppedUp, State.onCh_mem, State.enqueue_queue, State.onCredit_ch_same hn hn40]
  rfl

end

/-! ### The credit policy keeps credit and token -/

/-- From s to t the other channels agree, and channel n keeps its credit and the token that waits. -/
def State.CreditKept (n : Nat) (s t : State) : Prop :=
  OthersSame n s t ∧ (t.ch n).token = (s.ch n).token ∧ (t.ch n).a.credit.credit = (s.ch n).a.credit.credit

section
variable {n : Nat} {s t u : State}

theorem State.CreditKept.refl (n : Nat) (s : State) : State.CreditKept n s s := ⟨.refl n s, rfl, rfl⟩

theorem State.CreditKept.trans (h : State.CreditKept n s t) (k : State.CreditKept n t u) : State.CreditKept n s u := by
  obtain ⟨hothers, htoken, hcredit⟩ := h
  obtain ⟨kothers, ktoken, kcredit⟩ := k
  exact ⟨hothers.trans kothers, ktoken.trans htoken, kcredit.trans hcredit⟩

theorem State.CreditKept.ite {c : Prop} [Decidable c] (h : State.CreditKept n s t) (k : State.CreditKept n s u) :
    State.CreditKept n s (if c then t else u) := by
  split
  · exact h
  · exact k

theorem State.CreditKept.of_chans (h : t.chans = s.chans) : State.CreditKept n s t :=
  ⟨.of_chans h, by rw [ch_congr h], by rw [ch_congr h]⟩

end

section
variable {n : Nat} (hn : 1 ≤ n) (hn40 : n ≤ 40)
include hn hn40

theorem State.onValve_creditKept (f : ValveState → ValveState) (s : State) : State.CreditKept n s (s.onValve n f) := by
  refine ⟨State.onValve_othersSame hn hn40 s f, ?_, ?_⟩
  · rw [State.onValve_ch_same hn hn40]
    rfl
  · rw [State.onValve_a hn hn40]

theorem State.onCredit_creditKept (f : CreditState → CreditState) (hf : ∀ c, (f c).credit = c.credit) (s : State) :
    State.CreditKept n s (s.onCredit n f) := by
  refine ⟨State.onCh_othersSame hn hn40 s _, ?_, ?_⟩
  · rw [State.onCredit_ch_same hn hn40]
    rfl
  · rw [State.onCredit_ch_same hn hn40]
    exact hf _

theorem State.submitValve_creditKept (dir source : Nat) (s : State) : State.CreditKept n s (s.submitValve n dir source).1 := by
  unfold State.submitValve
  extract_lets v t s1 idle
  have hbridge (f : Bridge → Bridge) (u : State) : State.CreditKept n u (u.onBridge f) := .of_chans rfl
  have h1 : State.CreditKept n s s1 := (hbridge _ s).trans (State.onValve_creditKept hn hn40 _ _)
  have hput (f : Bridge → Bridge) (g : ValveState → ValveState) : State.CreditKept n s ((s1.onBridge f).onValve n g) :=
    (h1.trans (hbridge f s1)).trans (State.onValve_creditKept hn hn40 g _)
  simp only [apply_ite Prod.fst]
  refine .ite (.refl n s) (.ite (.refl n s) (.ite (.refl n s) (.ite (.refl n s) (.ite (.refl n s) (.ite h1 ?_)))))
  split
  · exact hput _ _
  · exact hput _ _

theorem State.policySubmit_creditKept (dir : Nat) (ok wait : Nat → Nat) (s : State) :
    State.CreditKept n s (s.policySubmit n dir ok wait) := by
  unfold State.policySubmit
  extract_lets r c s1
  have hr : State.CreditKept n s r.1 := State.submitValve_creditKept hn hn40 dir 2 s
  have h1 : State.CreditKept n s s1 := hr.trans (.of_chans (State.event_chans _ _ _ _))
  have hflags (g : Nat → Nat) (u : State) : State.CreditKept n u (u.onCredit n fun c => { c with cflags := g c.cflags }) :=
    State.onCredit_creditKept hn hn40 (fun c => { c with cflags := g c.cflags }) (fun _ => rfl) u
  split
  · exact h1.trans (hflags ok s1)
  · exact h1.trans (hflags ok s1)
  · exact hr.trans (hflags wait r.1)
  · exact hr.trans (hflags wait r.1)
  · exact hr

theorem State.policy_creditKept (s : State) : State.CreditKept n s (s.policy n) := by
  have hsubmit (dir : Nat) (ok wait : Nat → Nat) (u : State) := State.policySubmit_creditKept hn hn40 dir ok wait u
  unfold State.policy
  extract_lets c lock out forced closed
  refine .ite (.refl n s) ?_
  split
  · exact .ite (hsubmit _ _ _ s) (.ite (hsubmit _ _ _ s) (.refl n s))
  · extract_lets s1
    have h1 : State.CreditKept n s s1 := .ite (.refl n s)
      ((State.CreditKept.of_chans (State.event_chans _ _ _ _)).trans
        (State.onCredit_creditKept hn hn40 (fun c => { c with cflags := setBit c.cflags 4 }) (fun _ => rfl) _))
    exact .ite (.ite (h1.trans (hsubmit _ _ _ s1)) h1) (.ite (hsubmit _ _ _ s) (.refl n s))

end

/-! ### TOPUP_ANSWER -/

/-- The token's commit has landed: the token goes, its top-up is logged, and the policy follows (R320, R322). -/
def State.topupDone (n serial : Nat) (amount : Int) (s : State) : State :=
  (((s.drain.onCh n fun c => { c with token := none }).event 0x91 n (le 4 serial ++ leInt 8 amount)).policy n)

theorem State.topupDone_moves (n serial : Nat) (amount : Int) (s : State) :
    Moves [.hoard, .queue, .marks, .log, .chans, .bridge, .pair, .radio] s (s.topupDone n serial amount) :=
  (State.policy_moves _ _).after ((State.event_moves _ _ _ _).after ((State.onCh_moves _ _ _).after s.drain_moves.alone))

theorem State.topupDone_effect {n : Nat} (hn : 1 ≤ n) (hn40 : n ≤ 40) (serial : Nat) (amount : Int) (s : State) :
    OthersSame n s (s.topupDone n serial amount) ∧ ((s.topupDone n serial amount).ch n).token = none ∧
      ((s.topupDone n serial amount).ch n).a.credit.credit = (s.ch n).a.credit.credit := by
  have hfreed : (s.drain.onCh n fun c => { c with token := none }).ch n = { s.ch n with token := none } :=
    State.onCh_ch_same hn hn40 s.drain _
  have hlogged : State.CreditKept n (s.drain.onCh n fun c => { c with token := none }) (s.topupDone n serial amount) :=
    (State.CreditKept.of_chans (State.event_chans _ _ _ _)).trans (State.policy_creditKept hn hn40 _)
  obtain ⟨hothers, htoken, hcredit⟩ := hlogged
  rw [hfreed] at htoken hcredit
  exact ⟨(State.onCh_othersSame hn hn40 s.drain _).trans hothers, htoken, hcredit⟩

theorem exec_topupAnswer_token {s : State} {k n t0 : Nat} {amount : Int} (now : Now) (hk : k < 24) (hland : s.canLand = true)
    (hrun : s.runs k 0x11 = true) (hn : fieldAt (s.ctx k).args 4 1 = n)
    (htoken : (s.ch n).token = some (fieldAt (s.ctx k).args 0 4, amount, t0)) : exec (.topupAnswer now k) s =
      .next (if s.mirrorDone (totalsAddr n) t0 now.ms = false then s
        else (s.topupDone n (fieldAt (s.ctx k).args 0 4) amount).doneCtx k 0 []) := by
  subst hn
  show execTopupAnswer now k s = _
  rw [execTopupAnswer, if_neg (Nat.not_le.mpr hk), if_neg (by simp [hrun, hland])]
  dsimp only
  rw [htoken]
  dsimp only
  cases s.mirrorDone (totalsAddr (fieldAt (s.ctx k).args 4 1)) t0 now.ms
  · rw [if_pos (.inr rfl), if_pos rfl]
  · rw [if_neg (by simp), if_neg (by simp)]
    rfl

end Sys2Proof.Machine
end

section
/-! SET_TIME and ADJUST_TIME, and the six remote commands together (R335, R337, R343, R401, R408). -/

set_option Elab.async false

namespace Sys2Proof.Machine

/-! ### SET_TIME -/

section
variable (source raw : Nat) {new : Nat} {s : State}

/-- A time below the highest count leaves OSF clear (R344, R345). -/
theorem State.applyTime_osf_cleared (h : new < 12622780799) : (s.applyTime new source raw).rtc.osf = false := by
  by_cases hsame : s.rtc.osf = false ∧ new = s.rtc.count
  · rw [State.applyTime_unchanged new source raw s hsame.1 hsame.2]
    exact hsame.1
  · rw [State.applyTime_changed new source raw s (osf_or_changed hsame), if_neg (Nat.not_le.mpr h), State.timeLogged_rtc]
    rfl

/-- A step to the highest count sets OSF (R335). -/
theorem State.applyTime_osf_set (htop : new = 12622780799) (hstep : s.rtc.count ≠ new) :
    (s.applyTime new source raw).rtc.osf = true := by
  rw [State.applyTime_changed new source raw s (.inr hstep.symm), if_pos (Nat.le_of_eq htop.symm)]
  rfl

end

section
variable {s : State} {k : Nat} (now : Now) (hk : k < 24) (hland : s.canLand = true)
  (hmirror : s.mirrorDone 0x250000 (s.ctx k).since now.ms = true)
include hk hland hmirror

theorem exec_cmdSetTime_landed {c : Nat} (hrun : s.runs k 0x20 = true) (hc : fieldAt (s.drain.ctx k).args 0 5 = c) :
    exec (.cmdSetTime now k) s = .next (if s.timeChanges = false then s.drain.doneCtx k 2 []
      else if 12622780799 < c then s.drain.doneCtx k 4 []
      else (s.drain.applyTime c 1 now.sub).doneCtx k 0 (le 5 s.rtc.count)) := by
  have hchanges : s.drain.timeChanges = s.timeChanges := rfl
  subst hc
  show execCmdSetTime now k s = _
  rw [execCmdSetTime, if_neg (Nat.not_le.mpr hk), if_neg (by simp [hrun]), State.floorLanded_some hland hmirror]
  dsimp only
  rw [hchanges, apply_ite Host.Outcome.next, apply_ite Host.Outcome.next]
  cases s.timeChanges <;> rfl

/-! ### ADJUST_TIME -/

theorem exec_cmdAdjustTime_landed {a : Int} (hrun : s.runs k 0x21 = true) (ha : fieldInt (s.drain.ctx k).args 0 4 = a) :
    exec (.cmdAdjustTime now k) s = .next (if s.timeChanges = false then s.drain.doneCtx k 2 []
      else if a = 0 then (s.drain.onRtc fun r => { r with slew := 0, slewPhase := 0 }).doneCtx k 0 []
      else if s.rtc.slewOk a then (s.drain.onRtc fun r => r.startSlew a 1).doneCtx k 0 []
      else s.drain.doneCtx k (if s.rtc.osf = true ∨ s.rtc.slew ≠ 0 then 2 else 4) []) := by
  have hchanges : s.drain.timeChanges = s.timeChanges := rfl
  subst ha
  show execCmdAdjustTime now k s = _
  rw [execCmdAdjustTime, if_neg (Nat.not_le.mpr hk), if_neg (by simp [hrun]), State.floorLanded_some hland hmirror]
  dsimp only
  rw [hchanges, apply_ite Host.Outcome.next, apply_ite Host.Outcome.next, apply_ite Host.Outcome.next]
  cases s.timeChanges <;> rfl

end

/-- Settles O54: each command by what it leaves in its context and in the part of the state that it acts on. -/
theorem remoteCommandsExecuteInTheirContext : Obligations.RemoteCommandsExecuteInTheirContext := by
  unfold Obligations.RemoteCommandsExecuteInTheirContext
  intro done
  refine ⟨fun s now k hk => ⟨exec_cmdStatus_unrun hk, exec_cmdReadHoard_unrun hk, fun h => exec_cmdValve_waits hk now (.inl h),
      fun h => ⟨exec_cmdTopup_unrun hk now h, exec_topupAnswer_unrun hk now (.inl h)⟩,
      fun h => exec_cmdSetTime_waits hk now (.inl h), fun h => exec_cmdAdjustTime_waits hk now (.inl h),
      fun h => exec_topupAnswer_unrun hk now (.inr h), fun h => ?waits⟩,
    State.mirrorDone_iff, fun s k hk => ⟨fun hrun => ?status, fun hrun => ?readHoard⟩,
    fun s now k hk hland hmirror hrun => ?valve, fun s now k hk hrun => ?topup,
    fun s now k t0 amount hk hland hrun => ?answer,
    fun s now k hk hland hmirror => ⟨fun hrun => ?setTime, fun hrun => ?adjust⟩⟩
  case waits =>
    have hfloor := State.floorLanded_none h
    exact ⟨exec_cmdValve_waits hk now (.inr hfloor), exec_cmdSetTime_waits hk now (.inr hfloor),
      exec_cmdAdjustTime_waits hk now (.inr hfloor)⟩
  case status =>
    exact ⟨_, exec_cmdStatus_runs hk hrun, (State.doneCtx_moves _ _ _ s).1, State.doneCtx_executed hk _ _ rfl⟩
  case readHoard =>
    intro a n
    have hexec := exec_cmdReadHoard_runs hk hrun (a := a) (n := n) rfl rfl
    refine ⟨fun hn hn128 ha han => ?inRange, fun hrange => ?outOfRange⟩
    case inRange =>
      rw [if_neg (by omega)] at hexec
      have hread := State.hoardRead_moves a n 8 s
      exact ⟨_, hexec, ((State.doneCtx_moves _ _ _ _).after hread.alone).1, State.doneCtx_executed hk _ _ (hread.same .sess rfl)⟩
    case outOfRange =>
      rw [if_pos hrange] at hexec
      exact ⟨_, hexec, (State.doneCtx_moves _ _ _ s).1, State.doneCtx_executed hk _ _ rfl⟩
  case valve =>
    intro n dir v
    obtain ⟨t, ht⟩ := (execCmdValve_meets now k s).completes.1 (decide_eq_true hk)
    have answered {u : State} (h : exec (.cmdValve now k) s = .next u) : u = t := Host.Outcome.next.inj (h.symm.trans ht)
    have refused (result : Nat) : done s (s.drain.doneCtx k result []) k result [] ∧
        (s.drain.doneCtx k result []).chans = s.chans ∧ (s.drain.doneCtx k result []).bridge = s.bridge :=
      ⟨State.doneCtx_executed hk _ _ rfl, rfl, rfl⟩
    refine ⟨t, ht, fun hbad => ?badArg, fun hn hn40 hdir hdir2 hvalve hprepay => ?valid⟩
    case badArg =>
      by_cases hzero : n = 0 ∨ dir = 0 ∨ 2 < dir
      · rw [← answered (exec_cmdValve_badArg now hk hland hmirror hrun rfl rfl hzero)]
        exact refused 4
      · have hvalve : (s.cfg n).hasValve = false := by tauto
        rw [← answered (exec_cmdValve_noValve now hk hland hmirror hrun rfl rfl hzero hvalve)]
        exact refused 4
    case valid =>
      have hok : ¬ (n = 0 ∨ dir = 0 ∨ 2 < dir) := by omega
      have hrefuse {a : ValveAnswer} := exec_cmdValve_refused (a := a) now hk hland hmirror hrun rfl rfl hok hprepay
      refine ⟨fun hstate => ?notInState, fun hnormal hactive hpf => ?powerFail, fun hnormal hactive hpf hboth =>
        ⟨fun hmoves => ?moving, fun hmoving hqueue hpos => ?queued⟩⟩
      case notInState =>
        rw [← answered (hrefuse (State.submitValve_notInState (s := s.drain) dir 1 hvalve hstate) (.inr rfl))]
        exact refused 2
      case powerFail =>
        rw [← answered (hrefuse (State.submitValve_powerFail (s := s.drain) dir 1 hvalve hnormal hactive hpf) (.inl rfl))]
        exact refused 1
      case moving =>
        rw [← answered (hrefuse (State.submitValve_moving (s := s.drain) dir 1 hvalve hnormal hactive hpf hboth hmoves) (.inl rfl))]
        exact refused 1
      case queued =>
        have hsubmit := State.submitValve_idle (s := s.drain) dir 1 hvalve hnormal hactive hpf hboth hmoving hqueue hpos
        have hmoves := State.valveQueued_moves n dir 1 s.drain
        rw [← answered (exec_cmdValve_accepted now hk hland hmirror hrun rfl rfl hok hprepay hsubmit hprepay)]
        have hbridge := State.valveQueued_bridge n dir 1 s.drain
        rw [show s.drain.bridge = s.bridge from rfl, hqueue, List.nil_append] at hbridge
        exact ⟨State.doneCtx_executed hk _ _ (hmoves.same .sess rfl), State.valveQueued_othersSame hn hn40 dir 1 s.drain, hbridge,
          State.valveQueued_valve hn hn40 dir 1 s.drain⟩
  case topup =>
    intro args n serial amount hnone
    have hexec := exec_cmdTopup_checked now hk hrun (n := n) rfl hnone
    refine ⟨fun hrefused => ?refused, fun haccepted hn hn40 => ?accepted⟩
    case refused =>
      rw [if_pos hrefused] at hexec
      exact ⟨_, hexec, State.event_chans _ _ _ _, State.doneCtx_executed hk _ _ (State.event_sess s _ _ _)⟩
    case accepted =>
      rw [if_neg (not_not.mpr haccepted)] at hexec
      have hch := State.toppedUp_ch hn hn40 serial amount now.ms s
      have ha := congrArg (fun c : Chan => c.a.credit) hch
      refine ⟨_, hexec, ?_, ?_, ?_, fun hhigh => ?_, ?_, ?_, State.toppedUp_othersSame hn hn40 serial amount now.ms s,
        (State.toppedUp_moves n serial amount now.ms s).same .sess rfl,
        fun _ => State.toppedUp_queue hn hn40 serial amount now.ms s⟩
      · exact (congrArg CreditState.credit ha).trans (CreditState.topUp_credit _ amount serial _)
      · exact congrArg (fun c : Chan => c.b.credit.credit) hch
      · exact (congrArg CreditState.topups ha).trans (CreditState.topUp_topups _ amount serial _)
      · exact (congrArg CreditState.tokenHigh ha).trans (CreditState.topUp_tokenHigh _ amount serial _ hhigh)
      · exact (congrArg (CreditState.duplicate · serial) ha).trans
          (CreditState.topUp_duplicate _ amount serial _ (State.checkToken_fresh haccepted))
      · exact congrArg Chan.token hch
  case answer =>
    intro n hn hn40 htoken
    have hexec := exec_topupAnswer_token now hk hland hrun rfl htoken
    refine ⟨fun hwait => ?waiting, fun hdone => ?landed⟩
    case waiting =>
      rw [if_pos hwait] at hexec
      exact hexec
    case landed =>
      rw [if_neg ((Bool.not_eq_false _).mpr hdone)] at hexec
      obtain ⟨hothers, hgone, hcredit⟩ := State.topupDone_effect hn hn40 (fieldAt (s.ctx k).args 0 4) amount s
      have hmoves := State.topupDone_moves n (fieldAt (s.ctx k).args 0 4) amount s
      refine ⟨_, hexec, State.doneCtx_executed hk _ _ (hmoves.same .sess rfl), ?_,
        hothers.trans (.of_chans (State.doneCtx_chans _ _ _ _)), ?_⟩
      · rw [State.doneCtx_ch]
        exact hgone
      · rw [State.doneCtx_ch]
        exact hcredit
  case setTime =>
    intro c
    have hexec := exec_cmdSetTime_landed now hk hland hmirror hrun (c := c) rfl
    have hanswered (result : Nat) : done s (s.drain.doneCtx k result []) k result [] := State.doneCtx_executed hk _ _ rfl
    refine ⟨_, hexec, fun hfixed => ?fixed, fun hchanges htop => ?tooHigh, fun hchanges htop => ?set⟩
    case fixed =>
      rw [if_pos hfixed]
      exact ⟨hanswered 2, rfl⟩
    case tooHigh =>
      rw [if_neg (by simp [hchanges]), if_pos htop]
      exact ⟨hanswered 4, rfl⟩
    case set =>
      rw [if_neg (by simp [hchanges]), if_neg (Nat.not_lt.mpr htop)]
      obtain ⟨hcount, -, -, -, hsub⟩ := State.applyTime_rtc c 1 now.sub s.drain
      exact ⟨State.doneCtx_executed hk _ _ ((State.applyTime_moves c 1 now.sub s.drain).same .sess rfl), hcount, hsub,
        State.applyTime_osf_cleared 1 now.sub, State.applyTime_osf_set 1 now.sub (s := s.drain)⟩
  case adjust =>
    intro a
    have hexec := exec_cmdAdjustTime_landed now hk hland hmirror hrun (a := a) rfl
    have hanswered (result : Nat) : done s (s.drain.doneCtx k result []) k result [] := State.doneCtx_executed hk _ _ rfl
    have hadjusted (f : Rtc → Rtc) : done s ((s.drain.onRtc f).doneCtx k 0 []) k 0 [] :=
      State.doneCtx_executed hk _ _ rfl
    refine ⟨_, hexec, fun hfixed => ?fixed, fun hchanges => ⟨fun hzero => ?cancelled, fun hne hbusy => ?busy,
      fun hne hosf hslew => ⟨fun hsize hday => ?started, fun hlarge => ?tooLarge⟩⟩⟩
    case fixed =>
      rw [if_pos hfixed]
      exact ⟨hanswered 2, rfl⟩
    all_goals rw [if_neg (by simp [hchanges])]
    case cancelled =>
      rw [if_pos hzero]
      exact ⟨hadjusted _, rfl⟩
    case busy =>
      have hno : ¬ s.rtc.slewOk a = true := by
        rw [Rtc.slewOk_iff]
        rintro ⟨-, hosf, hslew, -⟩
        simp [hosf, hslew] at hbusy
      rw [if_neg hne, if_neg hno, if_pos hbusy]
      exact ⟨hanswered 2, rfl⟩
    case started =>
      rw [if_neg hne, if_pos ((Rtc.slewOk_iff _ _).mpr ⟨hsize, hosf, hslew, hday⟩)]
      exact ⟨hadjusted _, rfl, rfl⟩
    case tooLarge =>
      have hno : ¬ s.rtc.slewOk a = true := by
        rw [Rtc.slewOk_iff]
        omega
      rw [if_neg hne, if_neg hno, if_neg (by simp [hosf, hslew])]
      exact ⟨hanswered 4, rfl⟩

end Sys2Proof.Machine
end

section
/-! An empty queue, and the memories under every step (log entry 1, R446, R447, R565, R595). -/

set_option Elab.async false

namespace Sys2Proof.Machine

theorem step_idle {s : State} (h : s.pending = []) : step s = .next s := by
  rw [step, h]

/-- Settles O2: an empty queue has no command to run. -/
theorem emptyQueueIdles : Obligations.EmptyQueueIdles := by
  unfold Obligations.EmptyQueueIdles
  intro s h
  exact step_idle h

/-- Settles O5: a step idles or is `exec` of the front command, which keeps the memories canonical by `exec_moves`. -/
theorem everyStepKeepsMemoriesCanonical : Obligations.EveryStepKeepsMemoriesCanonical := by
  unfold Obligations.EveryStepKeepsMemoriesCanonical
  intro s t hs h
  cases hq : s.pending with
  | nil =>
    rw [step_idle hq, Host.Outcome.next.injEq] at h
    exact h ▸ hs
  | cons c rest =>
    rw [step, hq] at h
    obtain ⟨-, hmem⟩ := exec_moves h
    exact hmem hs

end Sys2Proof.Machine
end

section
/-! Frames of the host link: what is posted, what is read, and what is only counted (R437 to R450, R463). -/

set_option Elab.async false

namespace Sys2Proof.Machine

/-! ### Posted writes -/

/-- Checks 6 to 8 of R442 in their order, and the entry (R449). -/
theorem State.postWrite_eq (cmd a : Nat) (data : List Byte) (s : State) : s.postWrite cmd a data =
    if (writtenRegs cmd a data.length).any (fun x => !s.mayWrite x) then
      (if (writtenRegs cmd a data.length).any (fun x => !s.mayWrite x && rtcSetReg x) then s.badWrite else s).sendResponse 3 []
    else if s.pwr.pfActive then s.sendResponse 1 []
    else if 16 ≤ s.hl.wbuf.length then (s.hlRaise 19).sendResponse 1 []
    else (s.onHl fun h =>
      { h with wbuf := h.wbuf ++ [{ addr := if cmd = 2 then 0x400000 + a else a, data := data }] }).sendResponse 0 [] := by
  simp only [State.postWrite, isEmpty_filter, Bool.not_not, List.any_filter]

theorem exec_regWrite_good {s : State} {now : Now} {f : HostFrame} (h : s.goodFrame 2 f = true) :
    exec (.regWrite now f) s = .next ((s.heard now).postWrite 2 (f.addr % 2 ^ 24) f.data) :=
  congrArg Host.Outcome.next (takeFrame_good h)

theorem exec_memWrite_good {s : State} {now : Now} {f : HostFrame} (h : s.goodFrame 4 f = true) :
    exec (.memWrite now f) s = .next ((s.heard now).postWrite 4 (f.addr % 2 ^ 24) f.data) :=
  congrArg Host.Outcome.next (takeFrame_good h)

/-- A write outside the register file reaches no register. -/
theorem writtenRegs_memory {a : Nat} (h : a < 0x400000 ∨ 0x400800 ≤ a) (n : Nat) : writtenRegs 4 a n = [] := by
  rw [writtenRegs, if_neg (by decide), if_neg (by omega)]

/-- Settles O17: both frames are `postWrite` on the state that has heard them, and outside the register file no register is reached. -/
theorem postedWritesWaitInTheWriteBuffer : Obligations.PostedWritesWaitInTheWriteBuffer := by
  unfold Obligations.PostedWritesWaitInTheWriteBuffer
  refine ⟨fun s now f h => ?regWrite, fun s now f h hout => ?memWrite⟩
  case regWrite =>
    rw [exec_regWrite_good h, State.postWrite_eq]
    rfl
  case memWrite =>
    rw [exec_memWrite_good h, State.postWrite_eq, writtenRegs_memory hout]
    rfl

/-! ### Reads -/

theorem exec_regRead_good {s : State} {now : Now} {f : HostFrame} (h : s.goodFrame 1 f = true) :
    exec (.regRead now f) s = .next ((s.heard now).readBehind (0x400000 + f.addr % 2 ^ 24) (f.len % 65536) now) :=
  congrArg Host.Outcome.next (takeFrame_good h)

theorem exec_memRead_good {s : State} {now : Now} {f : HostFrame} (h : s.goodFrame 3 f = true) :
    exec (.memRead now f) s = .next ((s.heard now).readBehind (f.addr % 2 ^ 24) (f.len % 65536) now) :=
  congrArg Host.Outcome.next (takeFrame_good h)

theorem State.goodFrame_spec {s : State} {cmd : Nat} {f : HostFrame} (h : s.goodFrame cmd f = true) :
    s.hostServed = true ∧ s.linkBusy = false ∧ s.rangeOk cmd (f.addr % 2 ^ 24) (f.len % 65536) = true := by
  simp only [State.goodFrame, Bool.and_eq_true, Bool.not_eq_true'] at h
  obtain ⟨⟨⟨⟨⟨⟨-, hserved⟩, hbusy⟩, -⟩, -⟩, -⟩, hrange⟩ := h
  exact ⟨hserved, hbusy, hrange⟩

/-- With no write waiting a read is answered at once (R450). -/
theorem State.readBehind_empty {s : State} (hserved : s.hostServed = true) (hempty : s.hl.wbuf = []) (a n : Nat) (now : Now) :
    s.readBehind a n now = (s.hostRead a n now).2.sendResponse 0 (s.hostRead a n now).1 := by
  rw [State.readBehind, hempty, List.length_nil, State.runBuffer]
  dsimp only
  rw [if_neg (by simp [hserved]), hempty, if_neg (by simp)]

theorem State.readRegs_one (a : Nat) (now : Now) (s : State) :
    s.readRegs 1 a now = (le 4 (s.readReg a now).1, (s.readReg a now).2) := by
  rw [State.readRegs, State.readRegs, List.append_nil]

/-- A read of one register answers its word. -/
theorem State.hostRead_register {a : Nat} (ha : 0x400000 ≤ a) (ha' : a < 0x400800) (now : Now) (s : State) :
    s.hostRead a 4 now = (le 4 (s.readReg (a - 0x400000) now).1, (s.readReg (a - 0x400000) now).2) := by
  rw [State.hostRead, if_pos ⟨ha, ha'⟩]
  exact State.readRegs_one _ now s

theorem State.sramRead_unmarked {s : State} (h : s.mem.parity = []) (a n reader : Nat) : s.sramRead a n reader = s := by
  rw [State.sramRead, h]
  rfl

theorem State.hoardRead_unmarked {s : State} (hsoft : s.mem.soft = []) (hbad : s.mem.bad = []) (a n reader : Nat) :
    s.hoardRead a n reader = s := by
  rw [State.hoardRead, hsoft, hbad]
  rfl

theorem Mem.faultIn_unmarked {m : Mem} (hbad : m.bad = []) (hparity : m.parity = []) (a n : Nat) : m.faultIn a n = false := by
  rw [Mem.faultIn, Mem.parityIn, hbad, hparity]
  rfl

section
variable {s : State} (hsoft : s.mem.soft = []) (hbad : s.mem.bad = []) (hparity : s.mem.parity = [])
include hsoft hbad hparity

/-- A read of unmarked memory outside the register file and the inner banks changes nothing. -/
theorem State.hostRead_memory {a : Nat} (ha : 0x40000 ≤ a) (hout : a < 0x400000 ∨ 0x400800 ≤ a) (n : Nat) (now : Now) :
    s.hostRead a n now = ((List.range n).map fun i => s.mapByte 0 (a + i), s) := by
  rw [State.hostRead, if_neg (by omega)]
  simp only [State.mapRead, if_neg (Nat.not_lt.mpr ha), Mem.faultIn_unmarked hbad hparity, State.sramRead_unmarked hparity,
    State.hoardRead_unmarked hsoft hbad, ite_self, Bool.false_eq_true, if_false]

theorem State.hostRead_b5 {a n : Nat} (ha : 0x50000 ≤ a) (hn : a + n ≤ 0x60000) (now : Now) :
    s.hostRead a n now = ((List.range n).map fun i => s.mem.sram.read (a + i), s) := by
  rw [State.hostRead_memory hsoft hbad hparity (by omega) (.inl (by omega))]
  refine congrArg (·, s) (List.map_congr_left fun i hi => ?_)
  have := List.mem_range.mp hi
  rw [State.mapByte, if_neg (by omega), if_pos (by omega)]

theorem State.hostRead_hoard {a n : Nat} (ha : 0x100000 ≤ a) (hn : a + n ≤ 0x2F0000) (now : Now) :
    s.hostRead a n now = ((List.range n).map fun i => s.mem.hoard.read (a + i), s) := by
  rw [State.hostRead_memory hsoft hbad hparity (by omega) (.inl (by omega))]
  refine congrArg (·, s) (List.map_congr_left fun i hi => ?_)
  have := List.mem_range.mp hi
  rw [State.mapByte, if_neg (by omega), if_neg (by omega), if_pos (by omega)]

end

theorem exec_regRead_one {s : State} {now : Now} {f : HostFrame} (h : s.goodFrame 1 f = true) (hempty : s.hl.wbuf = [])
    (hlen : f.len % 65536 = 4) : exec (.regRead now f) s = .next
      (((s.heard now).readReg (f.addr % 2 ^ 24) now).2.sendResponse 0 (le 4 ((s.heard now).readReg (f.addr % 2 ^ 24) now).1)) := by
  obtain ⟨hserved, -, hrange⟩ := State.goodFrame_spec h
  have hin : f.addr % 2 ^ 24 < 0x800 := by
    simp only [State.rangeOk, regRange, decide_eq_true_eq] at hrange
    omega
  rw [exec_regRead_good h, hlen, State.readBehind_empty (s := s.heard now) hserved hempty,
    State.hostRead_register (by omega) (by omega), Nat.add_sub_cancel_left]

theorem exec_memRead_empty {s t : State} {now : Now} {f : HostFrame} {bs : List Byte} (h : s.goodFrame 3 f = true)
    (hempty : s.hl.wbuf = []) (hread : (s.heard now).hostRead (f.addr % 2 ^ 24) (f.len % 65536) now = (bs, t)) :
    exec (.memRead now f) s = .next (t.sendResponse 0 bs) := by
  obtain ⟨hserved, -, -⟩ := State.goodFrame_spec h
  rw [exec_memRead_good h, State.readBehind_empty (s := s.heard now) hserved hempty, hread]

/-- Settles O19: behind an empty buffer a read is `hostRead`, one register or the bytes of one memory. -/
theorem readFramesAnswerWhatIsHeld : Obligations.ReadFramesAnswerWhatIsHeld := by
  unfold Obligations.ReadFramesAnswerWhatIsHeld
  refine ⟨fun s now f h hempty hlen => exec_regRead_one h hempty hlen, fun s now f h hempty =>
    ⟨fun ha ha' hn => exec_memRead_empty h hempty ?register, fun ha hn hsoft hbad hparity => ?b5,
      fun ha hn hsoft hbad hparity => ?hoard⟩⟩
  case register =>
    rw [hn]
    exact State.hostRead_register ha ha' now _
  case b5 => exact exec_memRead_empty h hempty (State.hostRead_b5 (s := s.heard now) hsoft hbad hparity ha hn now)
  case hoard => exact exec_memRead_empty h hempty (State.hostRead_hoard (s := s.heard now) hsoft hbad hparity ha hn now)

end Sys2Proof.Machine
end

section
/-! Frames that the host link discards (R442, R443, R463). -/

set_option Elab.async false

namespace Sys2Proof.Machine

/-! ### Checks 4 and 5 of R442 -/

theorem State.asleep_of_hostServed {s : State} (h : s.hostServed = true) : s.asleep = false := by
  simp only [State.hostServed, Bool.and_eq_true, decide_eq_true_eq] at h
  obtain ⟨-, hrun, -⟩ := h
  simp [State.asleep, hrun]

/-- The header bit and the range are the only checks of R442 that the CRC leaves open. -/
theorem State.goodFrame_checked {s : State} {cmd : Nat} {f : HostFrame} (hname : s.namesModule f.hdr = true) (hserved : s.hostServed = true)
    (hbusy : s.linkBusy = false) (hcmd : frameCmd cmd f = cmd) (hlen : f.data.length = frameDataLen cmd f)
    (hcrc : le 2 f.crc.toNat = hostCrc (s.crcBytes cmd f f.data)) : s.goodFrame cmd f =
      ((!s.pwr.straps.hostmode || f.hdr.getLsbD 0 == (cmd == 1 || cmd == 3)) && s.rangeOk cmd (f.addr % 2 ^ 24) (f.len % 65536)) := by
  simp [State.goodFrame, hname, hserved, hbusy, hcmd, hlen, hcrc]

section
variable {s : State} {cmd : Nat} {now : Now} {f : HostFrame} {body : List Byte → State → State}
  (hname : s.namesModule f.hdr = true) (hserved : s.hostServed = true) (hbusy : s.linkBusy = false) (hcmd : frameCmd cmd f = cmd)
  (hlen : f.data.length = frameDataLen cmd f)
include hname hserved hbusy hcmd hlen

/-- A frame that names a served module and is whole is judged by its CRC, then by its header bit and its range. -/
theorem takeFrame_whole : s.takeFrame cmd now f body =
    if hostCrc (s.crcBytes cmd f f.data) ≠ le 2 f.crc.toNat then
      ((s.onPwr fun p => { p with lastHostMs := now.ms }).onHl fun h =>
        { h with crcErr := Word.sat 65535 (h.crcErr + 1) }).sendResponse 0x11 []
    else if (s.pwr.straps.hostmode && (f.hdr.getLsbD 0 != (cmd == 1 || cmd == 3))) = true ∨
        !s.rangeOk cmd (f.addr % 2 ^ 24) (f.len % 65536) then
      ((s.heard now).onHl fun h => { h with malformed := Word.sat 255 (h.malformed + 1) }).sendResponse 4 []
    else body f.data (s.heard now) := by
  have hvio : s.pwr.vioHost = true := by
    simp only [State.hostServed, Bool.and_eq_true] at hserved
    exact hserved.1
  have hcrcLen : (le 2 f.crc.toNat).length = 2 := rfl
  have hdata : (f.data ++ le 2 f.crc.toNat).take (frameDataLen cmd f) = f.data := by simp [← hlen]
  have hsent : slice (f.data ++ le 2 f.crc.toNat) (frameDataLen cmd f) 2 = le 2 f.crc.toNat := by
    rw [slice, ← hlen, List.drop_left]
    exact List.take_of_length_le hcrcLen.le
  rw [State.takeFrame, if_neg (by simp [hname, hvio]), if_neg (by simp [State.asleep_of_hostServed hserved]),
    if_neg (by simp [hserved])]
  dsimp only
  rw [hcmd, if_neg (by rw [List.length_append, hcrcLen, hlen]; omega), if_neg (by show ¬ (s.linkBusy = true); simp [hbusy]), hdata,
    hsent]
  rfl

theorem takeFrame_wrongCrc (hcrc : le 2 f.crc.toNat ≠ hostCrc (s.crcBytes cmd f f.data)) : s.takeFrame cmd now f body =
    ({ s with
      pwr := { s.pwr with lastHostMs := now.ms }
      hl := { s.hl with crcErr := min 65535 (s.hl.crcErr + 1) } } : State).sendResponse 0x11 [] := by
  rw [takeFrame_whole hname hserved hbusy hcmd hlen, if_pos hcrc.symm]
  simp only [Word.sat_eq_min]
  rfl

theorem takeFrame_malformed (hcrc : le 2 f.crc.toNat = hostCrc (s.crcBytes cmd f f.data)) (hbad : s.goodFrame cmd f = false) :
    s.takeFrame cmd now f body = ({ s with
      pwr := { s.pwr with lastHostMs := now.ms }
      hl := { s.hl with goodMs := now.ms, malformed := min 255 (s.hl.malformed + 1) } } : State).sendResponse 4 [] := by
  rw [State.goodFrame_checked hname hserved hbusy hcmd hlen hcrc] at hbad
  rw [takeFrame_whole hname hserved hbusy hcmd hlen, if_neg (not_not.mpr hcrc.symm), if_pos]
  · simp only [Word.sat_eq_min]
    rfl
  · exact (by decide : ∀ m x r : Bool, ((!m || x) && r) = false → (m && !x) = true ∨ (!r) = true) _ _ _ hbad

end

/-! ### The counters -/

theorem State.countAborted_eq (s : State) : s.countAborted = { s with hl := { s.hl with aborted := min 255 (s.hl.aborted + 1) } } := by
  simp only [State.countAborted, Word.sat_eq_min]
  rfl

/-- Settles O20: the four rows are one `takeFrame`, the frames cut short one `countAborted`. -/
theorem discardedFramesAreOnlyCounted : Obligations.DiscardedFramesAreOnlyCounted := by
  unfold Obligations.DiscardedFramesAreOnlyCounted
  refine ⟨fun s now f cmd c hc hname hserved hbusy hknown hlen => ?frames, fun s hserved => ⟨?cut, fun gapUs => ?gap⟩⟩
  case frames =>
    have hcmd : frameCmd cmd f = cmd := by rw [frameCmd, hknown]
    have hexec : ∃ body, exec c s = .next (s.takeFrame cmd now f body) := by
      simp only [List.mem_cons, Prod.mk.injEq, List.not_mem_nil, or_false] at hc
      rcases hc with ⟨rfl, rfl⟩ | ⟨rfl, rfl⟩ | ⟨rfl, rfl⟩ | ⟨rfl, rfl⟩ <;> exact ⟨_, rfl⟩
    obtain ⟨body, hexec⟩ := hexec
    refine ⟨fun hcrc => ?wrongCrc, fun hcrc hbad => ?malformed⟩
    case wrongCrc => rw [hexec, takeFrame_wrongCrc hname hserved hbusy hcmd hlen hcrc]
    case malformed => rw [hexec, takeFrame_malformed hname hserved hbusy hcmd hlen hcrc hbad]
  case cut =>
    show Host.Outcome.next (if s.hostServed ∧ s.pwr.straps.hostmode then s.countAborted else s) = _
    simp only [hserved, true_and, State.countAborted_eq]
  case gap =>
    show Host.Outcome.next (if s.hostServed ∧ !s.pwr.straps.hostmode ∧ 2000 < gapUs then s.countAborted else s) = _
    by_cases h : s.pwr.straps.hostmode = true ∨ gapUs ≤ 2000
    · rw [if_pos h, if_neg (by simpa [hserved] using h.resolve_left ∘ by simp)]
    · obtain ⟨hmode, hgap⟩ := not_or.mp h
      rw [if_neg h, if_pos ⟨hserved, by simpa using hmode, not_le.mp hgap⟩, State.countAborted_eq]

end Sys2Proof.Machine
end

section
/-! The write buffer as it executes (R11, R448, R449). -/

set_option Elab.async false

namespace Sys2Proof.Machine

/-! ### The head of the buffer -/

/-- No entry waits for a LINK reset: an execution ends with the head. -/
theorem State.linkFinish_idle {s : State} (h : s.linkBusy = false) : s.linkFinish = s := by
  rw [State.linkFinish, h]
  rfl

theorem State.writeRegs_one (link : State → State) (a : Nat) (bs : List Byte) (now : Now) (s : State) :
    s.writeRegs link 1 a bs now = s.writeReg link a (BitVec.ofNat 32 (fieldAt bs 0 4)) now := by
  rw [State.writeRegs, State.writeRegs]

theorem State.entryReady_register {e : PostedWrite} (h : 0x400000 ≤ e.addr) (s : State) : s.entryReady e = true := by
  rw [State.entryReady, decide_eq_false (by omega)]
  rfl

theorem State.entryReady_b5 {e : PostedWrite} (h : e.addr < 0x60000) (s : State) : s.entryReady e = true := by
  rw [State.entryReady, decide_eq_false (by omega)]
  rfl

section
variable {s : State} (now : Now) (hserved : s.hostServed = true)
include hserved

theorem exec_writeBufferExecute : exec (.writeBufferExecute now) s = .next (s.runHead now).linkFinish :=
  if_pos hserved

/-- Nothing is taken: the buffer is empty or its head waits. -/
theorem exec_writeBufferExecute_waits (hbusy : s.linkBusy = false)
    (h : s.hl.wbuf = [] ∨ ∃ e rest, s.hl.wbuf = e :: rest ∧ s.entryReady e = false) : exec (.writeBufferExecute now) s = .next s := by
  have hhead : s.runHead now = s := by
    rcases h with h | ⟨e, rest, h, hwait⟩
    · rw [State.runHead, h]
    · rw [State.runHead, h]
      exact if_neg (by simp [hwait])
  rw [exec_writeBufferExecute now hserved, hhead, State.linkFinish_idle hbusy]

theorem exec_writeBufferExecute_takes {e : PostedWrite} {rest : List PostedWrite} (h : s.hl.wbuf = e :: rest) (hready : s.entryReady e = true) :
    exec (.writeBufferExecute now) s =
      .next (({ s with hl := { s.hl with wbuf := rest } } : State).runEntry (State.linkCmd now) e now).linkFinish := by
  rw [exec_writeBufferExecute now hserved, State.runHead, h]
  exact congrArg (fun t => Host.Outcome.next (State.linkFinish t)) (if_pos hready)

end

/-! ### What an entry writes -/

section
variable {e : PostedWrite} (link : State → State) (now : Now) (s : State)

theorem State.runEntry_register (h : 0x400000 ≤ e.addr) (hlen : e.data.length = 4) :
    s.runEntry link e now = s.writeReg link (e.addr - 0x400000) (BitVec.ofNat 32 (fieldAt e.data 0 4)) now := by
  rw [State.runEntry, if_pos h, hlen]
  exact State.writeRegs_one link _ e.data now s

theorem State.runEntry_b5 (h : e.addr < 0x60000) : s.runEntry link e now = s.sramWrite e.addr e.data := by
  rw [State.runEntry, if_neg (by omega), if_pos (by omega)]

theorem State.runEntry_scratch (h : 0x2F0000 ≤ e.addr) (h' : e.addr < 0x300000) :
    s.runEntry link e now = s.scratchWrite e.addr e.data := by
  rw [State.runEntry, if_neg (by omega), if_neg (by omega)]

end

/-- Settles O18: the head waits or is taken, and an entry that is taken is one register write or one write of bytes. -/
theorem bufferedWritesExecuteInOrder : Obligations.BufferedWritesExecuteInOrder := by
  unfold Obligations.BufferedWritesExecuteInOrder
  intro s now hserved hbusy hmem
  obtain ⟨hhoard, hsram⟩ := hmem
  refine ⟨fun hempty => exec_writeBufferExecute_waits now hserved hbusy (.inl hempty), fun e rest hq => ?_⟩
  intro u
  have takes (hready : s.entryReady e = true) := exec_writeBufferExecute_takes now hserved hq hready
  have hu : Moves [.hl] s u := Moves.hl s _
  refine ⟨fun ha hlen => ?register, fun ha ha' => ?b5, fun ha ha' => ⟨fun hwait => ?waits, fun hqueue hinhibit => ?scratch⟩⟩
  case register => rw [takes (State.entryReady_register ha s), State.runEntry_register _ _ _ ha hlen]
  case b5 =>
    rw [State.runEntry_b5 _ _ _ ha', State.linkFinish_idle (s := u.sramWrite _ _) hbusy] at takes
    exact ⟨_, takes (State.entryReady_b5 ha' s), rfl, rfl,
      fun i hi => Memory.read_writeBytes_same _ _ i _ hsram hi, fun x hx => Memory.read_writeBytes_other _ _ x _ hsram hx,
      ((State.sramWrite_moves _ _ u).after hu.alone).1⟩
  case waits =>
    refine exec_writeBufferExecute_waits now hserved hbusy (.inr ⟨e, rest, hq, ?_⟩)
    rw [State.entryReady_scratch ha ha', Bool.and_eq_false_iff]
    exact hwait.imp (by simp) (by simp)
  case scratch =>
    have hready : s.entryReady e = true := by rw [State.entryReady_scratch ha ha', hqueue, hinhibit]; rfl
    rw [State.runEntry_scratch _ _ _ ha ha', State.linkFinish_idle (s := u.scratchWrite _ _) hbusy] at takes
    exact ⟨_, takes hready, rfl, rfl,
      fun i hi => Memory.read_writeBytes_same _ _ i _ hhoard hi, fun x hx => Memory.read_writeBytes_other _ _ x _ hhoard hx,
      ((State.scratchWrite_moves _ _ u).after hu.alone).1⟩

end Sys2Proof.Machine
end

section
/-! Doorbells, credits and the SERVICE level of the host link (R130, R451, R454, R455, R461, R473, R486). -/

set_option Elab.async false

namespace Sys2Proof.Machine

/-! ### HL_DOORBELL and CREDIT_RETURN -/

theorem exec_hlDoorbell {s : State} {v : Word} (h : s.takesWrite 0x38C = true) :
    exec (.hlDoorbell v) s = .next (s.doorbell v.toNat) :=
  congrArg Host.Outcome.next (asWrite_takes h)

theorem exec_creditReturn {s : State} {v : Word} (h : s.takesWrite 0x390 = true) :
    exec (.creditReturn v) s = .next (s.creditWrite v.toNat) :=
  congrArg Host.Outcome.next (asWrite_takes h)

theorem State.creditWrite_eq (v : Nat) (s : State) : s.creditWrite v =
    if s.pwr.straps.hostmode = false then s
    else { s with hl := { s.hl with
      credit := min 42 (s.hl.credit + v % 256)
      status := if 42 < s.hl.credit + v % 256 then s.hl.status ||| 0x100000#32 else s.hl.status } } := by
  unfold State.creditWrite
  cases s.pwr.straps.hostmode
  · rfl
  · by_cases hover : 42 < s.hl.credit + v % 256
    · simp only [hover, if_true]
      rfl
    · simp only [hover, if_false]
      rfl

/-- Settles O22: the doorbell is `doorbell`, which latches its bits in the running host channels, the credits are `creditWrite`. -/
theorem doorbellsRaiseEventsAndCreditsSaturate : Obligations.DoorbellsRaiseEventsAndCreditsSaturate := by
  unfold Obligations.DoorbellsRaiseEventsAndCreditsSaturate
  refine ⟨fun s v h => ?doorbell, fun s v h => ?credit⟩
  case doorbell =>
    exact ⟨_, exec_hlDoorbell h, doorbell_dma s v.toNat, fun k hk => doorbell_dc s v.toNat k hk, (State.doorbell_moves _ s).1⟩
  case credit => rw [exec_creditReturn h, State.creditWrite_eq]

/-! ### CHAL -/

theorem exec_chal {s : State} (now : Now) (h : s.takesWrite 0x380 = true) : exec (.chal now) s = .next (s.challenge now.ms) :=
  congrArg Host.Outcome.next (asWrite_takes h)

theorem State.challenge_refused {s : State} (h : s.hl.lockedOut = true ∨ s.serviceKey = none) (ms : Nat) :
    s.challenge ms = { s with hl := { s.hl with status := s.hl.status ||| 0x20000#32 } } :=
  if_pos (by simpa using h)

theorem State.sramWrite_sram (a : Nat) (bs : List Byte) (s : State) : (s.sramWrite a bs).mem.sram = s.mem.sram.writeBytes a bs := rfl

/-- The challenge of R454: the encrypted text at 0x05_FFE0, pending with its instant, and counted. -/
theorem State.challenge_given {s : State} (hopen : s.hl.lockedOut = false) (hkey : s.serviceKey ≠ none) {c : List Byte}
    (hc : c = aesEncrypt s.otp.uniqueKey
      (ascii ['E', 'T', 'Y', 'N'] ++ le 5 s.rtc.count ++ le 4 s.meas.tick ++ le 3 s.hl.chalCount)) (ms : Nat) :
    s.challenge ms = (s.sramWrite 0x5FFE0 c).onHl fun h =>
      { h with challenge := some (c, ms), chalCount := (h.chalCount + 1) % 2 ^ 24 } := by
  rw [State.challenge, if_neg (by simp [hopen, hkey]), ← hc]

/-! ### UNLOCK -/

theorem exec_unlock {s : State} (now : Now) (h : s.takesWrite 0x380 = true) : exec (.unlock now) s = .next (s.unlockWrite now.ms) :=
  congrArg Host.Outcome.next (asWrite_takes h)

theorem State.tagOk_iff {s : State} {ms : Nat} : s.tagOk ms = true ↔
    ∃ c t0 key, s.hl.challenge = some (c, t0) ∧ s.serviceKey = some key ∧ ms ≤ t0 + 60000 ∧
      s.mem.sram.readBytes 0x5FFF0 16 = cmac key (ascii ['E', 'T', 'Y', 'S'] ++ le 8 s.otp.serial ++ c) := by
  unfold State.tagOk State.unlockTag
  cases s.hl.challenge with
  | none => simp
  | some p => cases s.serviceKey with
    | none => simp
    | some key => simp [Prod.ext_iff]

theorem State.unlockWrite_ok {s : State} {ms : Nat} (h : s.tagOk ms = true) : s.unlockWrite ms = { s with hl := { s.hl with
    challenge := none, service := true, fails := 0, goodMs := ms, status := s.hl.status ||| 0x10000#32 } } :=
  if_pos h

/-- The third failure in a row begins the lockout (R454). -/
theorem State.unlockWrite_fails {s : State} {ms : Nat} (h : s.tagOk ms = false) : s.unlockWrite ms = { s with hl := { s.hl with
    challenge := none
    fails := min 3 (s.hl.fails + 1)
    lockedOut := s.hl.lockedOut || decide (3 ≤ s.hl.fails + 1)
    status := s.hl.status ||| 0x20000#32
    lockUntil := if s.hl.lockedOut = false ∧ 3 ≤ s.hl.fails + 1 then ms + 60000 else s.hl.lockUntil } } := by
  have hthird : (min 3 (s.hl.fails + 1) == 3) = decide (3 ≤ s.hl.fails + 1) := by
    rw [Bool.eq_iff_iff, beq_iff_eq, decide_eq_true_iff]
    omega
  have huntil : (if s.hl.lockedOut = true ∨ min 3 (s.hl.fails + 1) ≠ 3 then s.hl.lockUntil else ms + 60000) =
      if s.hl.lockedOut = false ∧ 3 ≤ s.hl.fails + 1 then ms + 60000 else s.hl.lockUntil := by
    rw [← ite_not]
    refine if_congr ?_ rfl rfl
    rw [not_or, Bool.not_eq_true, not_not]
    exact and_congr_right fun _ => by omega
  simp only [State.unlockWrite, h, Bool.false_eq_true, if_false, State.hlRaise, State.onHl, hthird, huntil]
  rfl

/-! ### LOCK and the ends of SERVICE and of the lockout -/

theorem exec_lock {s : State} (h : s.takesWrite 0x380 = true) : exec .lock s = .next s.lockWrite :=
  congrArg Host.Outcome.next (asWrite_takes h)

/-- Settles O23: each row is its own operation, and UNLOCK is decided by `tagOk`. -/
theorem serviceIsUnlockedByTheTagOnly : Obligations.ServiceIsUnlockedByTheTagOnly := by
  unfold Obligations.ServiceIsUnlockedByTheTagOnly
  refine ⟨fun s now h => ⟨fun hrefused => ?refused, fun hopen hkey => ?given⟩, fun s now h => ?unlock,
    fun s h => exec_lock h, fun s now hservice => ?relock, fun s now hlocked => ?lockoutEnd⟩
  case refused => rw [exec_chal now h, State.challenge_refused hrefused]
  case given =>
    intro c
    have hchal := State.challenge_given hopen hkey (c := c) rfl now.ms
    exact ⟨_, (exec_chal now h).trans (congrArg _ hchal), rfl, by rw [State.onHl_mem, State.sramWrite_sram],
      ((State.onHl_moves _ _).after (State.sramWrite_moves _ _ s).alone).1⟩
  case unlock =>
    intro ok
    have hok : s.tagOk now.ms = true ↔ ok := State.tagOk_iff
    rw [exec_unlock now h]
    refine ⟨fun h => ?_, fun h => ?_⟩
    · rw [State.unlockWrite_ok (hok.mpr h)]
    · rw [State.unlockWrite_fails (Bool.eq_false_iff.mpr (h ∘ hok.mp))]
  case relock =>
    show execServiceIdleRelock now s = _
    simp only [execServiceIdleRelock, hservice, true_and, apply_ite Host.Outcome.next]
    rfl
  case lockoutEnd =>
    show execLockoutEnd now s = _
    simp only [execLockoutEnd, hlocked, true_and, apply_ite Host.Outcome.next]
    rfl

end Sys2Proof.Machine
end

section
/-! The host's commands as they are decided, and TEST (R456 to R459, R468, R469). -/

set_option Elab.async false

namespace Sys2Proof.Machine

/-! ### A command that is not taken, and one that R457 refuses -/

theorem hostCommand_waits {s : State} (hbusy : s.linkBusy = true) (code tag arg : Nat) (now : Now) :
    s.hostCommand code tag arg now = s :=
  if_pos (by simp [hbusy])

section
variable {s : State} {code tag arg : Nat} (now : Now) (hserved : s.hostServed = true) (hbusy : s.linkBusy = false)
  (htag : tag < 256) (harg : arg < 2 ^ 32)
include hserved hbusy htag harg

/-- A command that leaves the state but for the host link changes no mode. -/
theorem hostCommand_runs {h : HostLink}
    (hrun : ({ s with hl := { s.hl with arg := arg } } : State).runCommand (State.linkCmd now) code tag now = { s with hl := h }) :
    s.hostCommand code tag arg now = { s with hl := h } := by
  have hword : (s.onHl fun h => { h with arg := arg }).runCommand (State.linkCmd now) code tag now = { s with hl := h } := hrun
  rw [State.hostCommand, if_neg (by simp [hserved, hbusy]), Nat.mod_eq_of_lt harg, Nat.mod_eq_of_lt htag, hword]
  exact State.SameMode.noteMode_eq (.of_same rfl rfl rfl)

theorem hostCommand_repeated (h : s.hl.taken = some (code, tag)) : s.hostCommand code tag arg now = { s with hl := { s.hl with
    arg := arg, duplicate := true, events := if s.hl.running then s.hl.events else s.hl.events ||| 0x10000#32 } } :=
  hostCommand_runs now hserved hbusy htag harg (if_pos h)

theorem hostCommand_discarded (h : s.hl.taken ≠ some (code, tag)) (hrun : s.hl.running = true) :
    s.hostCommand code tag arg now = { s with hl := { s.hl with arg := arg, discarded := true } } :=
  hostCommand_runs now hserved hbusy htag harg (by rw [State.runCommand, if_neg h, if_pos hrun]; rfl)

/-- What R457 answers before a command's own conditions is its result. -/
theorem hostCommand_checked {result : Nat} (h : s.hl.taken ≠ some (code, tag)) (hrun : s.hl.running = false) (hcode : code ≠ 4)
    (hcheck : (s.commandTaken code tag arg).cmdCheck code arg = result) (hresult : result ≠ 0) :
    s.hostCommand code tag arg now = { s with hl := s.hl.answered code tag arg result } := by
  refine hostCommand_runs now hserved hbusy htag harg ?_
  rw [State.runCommand, if_neg h, if_neg (by simp [hrun])]
  dsimp only
  rw [if_neg hcode]
  show State.answerCommand code arg now (s.commandTaken code tag arg) = _
  rw [State.answerCommand, hcheck]
  exact if_pos hresult

end

/-- Settles O25: each row is `hostCommand` with its code, which repeats, discards or takes it, and R457 answers in its order. -/
theorem hostCommandsAreDecidedOnce : Obligations.HostCommandsAreDecidedOnce := by
  unfold Obligations.HostCommandsAreDecidedOnce
  intro s now code tag arg c hc hserved harg htag
  have hexec : exec c s = .next (s.hostCommand code tag arg now) ∧ code ≠ 4 ∧ 1 ≤ code ∧ code ≤ 9 := by
    simp only [List.mem_cons, Prod.mk.injEq, List.not_mem_nil, or_false] at hc
    rcases hc with ⟨rfl, rfl⟩ | ⟨rfl, rfl⟩ | ⟨rfl, rfl⟩ | ⟨rfl, rfl⟩ | ⟨rfl, rfl⟩ | ⟨rfl, rfl⟩ | ⟨rfl, rfl⟩ | ⟨rfl, rfl⟩ <;>
      exact ⟨rfl, by decide⟩
  obtain ⟨hexec, hcode, hcode1, hcode9⟩ := hexec
  rw [hexec]
  refine ⟨fun hbusy => by rw [hostCommand_waits hbusy], fun hbusy => ?_⟩
  intro refusal
  refine ⟨fun h => ?repeated, fun h hrun => ?discarded, fun h hrun => ?taken⟩
  case repeated => rw [hostCommand_repeated now hserved hbusy htag harg h]
  case discarded => rw [hostCommand_discarded now hserved hbusy htag harg h hrun]
  case taken =>
    have refused {result : Nat} (hcheck : (s.commandTaken code tag arg).cmdCheck code arg = result) (hresult : result ≠ 0) :
        (.next (s.hostCommand code tag arg now) : Out) = .next (refusal result) :=
      congrArg Host.Outcome.next (hostCommand_checked now hserved hbusy htag harg h hrun hcode hcheck hresult)
    have hpf : (s.commandTaken code tag arg).pwr.pfActive = s.pwr.pfActive := rfl
    have hdeep : (s.commandTaken code tag arg).deepMode = s.deepMode := rfl
    have hheld : (s.commandTaken code tag arg).serviceHeld = s.serviceHeld := rfl
    refine ⟨fun h1 => refused ?_ (by decide), fun h1 h2 => refused ?_ (by decide), fun h1 h2 h3 => refused ?_ (by decide),
      fun h1 h2 h3 h5 h0 => refused ?_ (by decide)⟩
    all_goals rw [State.cmdCheck, hpf, hdeep, hheld, h1]
    · rfl
    · simp [State.deepMode, h2]
    · simp [h2, h3]
    · rw [h2, h3]
      simp [h5, h0]

/-! ### TEST -/

theorem State.cmdEnterTest_enters {s : State} (htest : s.meas.test = false) (hactive : s.active = true)
    (hplace : s.normal = true ∨ (s.running = true ∧ s.pwr.mode = .unconfigured ∧ s.img.module_.commissioned = false)) :
    s.cmdEnterTest = (some 0, s.onMeas fun m => { m with test := true, testTick := m.tick, testOver := false }) := by
  refine if_neg ?_
  have hin : (s.normal || (s.running && decide (s.pwr.mode = .unconfigured) && !s.img.module_.commissioned)) = true := by
    simpa [and_assoc] using hplace
  simp [htest, hactive, hin]

theorem State.cmdEnterTest_refused {s : State} (h : ¬ (s.meas.test = false ∧ s.active = true ∧
    (s.normal = true ∨ (s.running = true ∧ s.pwr.mode = .unconfigured ∧ s.img.module_.commissioned = false)))) :
    s.cmdEnterTest = (some 2, s) := by
  refine if_pos ?_
  by_contra hno
  exact h (by simpa [and_assoc, or_iff_not_imp_left] using hno)

theorem takesCommand_of {s : State} {code tag : Nat} (hserved : s.hostServed = true) (hbusy : s.linkBusy = false) (htag : tag < 256)
    (hrun : s.hl.running = false) (hpf : s.pwr.pfActive = false) (hdeep : s.deepMode = false) (hheld : s.serviceHeld = true)
    (h : s.hl.taken ≠ some (code, tag)) : s.takesCommand code tag 0 = true := by
  simp [State.takesCommand, hserved, hbusy, htag, hrun, hpf, hdeep, hheld, h]

/-- A taken command that only moves TEST has its result and the mode event. -/
theorem hostCommand_moves_test {s : State} {now : Now} {code tag : Nat} {m : Meas} (h : s.takesCommand code tag 0 = true)
    (hcode : code ≠ 3 ∧ code ≠ 4 ∧ 1 ≤ code ∧ code ≤ 9)
    (hown : (s.commandTaken code tag 0).ownCommand code 0 now = (some 0, { s.commandTaken code tag 0 with meas := m }))
    (htest : s.meas.test ≠ m.test) : s.hostCommand code tag 0 now = { s with
      meas := m
      hl := { s.hl with arg := 0, taken := some (code, tag), result := 0, running := false, events := s.hl.events ||| 0x30000#32 } } := by
  simp only [State.takesCommand, Bool.and_eq_true, Bool.not_eq_true', decide_eq_true_eq] at h
  obtain ⟨⟨⟨⟨⟨⟨⟨hserved, hbusy⟩, htag, hword⟩, hrun⟩, hpf⟩, hdeep⟩, hservice⟩, hnew⟩ := h
  rw [hostCommand_own hserved hbusy htag hword hrun hpf hdeep hservice hnew hcode.2 (.inr rfl)]
  unfold State.commandTaken at hown
  simp only [hown, if_neg hcode.1]
  refine (if_neg fun hsame => htest hsame.2.1).trans ?_
  have hevents : setBits (setBits s.hl.events (2 ^ 16)) (2 ^ 17) = s.hl.events ||| 0x30000#32 := by
    simp only [setBits, BitVec.or_assoc]
    rfl
  rw [← hevents]
  rfl

/-- Settles O26: ENTER_TEST and EXIT_TEST are decided by their own operations on the state that has taken them. -/
theorem testIsEnteredAndLeft : Obligations.TestIsEnteredAndLeft := by
  unfold Obligations.TestIsEnteredAndLeft
  intro done
  refine ⟨fun s now tag hserved hbusy htag hrun hpf hdeep hheld => ⟨fun hnew => ?enter, fun hnew => ?exit⟩, fun s h => ?stands,
    fun s htest hover => ?timeout⟩
  case enter =>
    have htakes := takesCommand_of hserved hbusy htag hrun hpf hdeep hheld hnew
    intro allowed
    refine ⟨fun hallowed => ?_, fun hallowed => ?_⟩
    · obtain ⟨htest, hactive, hplace⟩ := hallowed
      have hown := State.cmdEnterTest_enters (s := s.commandTaken 6 tag 0) htest hactive hplace
      exact congrArg Host.Outcome.next (hostCommand_moves_test htakes (by decide) hown (by simp [htest]))
    · have hown := State.cmdEnterTest_refused (s := s.commandTaken 6 tag 0) hallowed
      exact congrArg Host.Outcome.next (hostCommand_refuses htakes (by decide) (.inr rfl) hown)
  case exit =>
    have htakes := takesCommand_of hserved hbusy htag hrun hpf hdeep hheld hnew
    refine ⟨fun htest => ?_, fun htest hcal => ?_, fun htest hcal => ?_⟩
    · have hown : (s.commandTaken 7 tag 0).cmdExitTest = (some 2, s.commandTaken 7 tag 0) :=
        if_pos (by show (!s.meas.test) = true; rw [htest]; rfl)
      exact congrArg Host.Outcome.next (hostCommand_refuses htakes (by decide) (.inr rfl) hown)
    · have hown : (s.commandTaken 7 tag 0).cmdExitTest = (some 1, s.commandTaken 7 tag 0) :=
        (if_neg (by show ¬ (!s.meas.test) = true; simp [htest])).trans (if_pos hcal)
      exact congrArg Host.Outcome.next (hostCommand_refuses htakes (by decide) (.inr rfl) hown)
    · have hown : (s.commandTaken 7 tag 0).cmdExitTest = (some 0, (s.commandTaken 7 tag 0).endTest) :=
        (if_neg (by show ¬ (!s.meas.test) = true; simp [htest])).trans (if_neg (not_not.mpr hcal))
      exact congrArg Host.Outcome.next (hostCommand_moves_test htakes (by decide) hown (by simp [htest]))
  case stands => exact if_pos (by simpa using h)
  case timeout =>
    have hgo : ¬ ((!s.meas.test) = true ∨ s.meas.tick < s.meas.testTick + 57600) := by simp [htest, hover]
    refine (if_neg hgo).trans ?_
    by_cases hcal : s.meas.calPhase = 0
    · rw [if_neg (not_not.mpr hcal), if_pos hcal, State.noteMode, if_neg (by simp [htest])]
      rfl
    · rw [if_pos hcal, if_neg hcal]
      rfl

end Sys2Proof.Machine
end

section
/-! The commands of one channel and the other channels (R15, R154, R164, R168, R193, R199, R200, R255). -/

set_option Elab.async false

namespace Sys2Proof.Machine

/-! ### Composition -/

section
variable {n : Nat} {s t u : State}

/-- The last operation first: what is left to show is about the state that it takes. -/
theorem OthersSame.after (h : OthersSame n t u) (k : OthersSame n s t) : OthersSame n s u := k.trans h

theorem OthersSame.of_moves {gs : List Group} (h : Moves gs s t) (k : gs.contains .chans = false := by rfl) : OthersSame n s t :=
  .of_chans (h.same .chans k)

theorem OthersSame.ite {c : Prop} [Decidable c] (h : OthersSame n s t) (k : OthersSame n s u) :
    OthersSame n s (if c then t else u) := by
  split
  · exact h
  · exact k

theorem OthersSame.foldl_enqueue (l : List HoardRec) (s : State) : OthersSame n s (l.foldl (fun t r => t.enqueue r) s) :=
  .of_moves (Moves.foldl _ l (fun u r => State.enqueue_moves r u) (Moves.refl [.queue, .pair] s))

end

section
variable {n : Nat} (hn : 1 ≤ n) (hn40 : n ≤ 40)
include hn hn40

/-! ### A complete pair -/

theorem State.endPair_othersSame (pair : Nat) (x y : ShotRes) (s : State) : OthersSame n s (s.endPair n pair x y) := by
  cases hcal : s.calibrating n with
  | false => exact (State.endPair_ch hn hn40 pair x y s hcal).2
  | true =>
    unfold State.endPair
    extract_lets cfg z r at_ v half s1
    rw [if_pos hcal]
    have h1 : OthersSame n s s1 := State.onCh_othersSame hn hn40 s _
    exact .ite (h1.trans (State.gather_othersSame hn hn40 _ s1)) h1

/-! ### The step close -/

theorem State.takeSnap_othersSame (kind key extra : Nat) (prev : Option Nat) (w : Work) (s : State) :
    OthersSame n s (s.takeSnap n kind key extra prev w).1 := by
  unfold State.takeSnap
  extract_lets bl day due now late dfl unt flags lo y sign c q body s1
  have h1 : OthersSame n s s1 := .ite (.of_moves (State.event_moves _ _ _ s)) (.refl n s)
  exact (h1.trans (.of_moves (State.snapOffer_moves _ _ _ s1))).trans (State.onCh_othersSame hn hn40 _ _)

theorem State.takeSnaps_othersSame (kind extra : Nat) (w : Work) (keys : List Nat) (prev : Option Nat) (s : State) :
    OthersSame n s (State.takeSnaps n kind extra w prev keys s).1 := by
  induction keys generalizing prev s with
  | nil => exact .refl n s
  | cons key rest ih => exact (State.takeSnap_othersSame hn hn40 kind key extra prev w s).trans (ih _ _)

theorem State.snapKind_othersSame (kind extra : Nat) (w : Work) (s : State) : OthersSame n s (s.snapKind n kind extra w).1 := by
  unfold State.snapKind
  extract_lets bl c ref day r s1 prev
  split
  · exact .refl n s
  · have h1 : OthersSame n s s1 := .ite (.refl n s) (.of_moves (State.event_moves _ _ _ _))
    exact h1.trans (State.takeSnaps_othersSame hn hn40 _ _ _ _ _ s1)

theorem State.snapshots_othersSame (extra : Nat) (w : Work) (s : State) : OthersSame n s (s.snapshots n extra w).1 := by
  unfold State.snapshots
  extract_lets m a all b
  have ha : OthersSame n s a.1 := (State.snapKind_othersSame hn hn40 1 extra w s).trans (State.snapKind_othersSame hn hn40 2 extra w m.1)
  split
  · exact ha
  · exact ha

theorem State.profileRec_othersSame (d : List Byte) (s : State) : OthersSame n s (s.profileRec n d).1 :=
  State.onCh_othersSame hn hn40 s _

theorem State.putStepFlow_othersSame (g : Flow) (s : State) : OthersSame n s (s.putStepFlow n g) := by
  unfold State.putStepFlow
  extract_lets f s1 s2
  have h1 : OthersSame n s s1 := State.putFlow_othersSame hn hn40 s g 0
  refine .after (.of_moves (State.change_moves _ _ _ _ _ _ _)) ?_
  dsimp only [s2]
  split
  · exact h1
  · exact h1.trans (.of_moves (State.change_moves _ _ _ _ _ _ _))

theorem State.forcedAgain_othersSame (s : State) : OthersSame n s (s.forcedAgain n) :=
  .ite (State.policySubmit_positionKept hn hn40 2 _ _ s).1 (.refl n s)

theorem State.policy_othersSame (s : State) : OthersSame n s (s.policy n) := (State.policy_creditKept hn hn40 s).1

theorem State.commitStep_othersSame (force : Bool) (entries : List HoardRec) (s : State) :
    OthersSame n s (s.commitStep n force entries) := by
  unfold State.commitStep
  extract_lets c s1
  have h1 : OthersSame n s s1 := State.onCh_othersSame hn hn40 s _
  exact .ite (State.onCh_othersSame hn hn40 s _)
    ((h1.trans (.of_moves (State.enqueue_moves _ s1))).trans (.foldl_enqueue _ _))

theorem State.showStep_othersSame (a : StepAcc) (inc : Inc) (s : State) : OthersSame n s (s.showStep n a inc) :=
  State.onCh_othersSame hn hn40 s _

/-- Everything after an agreed compare writes the channel itself, or no channel (R575). -/
theorem State.afterCompare_othersSame (stop : Nat) (pf hold : Bool) (i : StepIn) (w : Work) (inc : Inc) (saturated : Bool) (s : State) :
    OthersSame n s (s.afterCompare n stop pf hold i w inc saturated) := by
  unfold State.afterCompare
  extract_lets c old len s1 s2 s3 s4 d w1 fault sn heat cool pflags p pr t allHour w2 w3 lockWas lockNow s5 s6 s7 s8 s9 s10
  have h1 : OthersSame n s s1 := .of_moves (State.rollHour_moves s)
  have h2 : OthersSame n s1 s2 := by
    dsimp only [s2]
    split
    · exact .refl n s1
    · exact .of_moves (State.event_moves _ _ _ s1)
  have h3 : OthersSame n s2 s3 := State.putStepFlow_othersSame hn hn40 _ s2
  have h4 : OthersSame n s3 s4 := .ite (.of_moves (State.logCredit_moves _ _ _ _ s3)) (.refl n s3)
  have hsnaps : OthersSame n s4 sn.1 := State.snapshots_othersSame hn hn40 _ w1 s4
  have hprofile : OthersSame n sn.1 pr.1 := by
    dsimp only [pr]
    split
    · rename_i entry _ _
      exact State.profileRec_othersSame hn hn40 entry sn.1
    · exact .refl n sn.1
  have h5 : OthersSame n pr.1 s5 := State.onCh_othersSame hn hn40 pr.1 _
  have h6 : OthersSame n s5 s6 := .of_moves (State.change_moves _ _ _ _ _ _ s5)
  have h7 : OthersSame n s6 s7 := .ite (State.forcedAgain_othersSame hn hn40 s6) (.refl n s6)
  have h8 : OthersSame n s7 s8 := State.policy_othersSame hn hn40 s7
  have h9 : OthersSame n s8 s9 := State.commitStep_othersSame hn hn40 _ _ s8
  have h10 : OthersSame n s9 s10 := .of_moves (State.pulses_moves _ _ _ _ _ _ s9)
  have hclosed : OthersSame n s pr.1 := ((((h1.trans h2).trans h3).trans h4).trans hsnaps).trans hprofile
  exact ((((((hclosed.trans h5).trans h6).trans h7).trans h8).trans h9).trans h10).trans (State.showStep_othersSame hn hn40 _ _ s10)

theorem State.closeStep_othersSame (stop tick : Nat) (pf hold : Bool) (upset : Upset) (s : State) :
    OthersSame n s (s.closeStep n stop tick pf hold upset) := by
  unfold State.closeStep
  extract_lets c i e a b
  refine .ite (.of_moves (State.parityMismatch_moves s)) ?_
  split
  · exact .of_moves (State.dmrMismatch_moves _ _ s)
  · exact State.afterCompare_othersSame hn hn40 _ _ _ _ _ _ _ s

/-! ### The commands -/

omit hn hn40 in
theorem OthersSame.of_next {s t u : State} (h : (Host.Outcome.next u : Out) = .next t) (k : OthersSame n s u) : OthersSame n s t :=
  Host.Outcome.next.inj h ▸ k

variable {s t : State}

theorem execTofSlot_othersSame {slot : Nat} {shot : Shot} (h : execTofSlot n slot shot s = .next t) : OthersSame n s t := by
  rw [execTofSlot, if_neg (by omega)] at h
  split at h
  · exact .of_next h (.refl n s)
  split at h
  · exact .of_next h (.refl n s)
  rename_i pair dir hslot
  extract_lets s1 r at h
  have h1 : OthersSame n s s1 := .ite (State.onFlow_othersSame hn hn40 s _) (.refl n s)
  have hr : OthersSame n s r.1 := h1.trans (State.fireShot_ch hn hn40 slot pair dir shot s1).2
  split at h
  · exact .of_next h (hr.trans (State.onFlow_othersSame hn hn40 r.1 _))
  split at h
  · exact .of_next h hr
  · exact .of_next h ((hr.trans (State.onFlow_othersSame hn hn40 r.1 _)).trans (State.endPair_othersSame hn hn40 _ _ _ _))

theorem execTdShortStopEnd_othersSame (h : execTdShortStopEnd n s = .next t) : OthersSame n s t := by
  rw [execTdShortStopEnd_eq hn hn40] at h
  exact .of_next h (.ite (State.onFlow_othersSame hn hn40 s _) (.refl n s))

theorem execLowQRecovery_othersSame (h : execLowQRecovery n s = .next t) : OthersSame n s t := by
  rw [execLowQRecovery, if_neg (by omega)] at h
  dsimp only at h
  split at h
  · exact .of_next h (.refl n s)
  split at h
  · exact .of_next h (State.putFlow_othersSame hn hn40 s _ _)
  · exact .of_next h (.refl n s)

theorem execStepClose_othersSame {upset : Upset} (h : execStepClose n upset s = .next t) : OthersSame n s t := by
  rw [execStepClose, if_neg (by omega)] at h
  dsimp only at h
  split at h
  · exact .of_next h (.refl n s)
  · exact .of_next h (State.closeStep_othersSame hn hn40 _ _ _ _ _ s)

theorem execStepOverrun_othersSame (h : execStepOverrun n s = .next t) : OthersSame n s t := by
  rw [execStepOverrun, if_neg (by omega)] at h
  split at h
  · exact .of_next h (.refl n s)
  extract_lets s1 s2 at h
  have h2 : OthersSame n s s2 := (OthersSame.of_moves (s.onMeas_moves _)).trans (.of_moves (State.event_moves _ _ _ s1))
  exact .of_next h (h2.trans (State.onCh_othersSame hn hn40 s2 _))

theorem execZeroTrackWindow_othersSame (h : execZeroTrackWindow n s = .next t) : OthersSame n s t := by
  rw [execZeroTrackWindow, if_neg (by omega)] at h
  split at h
  · exact .of_next h (.refl n s)
  extract_lets c z s1 at h
  have h1 : OthersSame n s s1 := State.onCh_othersSame hn hn40 s _
  split at h
  · exact .of_next h h1
  split at h
  · exact .of_next h h1
  · exact .of_next h (h1.trans (State.putFlow_othersSame hn hn40 s1 _ _))

theorem execCalTrackCommit_othersSame (h : execCalTrackCommit n s = .next t) : OthersSame n s t := by
  rw [execCalTrackCommit, if_neg (by omega)] at h
  extract_lets f at h
  split at h
  · exact .of_next h (.refl n s)
  split at h
  · exact .of_next h (.refl n s)
  · exact .of_next h ((State.onFlow_othersSame hn hn40 s _).trans (.of_moves (State.enqueue_moves _ _)))

end

/-- Settles O7: each of the seven commands writes its own channel, or no channel. -/
theorem commandsOfOneChannelLeaveTheOthers : Obligations.CommandsOfOneChannelLeaveTheOthers := by
  unfold Obligations.CommandsOfOneChannelLeaveTheOthers
  intro i s t n shot slot upset hn hn40 hi h
  simp only [List.mem_cons, List.not_mem_nil, or_false] at hi
  rcases hi with rfl | rfl | rfl | rfl | rfl | rfl | rfl
  · exact execTofSlot_othersSame hn hn40 h
  · exact execTdShortStopEnd_othersSame hn hn40 h
  · exact execLowQRecovery_othersSame hn hn40 h
  · exact execStepClose_othersSame hn hn40 h
  · exact execStepOverrun_othersSame hn hn40 h
  · exact execZeroTrackWindow_othersSame hn hn40 h
  · exact execCalTrackCommit_othersSame hn hn40 h

end Sys2Proof.Machine
end

section
/-! ALLOCATOR_FREEZE while a freeze is under way (R432, R433). -/

set_option Elab.async false

namespace Sys2Proof.Machine

/-- A freeze that has handed over its last slot hands over its record at the next ALLOCATOR_FREEZE, whether or not a freeze is due. -/
theorem exec_allocatorFreeze_ends {s : State} {f : FreezeRun} (hmode : s.normal = true ∨ s.backup = true) (hactive : s.active = true)
    (hrun : s.alc.run = some f) (hleft : f.left = []) (hclosed : s.commitsOpen = false) (hroom : s.mem.queue.length < queueBound) :
    ∃ t, exec .allocatorFreeze s = .next t ∧ t.alc.run = none := by
  have hfreeze : s.freeze false = s := if_pos (.inr (by simp [hrun]))
  have hexec : exec .allocatorFreeze s = .next (pumpFreeze 481 s) := by
    refine (if_pos ⟨hmode, hactive⟩).trans ?_
    rw [hfreeze, State.pumpAlc, if_neg (by simp [hclosed])]
  refine ⟨_, hexec, ?_⟩
  rw [pumpFreeze, hrun]
  dsimp only
  rw [if_neg (Nat.not_le.mpr hroom), hleft]
  exact congrArg Alc.run ((State.enqueue_moves _ _).same .alc rfl)

/-- A SOLO module in NORMAL without an ALLOCATORS section whose freeze has one record left to hand over. -/
def endingFreeze : State := { State.reset with
  pwr := { Pwr.reset with state := .run, phase := .running, mode := .normal, vbusOk := true, settRun := true, rootOk := true },
  rtc := { Rtc.reset with settLost := false },
  alc := { State.reset.alc with run := some { seq := 1, key := 0, flags := 0, time := 0, left := [] } } }

/-- Refutes O50: ALLOCATOR_FREEZE changes a module in which no freeze is due, or which has no allocators, where a freeze is still under
way: its record goes to the HOARD queue. The statement has no premise that none is. -/
theorem not_allocatorFramesAreJudgedAndFrozen : ¬ Obligations.AllocatorFramesAreJudgedAndFrozen := by
  unfold Obligations.AllocatorFramesAreJudgedAndFrozen
  rintro ⟨-, -, -, -, hfreeze⟩
  obtain ⟨hidle, -⟩ := hfreeze endingFreeze
  have hstays : exec .allocatorFreeze endingFreeze = .next endingFreeze := hidle (.inr (.inr (.inl rfl)))
  obtain ⟨t, hexec, hended⟩ := exec_allocatorFreeze_ends (s := endingFreeze) (.inl (by decide)) (by decide) rfl rfl (by decide) (by decide)
  obtain rfl : endingFreeze = t := Host.Outcome.next.inj (hstays.symm.trans hexec)
  exact absurd hended (by decide)

end Sys2Proof.Machine
end

section
/-! The wired M-Bus slave: what it hears, the selection, and what it answers under one (R415 to R422). -/

set_option Elab.async false

namespace Sys2Proof.Machine

/-! ### When a frame is served -/

section
variable {s : State} (now : Now) {baud : Nat}

theorem State.busServe_unheard (f : State → State) (h : s.pwr.state ≠ .run ∨ baud = 0 ∨ 6 < baud) : s.busServe now baud f = s := by
  refine if_pos (h.imp_right fun h => ?_)
  rw [busRate, decide_eq_false (by omega)]
  rfl

theorem State.busServe_heard (f : State → State) (hrun : s.pwr.state = .run) (hlo : 1 ≤ baud) (hhi : baud ≤ 6) :
    s.busServe now baud f = if s.onBus then f (s.busFrame now baud) else s.busFrame now baud := by
  have hrate : busRate baud = true := decide_eq_true ⟨hlo, hhi⟩
  exact if_neg (by simp [hrun, hrate])

theorem State.whenSelected_heard (f : Nat → State → State) (hrun : s.pwr.state = .run) (hlo : 1 ≤ baud) (hhi : baud ≤ 6)
    (h : s.onBus = false ∨ s.mbus.selected = none) : s.whenSelected now baud f = s.busFrame now baud := by
  rw [State.whenSelected, State.busServe_heard now _ hrun hlo hhi]
  rcases h with h | h
  · exact if_neg (by simp [h])
  · have hnone : (s.busFrame now baud).mbus.selected = none := h
    rw [hnone, ite_self]

theorem State.whenSelected_selected (f : Nat → State → State) (hrun : s.pwr.state = .run) (hlo : 1 ≤ baud) (hhi : baud ≤ 6)
    (hbus : s.onBus = true) {i : Nat} (h : s.mbus.selected = some i) : s.whenSelected now baud f = f i (s.busFrame now baud) := by
  have hsome : (s.busFrame now baud).mbus.selected = some i := h
  rw [State.whenSelected, State.busServe_heard now _ hrun hlo hhi, if_pos hbus, hsome]

end

/-! ### The selection -/

/-- The identities of a module are pairwise different (R383). -/
theorem State.busIdentities_nodup (s : State) : s.busIdentities.Nodup := by
  have h : s.identities.Nodup := List.nodup_range.filter _
  unfold State.busIdentities
  split
  · exact h.filter _
  · exact h

theorem filter_eq_singleton {l : List Nat} {p : Nat → Bool} {i : Nat} (hnodup : l.Nodup) (hi : i ∈ l) (hp : p i = true)
    (hothers : ∀ j ∈ l, j ≠ i → p j = false) : l.filter p = [i] := by
  have hmem : ∀ j, j ∈ l.filter p ↔ j = i := fun j => by
    rw [List.mem_filter]
    refine ⟨fun ⟨hj, hpj⟩ => ?_, fun h => h ▸ ⟨hi, hp⟩⟩
    by_contra hne
    rw [hothers j hj hne] at hpj
    exact Bool.false_ne_true hpj
  exact List.perm_singleton.mp ((List.perm_ext_iff_of_nodup (hnodup.filter p) (List.nodup_singleton i)).mpr (by simpa using hmem))

theorem exists_two_of_mem {l : List Nat} {i j : Nat} (hi : i ∈ l) (hj : j ∈ l) (hne : i ≠ j) : ∃ a b r, l = a :: b :: r := by
  match l with
  | [] => simp at hi
  | [a] => simp_all
  | a :: b :: r => exact ⟨a, b, r, rfl⟩

/-- The identities that a selection matches (R419). -/
def State.busHits (data : List Byte) (s : State) : List Nat :=
  if data.length = 8 then s.busIdentities.filter fun i => matchesAddress data (longAddress (s.identity i)) else []

/-- What a selection leaves, by the number of the identities that it matches. -/
theorem exec_secondarySelect {s : State} {now : Now} {data : List Byte} {baud : Nat} (hrun : s.pwr.state = .run) (hlo : 1 ≤ baud)
    (hhi : baud ≤ 6) (hbus : s.onBus = true) : exec (.secondarySelect now data baud) s = .next
      (match s.busHits data with
        | [] => (s.busFrame now baud).deselect
        | [i] => ((s.busFrame now baud).deselect.onMBus fun m => { m with selected := some i }).busAck
        | _ :: _ :: _ => (s.busFrame now baud).deselect.busAck.onMBus fun m => { m with collision := true }) := by
  show Host.Outcome.next (s.busServe now baud _) = _
  rw [State.busServe_heard now _ hrun hlo hhi, if_pos hbus]
  rfl

/-! ### REQ_UD2 -/

/-- A READY response of the bus master's context for the selected identity is the answer of the session (R422). -/
theorem State.busSession_ready {s : State} {i k : Nat} (hdirect : s.mbus.direct = none) (hctx : s.ctxOf .busMaster = some k)
    (hident : (s.ctx k).identity = i) (hready : (s.ctx k).st = .ready) : s.busSession i = some
      { ctx := some k, identity := i, key := (s.ctx k).key, acc := (s.ctx k).acc, cmd := (s.ctx k).cmd, result := 1 } := by
  have htrans : s.inTransaction k = true := by simp [State.inTransaction, hready]
  simp only [State.busSession, hdirect, hctx, Option.filter_none, hident, htrans, and_self, if_true]

theorem State.busSession_none {s : State} (i : Nat) (hdirect : s.mbus.direct = none) (hctx : s.ctxOf .busMaster = none) :
    s.busSession i = none := by
  simp only [State.busSession, hdirect, hctx, Option.filter_none]

theorem State.busFresh_ready {s : State} {ms i k : Nat} (hdirect : s.mbus.direct = none) (hctx : s.ctxOf .busMaster = some k)
    (hident : (s.ctx k).identity = i) (hready : (s.ctx k).st = .ready) :
    s.busFresh ms i = some ((s.ctx k).frame.drop 1, (s.onMBus fun m => { m with direct := none }).responded k ms) := by
  have hnone (a : Answer) : (s.onMBus fun m => { m with direct := if m.direct = some a then none else m.direct }) =
      s.onMBus fun m => { m with direct := none } := by
    simp only [State.onMBus, hdirect, ite_self]
  rw [State.busFresh, State.busSession_ready hdirect hctx hident hready]
  dsimp only
  rw [hnone]
  exact State.answerFrame_cached ms rfl (.inl hready)

theorem State.busFresh_nothing {s : State} {i : Nat} (ms : Nat) (hdirect : s.mbus.direct = none) (hctx : s.ctxOf .busMaster = none)
    (hmode : s.pwr.mode ≠ .unconfigured) (hentries : ∀ k, s.firstEntry k i = none) :
    s.busFresh ms i = none ∧ s.busNothing i = true := by
  have hsession := State.busSession_none i hdirect hctx
  by_cases hi : i = 0
  · subst hi
    simp [State.busFresh, State.busNothing, hsession, hmode, hentries]
  · simp [State.busFresh, State.busNothing, hsession, hmode, hentries, hi]

/-- What REQ_UD2 does for the selected identity where no answer is repeated (R422). -/
theorem exec_reqUd2_fresh {s : State} {now : Now} {fcv fcb : Bool} {baud i : Nat} (hrun : s.pwr.state = .run) (hlo : 1 ≤ baud)
    (hhi : baud ≤ 6) (hbus : s.onBus = true) (hsel : s.mbus.selected = some i) (hlast : fcv = false ∨ s.mbus.last = none) :
    exec (.reqUd2 now fcv fcb baud) s = .next (match (s.busFrame now baud).busFresh now.ms i with
      | none => if (s.busFrame now baud).busNothing i then s.busFrame now baud else (s.busFrame now baud).skipResponse
      | some (body, t) => (t.busAnswer (longFrame body)).onMBus fun m => { m with last := some (fcb, longFrame body) }) := by
  have hlast' : fcv = false ∨ (s.busFrame now baud).mbus.last = none := hlast
  show Host.Outcome.next (s.whenSelected now baud _) = _
  rw [State.whenSelected_selected now _ hrun hlo hhi hbus hsel]
  rcases hlast' with hfcv | hnone
  · subst hfcv
    cases hl : (s.busFrame now baud).mbus.last <;> simp only [Bool.false_and, Bool.false_eq_true, if_false] <;> rfl
  · simp only [hnone] <;> rfl

theorem exec_reqUd2_repeats {s : State} {now : Now} {fcb : Bool} {f : List Byte} {baud i : Nat} (hrun : s.pwr.state = .run)
    (hlo : 1 ≤ baud) (hhi : baud ≤ 6) (hbus : s.onBus = true) (hsel : s.mbus.selected = some i) (hlast : s.mbus.last = some (fcb, f)) :
    exec (.reqUd2 now true fcb baud) s = .next ((s.busFrame now baud).busAnswer f) := by
  have hlast' : (s.busFrame now baud).mbus.last = some (fcb, f) := hlast
  show Host.Outcome.next (s.whenSelected now baud _) = _
  rw [State.whenSelected_selected now _ hrun hlo hhi hbus hsel]
  simp only [hlast', Bool.true_and, beq_self_eq_true, if_true]

/-! ### A long frame -/

theorem longFrame_form {body : List Byte} (h : 9 ≤ body.length) :
    (longFrame body).length = body.length - 7 + 6 ∧ (longFrame body).getLast? = some 0x16#8 := by
  have hle (v : Nat) : (le 1 v).length = 1 := rfl
  refine ⟨?_, by rw [longFrame, List.getLast?_concat]⟩
  simp only [longFrame, List.length_append, List.length_take, List.length_drop, List.length_cons, List.length_nil, hle]
  omega

/-! ### The rows -/

/-- From s to t a good frame at a rate has been answered on the bus with bytes (R415, R423, R435). -/
structure State.BusSent (now : Now) (baud : Nat) (bytes : List Byte) (s t : State) : Prop where
  out : t.mbus.out = bytes
  collision : t.mbus.collision = false
  answered : t.mbus.answered = min 255 (s.mbus.answered + 1)
  rate : t.mbus.baud = baud % 8
  pwr : t.pwr = (s.busFrame now baud).pwr

theorem State.BusSent.conj {now : Now} {baud : Nat} {bytes : List Byte} {s t : State} (h : State.BusSent now baud bytes s t) :
    t.mbus.out = bytes ∧ t.mbus.collision = false ∧ t.mbus.answered = min 255 (s.mbus.answered + 1) ∧ t.mbus.baud = baud % 8 ∧
      t.pwr = (s.busFrame now baud).pwr :=
  ⟨h.out, h.collision, h.answered, h.rate, h.pwr⟩

/-- An answer to the frame as it has been heard, whatever else it changes in the selection and the FCB state. -/
theorem State.busAnswer_sent {now : Now} {baud : Nat} (bytes : List Byte) {s u : State} (hpwr : u.pwr = (s.busFrame now baud).pwr)
    (hanswered : u.mbus.answered = s.mbus.answered) (hbaud : u.mbus.baud = baud % 8) :
    State.BusSent now baud bytes s (u.busAnswer bytes) := by
  refine ⟨rfl, rfl, ?_, hbaud, hpwr⟩
  show Word.sat 255 (u.mbus.answered + 1) = _
  rw [hanswered, Word.sat_eq_min]

section
variable {s : State} {now : Now} {baud : Nat} (hrun : s.pwr.state = .run) (hlo : 1 ≤ baud) (hhi : baud ≤ 6) (hbus : s.onBus = true)
include hrun hlo hhi hbus

theorem exec_sndNke (address : Byte) : exec (.sndNke now address baud) s = .next
    (if address = 0xFD#8 then (s.busFrame now baud).deselect.busAck
      else if address = 0xFF#8 then (s.busFrame now baud).deselect else s.busFrame now baud) := by
  show Host.Outcome.next (s.busServe now baud _) = _
  rw [State.busServe_heard now _ hrun hlo hhi, if_pos hbus]

theorem exec_secondarySelect_one {data : List Byte} {i : Nat} (hlen : data.length = 8) (hi : i ∈ s.busIdentities)
    (hmatch : matchesAddress data (longAddress (s.identity i)) = true)
    (hothers : ∀ j ∈ s.busIdentities, j ≠ i → matchesAddress data (longAddress (s.identity j)) = false) :
    exec (.secondarySelect now data baud) s =
      .next ((s.busFrame now baud).deselect.onMBus fun m => { m with selected := some i }).busAck := by
  have hhits : s.busHits data = [i] := by
    rw [State.busHits, if_pos hlen, filter_eq_singleton s.busIdentities_nodup hi hmatch hothers]
  rw [exec_secondarySelect hrun hlo hhi hbus, hhits]

theorem exec_secondarySelect_several {data : List Byte} {i j : Nat} (hlen : data.length = 8) (hi : i ∈ s.busIdentities)
    (hj : j ∈ s.busIdentities) (hne : i ≠ j) (hmatch : matchesAddress data (longAddress (s.identity i)) = true)
    (hmatch' : matchesAddress data (longAddress (s.identity j)) = true) :
    exec (.secondarySelect now data baud) s =
      .next ((s.busFrame now baud).deselect.busAck.onMBus fun m => { m with collision := true }) := by
  have hmem {k : Nat} (hk : k ∈ s.busIdentities) (h : matchesAddress data (longAddress (s.identity k)) = true) : k ∈ s.busHits data := by
    rw [State.busHits, if_pos hlen]
    exact List.mem_filter.mpr ⟨hk, h⟩
  obtain ⟨a, b, r, hhits⟩ := exists_two_of_mem (hmem hi hmatch) (hmem hj hmatch') hne
  rw [exec_secondarySelect hrun hlo hhi hbus, hhits]

theorem exec_secondarySelect_none {data : List Byte}
    (h : data.length ≠ 8 ∨ ∀ i ∈ s.busIdentities, matchesAddress data (longAddress (s.identity i)) = false) :
    exec (.secondarySelect now data baud) s = .next (s.busFrame now baud).deselect := by
  have hhits : s.busHits data = [] := by
    unfold State.busHits
    rcases h with h | h
    · exact if_neg h
    · split
      · exact List.filter_eq_nil_iff.mpr fun i hi => by simp [h i hi]
      · rfl
  rw [exec_secondarySelect hrun hlo hhi hbus, hhits]

variable {i : Nat} (hsel : s.mbus.selected = some i)
include hsel

theorem exec_reqUd1_acks : exec (.reqUd1 now baud) s = .next (s.busFrame now baud).busAck :=
  congrArg Host.Outcome.next (State.whenSelected_selected now _ hrun hlo hhi hbus hsel)

theorem exec_sndUdOther_acks : exec (.sndUdOther now baud) s = .next (s.busFrame now baud).busAck :=
  congrArg Host.Outcome.next (State.whenSelected_selected now _ hrun hlo hhi hbus hsel)

theorem exec_baudSwitch_acks {ci : Byte} (hci : 0xB8 ≤ ci.toNat) (hci' : ci.toNat ≤ 0xBD) :
    exec (.baudSwitch now ci baud) s = .next (s.busFrame now baud).busAck :=
  congrArg Host.Outcome.next ((State.whenSelected_selected now _ hrun hlo hhi hbus hsel).trans (if_pos ⟨hci, hci'⟩))

/-- A request for the selected identity joins the inbox of the session engine (R421). -/
theorem exec_sndUdRequest_acks (frame : List Byte) : exec (.sndUdRequest now frame baud) s = .next
    (if fieldAt frame 0 1 = 0x90 ∧ fieldAt frame 17 1 = 0x5B ∧ slice frame 18 8 = longAddress (s.identity i) ∧
        (s.normal || s.backup) = true then
      (s.busFrame now baud).busAck.onSess fun e => { e with inbox := e.inbox ++ [frame] }
    else (s.busFrame now baud).busAck) :=
  congrArg Host.Outcome.next (State.whenSelected_selected now _ hrun hlo hhi hbus hsel)

end

/-- Settles O55: a frame is unheard, heard, served or served under a selection, and each row is one operation on the frame as heard. -/
theorem mBusFramesAreServedUnderTheSelection : Obligations.MBusFramesAreServedUnderTheSelection := by
  unfold Obligations.MBusFramesAreServedUnderTheSelection
  refine ⟨?_, fun body h => longFrame_form h⟩
  intro s now baud address ci data frame fcv fcb u sent
  have hu : Moves [.pwr, .mbus] s u := State.busFrame_moves now baud s
  refine ⟨rfl, rfl, hu.1, fun h => ?unheard, fun h => if_pos h, fun hrun => ?error, fun hrun hlo hhi => ⟨fun h => ?silent,
    fun h => ?unselected, fun hbus => ⟨?nke, ?select, fun i hsel => ⟨?acks, ?request, fun f hlast => ?repeats,
      fun k hlast hdirect hk hctx hident hready => ?ready, fun hlast hdirect hctx hmode hentries => ?nothing⟩⟩⟩⟩
  case unheard =>
    have unheard (f : State → State) : (.next (s.busServe now baud f) : Out) = .next s := by rw [State.busServe_unheard now f h]
    exact ⟨unheard _, unheard _, unheard _, unheard _, unheard _, unheard _, unheard _⟩
  case error =>
    refine ⟨_, if_neg (not_not.mpr hrun), ?_, rfl, ((State.onPwr_moves _ _).after (State.onMBus_moves _ _).alone).1⟩
    rw [State.onPwr_mbus, State.onMBus_mbus, Word.sat_eq_min]
  case silent =>
    have silent (f : State → State) : (.next (s.busServe now baud f) : Out) = .next u := by
      rw [State.busServe_heard now f hrun hlo hhi, if_neg (by simp [h])]
    exact ⟨silent _, silent _⟩
  case unselected =>
    have unselected (f : Nat → State → State) : (.next (s.whenSelected now baud f) : Out) = .next u := by
      rw [State.whenSelected_heard now f hrun hlo hhi h]
    exact ⟨unselected _, unselected _, unselected _, unselected _, unselected _⟩
  case nke =>
    refine ⟨_, exec_sndNke hrun hlo hhi hbus address, ?_, fun h => ?_, fun h => ?_, fun h h' => ?_⟩
    · exact (Moves.ite ((State.busAck_moves _).after (State.deselect_moves u |>.after hu))
        (.ite ((State.deselect_moves u).after hu) hu)).1
    · rw [if_pos h]
      exact ⟨(State.busAnswer_sent (u := u.deselect) _ rfl rfl rfl).conj, rfl, rfl⟩
    · rw [if_neg (by rw [h]; decide), if_pos h]
      rfl
    · rw [if_neg h, if_neg h']
  case select =>
    obtain ⟨t, ht⟩ : ∃ t, exec (.secondarySelect now data baud) s = .next t := ⟨_, exec_secondarySelect hrun hlo hhi hbus⟩
    have answered {v : State} (h : exec (.secondarySelect now data baud) s = .next v) : v = t := Host.Outcome.next.inj (h.symm.trans ht)
    refine ⟨t, ht, (exec_moves ht).1, ?_, fun hlen => ?_, fun hlen => ⟨fun i hi hmatch hothers => ?_,
      fun i j hi hj hne hmatch hmatch' => ?_, fun hno => ?_⟩⟩
    · rw [← answered (exec_secondarySelect hrun hlo hhi hbus)]
      split <;> rfl
    · rw [← answered (exec_secondarySelect_none hrun hlo hhi hbus (.inl hlen))]
      rfl
    · rw [← answered (exec_secondarySelect_one hrun hlo hhi hbus hlen hi hmatch hothers)]
      exact ⟨(State.busAnswer_sent (u := u.deselect.onMBus fun m => { m with selected := some i }) _ rfl rfl rfl).conj, rfl⟩
    · rw [← answered (exec_secondarySelect_several hrun hlo hhi hbus hlen hi hj hne hmatch hmatch')]
      exact ⟨rfl, rfl, rfl⟩
    · rw [← answered (exec_secondarySelect_none hrun hlo hhi hbus (.inr hno))]
      rfl
  case acks =>
    exact ⟨_, exec_reqUd1_acks hrun hlo hhi hbus hsel, exec_sndUdOther_acks hrun hlo hhi hbus hsel,
      (State.busAnswer_sent (u := u) _ rfl rfl rfl).conj, hsel, rfl, ((State.busAck_moves u).after hu).1,
      fun hci hci' => exec_baudSwitch_acks hrun hlo hhi hbus hsel hci hci'⟩
  case request =>
    have hexec := exec_sndUdRequest_acks (now := now) hrun hlo hhi hbus hsel frame
    have hacked : Moves [.pwr, .mbus, .sess] s u.busAck := (State.busAck_moves u).after hu.alone
    have hsent := (State.busAnswer_sent (now := now) (baud := baud) (s := s) (u := u) [0xE5#8] rfl rfl rfl).conj
    by_cases hnames : fieldAt frame 0 1 = 0x90 ∧ fieldAt frame 17 1 = 0x5B ∧ slice frame 18 8 = longAddress (s.identity i) ∧
        (s.normal || s.backup) = true
    · rw [if_pos hnames] at hexec
      refine ⟨_, hexec, hsent, hsel, ((State.onSess_moves _ _).after hacked).1, fun _ _ _ _ => rfl, fun h => ?_⟩
      obtain ⟨h90, h5B, hident, hmode⟩ := hnames
      simp [h90, h5B, hident] at h
      simp [h] at hmode
    · rw [if_neg hnames] at hexec
      exact ⟨_, hexec, hsent, hsel, hacked.1, fun h90 h5B hident hmode => absurd ⟨h90, h5B, hident, by simpa using hmode⟩ hnames,
        fun _ => rfl⟩
  case repeats =>
    exact ⟨_, exec_reqUd2_repeats hrun hlo hhi hbus hsel hlast, (State.busAnswer_sent (u := u) _ rfl rfl rfl).conj, hsel, rfl,
      ((State.busAnswer_moves _ u).after hu).1⟩
  case ready =>
    have hfresh := State.busFresh_ready (s := u) (ms := now.ms) hdirect hctx hident hready
    have hexec := exec_reqUd2_fresh (now := now) (fcb := fcb) hrun hlo hhi hbus hsel hlast
    rw [hfresh, show u.ctx k = s.ctx k from rfl] at hexec
    dsimp only at hexec
    generalize longFrame ((s.ctx k).frame.drop 1) = f at hexec ⊢
    set v := u.onMBus fun m => { m with direct := none }
    have hv : Moves [.sess] v (v.responded k now.ms) := State.responded_moves k now.ms v
    have hmbus : (v.responded k now.ms).mbus = v.mbus := hv.same .mbus rfl
    have hpwr : (v.responded k now.ms).pwr = v.pwr := hv.same .pwr rfl
    have hsent := (State.busAnswer_sent (now := now) (baud := baud) (s := s) (u := v.responded k now.ms) f hpwr (by rw [hmbus]; rfl)
      (by rw [hmbus]; rfl)).conj
    have hanswer : Moves [.mbus] (v.responded k now.ms)
        (((v.responded k now.ms).busAnswer f).onMBus fun m => { m with last := some (fcb, f) }) :=
      (State.onMBus_moves _ _).after (State.busAnswer_moves _ _)
    have hidle : (v.responded k now.ms).ctx k = { s.ctx k with st := .idle, since := now.ms } :=
      (State.responded_ctx hk now.ms v).trans (if_pos hready)
    exact ⟨_, hexec, hsent, rfl, (ctx_congr (congrArg Sess.ctxs (hanswer.same .sess rfl)) k).trans hidle,
      (hanswer.after <| hv.after <| (State.onMBus_moves u _).after hu.alone).1⟩
  case nothing =>
    obtain ⟨hfresh, hno⟩ := State.busFresh_nothing (s := u) now.ms hdirect hctx hmode hentries
    have hexec := exec_reqUd2_fresh (now := now) (fcb := fcb) hrun hlo hhi hbus hsel hlast
    rw [hfresh] at hexec
    exact hexec.trans (by rw [if_pos hno])

end Sys2Proof.Machine
end

section
/-! SWITCHOVER_HANDOVER on a SOLO module (R37, R468, R558). -/

set_option Elab.async false

namespace Sys2Proof.Machine

/-- A SOLO module is active whatever its pair group says, so a step that moves neither the supply group nor TEST sets no MODE event
on it (R37, R468). -/
theorem State.noteMode_solo {s t : State} (hsolo : s.pwr.strapRole = 0) (hpwr : t.pwr = s.pwr) (htest : t.meas.test = s.meas.test) :
    s.noteMode t = t := by
  refine if_pos ⟨?_, htest.symm, ?_⟩
  · simp only [State.modeCode, hpwr]
  · simp only [State.drives, State.active, State.normal, State.backup, State.running, hpwr, hsolo, beq_self_eq_true, Bool.true_or]

/-- At edge H of a switchover the active member hands over. -/
theorem exec_switchoverHandover_handsOver {s : State} {h : Nat} (now : Now) (upsets : List (Nat × Upset)) (hasked : s.pair.switching = true)
    (hactive : s.active = true) (hhand : s.pair.handTick = some h) (hdue : h ≤ s.meas.tick) :
    exec (.switchoverHandover now upsets) s = .next (s.noteMode (s.handOver now.ms upsets)) := by
  refine (if_neg (by simp [hasked, hactive])).trans ?_
  rw [hhand]
  exact if_pos hdue

/-- A SOLO module in NORMAL whose pair group holds an accepted switchover at its edge H. -/
def soloSwitching : State := { State.reset with
  pwr := { Pwr.reset with state := .run, phase := .running, mode := .normal, vbusOk := true, settRun := true, rootOk := true },
  rtc := { Rtc.reset with settLost := false },
  pair := { State.reset.pair with switching := true, handTick := some 0 } }

/-- Refutes O60: SWITCHOVER_HANDOVER at its edge H sets MOD_EVENTS.MODE only where ACTIVE, MODE or TEST changes, and on a SOLO module,
which stays active without regard to its pair group, none of them does. The statement does not ask for a pair role. -/
theorem not_theActiveRolePassesOnlyByItsRules : ¬ Obligations.TheActiveRolePassesOnlyByItsRules := by
  unfold Obligations.TheActiveRolePassesOnlyByItsRules
  rintro ⟨-, -, -, -, -, hswitch, -⟩
  let now : Now := { ms := 0, sub := 0, cyc := 0 }
  obtain ⟨-, -, hhand⟩ := hswitch soloSwitching now []
  obtain ⟨-, hedge⟩ := hhand 0 rfl (by decide) rfl
  obtain ⟨t, hexec, -, -, -, -, -, -, -, -, -, htest, hevent⟩ := hedge (Nat.zero_le _)
  have hnext := exec_switchoverHandover_handsOver now [] (s := soloSwitching) rfl (by decide) rfl (Nat.zero_le _)
  obtain rfl : t = soloSwitching.noteMode (soloSwitching.handOver now.ms []) := Host.Outcome.next.inj (hexec.symm.trans hnext)
  have hmoves := State.handOver_moves now.ms [] soloSwitching
  rw [State.noteMode_meas] at htest
  rw [State.noteMode_solo rfl (hmoves.same .pwr rfl) htest, hmoves.same .hl rfl] at hevent
  exact absurd (hevent (by decide)) (by decide)

end Sys2Proof.Machine
end

section
/-! The display between evaluations: what it is asked for, accepts and renders (R521 to R527, R569). -/

set_option Elab.async false

namespace Sys2Proof.Machine

/-! ### The display group alone -/

theorem State.onDisp_self {s : State} {f : Disp → Disp} (h : f s.disp = s.disp) : s.onDisp f = s := by
  rw [State.onDisp, h]

/-- What a region shows does not depend on the display group. -/
theorem State.regionText_onDisp (f : Disp → Disp) (c : DisplayCfg) (k r : Nat) (s : State) :
    (s.onDisp f).regionText c k r = s.regionText c k r := rfl

theorem State.dispNormal_iff {s : State} : s.dispNormal = true ↔ s.normal = true ∧ s.active = true ∧ s.pwr.pfActive = false := by
  simp only [State.dispNormal, Bool.and_eq_true, Bool.not_eq_true', and_assoc]

/-- From s to t the display group differs at most in the panel's phase, the rails, the updates and requests, the texts and the
events. -/
def State.DispAsks (s t : State) : Prop :=
  ∃ p r g u h x e, t.disp = { s.disp with panel := p, railsOn := r, ramping := g, updates := u, held := h, texts := x, events := e }

section
variable {s t u : State}

theorem State.DispAsks.of_disp_eq (h : t.disp = s.disp) : s.DispAsks t := ⟨_, _, _, _, _, _, _, h⟩

theorem State.DispAsks.refl (s : State) : s.DispAsks s := .of_disp_eq rfl

theorem State.DispAsks.trans (h : s.DispAsks t) (k : t.DispAsks u) : s.DispAsks u := by
  obtain ⟨_, _, _, _, _, _, _, h⟩ := h
  obtain ⟨p, r, g, v, l, x, e, k⟩ := k
  exact ⟨p, r, g, v, l, x, e, by rw [k, h]⟩

theorem State.DispAsks.ite {c : Prop} [Decidable c] (h : s.DispAsks t) (k : s.DispAsks u) : s.DispAsks (if c then t else u) := by
  split
  · exact h
  · exact k

theorem State.DispAsks.foldl {α : Type} {f : State → α → State} (hf : ∀ (u : State) a, u.DispAsks (f u a)) (l : List α) (s : State) :
    s.DispAsks (l.foldl f s) := by
  induction l generalizing s with
  | nil => exact .refl s
  | cons a l ih => exact (hf s a).trans (ih _)

end

/-- Only the texts change when a target is noted or rendered. -/
def State.DispTexts (s t : State) : Prop := ∃ x, t.disp = { s.disp with texts := x }

theorem State.DispTexts.asks {s t : State} (h : s.DispTexts t) : s.DispAsks t := by
  obtain ⟨x, h⟩ := h
  exact ⟨_, _, _, _, _, x, _, h⟩

theorem State.noteText_texts (c : DisplayCfg) (t : Target) (s : State) : s.DispTexts (s.noteText c t) := by
  cases t with
  | region r => exact ⟨_, rfl⟩
  | rom => exact ⟨_, rfl⟩
  | refresh cause => exact ⟨_, rfl⟩

theorem State.renderTarget_texts (c : DisplayCfg) (t : Target) (s : State) : s.DispTexts (s.renderTarget c t) := by
  obtain ⟨x, hx⟩ := s.noteText_texts c t
  refine ⟨x, Eq.trans ?_ hx⟩
  have hregion (u : State) (r : Nat) : (u.renderRegion c u.disp.screen r).disp = u.disp := (State.renderRegion_moves _ _ _ _).same .disp rfl
  have hrom (u : State) : (u.renderRom c u.disp.rom).disp = u.disp := (State.renderRom_moves _ _ _).same .disp rfl
  have hall (l : List Nat) (u : State) : (l.foldl (fun u r => u.renderRegion c u.disp.screen r) u).disp = u.disp :=
    (Moves.foldl (gs := [.sram, .marks]) _ l (fun u r => State.renderRegion_moves _ _ _ _) (Moves.refl _ u)).same .disp rfl
  cases t with
  | region r => exact hregion _ r
  | rom => exact hrom _
  | refresh cause =>
    unfold State.renderTarget
    dsimp only
    split
    · exact hall _ _
    · exact hrom _

/-! ### Requests and their admission -/

theorem State.ask_asks (u : Update) (s : State) : s.DispAsks (s.ask u) := by
  unfold State.DispAsks
  rw [State.ask, State.onDisp_disp, Disp.hold]
  split
  · exact ⟨_, _, _, _, _, _, _, rfl⟩
  · split
    · exact ⟨_, _, _, _, _, _, _, rfl⟩
    · exact ⟨_, _, _, _, _, _, _, rfl⟩

theorem State.compareRegions_asks (c : DisplayCfg) (why : Why) (s : State) : s.DispAsks (s.compareRegions c why) := by
  have hdrop : s.DispAsks (s.onDisp Disp.dropHidden) := ⟨_, _, _, _, _, _, _, rfl⟩
  exact hdrop.trans <| .ite (.foldl (fun u r => .ite (.refl u) (u.ask_asks _)) _ _) (.ite (.refl _) (State.ask_asks _ _))

theorem State.decideOne_asks (c : DisplayCfg) (ms : Nat) (u : Update) (s : State) : s.DispAsks (s.decideOne c ms u) := by
  have haccepted := (s.noteText_texts c u.target).asks
  exact .ite (.refl s) (.ite ⟨_, _, _, _, _, _, _, rfl⟩ (haccepted.trans ⟨_, _, _, _, _, _, _, rfl⟩))

theorem State.renderNext_asks (c : DisplayCfg) (s : State) : s.DispAsks (s.renderNext c) := by
  refine .foldl (fun t i => ?_) _ s
  split
  · exact .refl t
  · exact (t.renderTarget_texts c _).asks.trans ⟨_, _, _, _, _, _, _, rfl⟩

theorem State.decideIfOff_asks (c : DisplayCfg) (ms : Nat) (s : State) : s.DispAsks (s.decideIfOff c ms) :=
  .ite (.refl s) ((State.DispAsks.foldl (fun t u => t.decideOne_asks c ms u) _ s).trans (State.renderNext_asks c _))

/-- A request is accepted with an end at most 3 s ahead, or the updates stay as they are (R523, R524). -/
theorem State.decideOne_updates (c : DisplayCfg) (ms : Nat) (u : Update) (s : State) :
    (s.decideOne c ms u).disp.updates = s.disp.updates ∨
      ∃ v ∈ (s.decideOne c ms u).disp.updates, v.target = u.target ∧ v.stop ≤ ms + 3000 ∧
        ms + 20 + 20 * s.framesOf s.waveRange u.clean ≤ v.stop := by
  unfold State.decideOne
  split
  case isTrue => exact .inl rfl
  extract_lets others stop s1
  split
  case isTrue => exact .inl rfl
  rename_i hstop
  refine .inr ⟨{ u with stop := stop }, ?_, rfl, Nat.le_of_not_lt hstop, Nat.add_le_add_right ?_ _⟩
  · show _ ∈ acceptUpdate _ _
    unfold acceptUpdate
    split
    · rename_i hpending
      obtain ⟨v, hv, hsame⟩ := List.any_eq_true.mp hpending
      exact List.mem_map.mpr ⟨v, hv, if_pos hsame⟩
    · exact List.mem_append_right _ List.mem_cons_self
  · have hmax (l : List Update) (t0 : Nat) : t0 ≤ l.foldl (fun t v => max t v.stop) t0 := by
      induction l generalizing t0 with
      | nil => exact Nat.le_refl t0
      | cons v l ih => exact (Nat.le_max_left _ _).trans (ih _)
    exact (Nat.le_add_right _ _).trans (hmax _ _)

/-! ### The updates that can be rendered -/

/-- An update that has started is rendered no more. -/
theorem State.renderNext_none {s : State} (c : DisplayCfg) (h : ∀ u ∈ s.disp.updates, u.started = true ∨ u.rendered = true) :
    s.renderNext c = s := by
  have hdue : (s.disp.updates.zipIdx.filter fun v => !v.1.started && !v.1.rendered &&
      Disp.canStart c true s.disp.updates v.2 v.1) = [] := by
    refine List.filter_eq_nil_iff.mpr fun v hv => ?_
    rcases h v.1 (List.fst_mem_of_mem_zipIdx hv) with hstarted | hrendered
    · simp [hstarted]
    · simp [hrendered]
  rw [State.renderNext]
  rw [hdue]
  rfl

/-- The only update can take its area (R523). -/
theorem Disp.canStart_alone (c : DisplayCfg) (ending : Bool) (u : Update) : Disp.canStart c ending [u] 0 u = true := by
  simp [Disp.canStart]

theorem State.renderNext_alone {s : State} (c : DisplayCfg) {u : Update} (h : s.disp.updates = [u]) (hstarted : u.started = false)
    (hrendered : u.rendered = false) :
    ∃ x, (s.renderNext c).disp = { s.disp with texts := x, updates := [{ u with rendered := true }] } := by
  obtain ⟨x, hx⟩ := s.renderTarget_texts c u.target
  have heq : s.renderNext c = (s.renderTarget c u.target).onDisp fun d => { d with
      updates := updAt d.updates 0 fun v => { v with rendered := true } } := by
    rw [State.renderNext]
    rw [h]
    simp [hstarted, hrendered, Disp.canStart_alone]
  refine ⟨x, ?_⟩
  rw [heq, State.onDisp_disp, hx]
  dsimp only
  rw [h]
  rfl

/-! ### Requests decided with the rails off (R509, R523) -/

theorem State.decideIfOff_on {s : State} (c : DisplayCfg) (ms : Nat) (h : s.disp.railsOn = true) : s.decideIfOff c ms = s := if_pos h

theorem State.decideHeld_none {s : State} (c : DisplayCfg) (ms : Nat) (h : s.disp.held = []) : s.decideHeld c ms = s := by
  rw [State.decideHeld, h, List.foldl_nil]

theorem State.decideIfOff_none {s : State} (c : DisplayCfg) (ms : Nat) (hheld : s.disp.held = []) (hupdates : s.disp.updates = []) :
    s.decideIfOff c ms = s := by
  rw [State.decideIfOff, State.decideHeld_none c ms hheld, State.renderNext_none c (by simp [hupdates]), ite_self]

/-- The only request, on a panel at rest, is accepted and rendered, and the rails come up for it. -/
theorem State.decideIfOff_alone {s : State} {c : DisplayCfg} {ms : Nat} {u : Update} (hheld : s.disp.held = [u])
    (hupdates : s.disp.updates = []) (hoff : s.disp.railsOn = false) (hlock : s.disp.lockout = false) (hsoon : s.tooSoon c u ms = false)
    (hfits : 50 + 20 * s.framesOf s.waveRange u.clean ≤ 3000) (hstarted : u.started = false) (hrendered : u.rendered = false) :
    ∃ x, (s.decideIfOff c ms).disp = { s.disp with
      texts := x, held := [], railsOn := true, ramping := true, panel := .up ms
      updates := [{ u with stop := ms + 50 + 20 * s.framesOf s.waveRange u.clean, rendered := true }] } := by
  obtain ⟨x, hx⟩ := s.noteText_texts c u.target
  have hstop : s.admitEnd c u [] ms = ms + 50 + 20 * s.framesOf s.waveRange u.clean := by
    simp [State.admitEnd, hoff]
  have hsame : u.target.same u.target = true := by cases htarget : u.target <;> simp [Target.same]
  have hone : (s.decideOne c ms u).disp = { s.disp with
      texts := x, held := [], railsOn := true, ramping := true, panel := .up ms
      updates := [{ u with stop := ms + 50 + 20 * s.framesOf s.waveRange u.clean }] } := by
    rw [State.decideOne, if_neg (by simp [hlock, hsoon])]
    dsimp only
    rw [hupdates, List.filter_nil, hstop, if_neg (by omega), State.onDisp_disp, hx]
    simp [hheld, hoff, hupdates, hsame, acceptUpdate]
  obtain ⟨y, hy⟩ := State.renderNext_alone c (congrArg Disp.updates hone) hstarted hrendered
  refine ⟨y, ?_⟩
  rw [State.decideIfOff, if_neg (by simp [hoff]), State.decideHeld, hheld, List.foldl_cons, List.foldl_nil, hy, hone]

end Sys2Proof.Machine
end
section
/-! DISPLAY_EVALUATION, KEY_PRESS and SCREEN_TIMEOUT (R521, R522, R527, R569). -/

set_option Elab.async false

namespace Sys2Proof.Machine

/-! ### The comparison of the regions (R521) -/

/-- Region r does not show, and is not to show, what it should. -/
def State.regionStale (c : DisplayCfg) (s : State) (r : Nat) : Bool :=
  !decide (s.disp.textOf r = some (s.regionText c s.disp.screen r))

theorem State.regionStale_iff {c : DisplayCfg} {s : State} {r : Nat} :
    s.regionStale c r = true ↔ s.disp.textOf r ≠ some (s.regionText c s.disp.screen r) := by
  simp [State.regionStale]

/-- A request for a region whose content has changed joins the requests, unless the region has one. -/
theorem Disp.hold_region {d : Disp} {r : Nat} (why : Why) (h : ∀ v ∈ d.held, v.target ≠ .region r) :
    d.hold (.ask (.region r) why false false) = { d with held := d.held ++ [.ask (.region r) why false false] } := by
  have hsame : ¬ (d.held.any fun v => v.target.same (.region r)) = true := by
    rw [List.any_eq_true]
    rintro ⟨v, hv, hsame⟩
    refine h v hv ?_
    cases htarget : v.target <;> simp_all [Target.same]
  exact (if_neg (by simp [Update.isRefresh, Update.ask])).trans (if_neg hsame)

/-- Each stale region of a list without repetitions joins the requests, in order. -/
theorem State.compare_foldl (c : DisplayCfg) (why : Why) {l : List Nat} (hl : l.Nodup) (s : State)
    (hnew : ∀ v ∈ s.disp.held, ∀ r ∈ l, v.target ≠ .region r) :
    l.foldl (fun t r => if t.disp.textOf r = some (t.regionText c t.disp.screen r) then t
        else t.ask (.ask (.region r) why false false)) s =
      s.onDisp fun d => { d with
        held := d.held ++ (l.filter (s.regionStale c)).map fun r => .ask (.region r) why false false } := by
  induction l generalizing s with
  | nil => exact (State.onDisp_self (by simp)).symm
  | cons r l ih =>
    obtain ⟨hr, hl⟩ := List.nodup_cons.mp hl
    rw [List.foldl_cons]
    by_cases hshown : s.disp.textOf r = some (s.regionText c s.disp.screen r)
    · rw [if_pos hshown, ih hl s fun v hv q hq => hnew v hv q (List.mem_cons_of_mem r hq),
        List.filter_cons_of_neg (by simp [State.regionStale, hshown])]
    · have hask : s.ask (.ask (.region r) why false false) =
          s.onDisp fun d => { d with held := s.disp.held ++ [.ask (.region r) why false false] } :=
        congrArg (fun d => ({ s with disp := d } : State)) (Disp.hold_region why fun v hv => hnew v hv r List.mem_cons_self)
      rw [if_neg hshown, hask, ih hl, List.filter_cons_of_pos (State.regionStale_iff.mpr hshown)]
      · simp only [State.onDisp, List.append_assoc, List.map_cons, List.cons_append, List.nil_append]
        rfl
      · intro v hv q hq
        rcases List.mem_append.mp hv with hold | hask
        · exact hnew v hold q (List.mem_cons_of_mem r hq)
        · rw [List.mem_singleton.mp hask]
          exact fun heq => hr (Target.region.inj heq ▸ hq)

/-- With no ROM screen and no request held, the stale regions are what is asked for. -/
theorem State.compareRegions_stale {s : State} (c : DisplayCfg) (why : Why) (hrom : s.disp.rom = 0) (hheld : s.disp.held = []) :
    s.compareRegions c why = s.onDisp fun d => { d with
      held := ((List.range c.regions.length).filter (s.regionStale c)).map fun r => .ask (.region r) why false false } := by
  have hdrop : s.onDisp Disp.dropHidden = s := State.onDisp_self (by rw [Disp.dropHidden, hheld, List.filter_nil, ← hheld])
  rw [State.compareRegions, hdrop]
  rw [if_pos hrom, State.compare_foldl c why List.nodup_range s (by simp [hheld])]
  simp only [State.onDisp, hheld, List.nil_append]

/-- With every region as it should be, nothing is asked for. -/
theorem State.compareRegions_shown {s : State} (c : DisplayCfg) (why : Why) (hrom : s.disp.rom = 0) (hheld : s.disp.held = [])
    (hshown : ∀ r, r < c.regions.length → s.disp.textOf r = some (s.regionText c s.disp.screen r)) : s.compareRegions c why = s := by
  have hstale : (List.range c.regions.length).filter (s.regionStale c) = [] :=
    List.filter_eq_nil_iff.mpr fun r hr hstale => State.regionStale_iff.mp hstale (hshown r (List.mem_range.mp hr))
  rw [State.compareRegions_stale c why hrom hheld, hstale]
  exact State.onDisp_self (by rw [List.map_nil, ← hheld])

/-- With one stale region, that region is asked for. -/
theorem State.compareRegions_one {s : State} {c : DisplayCfg} (why : Why) {r : Nat} (hrom : s.disp.rom = 0) (hheld : s.disp.held = [])
    (hr : r < c.regions.length) (hstale : s.disp.textOf r ≠ some (s.regionText c s.disp.screen r))
    (hothers : ∀ q, q < c.regions.length → q ≠ r → s.disp.textOf q = some (s.regionText c s.disp.screen q)) :
    s.compareRegions c why = s.onDisp fun d => { d with held := [.ask (.region r) why false false] } := by
  have honly : (List.range c.regions.length).filter (s.regionStale c) = [r] := by
    have hcongr : (List.range c.regions.length).filter (s.regionStale c) = (List.range c.regions.length).filter (· == r) := by
      refine List.filter_congr fun q hq => ?_
      by_cases hqr : q = r
      · rw [hqr, State.regionStale_iff.mpr hstale, beq_self_eq_true]
      · simp [State.regionStale, hothers q (List.mem_range.mp hq) hqr, hqr]
    rw [hcongr, List.filter_beq, List.count_eq_one_of_mem List.nodup_range (List.mem_range.mpr hr)]
    rfl
  rw [State.compareRegions_stale c why hrom hheld, honly]
  rfl

/-! ### The evaluation (R521, R527, R569) -/

theorem State.composerRead_sound {s : State} (c : DisplayCfg) (h : s.mem.parityIn 0x40000 0x9600 = false) : s.composerRead c = s := by
  rw [State.composerRead, List.filter_eq_nil_iff.mpr (List.any_eq_false.mp h)]
  rfl

/-- A parity error in a region's bytes of the frame buffers is registered, and what the region shows is not known any more. -/
theorem State.composerRead_spoilt {s : State} {c : DisplayCfg} {r : Nat}
    (h : ∃ x ∈ s.mem.parity, 0x40000 ≤ x ∧ x < 0x49600 ∧ c.holdsByte r x = true) :
    (s.composerRead c).flt.lastKind = 2 ∧ (s.composerRead c).flt.lastReader = 7 ∧ (s.composerRead c).disp.textOf r = none ∧
      s.DispTexts (s.composerRead c) := by
  obtain ⟨x, hx, hlo, hhi, hholds⟩ := h
  have hbad : x ∈ s.mem.parity.filter fun a => decide (0x40000 ≤ a ∧ a < 0x49600) := by simp [hx, hlo, hhi]
  have hne := List.ne_nil_of_mem hbad
  have heq : s.composerRead c = (s.sramRead 0x40000 0x9600 7).onDisp fun d => { d with texts := d.texts.filter fun e =>
      !((s.mem.parity.filter fun a => decide (0x40000 ≤ a ∧ a < 0x49600)).any (c.holdsByte e.1)) } :=
    if_neg (by simpa using hne)
  obtain ⟨hkind, hreader⟩ := Flt.parityAt_last (reader := 7) hne s.flt
  have hdisp : (s.sramRead 0x40000 0x9600 7).disp = s.disp := (State.sramRead_moves _ _ _ s).same .disp rfl
  rw [State.DispTexts, heq, State.onDisp_flt, State.onDisp_disp, hdisp]
  refine ⟨?_, ?_, ?_, _, rfl⟩
  · rw [State.sramRead_eq]
    exact hkind
  · rw [State.sramRead_eq]
    exact hreader
  · have hgone : (s.disp.texts.filter fun e =>
        !((s.mem.parity.filter fun a => decide (0x40000 ≤ a ∧ a < 0x49600)).any (c.holdsByte e.1))).find? (fun e => e.1 == r) = none := by
      refine List.find?_eq_none.mpr fun e he hkey => ?_
      have hclean := (List.mem_filter.mp he).2
      rw [beq_iff_eq.mp hkey, List.any_eq_true.mpr ⟨x, hbad, hholds⟩] at hclean
      cases hclean
    exact congrArg (Option.map _) hgone

theorem State.refreshDue_later {s : State} {ms m : Nat} (hwant : s.disp.want = none) (hlast : s.disp.lastMs = some m)
    (hms : ms < m + 86400000) : s.refreshDue ms = s := by
  rw [State.refreshDue, hwant]
  dsimp only
  rw [hlast]
  exact if_neg (Nat.not_le.mpr hms)

/-- Before its instant, without a DISPLAY section or in a power failure an evaluation does nothing (R521). -/
theorem exec_displayEvaluation_idle {now : Now} {s : State}
    (h : s.dispCfg = none ∨ s.meas.tick % 4 ≠ 0 ∨ now.cyc < 960000 ∨ s.running = false ∨ s.pwr.pfActive = true) :
    exec (.displayEvaluation now) s = .next s := by
  show execDisplayEvaluation now s = _
  unfold execDisplayEvaluation
  split
  · rfl
  · rename_i c hcfg
    exact if_pos (by simpa [hcfg] using h)

theorem exec_displayEvaluation_normal {now : Now} {s : State} {c : DisplayCfg} (hcfg : s.dispCfg = some c) (hnormal : s.dispNormal = true)
    (htick : s.meas.tick % 4 = 0) (hcyc : 960000 ≤ now.cyc) :
    exec (.displayEvaluation now) s =
      .next ((((s.composerRead c).refreshDue now.ms).compareRegions c .content).decideIfOff c now.ms) := by
  obtain ⟨hrun, -, hpf⟩ := State.dispNormal_iff.mp hnormal
  have hrunning : s.running = true := (Bool.and_eq_true_iff.mp hrun).1
  show execDisplayEvaluation now s = _
  rw [execDisplayEvaluation, hcfg]
  dsimp only
  rw [if_neg (by simp [htick, hrunning, hpf]; omega), if_pos hnormal]

/-! ### Keys (R522) -/

theorem exec_keyPress_idle {now : Now} {low : Nat} {s : State} (h : s.dispCfg = none ∨ s.dispNormal = false ∨ low < 20) :
    exec (.keyPress now low) s = .next s := by
  show execKeyPress now low s = _
  unfold execKeyPress
  split
  · rfl
  · rename_i c hcfg
    exact if_pos (by simpa [hcfg, or_comm] using h)

/-- The display group after a key press: the next screen, after the last the audit screen, after it screen 0. -/
def Disp.keyed (c : DisplayCfg) (ms : Nat) (d : Disp) : Disp := { d with
  rom := if d.rom = 0 ∧ c.screens.length ≤ d.screen + 1 then 1 else 0
  screen := if d.rom ≠ 0 then 0 else if c.screens.length ≤ d.screen + 1 then d.screen else d.screen + 1
  auditHold := false, keyMs := ms }

theorem exec_keyPress {now : Now} {low : Nat} {s : State} {c : DisplayCfg} (hcfg : s.dispCfg = some c) (hnormal : s.dispNormal = true)
    (hlow : 20 ≤ low) :
    exec (.keyPress now low) s =
      .next (((s.onDisp (Disp.keyed c now.ms)).compareRegions c .screen).decideIfOff c now.ms) := by
  show execKeyPress now low s = _
  rw [execKeyPress, hcfg]
  dsimp only
  rw [if_neg (by simp [hnormal]; omega)]
  simp only [State.onDisp, Disp.keyed, bne_iff_ne, decide_eq_true_eq, Bool.and_eq_true, Bool.not_eq_true', bne_eq_false_iff_eq]

/-- SCREEN_TIMEOUT before its time, or with nothing to leave, does nothing (R139, R522). -/
theorem exec_screenTimeout_idle {now : Now} {s : State} (h : s.dispCfg = none ∨ s.dispNormal = false ∨ s.disp.auditHold = true ∨
      now.ms < s.disp.keyMs + 300000 ∨ (s.disp.screen = 0 ∧ s.disp.rom = 0)) :
    exec (.screenTimeout now) s = .next s := by
  show execScreenTimeout now s = _
  unfold execScreenTimeout
  split
  · rfl
  · rename_i c hcfg
    exact if_pos (by simpa [hcfg] using h)

theorem exec_screenTimeout {now : Now} {s : State} {c : DisplayCfg} (hcfg : s.dispCfg = some c) (hnormal : s.dispNormal = true)
    (haudit : s.disp.auditHold = false) (hms : s.disp.keyMs + 300000 ≤ now.ms) (hscreen : s.disp.screen ≠ 0 ∨ s.disp.rom ≠ 0) :
    exec (.screenTimeout now) s =
      .next (((s.onDisp fun d => { d with screen := 0, rom := 0 }).compareRegions c .screen).decideIfOff c now.ms) := by
  show execScreenTimeout now s = _
  rw [execScreenTimeout, hcfg]
  exact if_neg (by simp [hnormal, haudit]; omega)

/-- What a changed screen asks for, and its decision with the rails off, leave the screen and the key as they are. -/
theorem State.screenShown_asks (c : DisplayCfg) (ms : Nat) (s : State) :
    s.DispAsks ((s.compareRegions c .screen).decideIfOff c ms) :=
  (s.compareRegions_asks c .screen).trans (State.decideIfOff_asks c ms _)

theorem State.screenShown_moves (f : Disp → Disp) (c : DisplayCfg) (ms : Nat) (s : State) :
    Moves [.sram, .marks, .disp] s (((s.onDisp f).compareRegions c .screen).decideIfOff c ms) :=
  (State.decideIfOff_moves c ms _).after <| (State.compareRegions_moves c .screen _).after (State.onDisp_moves s f).alone

end Sys2Proof.Machine
end
section
/-! DISPLAY_FRAME_BOUNDARY (R510, R516, R523, R526, R527, R530, R531). -/

set_option Elab.async false

namespace Sys2Proof.Machine

theorem exec_displayFrameBoundary_idle {now : Now} {rows : List Nat} {s : State}
    (h : s.dispCfg = none ∨ s.disp.railsOn = false ∨ s.disp.ramping = true) :
    exec (.displayFrameBoundary now rows) s = .next s := by
  show execDisplayFrameBoundary now rows s = _
  unfold execDisplayFrameBoundary
  split
  · rfl
  · rename_i c hcfg
    exact if_pos (by simpa [hcfg] using h)

/-- What a boundary does to the updates of a state whose missed rows are registered. -/
def State.frameEnds (c : DisplayCfg) (ms : Nat) (s : State) : State :=
  ((((s.advanceUpdates c ms).startUpdates c ms).decideHeld c ms).renderNext c).nextFrame ms

theorem exec_displayFrameBoundary {now : Now} {s : State} {c : DisplayCfg} (rows : List Nat) (hcfg : s.dispCfg = some c)
    (hon : s.disp.railsOn = true) (hramp : s.disp.ramping = false) :
    exec (.displayFrameBoundary now rows) s = .next ((s.underrun c rows).frameEnds c now.ms) := by
  show execDisplayFrameBoundary now rows s = _
  rw [execDisplayFrameBoundary, hcfg]
  exact if_neg (by simp [hon, hramp])

/-! ### The steps of a boundary -/

theorem State.underrun_none {s : State} (c : DisplayCfg) {rows : List Nat} (h : rows = [] ∨ s.disp.framing = false) :
    s.underrun c rows = s := if_pos (by simpa using h)

section
variable {s : State} {u : Update} (c : DisplayCfg) (ms : Nat)

theorem State.updates_self {l : List Update} (h : s.disp.updates = l) : { s.disp with updates := l } = s.disp := by rw [← h]

theorem State.advanceUpdates_none (h : s.disp.updates = []) : s.advanceUpdates c ms = s := by
  rw [State.advanceUpdates, h]
  exact State.onDisp_self (State.updates_self h)

theorem State.advanceUpdates_waiting (h : s.disp.updates = [u]) (hstarted : u.started = false) : s.advanceUpdates c ms = s := by
  rw [State.advanceUpdates, h]
  simp only [List.map_cons, List.map_nil, hstarted, Bool.false_eq_true, if_false, Bool.false_and, List.filter_cons, List.filter_nil,
    Bool.not_false, if_true, List.foldl_nil]
  exact State.onDisp_self (State.updates_self h)

theorem State.advanceUpdates_running (h : s.disp.updates = [u]) (hstarted : u.started = true) (hframe : u.frame + 1 < u.frames) :
    s.advanceUpdates c ms = s.onDisp fun d => { d with updates := [{ u with frame := u.frame + 1 }] } := by
  rw [State.advanceUpdates, h]
  simp [hstarted, Nat.not_le.mpr hframe]

theorem State.advanceUpdates_last (h : s.disp.updates = [u]) (hstarted : u.started = true) (hframe : u.frames ≤ u.frame + 1) :
    s.advanceUpdates c ms = (s.onDisp fun d => { d with updates := [] }).updateDone c ms { u with frame := u.frame + 1 } := by
  rw [State.advanceUpdates, h]
  simp [hstarted, hframe]

/-- An update that waits, the only one, starts. -/
theorem State.startUpdates_waiting (h : s.disp.updates = [u]) (hstarted : u.started = false) (hrendered : u.rendered = true) :
    ∃ l, s.startUpdates c ms = s.onDisp fun d => { d with
      updates := [{ u with started := true, frame := 0, frames := s.framesOf s.waveRange u.clean, range := s.waveRange }]
      range := s.waveRange, lastStart := l } := by
  refine ⟨(s.startUpdates c ms).disp.lastStart, ?_⟩
  rw [State.startUpdates, h]
  simp [State.onDisp, hstarted, hrendered, Disp.canStart_alone]

/-- Nothing starts where nothing waits. -/
theorem State.startUpdates_none (h : s.disp.updates = []) : s.startUpdates c ms = s := by
  rw [State.startUpdates, h]
  refine State.onDisp_self ?_
  simpa using State.updates_self h

theorem State.startUpdates_running (h : s.disp.updates = [u]) (hstarted : u.started = true) :
    s.startUpdates c ms = s := by
  rw [State.startUpdates, h]
  refine State.onDisp_self ?_
  simpa [hstarted] using State.updates_self h

theorem State.nextFrame_none (h : s.disp.updates = []) :
    s.nextFrame ms = s.onDisp fun d => { d with railsOn := false, ramping := false, panel := .down ms } :=
  if_pos (by simp [h])

theorem State.nextFrame_some (h : s.disp.updates ≠ []) : (s.nextFrame ms).disp = { s.disp with panel := .frame ms } := by
  rw [State.nextFrame, if_neg (by simpa using h)]
  exact (State.lineService_moves 0 _).same .disp rfl

/-! ### A boundary with one update at most and no request -/

/-- With no update the rails go down after a neutral frame (R510). -/
theorem State.frameEnds_none (h : s.disp.updates = []) (hheld : s.disp.held = []) :
    s.frameEnds c ms = s.onDisp fun d => { d with railsOn := false, ramping := false, panel := .down ms } := by
  rw [State.frameEnds, State.advanceUpdates_none c ms h, State.startUpdates_none c ms h, State.decideHeld_none c ms hheld,
    State.renderNext_none c (by simp [h]), State.nextFrame_none ms h]

/-- A rendered update starts with its first frame. -/
theorem State.frameEnds_waiting (h : s.disp.updates = [u]) (hheld : s.disp.held = []) (hstarted : u.started = false)
    (hrendered : u.rendered = true) :
    Moves [.dma, .disp] s (s.frameEnds c ms) ∧ ∃ l, (s.frameEnds c ms).disp = { s.disp with
      updates := [{ u with started := true, frame := 0, frames := s.framesOf s.waveRange u.clean, range := s.waveRange }]
      range := s.waveRange, lastStart := l, panel := .frame ms } := by
  obtain ⟨l, hl⟩ := State.startUpdates_waiting c ms h hstarted hrendered
  rw [State.frameEnds, State.advanceUpdates_waiting c ms h hstarted, hl, State.decideHeld_none c ms,
    State.renderNext_none c]
  · exact ⟨(State.nextFrame_moves ms _).after (State.onDisp_moves s _).alone, l, State.nextFrame_some ms (List.cons_ne_nil _ _)⟩
  · simp
  · exact hheld

/-- A running update has a frame more. -/
theorem State.frameEnds_running (h : s.disp.updates = [u]) (hheld : s.disp.held = []) (hstarted : u.started = true)
    (hframe : u.frame + 1 < u.frames) :
    Moves [.dma, .disp] s (s.frameEnds c ms) ∧
      (s.frameEnds c ms).disp = { s.disp with updates := [{ u with frame := u.frame + 1 }], panel := .frame ms } := by
  rw [State.frameEnds, State.advanceUpdates_running c ms h hstarted hframe,
    State.startUpdates_running c ms (u := { u with frame := u.frame + 1 }) rfl hstarted,
    State.decideHeld_none c ms, State.renderNext_none c]
  · exact ⟨(State.nextFrame_moves ms _).after (State.onDisp_moves s _).alone, State.nextFrame_some ms (List.cons_ne_nil _ _)⟩
  · simp [hstarted]
  · exact hheld

/-- The end of an update adds no update and no request. -/
theorem State.updateDone_quiet (v : Update) (s : State) :
    (s.updateDone c ms v).disp.updates = s.disp.updates ∧ (s.updateDone c ms v).disp.held = s.disp.held := by
  have hcopy (x y w h : Nat) : (s.copyArea x y w h).disp = s.disp := (State.copyArea_moves x y w h s).same .disp rfl
  have hcommit (flags : Nat) (t : State) : (t.commitDirty flags).disp = t.disp := (State.commitDirty_moves flags t).same .disp rfl
  unfold State.updateDone
  dsimp only
  split
  · rw [hcopy]
    exact ⟨rfl, rfl⟩
  · rw [hcopy]
    exact ⟨rfl, rfl⟩
  · rw [hcommit, State.dispRaise, State.onDisp_disp, State.onDisp_disp, hcopy]
    exact ⟨rfl, rfl⟩

/-- The last update ends with its last frame, and the rails go down. -/
theorem State.frameEnds_last (h : s.disp.updates = [u]) (hheld : s.disp.held = []) (hstarted : u.started = true)
    (hframe : u.frames ≤ u.frame + 1) :
    s.frameEnds c ms = ((s.onDisp fun d => { d with updates := [] }).updateDone c ms { u with frame := u.frame + 1 }).onDisp fun d =>
      { d with railsOn := false, ramping := false, panel := .down ms } := by
  obtain ⟨hupdates, hasked⟩ := State.updateDone_quiet c ms { u with frame := u.frame + 1 } (s.onDisp fun d => { d with updates := [] })
  rw [State.frameEnds, State.advanceUpdates_last c ms h hstarted hframe, State.startUpdates_none c ms hupdates,
    State.decideHeld_none c ms (hasked.trans hheld), State.renderNext_none c (by simp [hupdates]), State.nextFrame_none ms hupdates]

end

/-- The end of a region's update copies its area and leaves the display group (R526). -/
theorem State.updateDone_region {u : Update} {r : Nat} (c : DisplayCfg) (ms : Nat) (s : State) (h : u.target = .region r) :
    Moves [.sram, .marks] s (s.updateDone c ms u) ∧ (s.updateDone c ms u).disp = s.disp := by
  have hmoves : Moves [.sram, .marks] s (s.updateDone c ms u) := by
    unfold State.updateDone
    rw [h]
    exact State.copyArea_moves _ _ _ _ s
  exact ⟨hmoves, hmoves.same .disp rfl⟩

/-- What the end of a full refresh leaves in the display group (R527, R531). -/
theorem State.updateDone_refresh {u : Update} {cause : Nat} (c : DisplayCfg) (ms : Nat) (s : State) (h : u.target = .refresh cause) :
    (s.updateDone c ms u).disp = { s.disp with
        count := (s.disp.count + 1) % 65536, lastCause := cause, lastMs := some ms, dirty := 0, dirtyFlags := 0
        events := setBits s.disp.events 1 } ∧
      (s.updateDone c ms u).mem.queue = s.mem.queue ++
        [.mk (.slots 0x260000 0x260040) (le 4 0 ++ le 1 0 ++ zeros 3 ++ le 5 s.rtc.count ++ zeros 35)] := by
  unfold State.updateDone
  dsimp only
  generalize hs1 : s.copyArea (c.area u.target).1 (c.area u.target).2.1 (c.area u.target).2.2.1 (c.area u.target).2.2.2 = s1
  have hmoves : Moves [.sram, .marks] s s1 := hs1 ▸ State.copyArea_moves _ _ _ _ s
  have hdisp : s1.disp = s.disp := hmoves.same .disp rfl
  have hqueue : s1.mem.queue = s.mem.queue := hmoves.same .queue rfl
  have hrtc : s1.rtc = s.rtc := hmoves.same .rtc rfl
  rw [h]
  dsimp only
  refine ⟨((State.commitDirty_moves 0 _).same .disp rfl).trans ?_, (State.enqueue_queue _ _).trans ?_⟩
  · rw [State.dispRaise, State.onDisp_disp, State.onDisp_disp, hdisp]
  · rw [State.dispRaise, State.onDisp_mem, State.onDisp_mem, hqueue, State.onDisp_rtc, State.onDisp_rtc, hrtc]
    rfl

/-! ### Rows that missed their data (R516, R530) -/

theorem testBit_foldl_lor {l : List Nat} {m k : Nat} (hm : m ∈ l) (hk : m.testBit k = true) (b : Nat) :
    (l.foldl (· ||| ·) b).testBit k = true := by
  have hkeep (l : List Nat) (b : Nat) (hb : b.testBit k = true) : (l.foldl (· ||| ·) b).testBit k = true := by
    induction l generalizing b with
    | nil => exact hb
    | cons a l ih => exact ih _ (by simp [hb])
  induction l generalizing b with
  | nil => cases hm
  | cons a l ih =>
    rcases List.mem_cons.mp hm with rfl | hm
    · exact hkeep l _ (by simp [hk])
    · exact ih hm _

/-- A row's map of dirty bits has the bit of each region that holds it. -/
theorem DisplayCfg.rowMask_testBit {c : DisplayCfg} {row r : Nat} {g : Region} (hg : c.regions[r]? = some g) (hlo : g.y ≤ row)
    (hhi : row < g.y + g.h) : (c.rowMask row).testBit r = true := by
  refine testBit_foldl_lor (m := 2 ^ r) ?_ (Nat.testBit_two_pow_self) 0
  exact List.mem_map.mpr ⟨(g, r), List.mem_filter.mpr ⟨List.mk_mem_zipIdx_iff_getElem?.mpr hg, by simp [hlo, hhi]⟩, rfl⟩

/-- The regions of a row that missed its data are dirty. -/
theorem State.underrun_dirty {s : State} {c : DisplayCfg} {row r : Nat} {g : Region} (hframing : s.disp.framing = true)
    (hg : c.regions[r]? = some g) (hlo : g.y ≤ row) (hhi : row < g.y + g.h) :
    (s.underrun c [row]).disp.dirty.testBit r = true ∧ (s.underrun c [row]).disp.events.getLsbD 4 = true ∧
      (s.underrun c [row]).disp.updates = s.disp.updates ∧ (s.underrun c [row]).disp.held = s.disp.held := by
  have hcommit (flags : Nat) (t : State) : (t.commitDirty flags).disp = t.disp := (State.commitDirty_moves flags t).same .disp rfl
  rw [State.underrun, if_neg (by simp [hframing])]
  dsimp only
  rw [hcommit]
  refine ⟨?_, setBits_raises _ (by decide), rfl, rfl⟩
  show (s.disp.dirty ||| _).testBit r = true
  rw [Nat.testBit_or, testBit_foldl_lor (List.mem_append_left _ (List.mem_map.mpr ⟨row, List.mem_cons_self, rfl⟩))
    (DisplayCfg.rowMask_testBit hg hlo hhi), Bool.or_true]

end Sys2Proof.Machine
end
section
/-! The rails, the panel's temperature and its lines (R507, R508, R511, R512, R514, R516, R530). -/

set_option Elab.async false

namespace Sys2Proof.Machine

/-! ### RAIL_CHECK and RAIL_LOCKOUT_END (R511) -/

theorem DisplayCfg.railOk_iff {c : DisplayCfg} {l : Level} {v : Int} :
    c.railOk l v = true ↔ c.railMv l - l.tolerance ≤ v ∧ v ≤ c.railMv l + l.tolerance := decide_eq_true_iff

theorem DisplayCfg.railsOk_iff {c : DisplayCfg} {r : Rails} : c.railsOk r = true ↔
    14700 ≤ r.vsh ∧ r.vsh ≤ 15300 ∧ -15300 ≤ r.vsl ∧ r.vsl ≤ -14700 ∧ 21340 ≤ r.vgh ∧ r.vgh ≤ 22660 ∧ -20600 ≤ r.vgl ∧
      r.vgl ≤ -19400 ∧ -10 * (c.vcom : Int) - 10 ≤ r.vcom ∧ r.vcom ≤ -10 * (c.vcom : Int) + 10 := by
  simp only [DisplayCfg.railsOk, DisplayCfg.railOk_iff, DisplayCfg.railMv, Level.tolerance, Bool.and_eq_true]
  omega

theorem exec_railCheck_good {now : Now} {r : Rails} {s : State} {c : DisplayCfg} (hramp : s.disp.ramping = true)
    (hcfg : s.dispCfg = some c) (hgood : c.railsOk r = true) :
    exec (.railCheck now r) s = .next (s.onDisp fun d => { d with ramping := false, railFault := false }) :=
  (if_neg (by simp [hramp])).trans (if_pos (by simp [hcfg, hgood]))

/-- Giving up leaves the requests, and nothing accepted. -/
theorem State.dispGiveUp_disp {s : State} (panel : PanelPhase) (flags : Nat) (hon : s.disp.railsOn = true) :
    ∃ dirty f want texts, (s.dispGiveUp panel flags).disp = { s.disp with
      updates := [], railsOn := false, ramping := false, panel := panel, dirty := dirty, dirtyFlags := f, want := want, texts := texts
      events := setBits s.disp.events 32 } := by
  have hcommit (t : State) : (t.commitDirty flags).disp = t.disp := (State.commitDirty_moves flags t).same .disp rfl
  unfold State.dispGiveUp
  extract_lets d mask want keys s1
  rw [if_neg (by simp [hon])]
  split
  · exact ⟨_, _, _, _, rfl⟩
  · rw [hcommit]
    exact ⟨_, _, _, _, rfl⟩

theorem exec_railCheck_bad {now : Now} {r : Rails} {s : State} {c : DisplayCfg} (hramp : s.disp.ramping = true)
    (hcfg : s.dispCfg = some c) (hbad : ¬ c.railsOk r = true) :
    exec (.railCheck now r) s = .next (((s.dispGiveUp (.cut now.ms) 0).onDisp fun d =>
      { d with railFault := true, lockout := true, lockMs := now.ms }).dispRaise 4) :=
  (if_neg (by simp [hramp])).trans (if_neg (by simp [hcfg, hbad]))

/-- The display group once the lockout is over. -/
def Disp.unlocked (d : Disp) : Disp := { d with lockout := false }

/-- The lockout's end alone, with the rails on, nothing running or no DISPLAY section. -/
theorem exec_railLockoutEnd_ends {now : Now} {s : State} (hlock : s.disp.lockout = true) (hms : s.disp.lockMs + 60000 ≤ now.ms)
    (h : s.disp.railsOn = true ∨ s.running = false ∨ s.dispCfg = none) :
    exec (.railLockoutEnd now) s = .next (s.onDisp Disp.unlocked) := by
  refine (if_neg (by simp [hlock]; omega)).trans ?_
  have hkeep : (s.onDisp Disp.unlocked).dispCfg = s.dispCfg := rfl
  unfold Disp.unlocked at hkeep
  rw [hkeep]
  cases hcfg : s.dispCfg with
  | none => rfl
  | some c => exact if_pos (by simpa [hcfg] using h)

/-- The held requests are decided at the lockout's end with the rails off. -/
theorem exec_railLockoutEnd_decides {now : Now} {s : State} {c : DisplayCfg} (hlock : s.disp.lockout = true)
    (hms : s.disp.lockMs + 60000 ≤ now.ms) (hcfg : s.dispCfg = some c) (hoff : s.disp.railsOn = false) (hrun : s.running = true) :
    exec (.railLockoutEnd now) s = .next ((s.onDisp Disp.unlocked).decideIfOff c now.ms) := by
  refine (if_neg (by simp [hlock]; omega)).trans ?_
  have hkeep : (s.onDisp Disp.unlocked).dispCfg = some c := hcfg
  unfold Disp.unlocked at hkeep
  rw [hkeep]
  exact if_neg (by simp [hoff, hrun])

/-! ### PANEL_TEMP_MEASURE (R514) -/

/-- The temperature in use is out of the waveform ranges. -/
def State.tempOutside (t : Int) (s : State) : Bool :=
  match s.img.image with
  | none => false
  | some im => (match im.waves.head? with
      | none => false
      | some w => decide (t < w.low)) || (match im.waves.getLast? with
      | none => false
      | some w => decide (w.high ≤ t))

/-- The display group after a measurement that takes a temperature, from the NTC or, where it is bad, from the internal sensor. -/
def Disp.measured (t : Int) (bad out : Bool) (d : Disp) : Disp := { d with
  temp := t, internalSrc := bad, ptempFault := bad, tempOut := out
  events := setBits d.events (flag (bad && !d.ptempFault) 1 + flag (out && !d.tempOut) 6) }

theorem exec_panelTempMeasure {ntc internal : Int} {s : State} (hon : s.disp.railsOn = true) {bad : Bool}
    (hbad : decide (ntc < -300 ∨ 850 < ntc) = bad) :
    exec (.panelTempMeasure ntc internal) s =
      .next (s.onDisp (Disp.measured (if bad then internal else ntc) bad (s.tempOutside (if bad then internal else ntc)))) := by
  subst hbad
  exact if_neg (by simp [hon])

/-! ### The lines of the panel (R507, R512, R516) -/

/-- The gate of a row carries VGH while the row is selected (R507). -/
theorem DisplayCfg.gate_frame {c : DisplayCfg} {us y : Nat} (u : Update) (hy : y < c.rows) :
    c.gate (.frame us [u]) y = .vgh ↔ 80 * y ≤ us ∧ us < 80 * (y + 1) := by
  have hrow : us / 80 = y ↔ 80 * y ≤ us ∧ us < 80 * (y + 1) := by omega
  rw [DisplayCfg.gate, if_neg (Nat.not_le.mpr hy), ← hrow]
  by_cases h : us / 80 = y
  · simp [DisplayCfg.selects, hy, h]
  · simp [DisplayCfg.selects, h]

section
variable {s : State} {c : DisplayCfg} {us x y : Nat} (u : Update) (hy : y < c.rows) (hx : x < c.cols) (hrow : us / 80 = y)
include hy hx hrow

/-- A source line during the selection of a row. -/
theorem State.sourceLine_frame (missed : List Nat) : s.sourceLine c (.frame us [u]) missed x =
    if missed.contains y then .vcom else if c.covers u.target x y then s.pixelDrive u x y else .vcom := by
  rw [State.sourceLine, if_neg (Nat.not_le.mpr hx)]
  simp only [hrow, Nat.not_le.mpr hy, false_or]
  split
  · rfl
  · cases hcov : c.covers u.target x y <;> simp [hcov]

end

/-- The k-th pair of bits of a word. -/
theorem Word.bits_pair (v k : Nat) : Word.bits v (2 * k) 2 = v / 4 ^ k % 4 :=
  congrArg (fun n => v / n % 4) (Nat.pow_mul 2 2 k)

/-- The level that a pixel of a known area is driven to: its transition's drive code. -/
theorem State.pixelDrive_known {s : State} {u : Update} (x y : Nat) (h : u.unknown = false) : s.pixelDrive u x y =
    driveLevel (nth (s.waveOf u) u.frame 0 / 4 ^ (4 * s.pixel false x y + s.pixel true x y) % 4) := by
  rw [State.pixelDrive]
  simp only [h, Bool.false_eq_true, if_false, Word.bits_pair]

end Sys2Proof.Machine
end
section
/-! The display obligation, assembled from the evaluation, the frame boundary, the rails and the lines. -/

set_option Elab.async false

namespace Sys2Proof.Machine

/-- An evaluation over a region with a parity error holds a request for it and registers the error (R569). -/
theorem exec_displayEvaluation_spoilt {now : Now} {s : State} {c : DisplayCfg} {m r : Nat} (hcfg : s.dispCfg = some c)
    (hnormal : s.dispNormal = true) (htick : s.meas.tick % 4 = 0) (hcyc : 960000 ≤ now.cyc) (hrom : s.disp.rom = 0)
    (hwant : s.disp.want = none) (hlast : s.disp.lastMs = some m) (hms : now.ms < m + 86400000) (hheld : s.disp.held = [])
    (hr : r < c.regions.length) (hbad : ∃ x ∈ s.mem.parity, 0x40000 ≤ x ∧ x < 0x49600 ∧ c.holdsByte r x = true)
    (hon : s.disp.railsOn = true) :
    ∃ t, exec (.displayEvaluation now) s = .next t ∧ Keeps [.flt, .disp] s t ∧
      Update.ask (.region r) .content false false ∈ t.disp.held ∧ t.flt.lastKind = 2 ∧ t.flt.lastReader = 7 := by
  obtain ⟨hkind, hreader, htext, x, hdisp⟩ := State.composerRead_spoilt hbad
  have hdue : (s.composerRead c).refreshDue now.ms = s.composerRead c :=
    State.refreshDue_later (by rw [hdisp]; exact hwant) (by rw [hdisp]; exact hlast) hms
  have hasks := State.compareRegions_stale (s := s.composerRead c) c .content (by rw [hdisp]; exact hrom) (by rw [hdisp]; exact hheld)
  have hstale : (s.composerRead c).regionStale c r = true := State.regionStale_iff.mpr (by simp [htext])
  rw [exec_displayEvaluation_normal hcfg hnormal htick hcyc, hdue, hasks, State.decideIfOff_on c now.ms (by
    rw [State.onDisp_disp, hdisp]
    exact hon)]
  exact ⟨_, rfl, ((State.onDisp_moves _ _).after (State.composerRead_moves c s)).1,
    List.mem_map.mpr ⟨r, List.mem_filter.mpr ⟨List.mem_range.mpr hr, hstale⟩, rfl⟩, hkind, hreader⟩

/-- Settles O58: an evaluation asks for the stale regions, a boundary works on the one update, and the rails, the temperature and the
lines follow their definitions. -/
theorem displayUpdatesAreAskedRunAndGivenUp : Obligations.DisplayUpdatesAreAskedRunAndGivenUp := by
  unfold Obligations.DisplayUpdatesAreAskedRunAndGivenUp
  refine ⟨?screens, fun s c ms u => s.decideOne_updates c ms u, ?frames, ?rails, ?temperature, ?lines⟩
  case screens =>
    intro s now
    refine ⟨exec_displayEvaluation_idle, fun h => exec_screenTimeout_idle (h.imp_right .inl), fun low => exec_keyPress_idle,
      ?evaluation, fun c hcfg hnormal => ⟨?key, fun h => exec_screenTimeout_idle (.inr (.inr h)), ?timeout⟩⟩
    case evaluation =>
      intro c m hcfg hnormal htick hcyc hrom hwant hlast hms hheld
      have hsound (hparity : s.mem.parityIn 0x40000 0x9600 = false) : exec (.displayEvaluation now) s =
          .next ((s.compareRegions c .content).decideIfOff c now.ms) := by
        rw [exec_displayEvaluation_normal hcfg hnormal htick hcyc, State.composerRead_sound c hparity,
          State.refreshDue_later hwant hlast hms]
      refine ⟨fun r => exec_displayEvaluation_spoilt hcfg hnormal htick hcyc hrom hwant hlast hms hheld, ?shown, ?changed⟩
      case shown =>
        intro hparity hshown hupdates
        rw [hsound hparity, State.compareRegions_shown c .content hrom hheld hshown, State.decideIfOff_none c now.ms hheld hupdates]
      case changed =>
        intro r hparity hr hstale hothers
        rw [hsound hparity, State.compareRegions_one .content hrom hheld hr hstale hothers]
        refine ⟨fun hon => congrArg Host.Outcome.next (State.decideIfOff_on (s := s.onDisp _) c now.ms hon), fun hoff hupdates hlock hsoon hfits => ?_⟩
        obtain ⟨x, hdisp⟩ := State.decideIfOff_alone
          (s := s.onDisp fun d => { d with held := [.ask (.region r) .content false false] }) rfl hupdates hoff hlock hsoon hfits rfl rfl
        refine ⟨_, rfl, ((State.decideIfOff_moves c now.ms _).after (State.onDisp_moves s _).alone).1, ?_⟩
        rw [hdisp]
        exact ⟨rfl, rfl, rfl, rfl⟩
    case key =>
      intro low hlow
      obtain ⟨_, _, _, _, _, _, _, hdisp⟩ := State.screenShown_asks c now.ms (s.onDisp (Disp.keyed c now.ms))
      refine ⟨_, exec_keyPress hcfg hnormal hlow, (State.screenShown_moves _ c now.ms s).1, ?_⟩
      rw [hdisp, State.onDisp_disp]
      refine ⟨rfl, rfl, fun hrom => ?_, fun hrom hnext => ?_, fun hrom hlast => ?_⟩
      · simp [Disp.keyed, hrom]
      · simp [Disp.keyed, hrom, Nat.not_le.mpr hnext]
      · simp [Disp.keyed, hrom, hlast]
    case timeout =>
      intro haudit hms hscreen
      obtain ⟨_, _, _, _, _, _, _, hdisp⟩ := State.screenShown_asks c now.ms (s.onDisp fun d => { d with screen := 0, rom := 0 })
      refine ⟨_, exec_screenTimeout hcfg hnormal haudit hms hscreen, (State.screenShown_moves _ c now.ms s).1, ?_⟩
      rw [hdisp]
      exact ⟨rfl, rfl⟩
  case frames =>
    intro s now rows
    refine ⟨exec_displayFrameBoundary_idle, fun c hcfg hon hramp hheld => ⟨?rest, ?starts, ?runs, ?ends, ?missed⟩⟩
    case rest =>
      intro hupdates hrows
      rw [exec_displayFrameBoundary rows hcfg hon hramp, State.underrun_none c hrows, State.frameEnds_none c now.ms hupdates hheld]
    case starts =>
      intro u hupdates hstarted hrendered
      obtain ⟨hmoves, l, hdisp⟩ := State.frameEnds_waiting c now.ms hupdates hheld hstarted hrendered
      rw [exec_displayFrameBoundary [] hcfg hon hramp, State.underrun_none c (.inl rfl)]
      refine ⟨_, rfl, hmoves.1, ?_⟩
      rw [hdisp]
      exact ⟨hon, rfl, rfl⟩
    case runs =>
      intro u hupdates hstarted hframe
      obtain ⟨hmoves, hdisp⟩ := State.frameEnds_running c now.ms hupdates hheld hstarted hframe
      rw [exec_displayFrameBoundary [] hcfg hon hramp, State.underrun_none c (.inl rfl)]
      exact ⟨_, rfl, hmoves.1, hdisp⟩
    case ends =>
      intro u hupdates hstarted hframe
      rw [exec_displayFrameBoundary [] hcfg hon hramp, State.underrun_none c (.inl rfl),
        State.frameEnds_last c now.ms hupdates hheld hstarted hframe]
      refine ⟨_, rfl, (State.updateDone_quiet c now.ms _ _).1, rfl, rfl, fun r hregion => ?_, fun cause hrefresh => ?_⟩
      · obtain ⟨hmoves, hdisp⟩ := State.updateDone_region (u := { u with frame := u.frame + 1 }) c now.ms
          (s.onDisp fun d => { d with updates := [] }) hregion
        have hcount := congrArg Disp.count hdisp
        exact ⟨((State.onDisp_moves _ _).after (hmoves.after (State.onDisp_moves s _).alone)).1, hcount⟩
      · obtain ⟨hdisp, hqueue⟩ := State.updateDone_refresh (u := { u with frame := u.frame + 1 }) c now.ms
          (s.onDisp fun d => { d with updates := [] }) hrefresh
        rw [State.onDisp_disp, hdisp]
        exact ⟨rfl, rfl, rfl, rfl, setBits_raises _ (by decide), hqueue⟩
    case missed =>
      intro u r row g hupdates hframing hstarted hframe hrows hg hlo hhi
      subst hrows
      obtain ⟨hdirty, hevent, hkept, hasked⟩ := State.underrun_dirty hframing hg hlo hhi
      obtain ⟨-, hdisp⟩ := State.frameEnds_running c now.ms (hkept.trans hupdates) (hasked.trans hheld) hstarted hframe
      rw [exec_displayFrameBoundary [row] hcfg hon hramp]
      refine ⟨_, rfl, ?_⟩
      rw [hdisp]
      exact ⟨hdirty, hevent⟩
  case rails =>
    intro s now r
    refine ⟨fun hramp => if_pos (by simp [hramp]), fun c hramp hcfg => ⟨fun hgood => ?good, fun hbad hon => ?bad⟩, fun h => ?locked,
      fun hlock hms => ?unlocks⟩
    case good => exact exec_railCheck_good hramp hcfg (DisplayCfg.railsOk_iff.mpr hgood)
    case bad =>
      obtain ⟨_, _, _, _, hdisp⟩ := State.dispGiveUp_disp (.cut now.ms) 0 hon
      refine ⟨_, exec_railCheck_bad hramp hcfg (fun h => hbad (DisplayCfg.railsOk_iff.mp h)),
        ((State.dispRaise_moves 4 _).after ((State.onDisp_moves _ _).after (State.dispGiveUp_moves _ 0 s))).1, ?_⟩
      rw [State.dispRaise, State.onDisp_disp, State.onDisp_disp, hdisp]
      exact ⟨rfl, rfl, rfl, rfl, rfl, rfl, rfl, setBits_raises _ (by decide), setBits_getLsbD _ (setBits_raises _ (by decide))⟩
    case locked => exact if_pos (by simpa using h)
    case unlocks =>
      by_cases hends : s.disp.railsOn = true ∨ s.running = false ∨ s.dispCfg = none
      · exact ⟨_, exec_railLockoutEnd_ends hlock hms hends, rfl, (Moves.alone (State.onDisp_moves s _)).1, fun _ => rfl⟩
      · simp only [not_or, Bool.not_eq_true, Bool.not_eq_false, ← Option.isSome_iff_ne_none, Option.isSome_iff_exists] at hends
        obtain ⟨hoff, hrun, c, hcfg⟩ := hends
        obtain ⟨_, _, _, _, _, _, _, hdisp⟩ := State.decideIfOff_asks c now.ms (s.onDisp Disp.unlocked)
        refine ⟨_, exec_railLockoutEnd_decides hlock hms hcfg hoff hrun, by rw [hdisp]; rfl,
          ((State.decideIfOff_moves c now.ms _).after (State.onDisp_moves s _).alone).1, fun h => ?_⟩
        simp [hoff, hrun, hcfg] at h
  case temperature =>
    intro s ntc internal
    refine ⟨fun hoff => if_pos (by simp [hoff]), fun hon => ?_⟩
    by_cases hbad : ntc < -300 ∨ 850 < ntc
    · refine ⟨_, exec_panelTempMeasure hon (decide_eq_true hbad), (State.onDisp_moves s _).1, rfl, fun hlo hhi => by omega,
        fun _ => ⟨rfl, rfl, rfl, fun hgood => ?_⟩⟩
      show (setBits s.disp.events (flag (true && !s.disp.ptempFault) 1 + _)).getLsbD 1 = true
      have hbit (out : Bool) : (BitVec.ofNat 32 (flag true 1 + flag out 6)).getLsbD 1 = true := by cases out <;> decide
      rw [hgood]
      exact setBits_raises _ (hbit _)
    · exact ⟨_, exec_panelTempMeasure hon (decide_eq_false hbad), (State.onDisp_moves s _).1, rfl, fun _ _ => ⟨rfl, rfl, rfl⟩,
        fun h => absurd h hbad⟩
  case lines =>
    intro s c u us x y hy hx
    refine ⟨DisplayCfg.gate_frame u hy, fun hlo hhi => ?_⟩
    have hline := fun missed => State.sourceLine_frame (s := s) u hy hx (by omega : us / 80 = y) missed
    refine ⟨(hline [y]).trans (if_pos (by simp)), fun hcov => ?_, fun hcov hknown => ?_⟩
    · simp [hline, hcov]
    · simp [hline, hcov, State.pixelDrive_known x y hknown]

end Sys2Proof.Machine
end
